-- ==== Sys2Proof/Word.lean ====
section
/-! DEFINITION. The word types of the model and the names of the numbered units (R8, R9). -/
namespace Sys2Proof

/-- One byte of a packet, frame or register image. -/
abbrev Byte := BitVec 8
/-- An angle, u0.32 turns (R15). -/
abbrev Angle := BitVec 32
/-- Ports 0 to 11 (Table 0.3). -/
abbrev Port := Fin 12
/-- Skerry links: ports 0 to 11, and 12 for Skerry G. -/
abbrev Link := Fin 13
/-- Regions and their Shoals, 0 to 3. -/
abbrev Shoal := Fin 4
/-- Legs of a port: 0 to 2 the phases a, b, c, 3 the neutral (R9). -/
abbrev Leg := Fin 4
/-- Gates of a port: 2k is H of leg k, 2k + 1 is L. -/
abbrev Gate := Fin 8
/-- Headland A is 0, B is 1. -/
abbrev Hd := Fin 2
/-- Network A is 0, B is 1. -/
abbrev Net := Fin 2

/-- The Shoal that serves a port (R9). -/
def shoalOf (p : Port) : Shoal := ⟨p.val / 3, by omega⟩
/-- The local number of a port at its Shoal. -/
def localOf (p : Port) : Fin 3 := ⟨p.val % 3, by omega⟩
/-- Port j of Shoal s. -/
def portOf (s : Shoal) (j : Fin 3) : Port := ⟨3 * s.val + j.val, by omega⟩
/-- Leg number 0 to 47 of leg k of port p (R9). -/
def legNo (p : Port) (k : Leg) : Nat := 4 * p.val + k.val
def linkOf (p : Port) : Link := ⟨p.val, by omega⟩
/-- The link of Skerry G. -/
def linkG : Link := 12
/-- The port of a link; none for Skerry G. -/
def portOfLink (l : Link) : Option Port := if h : l.val < 12 then some ⟨l.val, h⟩ else none
/-- The high gate of leg k. -/
def gateH (k : Leg) : Gate := ⟨2 * k.val, by omega⟩
/-- The low gate of leg k. -/
def gateL (k : Leg) : Gate := ⟨2 * k.val + 1, by omega⟩
def legOfGate (g : Gate) : Leg := ⟨g.val / 2, by omega⟩
/-- The other Headland. -/
def peerOf (h : Hd) : Hd := if h = 0 then 1 else 0
/-- The other network. -/
def otherNet (n : Net) : Net := if n = 0 then 1 else 0

end Sys2Proof
end

