-- ==== Sys2Proof/Operand.lean ====
section
/-! DEFINITION. The operands a command carries: requests of the host, frames of the links and networks, readings. -/
namespace Sys2Proof

/-- A session: the SPI interface, or one UDP source address and port (R435). -/
inductive Session
  | spi
  | udp (ip port : Nat)
  deriving DecidableEq, Repr

/-- A host request as its command sees it: the fields of Table 14.1 but SYNC, OPCODE, LEN and CRC. -/
structure Req where
  session : Session := .spi
  /-- Network of arrival of a UDP request (R433). -/
  net : Net := 0
  cls : Nat := 0
  noReply : Bool := false
  target : Nat := 0xFF
  seq : Nat := 0
  payload : List Byte := []
  deriving DecidableEq, Repr

/-- The four transitions of a PTP announce data set that the best master clock algorithm compares (R405). -/
structure Dataset where
  prio1 : Nat
  clockClass : Nat
  accuracy : Nat
  variance : Nat
  prio2 : Nat
  identity : Nat
  steps : Nat
  deriving DecidableEq, Repr

/-- The PTP messages the Unyar sends (R403). -/
inductive PtpMsg | pdelayReq | delayReq | sync | announce
  deriving DecidableEq, Repr

/-- What demands both gates of a leg off (Table 6.5). -/
inductive GateOffSource
  /-- The Skerry reports the leg in high impedance (R201). -/
  | hiz
  /-- The Skerry reports code 0x0 again: the demand ends at the next boundary (R201). -/
  | hizEnd
  /-- A port trip (R202). -/
  | trip
  /-- The region safe state (R204). -/
  | regionSafe
  deriving DecidableEq, Repr

/-- The gate supplies of a leg (Table 7.3). -/
inductive GateSupply | vlp | vln | vbs | vhn
  deriving DecidableEq, Repr

/-- A pack CAN or CAN FD frame (R239, R241). -/
structure CanFrame where
  ide : Bool
  fdf : Bool
  brs : Bool
  remote : Bool := false
  id : Nat
  data : List Byte
  deriving DecidableEq, Repr

/-- The class of a plug-detect loop (R289). -/
inductive LoopClass | openLoop | closed | fault
  deriving DecidableEq, Repr

def LoopClass.code : LoopClass → Nat
  | .openLoop => 0 | .closed => 1 | .fault => 2

/-- One port's bits of a command-link frame to a Shoal (R51, R165, R203, R388). -/
structure CmdPort where
  /-- Duty entry of the port, where the frame brings one. R165 -/
  duty : Option (Vector Nat 4) := none
  /-- PERIOD_IDX tag of the duty entry. R165 -/
  tag : Nat := 0
  /-- GATE_EN of the port. R203 -/
  gateEn : Bool := false
  /-- TRIP of the port. R203 -/
  trip : Bool := false
  /-- CK0: drive of contactor 0. R211 -/
  ck0 : Bool := false
  /-- CK1: drive of contactor 1. R211 -/
  ck1 : Bool := false
  /-- LATCH of the monitor latch. R211 -/
  latch : Bool := false
  /-- DIAG_GO of the port. R211 -/
  diagGo : Bool := false
  deriving DecidableEq, Repr

/-- What the slot of a downlink frame carries (R211). -/
inductive DownSlot
  | none
  | write (addr data : Nat)
  | read (addr : Nat)
  | can
  deriving DecidableEq, Repr

/-- What the verification tool commits in step 5 (Table 10.7). -/
structure Verification where
  params : List (Nat × Int)
  key : Option (List Byte)
  keyId : Nat
  moduleSerial : Nat
  date : Nat
  toolId : Nat
  deriving DecidableEq, Repr

/-- Why a Headland fails or is reset (R376, R375). -/
inductive FailCause | watchdog | ecc | lossOfLock | doubleClaim
  deriving DecidableEq, Repr

/-- The dies with a loop (R528). -/
inductive ClockDie
  | headland (h : Hd)
  | shoal (s : Shoal)
  deriving DecidableEq, Repr

/-- Causes of T0 (R553): VSUP rises, VSUP back below 41.0 V, a wake firing. -/
inductive PowerCause | vsupRise | overvoltageEnd | wake
  deriving DecidableEq, Repr

/-- Parts of a Headland's self-test (Table 19.5, code 0x04). -/
inductive SelftestPart | rom | sram | mram | engine | supervisor
  deriving DecidableEq, Repr

def SelftestPart.code : SelftestPart → Nat
  | .rom => 1 | .sram => 2 | .mram => 3 | .engine => 4 | .supervisor => 5

/-- The dies with an SRAM (Table 1.2). -/
inductive SramDie
  | headland (h : Hd)
  | shoal (s : Shoal)
  | gauge
  deriving DecidableEq, Repr

/-- Where an SRAM error lies: a corrected one (R30), or an uncorrectable one (R31). -/
inductive EccWhere
  | corrected (die : SramDie)
  | engineData
  | netBuffers
  | strandline
  | shoal (s : Shoal)
  deriving DecidableEq, Repr

end Sys2Proof
end

