-- ==== Sys2Proof/Syntax.lean ====
section
/-! DEFINITION. The commands of the Unyar UY4812: one constructor per row of spec/opcode_table.json, with the operands that the
row's command carries. -/
namespace Sys2Proof

/-- A command; each docstring is the row and its rule. -/
inductive Instr
  /-- NOP (R457). -/
  | nop (r : Req)
  /-- IDENTIFY (R458). -/
  | identify (r : Req)
  /-- GET_STATUS (R459). -/
  | getStatus (r : Req)
  /-- SET_STATE_STANDBY (R460). -/
  | setStateStandby (r : Req)
  /-- SET_STATE_IDLE (R460). -/
  | setStateIdle (r : Req)
  /-- SET_STATE_READY (R460). -/
  | setStateReady (r : Req)
  /-- SET_STATE_SYNC (R108). -/
  | setStateSync (r : Req)
  /-- SET_STATE_SERVICE (R460). -/
  | setStateService (r : Req)
  /-- ENTER_STANDBY (R460). -/
  | enterStandby
  /-- MODULE_RESET (R461). -/
  | moduleReset (r : Req)
  /-- MODULE_RESET_BEGIN (R558). -/
  | moduleResetBegin
  /-- HEADLAND_RESET (R461). -/
  | headlandReset (r : Req)
  /-- PEER_HEADLAND_RESET (R461). -/
  | peerHeadlandReset
  /-- READ_PARAM (R447). -/
  | readParam (r : Req)
  /-- WRITE_PARAM (R446). -/
  | writeParam (r : Req)
  /-- COMMIT_PARAMS (R448). -/
  | commitParams (r : Req)
  /-- PARAM_DISCARD (R448). -/
  | paramDiscard (r : Req)
  /-- READ_REG (R450). -/
  | readReg (r : Req)
  /-- WRITE_REG (R451). -/
  | writeReg (r : Req)
  /-- SET_DISPATCH (R98). -/
  | setDispatch (r : Req)
  /-- BLACK_START (R103). -/
  | blackStart (r : Req)
  /-- SYNC_CLOSE (R110). -/
  | syncClose (r : Req)
  /-- TIDE_SET (R462). -/
  | tideSet (r : Req)
  /-- TIDE_GET (R463). -/
  | tideGet (r : Req)
  /-- PORT_ADMIT (R295). -/
  | portAdmit (r : Req)
  /-- PORT_RELEASE (R298). -/
  | portRelease (r : Req)
  /-- PACK_CAN_SEND (R242). -/
  | packCanSend (r : Req)
  /-- PACK_CAN_READ (R241). -/
  | packCanRead (r : Req)
  /-- BMS_MAP_LOAD (R291). -/
  | bmsMapLoad (r : Req)
  /-- BMS_MAP_READ (R293). -/
  | bmsMapRead (r : Req)
  /-- TRIP (R464). -/
  | trip (r : Req)
  /-- CLEAR_TRIP (R465). -/
  | clearTrip (r : Req)
  /-- GATE_DIAG (R235). -/
  | gateDiag (r : Req)
  /-- ENVELOPE_LOAD (R143). -/
  | envelopeLoad (r : Req)
  /-- ENVELOPE_READ (R145). -/
  | envelopeRead (r : Req)
  /-- CAP_CONFIG (R467). -/
  | capConfig (r : Req)
  /-- CAP_TRIGGER (R467). -/
  | capTrigger (r : Req)
  /-- CAP_MASK_LOAD (R481). -/
  | capMaskLoad (r : Req)
  /-- CAP_ARM (R476). -/
  | capArm (r : Req)
  /-- CAP_FORCE (R479). -/
  | capForce (r : Req)
  /-- CAP_STATUS (R467). -/
  | capStatus (r : Req)
  /-- CAP_READ (R468). -/
  | capRead (r : Req)
  /-- CAP_MEAS_READ (R486). -/
  | capMeasRead (r : Req)
  /-- CAP_STREAM (R488). -/
  | capStream (r : Req)
  /-- LOG_FREEZE (R498). -/
  | logFreeze (r : Req)
  /-- LOG_WINDOW (R499). -/
  | logWindow (r : Req)
  /-- LOG_CURSOR (R500). -/
  | logCursor (r : Req)
  /-- LOG_UNFREEZE (R498). -/
  | logUnfreeze (r : Req)
  /-- TIME_GET (R423). -/
  | timeGet (r : Req)
  /-- PEER_READ (R423). -/
  | peerRead (r : Req)
  /-- NET_SEND (R411). -/
  | netSend (r : Req)
  /-- NET_TX_STATUS (R414). -/
  | netTxStatus (r : Req)
  /-- FIELD_STATUS (R470). -/
  | fieldStatus (r : Req)
  /-- FIELD_OUT (R470). -/
  | fieldOut (r : Req)
  /-- FIELD_COUNT_READ (R507). -/
  | fieldCountRead (r : Req)
  /-- PANEL_STATUS (R470). -/
  | panelStatus (r : Req)
  /-- WAKE_RULES_LOAD (R470). -/
  | wakeRulesLoad (r : Req)
  /-- WAKE_RULES_READ (R523). -/
  | wakeRulesRead (r : Req)
  /-- SAFETY_STATUS (R373). -/
  | safetyStatus (r : Req)
  /-- SAFETY_RESET_ARM (R362). -/
  | safetyResetArm (r : Req)
  /-- SAFETY_PARAM_WRITE (R368). -/
  | safetyParamWrite (r : Req)
  /-- SAFETY_COMMISSION (R369). -/
  | safetyCommission (r : Req)
  /-- METER_READ (R324). -/
  | meterRead (r : Req)
  /-- SESSION_READ (R325). -/
  | sessionRead (r : Req)
  /-- METER_INFO (R326). -/
  | meterInfo (r : Req)
  /-- PAIR_STATUS (R395). -/
  | pairStatus (r : Req)
  /-- PAIR_HANDOVER (R394). -/
  | pairHandover (r : Req)
  /-- CLOCK_STATUS (R550). -/
  | clockStatus (r : Req)
  /-- PWM_RESUME (R537). -/
  | pwmResume (r : Req)
  /-- ADC_URGENT (R276). -/
  | adcUrgent (r : Req)
  /-- ADC_START (R277). -/
  | adcStart (r : Req)
  /-- CRC_CONFIG (R471). -/
  | crcConfig (r : Req)
  /-- CRC_VALUE_READ (R545). -/
  | crcValueRead (r : Req)
  /-- CRC_VALUE_WRITE (R545). -/
  | crcValueWrite (r : Req)
  /-- CRC_FEED (R545). -/
  | crcFeed (r : Req)
  /-- TRACE_CONFIG (R179). -/
  | traceConfig (r : Req)
  /-- TRACE_ARM (R181). -/
  | traceArm (r : Req)
  /-- TRACE_READ (R182). -/
  | traceRead (r : Req)
  /-- SPI_CS_FALL (R430). -/
  | spiCsFall
  /-- SPI_CS_RISE (R431). -/
  | spiCsRise (clocked : Nat) (unfinished : Bool)
  /-- SPI_REQUEST (R431). -/
  | spiRequest (bytes : List Byte)
  /-- UDP_DATAGRAM (R434). -/
  | udpDatagram (net : Net) (ip : Nat) (port : Nat) (bytes : List Byte) (checksumOk : Bool)
  /-- ETHERNET_FRAME_RECEIVE (R402). -/
  | ethernetFrameReceive (net : Net) (bytes : List Byte) (fcsOk : Bool) (room : Bool)
  /-- NET_LINK_UP (R399). -/
  | netLinkUp (net : Net)
  /-- NET_LINK_DOWN (R399). -/
  | netLinkDown (net : Net)
  /-- PTP_SYNC (R406). -/
  | ptpSync (net : Net) (offset : Int) (meanDelay : Nat)
  /-- PTP_ANNOUNCE (R405). -/
  | ptpAnnounce (net : Net) (d : Dataset)
  /-- PTP_ANNOUNCE_TIMEOUT (R407). -/
  | ptpAnnounceTimeout
  /-- PTP_HOLDOVER_EXPIRE (R407). -/
  | ptpHoldoverExpire
  /-- PTP_MESSAGE_SEND (R403). -/
  | ptpMessageSend (net : Net) (m : PtpMsg)
  /-- SYNT_STEP (R409). -/
  | syntStep
  /-- NET_LAUNCH (R413). -/
  | netLaunch (net : Net) (handle : Nat) (busy : Bool)
  /-- NET_TX_COMPLETE (R414). -/
  | netTxComplete (net : Net) (handle : Nat)
  /-- NET_LATE_DROP (R413). -/
  | netLateDrop (net : Net) (handle : Nat)
  /-- PEER_ANNOUNCE_SEND (R417). -/
  | peerAnnounceSend
  /-- PEER_ANNOUNCEMENT (R418). -/
  | peerAnnouncement (net : Net) (payload : List Byte)
  /-- PEER_LOST (R418). -/
  | peerLost (unit : Fin 32)
  /-- COMMAND_LINK_FRAME (R33). -/
  | commandLinkFrame (s : Shoal) (sender : Hd) (crcOk : Bool)
  /-- APPLY_TICK (R52). -/
  | applyTick (s : Shoal)
  /-- TIDE_CROSSING (R63). -/
  | tideCrossing (e : Fin 128)
  /-- EVENT_FRAME (R62). -/
  | eventFrame (s : Shoal)
  /-- TIDE_GATE_ARM (R67). -/
  | tideGateArm (e : Fin 128)
  /-- BUS_STEP (R78). -/
  | busStep
  /-- RT_FAULT_OFF (R121). -/
  | rtFaultOff
  /-- PJ_REALIGN_END (R124). -/
  | pjRealignEnd
  /-- PORT_DC_UV (R136). -/
  | portDcUv (p : Port)
  /-- BMS_OVERCURRENT (R137). -/
  | bmsOvercurrent (p : Port)
  /-- BS_DEAD_CHECK_PASS (R104). -/
  | bsDeadCheckPass
  /-- BS_ANCHOR_LAUNCH (R105). -/
  | bsAnchorLaunch
  /-- BS_GATE_ENABLE (R105). -/
  | bsGateEnable
  /-- BS_DONE (R107). -/
  | bsDone
  /-- BS_RAMP_TIMEOUT (R107). -/
  | bsRampTimeout
  /-- SYNC_TIMEOUT (R111). -/
  | syncTimeout
  /-- SYNC_CLOSE_FAIL (R112). -/
  | syncCloseFail
  /-- SYNC_GRID_LOST (R113). -/
  | syncGridLost
  /-- STOP_RAMP_END (R114). -/
  | stopRampEnd
  /-- CARRIER_BOUNDARY (R189). -/
  | carrierBoundary (p : Port)
  /-- PWM_EDGE (R190). -/
  | pwmEdge (p : Port) (k : Leg) (rise : Bool)
  /-- GATE_TURN_ON_DELAY (R190). -/
  | gateTurnOnDelay (p : Port) (k : Leg) (high : Bool)
  /-- BS_REFRESH (R199). -/
  | bsRefresh (p : Port) (k : Leg)
  /-- GATE_OFF_DEMAND (R202). -/
  | gateOffDemand (p : Port) (k : Leg) (src : GateOffSource)
  /-- SAMPLES_ARRIVE (R165). -/
  | samplesArrive (p : Port)
  /-- SPEC_STEP_COMPLETE (R165). -/
  | specStepComplete (p : Port)
  /-- RECOMPUTE_COMPLETE (R165). -/
  | recomputeComplete (p : Port)
  /-- COMMIT_DEADLINE (R170). -/
  | commitDeadline (p : Port)
  /-- PORT_OC_TRIP (R133). -/
  | portOcTrip (p : Port)
  /-- DL_UNLOCK (R195). -/
  | dlUnlock (s : Shoal)
  /-- DL_LOCK (R194). -/
  | dlLock (s : Shoal) (code : Nat)
  /-- ISLAND_POWER_GOOD (R209). -/
  | islandPowerGood (l : Link)
  /-- UPLINK_FRAME (R214). -/
  | uplinkFrame (l : Link) (streams noise : List Byte)
  /-- DOWNLINK_FRAME (R211). -/
  | downlinkFrame (l : Link) (slot : DownSlot) (noise : List Byte)
  /-- LINK_FRAME_TIMEOUT (R212). -/
  | linkFrameTimeout (l : Link) (up : Bool)
  /-- EDGE_CHANNEL_TRANSITION (R217). -/
  | edgeChannelTransition (p : Port) (g : Gate) (on : Bool)
  /-- INTERLOCK_HOLD_END (R218). -/
  | interlockHoldEnd (p : Port) (g : Gate)
  /-- GATE_SUPPLY_LOCKOUT (R223). -/
  | gateSupplyLockout (p : Port) (k : Leg) (supply : GateSupply) (locks : Bool)
  /-- GATE_SUPPLY_RELEASE (R223). -/
  | gateSupplyRelease (p : Port) (k : Leg) (supply : GateSupply)
  /-- DESAT_CONFIRM (R224). -/
  | desatConfirm (p : Port) (g : Gate)
  /-- FAST_SHORT_CONFIRM (R225). -/
  | fastShortConfirm (p : Port) (g : Gate)
  /-- SOFT_TURN_OFF_END (R226). -/
  | softTurnOffEnd (p : Port) (g : Gate)
  /-- PERMIT_WORD_RECEIVE (R346). -/
  | permitWordReceive (l : Link) (chan : Bool) (noise : Nat)
  /-- PERMIT_ABSENT (R231). -/
  | permitAbsent (l : Link)
  /-- COIL_HW_DROP (R231). -/
  | coilHwDrop (p : Port)
  /-- COIL_PULL_END (R232). -/
  | coilPullEnd (p : Port) (n : Fin 2)
  /-- CONTACTOR_FB_CHANGE (R232). -/
  | contactorFbChange (p : Port) (n : Fin 2) (closed : Bool)
  /-- CONTACTOR_FAULT (R233). -/
  | contactorFault (p : Port) (n : Fin 2)
  /-- LATCH_BLOCKED (R234). -/
  | latchBlocked (p : Port)
  /-- LATCH_TIMEOUT (R234). -/
  | latchTimeout (p : Port)
  /-- DIAG_ITEM_DONE (R236). -/
  | diagItemDone (p : Port) (reading : Int)
  /-- CAN_FRAME_RECEIVE (R240). -/
  | canFrameReceive (p : Port) (f : CanFrame)
  /-- CAN_FRAME_TRANSMIT (R242). -/
  | canFrameTransmit (p : Port)
  /-- CAN_BUS_OFF (R243). -/
  | canBusOff (p : Port)
  /-- CAN_BUS_OFF_RECOVERY (R243). -/
  | canBusOffRecovery (p : Port)
  /-- ADC_TIMER (R271). -/
  | adcTimer
  /-- ADC_SEQ_START (R271). -/
  | adcSeqStart
  /-- ADC_ENTRY_DONE (R270). -/
  | adcEntryDone (codes : List Int)
  /-- ADC_URGENT_DONE (R273). -/
  | adcUrgentDone (codes : List Int)
  /-- ADC_PARAM_APPLY (R280). -/
  | adcParamApply
  /-- LOOP_CLASS_REPORT (R520). -/
  | loopClassReport (p : Port) (cls : LoopClass)
  /-- PLUG_DEBOUNCE_END (R287). -/
  | plugDebounceEnd (p : Port)
  /-- BMS_SIGNAL_STALE (R303). -/
  | bmsSignalStale (p : Port) (sig : Fin 16)
  /-- BMS_LOST (R302). -/
  | bmsLost (p : Port)
  /-- PRECHG_TIMEOUT (R294). -/
  | prechgTimeout (p : Port)
  /-- AT_ZERO_TIMEOUT (R302). -/
  | atZeroTimeout (p : Port)
  /-- RELEASE_DISCHARGE_FAIL (R299). -/
  | releaseDischargeFail (p : Port)
  /-- METROLOGY_SUBFRAME (R313). -/
  | metrologySubframe (p : Port) (noise : List Byte)
  /-- METROLOGY_SLOT_LOST (R313). -/
  | metrologySlotLost (p : Port)
  /-- SESSION_OPEN (R317). -/
  | sessionOpen (p : Port)
  /-- SESSION_CLOSE (R317). -/
  | sessionClose (p : Port)
  /-- SESSION_GAP_CLOSE (R318). -/
  | sessionGapClose (p : Port)
  /-- METER_MRAM_WRITE (R316). -/
  | meterMramWrite
  /-- METER_FINAL_WRITE (R316). -/
  | meterFinalWrite
  /-- CARTRIDGE_POWER_UP (R318). -/
  | cartridgePowerUp
  /-- CARTRIDGE_READ_REQUEST (R34). -/
  | cartridgeReadRequest (write : Bool) (addr : Nat) (crcOk : Bool)
  /-- COVER_OPEN (R329). -/
  | coverOpen
  /-- COVER_CLOSE (R329). -/
  | coverClose
  /-- TOOL_AUTHENTICATE (R330). -/
  | toolAuthenticate (ok : Bool)
  /-- TOOL_READ (R330). -/
  | toolRead
  /-- TOOL_PULSE_SELECT (R330). -/
  | toolPulseSelect (p : Port) (isExport : Bool)
  /-- VERIFY_COMMIT (R330). -/
  | verifyCommit (v : Verification)
  /-- METER_ABSENT (R332). -/
  | meterAbsent
  /-- METER_PRESENT (R332). -/
  | meterPresent
  /-- SAFETY_INPUT_DEMAND (R357). -/
  | safetyInputDemand (n : Fin 8) (chan : Fin 2) (mv : Int) (us : Nat)
  /-- SI_TEST_PULSE (R355). -/
  | siTestPulse (tp : Fin 4) (inLimits : Bool) (reads : List (Bool × Bool))
  /-- SI_DISC (R356). -/
  | siDisc (n : Fin 8)
  /-- BW_LANE_COMPARE (R340). -/
  | bwLaneCompare (differ : Bool)
  /-- RETURN_WORD (R341). -/
  | returnWord (l : Link) (noise : Nat)
  /-- RETURN_LOST (R341). -/
  | returnLost (l : Link)
  /-- REQUEST_WORD (R343). -/
  | requestWord (from_ : Hd) (crcOk : Bool)
  /-- HL_LOST (R343). -/
  | hlLost
  /-- CH_DISC (R344). -/
  | chDisc (p : Port)
  /-- PERMIT_PATTERN_WORD (R347). -/
  | permitPatternWord
  /-- SDC_FB (R349). -/
  | sdcFb (p : Port)
  /-- SO_TEST_PULSE (R358). -/
  | soTestPulse (m : Fin 4) (side : Bool) (readOff : Bool)
  /-- RESET_PRESS_BEGIN (R363). -/
  | resetPressBegin
  /-- RESET_RELEASE (R363). -/
  | resetRelease
  /-- RESET_PRESS_TOO_LONG (R363). -/
  | resetPressTooLong
  /-- RESET_STUCK (R359). -/
  | resetStuck
  /-- RESET_ARM_EXPIRE (R362). -/
  | resetArmExpire
  /-- COMMISSION_TIMEOUT (R369). -/
  | commissionTimeout
  /-- SAFETY_MESSAGE (R365). -/
  | safetyMessage (net : Net) (bytes : List Byte)
  /-- SAFETY_MSG_PENDING_EXPIRE (R365). -/
  | safetyMsgPendingExpire (j : Fin 4)
  /-- SAFETY_MSG_TIMEOUT (R366). -/
  | safetyMsgTimeout (j : Fin 4)
  /-- SAFETY_MSG_SEND (R367). -/
  | safetyMsgSend
  /-- BW_SELFTEST_END (R361). -/
  | bwSelftestEnd (ok : Bool)
  /-- MIRROR_SLOT_LAUNCH (R377). -/
  | mirrorSlotLaunch
  /-- MIRROR_FRAME (R383). -/
  | mirrorFrame (good : Bool)
  /-- MIRROR_ACK (R379). -/
  | mirrorAck (good : Bool)
  /-- MIRROR_SLOT_END (R383). -/
  | mirrorSlotEnd
  /-- CONFIG_ACK_TIMEOUT (R382). -/
  | configAckTimeout
  /-- HEADLAND_FAILURE (R376). -/
  | headlandFailure (cause : FailCause)
  /-- TOKEN_CLAIM (R375). -/
  | tokenClaim (h : Hd)
  /-- TAKEOVER_COMPLETE (R384). -/
  | takeoverComplete
  /-- HANDOVER_BOUNDARY (R394). -/
  | handoverBoundary
  /-- RESYNC_COMPLETE (R391). -/
  | resyncComplete
  /-- RESYNC_RETRY (R391). -/
  | resyncRetry
  /-- LATE_CLAIM (R393). -/
  | lateClaim
  /-- SHORE_REFRESH (R503). -/
  | shoreRefresh (from_ : Hd) (crcOk : Bool)
  /-- FIELD_INPUT_CHANGE (R505). -/
  | fieldInputChange (n : Fin 16) (level : Bool)
  /-- FIELD_OVERLOAD (R510). -/
  | fieldOverload (n : Fin 16)
  /-- FIELD_TEST_PULSE (R511). -/
  | fieldTestPulse (n : Fin 16) (readback : Nat) (abandoned : Bool)
  /-- FIELD_SUSPECT (R512). -/
  | fieldSuspect (n : Fin 16)
  /-- FIELD_STUCK_ON (R512). -/
  | fieldStuckOn (n : Fin 16)
  /-- FIELD_SAG (R514). -/
  | fieldSag (vfield : Nat)
  /-- FIELD_RESTORED (R514). -/
  | fieldRestored (vfield : Nat)
  /-- SHORE_SILENCE (R517). -/
  | shoreSilence
  /-- HOST_SILENCE (R518). -/
  | hostSilence
  /-- PANEL_TOUCH (R519). -/
  | panelTouch (k : Fin 4)
  /-- PAD_HOLD_TIMEOUT (R519). -/
  | padHoldTimeout (k : Fin 4)
  /-- WAKE_RULE_FIRE (R521). -/
  | wakeRuleFire (r : Fin 16)
  /-- WAKE_N_LOW (R521). -/
  | wakeNLow
  /-- PLL_LOSS_OF_LOCK (R534). -/
  | pllLossOfLock (die : ClockDie)
  /-- REFERENCE_LOSS (R530). -/
  | referenceLoss
  /-- REFERENCE_RETURN (R530). -/
  | referenceReturn
  /-- PLL_RELOCK (R535). -/
  | pllRelock (die : ClockDie) (phaseErr : Int)
  /-- VSUP_LOCKOUT (R540). -/
  | vsupLockout (vsup : Nat)
  /-- VSUP_LOW (R538). -/
  | vsupLow (vsup : Nat)
  /-- VSUP_OK (R538). -/
  | vsupOk (vsup : Nat)
  /-- IIN_LIMIT (R538). -/
  | iinLimit (iin : Nat)
  /-- GATE_BUDGET_UPDATE (R44). -/
  | gateBudgetUpdate (vsup : Nat) (tbase : Int)
  /-- ISLAND_SUPPLY_FAULT (R542). -/
  | islandSupplyFault (l : Link)
  /-- ISLAND_SUPPLY_RETRY (R542). -/
  | islandSupplyRetry (l : Link)
  /-- CRC_SNOOP_FRAME (R546). -/
  | crcSnoopFrame (u : Fin 8) (bytes : List Byte)
  /-- CRC_REGION_PASS (R547). -/
  | crcRegionPass (u : Fin 8) (bytes : List Byte)
  /-- POWER_UP (R553). -/
  | powerUp (cause : PowerCause) (vsup : Nat)
  /-- HEADLAND_SELFTEST_END (R556). -/
  | headlandSelftestEnd (h : Hd) (failed : Option SelftestPart)
  /-- BOOT_END (R555). -/
  | bootEnd
  /-- RESET_N (R558). -/
  | resetN
  /-- SRAM_ECC_ERROR (R31). -/
  | sramEccError (where_ : EccWhere)
  /-- OP_SEC_TICK (R493). -/
  | opSecTick
  /-- LOG_RECORD_WRITE (R495). -/
  | logRecordWrite
  /-- CAP_TRIGGER_FIRE (R479). -/
  | capTriggerFire
  /-- CAP_MASK_HIT (R481). -/
  | capMaskHit (m : Fin 4)
  /-- CAP_DONE (R476). -/
  | capDone
  /-- CAP_REARM (R487). -/
  | capRearm
  /-- STREAM_DATAGRAM (R488). -/
  | streamDatagram
  /-- TRACE_TRIGGER (R181). -/
  | traceTrigger
  /-- CAP_SAMPLE_INSTANT (R474). -/
  | capSampleInstant
  /-- BS_PULSE_END (R199). -/
  | bsPulseEnd (p : Port) (k : Leg)
  /-- COUNTER_EDGE (R507). -/
  | counterEdge (n : Fin 4)
  /-- FIELD_STUCK_CLEAR (R513). -/
  | fieldStuckClear (n : Fin 16)
  /-- FIELD_SIDE_POWER_UP (R507). -/
  | fieldSidePowerUp (vfield : Nat)
  /-- PAD_RELEASE (R519). -/
  | padRelease (k : Fin 4)
  /-- IIN_LIMIT_RELEASE (R538). -/
  | iinLimitRelease (iin : Nat)
  /-- ISLAND_POWER_FAIL (R539). -/
  | islandPowerFail (l : Link)
  /-- UDP_REASSEMBLY_TIMEOUT (R433). -/
  | udpReassemblyTimeout (net : Net) (src : Nat) (ident : Nat)
  /-- BOOT_CLAIM_TIMEOUT (R556). -/
  | bootClaimTimeout
  /-- RESYNC_TIMEOUT (R391). -/
  | resyncTimeout
  /-- TOOL_LOCKOUT_END (R330). -/
  | toolLockoutEnd
  /-- RESET_N_RELEASE (R558). -/
  | resetNRelease
  /-- SAFETY_INPUT_INACTIVE (R353). -/
  | safetyInputInactive (n : Fin 8) (chan : Fin 2) (mv : Int) (us : Nat)
  deriving DecidableEq, Repr

end Sys2Proof
end

