-- ==== Sys2Proof/WellFormed.lean ====
section
/-! DEFINITION. Well-formed commands: each operand lies in the format that its frame, packet or field gives it. A command that is
not well formed is none that the Unyar can receive. -/
namespace Sys2Proof

/-- A request within the fields of Table 14.1: CLASS, TARGET, SEQ, LEN. -/
def Req.wf (r : Req) : Bool :=
  decide (r.cls ≤ 3) && decide (r.target < 0x100) && decide (r.seq < 0x10000) && decide (r.payload.length ≤ 4096)

/-- A CAN frame within ISO 11898-1 (R239, R242). [PRESUMED, unsafe: log 103] -/
def CanFrame.wf (f : CanFrame) : Bool :=
  decide (f.id < (if f.ide then 2 ^ 29 else 2 ^ 11)) &&
    (if f.fdf then [0, 1, 2, 3, 4, 5, 6, 7, 8, 12, 16, 20, 24, 32, 48, 64].contains f.data.length
     else decide (f.data.length ≤ 8))

/-- A slot within Table 7.2. -/
def DownSlot.wf : DownSlot → Bool
  | .none | .can => true
  | .write addr data => decide (addr < 2 ^ 10) && decide (data < 2 ^ 32)
  | .read addr => decide (addr < 2 ^ 10)

/-- A data set within IEEE 1588 (R405). -/
def Dataset.wf (d : Dataset) : Bool :=
  decide (d.prio1 < 256) && decide (d.clockClass < 256) && decide (d.accuracy < 256) && decide (d.variance < 2 ^ 16) &&
    decide (d.prio2 < 256) && decide (d.identity < 2 ^ 64) && decide (d.steps < 2 ^ 16)

/-- The command's operands lie in their formats. -/
def Instr.wf : Instr → Bool
  | .nop r => r.wf
  | .identify r => r.wf
  | .getStatus r => r.wf
  | .setStateStandby r => r.wf
  | .setStateIdle r => r.wf
  | .setStateReady r => r.wf
  | .setStateSync r => r.wf
  | .setStateService r => r.wf
  | .enterStandby => true
  | .moduleReset r => r.wf
  | .moduleResetBegin => true
  | .headlandReset r => r.wf
  | .peerHeadlandReset => true
  | .readParam r => r.wf
  | .writeParam r => r.wf
  | .commitParams r => r.wf
  | .paramDiscard r => r.wf
  | .readReg r => r.wf
  | .writeReg r => r.wf
  | .setDispatch r => r.wf
  | .blackStart r => r.wf
  | .syncClose r => r.wf
  | .tideSet r => r.wf
  | .tideGet r => r.wf
  | .portAdmit r => r.wf
  | .portRelease r => r.wf
  | .packCanSend r => r.wf
  | .packCanRead r => r.wf
  | .bmsMapLoad r => r.wf
  | .bmsMapRead r => r.wf
  | .trip r => r.wf
  | .clearTrip r => r.wf
  | .gateDiag r => r.wf
  | .envelopeLoad r => r.wf
  | .envelopeRead r => r.wf
  | .capConfig r => r.wf
  | .capTrigger r => r.wf
  | .capMaskLoad r => r.wf
  | .capArm r => r.wf
  | .capForce r => r.wf
  | .capStatus r => r.wf
  | .capRead r => r.wf
  | .capMeasRead r => r.wf
  | .capStream r => r.wf
  | .logFreeze r => r.wf
  | .logWindow r => r.wf
  | .logCursor r => r.wf
  | .logUnfreeze r => r.wf
  | .timeGet r => r.wf
  | .peerRead r => r.wf
  | .netSend r => r.wf
  | .netTxStatus r => r.wf
  | .fieldStatus r => r.wf
  | .fieldOut r => r.wf
  | .fieldCountRead r => r.wf
  | .panelStatus r => r.wf
  | .wakeRulesLoad r => r.wf
  | .wakeRulesRead r => r.wf
  | .safetyStatus r => r.wf
  | .safetyResetArm r => r.wf
  | .safetyParamWrite r => r.wf
  | .safetyCommission r => r.wf
  | .meterRead r => r.wf
  | .sessionRead r => r.wf
  | .meterInfo r => r.wf
  | .pairStatus r => r.wf
  | .pairHandover r => r.wf
  | .clockStatus r => r.wf
  | .pwmResume r => r.wf
  | .adcUrgent r => r.wf
  | .adcStart r => r.wf
  | .crcConfig r => r.wf
  | .crcValueRead r => r.wf
  | .crcValueWrite r => r.wf
  | .crcFeed r => r.wf
  | .traceConfig r => r.wf
  | .traceArm r => r.wf
  | .traceRead r => r.wf
  | .spiCsFall => true
  | .spiCsRise clocked _ => decide (clocked < 2 ^ 32)
  | .spiRequest bytes => decide (bytes.length ≤ 4108)
  | .udpDatagram _ ip port bytes _ => decide (ip < 2 ^ 32) && decide (port < 2 ^ 16) && decide (bytes.length ≤ 4108)
  | .ethernetFrameReceive _ bytes _ _ => decide (bytes.length ≤ 1522)
  | .netLinkUp _ => true
  | .netLinkDown _ => true
  | .ptpSync _ _ meanDelay => decide (meanDelay < 2 ^ 32)
  | .ptpAnnounce _ d => d.wf
  | .ptpAnnounceTimeout => true
  | .ptpHoldoverExpire => true
  | .ptpMessageSend _ _ => true
  | .syntStep => true
  | .netLaunch _ handle _ => decide (handle < 2 ^ 32)
  | .netTxComplete _ handle => decide (handle < 2 ^ 32)
  | .netLateDrop _ handle => decide (handle < 2 ^ 32)
  | .peerAnnounceSend => true
  | .peerAnnouncement _ payload => decide (payload.length ≤ 1500)
  | .peerLost _ => true
  | .commandLinkFrame _ _ _ => true
  | .applyTick _ => true
  | .tideCrossing _ => true
  | .eventFrame _ => true
  | .tideGateArm _ => true
  | .busStep => true
  | .rtFaultOff => true
  | .pjRealignEnd => true
  | .portDcUv _ => true
  | .bmsOvercurrent _ => true
  | .bsDeadCheckPass => true
  | .bsAnchorLaunch => true
  | .bsGateEnable => true
  | .bsDone => true
  | .bsRampTimeout => true
  | .syncTimeout => true
  | .syncCloseFail => true
  | .syncGridLost => true
  | .stopRampEnd => true
  | .carrierBoundary _ => true
  | .pwmEdge _ _ _ => true
  | .gateTurnOnDelay _ _ _ => true
  | .bsRefresh _ _ => true
  | .gateOffDemand _ _ _ => true
  | .samplesArrive _ => true
  | .specStepComplete _ => true
  | .recomputeComplete _ => true
  | .commitDeadline _ => true
  | .portOcTrip _ => true
  | .dlUnlock _ => true
  | .dlLock _ code => decide (code < 2 ^ 12)
  | .islandPowerGood _ => true
  | .uplinkFrame _ streams noise => decide (streams.length = 23) && decide (noise.length = 48)
  | .downlinkFrame _ slot noise => slot.wf && decide (noise.length = 12)
  | .linkFrameTimeout _ _ => true
  | .edgeChannelTransition _ _ _ => true
  | .interlockHoldEnd _ _ => true
  | .gateSupplyLockout _ _ _ _ => true
  | .gateSupplyRelease _ _ _ => true
  | .desatConfirm _ _ => true
  | .fastShortConfirm _ _ => true
  | .softTurnOffEnd _ _ => true
  | .permitWordReceive _ _ noise => decide (noise < 2 ^ 16)
  | .permitAbsent _ => true
  | .coilHwDrop _ => true
  | .coilPullEnd _ _ => true
  | .contactorFbChange _ _ _ => true
  | .contactorFault _ _ => true
  | .latchBlocked _ => true
  | .latchTimeout _ => true
  | .diagItemDone _ _ => true
  | .canFrameReceive _ f => f.wf
  | .canFrameTransmit _ => true
  | .canBusOff _ => true
  | .canBusOffRecovery _ => true
  | .adcTimer => true
  | .adcSeqStart => true
  | .adcEntryDone codes => decide (codes.length = 8)
  | .adcUrgentDone codes => decide (codes.length = 8)
  | .adcParamApply => true
  | .loopClassReport _ _ => true
  | .plugDebounceEnd _ => true
  | .bmsSignalStale _ _ => true
  | .bmsLost _ => true
  | .prechgTimeout _ => true
  | .atZeroTimeout _ => true
  | .releaseDischargeFail _ => true
  | .metrologySubframe _ noise => decide (noise.length = 9)
  | .metrologySlotLost _ => true
  | .sessionOpen _ => true
  | .sessionClose _ => true
  | .sessionGapClose _ => true
  | .meterMramWrite => true
  | .meterFinalWrite => true
  | .cartridgePowerUp => true
  | .cartridgeReadRequest _ addr _ => decide (addr < 2 ^ 32)
  | .coverOpen => true
  | .coverClose => true
  | .toolAuthenticate _ => true
  | .toolRead => true
  | .toolPulseSelect _ _ => true
  | .verifyCommit v => decide (v.keyId < 2 ^ 32) && decide (v.moduleSerial < 2 ^ 32) && decide (v.date < 2 ^ 32) && decide (v.toolId < 2 ^ 32)
  | .meterAbsent => true
  | .meterPresent => true
  | .safetyInputDemand _ _ mv us => decide (-2 ^ 31 ≤ mv ∧ mv < 2 ^ 31) && decide (us < 2 ^ 32)
  | .siTestPulse _ _ reads => decide (reads.length = 17)
  | .siDisc _ => true
  | .bwLaneCompare _ => true
  | .returnWord _ noise => decide (noise < 2 ^ 48)
  | .returnLost _ => true
  | .requestWord _ _ => true
  | .hlLost => true
  | .chDisc _ => true
  | .permitPatternWord => true
  | .sdcFb _ => true
  | .soTestPulse _ _ _ => true
  | .resetPressBegin => true
  | .resetRelease => true
  | .resetPressTooLong => true
  | .resetStuck => true
  | .resetArmExpire => true
  | .commissionTimeout => true
  | .safetyMessage _ bytes => decide (bytes.length = 16)
  | .safetyMsgPendingExpire _ => true
  | .safetyMsgTimeout _ => true
  | .safetyMsgSend => true
  | .bwSelftestEnd _ => true
  | .mirrorSlotLaunch => true
  | .mirrorFrame _ => true
  | .mirrorAck _ => true
  | .mirrorSlotEnd => true
  | .configAckTimeout => true
  | .headlandFailure _ => true
  | .tokenClaim _ => true
  | .takeoverComplete => true
  | .handoverBoundary => true
  | .resyncComplete => true
  | .resyncRetry => true
  | .lateClaim => true
  | .shoreRefresh _ _ => true
  | .fieldInputChange _ _ => true
  | .fieldOverload _ => true
  | .fieldTestPulse _ readback _ => decide (readback < 2 ^ 16)
  | .fieldSuspect _ => true
  | .fieldStuckOn _ => true
  | .fieldSag vfield => decide (vfield < 2 ^ 16)
  | .fieldRestored vfield => decide (vfield < 2 ^ 16)
  | .shoreSilence => true
  | .hostSilence => true
  | .panelTouch _ => true
  | .padHoldTimeout _ => true
  | .wakeRuleFire _ => true
  | .wakeNLow => true
  | .pllLossOfLock _ => true
  | .referenceLoss => true
  | .referenceReturn => true
  | .pllRelock _ _ => true
  | .vsupLockout vsup => decide (vsup < 2 ^ 16)
  | .vsupLow vsup => decide (vsup < 2 ^ 16)
  | .vsupOk vsup => decide (vsup < 2 ^ 16)
  | .iinLimit iin => decide (iin < 2 ^ 16)
  | .gateBudgetUpdate vsup tbase => decide (vsup < 2 ^ 16) && decide (-(2 ^ 15) ≤ tbase) && decide (tbase < 2 ^ 15)
  | .islandSupplyFault _ => true
  | .islandSupplyRetry _ => true
  | .crcSnoopFrame _ _ => true
  | .crcRegionPass _ _ => true
  | .powerUp _ vsup => decide (vsup < 2 ^ 16)
  | .headlandSelftestEnd _ _ => true
  | .bootEnd => true
  | .resetN => true
  | .sramEccError _ => true
  | .opSecTick => true
  | .logRecordWrite => true
  | .capTriggerFire => true
  | .capMaskHit _ => true
  | .capDone => true
  | .capRearm => true
  | .streamDatagram => true
  | .traceTrigger => true
  | .capSampleInstant => true
  | .bsPulseEnd _ _ => true
  | .counterEdge _ => true
  | .fieldStuckClear _ => true
  | .fieldSidePowerUp vfield => decide (vfield < 2 ^ 16)
  | .padRelease _ => true
  | .iinLimitRelease iin => decide (iin < 2 ^ 16)
  | .islandPowerFail _ => true
  | .udpReassemblyTimeout _ src ident => decide (src < 2 ^ 32) && decide (ident < 2 ^ 16)
  | .bootClaimTimeout => true
  | .resyncTimeout => true
  | .toolLockoutEnd => true
  | .resetNRelease => true
  | .safetyInputInactive _ _ mv us => decide (-2 ^ 31 ≤ mv ∧ mv < 2 ^ 31) && decide (us < 2 ^ 32)

end Sys2Proof
end

