-- ==== Sys2Proof/Decode.lean ====
section
/-! DEFINITION. The command that a word of the opcode table spells. No row of spec/opcode_table.json gives bits, so no word spells
a command. -/
namespace Sys2Proof

/-- The command that the bits of a table row spell: none, since no row has bits. [DESIGN CHOICE, safe: log 101] -/
def decodeTableWord (_nbits _w : Nat) : Option Instr := none

end Sys2Proof
end

