-- ==== Sys2Proof/Config.lean ====
section
/-! DEFINITION. What an implementation or ROM release 3.2 fixes and the spec does not give: constants without a body, so that no
proof can lean on a value. Each is named in the assumption log. -/
namespace Sys2Proof.Config

/-- Which Q15 code within its 1 LSB the sine-cosine unit returns for an angle's bits [31:4] (R152, R156): a step from the code below.
[DESIGN CHOICE, safe: log 22] -/
opaque sinPick : Nat → Int
/-- Which Q15 code within its 1 LSB the reciprocal unit returns (R152): a step from the code below. [DESIGN CHOICE, safe: log 22] -/
opaque recipPick : Rat → Int
/-- Which neighbour of the exact root the square-root unit returns, within 1 LSB (R152). [DESIGN CHOICE, safe: log 22] -/
opaque sqrtPick : Rat → Int
/-- Second-order generalised integrator: frequency in Hz, step in s, input, state (R76 gives no gains); in-phase and lagged output.
[DESIGN CHOICE, safe: log 22] -/
opaque sogi : Rat → Rat → Rat → Rat × Rat → Rat × Rat
/-- Notch at twice a frequency: frequency in Hz, step in s, input, state (R77). [DESIGN CHOICE, safe: log 22] -/
opaque notch : Rat → Rat → Rat → Rat × Rat → Rat × Rat
/-- Frequency-locked loop with a fixed 20 ms filter: step in s, three voltages, state (R120). [DESIGN CHOICE, safe: log 22] -/
opaque fll : Rat → Rat → Rat → Rat → Rat × Rat → Rat × Rat
/-- Discrete resonant integrator: harmonic, gain, angle, step, input, state (R86). [DESIGN CHOICE, safe: log 22] -/
opaque res : Nat → Rat → Nat → Rat → Rat → Rat × Rat → Rat × Rat
/-- Servo of R406: offset in ns and integral, to the new integral and the new ADJ, in 2^-32 ns. [DESIGN CHOICE, safe: log 22] -/
opaque servo : Int → Int → Int × Int
/-- Angle in turns of the vector of a second and a first component (R120 gives no arithmetic). [DESIGN CHOICE, safe: log 22] -/
opaque atan2 : Rat → Rat → Rat
/-- Whether a code between an auxiliary mode's range and its OVR threshold sets OVR (Table 8.4): mode and code. [DESIGN CHOICE, safe: log 22] -/
opaque ovrPick : Nat → Int → Bool
/-- Module serial number (R458). [DESIGN CHOICE, safe: log 22] -/
opaque moduleSerialBits : BitVec 32
def moduleSerial : Nat := moduleSerialBits.toNat
/-- MAC addresses of networks A and B, first byte most significant (R400). [DESIGN CHOICE, safe: log 22] -/
opaque macBits : Nat → BitVec 48
def mac (n : Nat) : Nat := (macBits n).toNat
/-- PTP clock identity, the EUI-64 formed from MAC_A, first byte most significant (R400). [DESIGN CHOICE, safe: log 22] -/
opaque clockIdBits : BitVec 64
def clockId : Nat := clockIdBits.toNat
/-- clockAccuracy and variance that the Unyar announces as a master (R405). [DESIGN CHOICE, safe: log 22] -/
opaque clockQualityBits : BitVec 8 × BitVec 16
def clockQuality : Nat × Nat := (clockQualityBits.1.toNat, clockQualityBits.2.toNat)
/-- CRC-32C of the legally relevant cartridge program image, and CART_SERIAL (R334). [DESIGN CHOICE, safe: log 22] -/
opaque legalImageBits : BitVec 32
def legalImage : Nat := legalImageBits.toNat
/-- CART_SERIAL (R334). [DESIGN CHOICE, safe: log 22] -/
opaque cartSerialBits : BitVec 32
def cartSerial : Nat := cartSerialBits.toNat
/-- Key of the cartridge (R331). [DESIGN CHOICE, safe: log 22] -/
opaque meterKey : List Byte
/-- A value the spec leaves unstated, fresh for each count (see the assumption log). [DESIGN CHOICE, safe: log 23] -/
opaque freeValue : Nat → Nat

end Sys2Proof.Config
end

