-- ==== Sys2Proof/Machine/Bits.lean ====
section
/-! DEFINITION. Bit fields, byte order, saturation, rounding, vectors, and the check values of the spec: the bitwise
CRC of R544 with its uses (R428, R378, Table 1.3), SHA-256 and HMAC-SHA-256 (R331). -/
namespace Sys2Proof.Machine

/-! ### Vectors -/

def vset {α : Type} {n : Nat} (v : Vector α n) (i : Fin n) (a : α) : Vector α n := v.set i.val a i.isLt
def vmod {α : Type} {n : Nat} (v : Vector α n) (i : Fin n) (f : α → α) : Vector α n := vset v i (f v[i])
/-- The number whose bit i is set where the predicate holds, i below n. -/
def maskOf (n : Nat) (f : Nat → Bool) : Nat := (List.range n).foldl (fun a i => if f i then a + 2 ^ i else a) 0
/-- As maskOf, over the elements of a vector. -/
def vmask {α : Type} {n : Nat} (v : Vector α n) (f : α → Bool) : Nat :=
  (v.toList.zipIdx).foldl (fun a x => if f x.1 then a + 2 ^ x.2 else a) 0
/-- A value at an index, or a default beyond the end. -/
def Vector.at_ {α : Type} {n : Nat} (v : Vector α n) (i : Nat) (d : α) : α := v.toList.getD i d

def bit (w i : Nat) : Bool := w / 2 ^ i % 2 == 1
/-- Bits [hi:lo] of a word (R12). -/
def bitsOf (w hi lo : Nat) : Nat := w / 2 ^ lo % 2 ^ (hi + 1 - lo)
def b2n (b : Bool) : Nat := if b then 1 else 0

/-! ### Numbers -/

/-- An unsigned counter of the given width that stays at its largest value. -/
def satInc (bits n : Nat) : Nat := if n + 1 < 2 ^ bits then n + 1 else 2 ^ bits - 1
def satAdd (bits n m : Nat) : Nat := if n + m < 2 ^ bits then n + m else 2 ^ bits - 1
/-- Clamp to a signed width. -/
def satS (bits : Nat) (i : Int) : Int :=
  if i < -(2 ^ (bits - 1)) then -(2 ^ (bits - 1)) else if i > 2 ^ (bits - 1) - 1 then 2 ^ (bits - 1) - 1 else i
/-- Clamp to an unsigned width. -/
def satU (bits : Nat) (i : Int) : Nat :=
  if i < 0 then 0 else if i > 2 ^ bits - 1 then 2 ^ bits - 1 else i.toNat
/-- Two's complement of the given width. -/
def toTwos (bits : Nat) (i : Int) : Nat := (i % 2 ^ bits).toNat
def ofTwos (bits n : Nat) : Int :=
  let m := n % 2 ^ bits
  if 2 ^ (bits - 1) ≤ m then (m : Int) - 2 ^ bits else m
/-- Round to nearest, halves up. -/
def roundUpHalf (q : Rat) : Int := (q + 1 / 2).floor
/-- Round to nearest, halves away from zero. -/
def roundAway (q : Rat) : Int := if q < 0 then -((-q + 1 / 2).floor) else (q + 1 / 2).floor
def ratAbs (q : Rat) : Rat := if q < 0 then -q else q
def ratMin (a b : Rat) : Rat := if a ≤ b then a else b
def ratMax (a b : Rat) : Rat := if a ≤ b then b else a
def ratClamp (x lo hi : Rat) : Rat := if x < lo then lo else if hi < x then hi else x
def ratSum (l : List Rat) : Rat := l.foldl (· + ·) 0
/-- ceil(a / b) over naturals. -/
def ceilDiv (a b : Nat) : Nat := (a + b - 1) / b

/-- 0.01 %, unsigned 16 bits. -/
def pct16 (x : Rat) : Nat := satU 16 (roundUpHalf (x * 10000))
/-- A word from its fields: low bit, width, value (R12). -/
def wordOf (fs : List (Nat × Nat × Nat)) : Nat := fs.foldl (fun a f => a + f.2.2 % 2 ^ f.2.1 * 2 ^ f.1) 0

/-! ### Byte order (R13) -/

def le (n v : Nat) : List Byte := (List.range n).map fun i => BitVec.ofNat 8 (v / 2 ^ (8 * i))
def leVal (bs : List Byte) : Nat := bs.foldr (fun b a => b.toNat + 256 * a) 0
/-- n bytes at an offset, little-endian. -/
def rd (bs : List Byte) (off n : Nat) : Nat := leVal ((bs.drop off).take n)
/-- n bytes at an offset, first byte most significant. -/
def rdBe (bs : List Byte) (off n : Nat) : Nat := ((bs.drop off).take n).foldl (fun a b => 256 * a + b.toNat) 0
def be (n v : Nat) : List Byte := (le n v).reverse
def by8 (bs : List Byte) (i : Nat) : Nat := (bs.getD i 0#8).toNat
def words (ws : List Nat) : List Byte := ws.flatMap (le 4)
def zeros (n : Nat) : List Byte := List.replicate n 0#8

/-! ### Check values -/

def reflect (bits v : Nat) : Nat := maskOf bits fun i => bit v (bits - 1 - i)

/-- One byte into the running value, bit by bit (R544). -/
def crcByte (width poly : Nat) (refin : Bool) (reg : Nat) (b : Byte) : Nat :=
  let d := if refin then reflect 8 b.toNat else b.toNat
  (List.range 8).foldl (fun r i =>
    let top := r / 2 ^ (width - 1) % 2 != (if bit d (7 - i) then 1 else 0)
    let sh := r * 2 % 2 ^ width
    if top then (sh ^^^ poly) % 2 ^ width else sh) reg

def crcRun (width poly : Nat) (refin : Bool) (reg : Nat) (bs : List Byte) : Nat :=
  bs.foldl (crcByte width poly refin) reg

/-- Output reflection and final XOR (R544). -/
def crcOut (width : Nat) (refout : Bool) (xorout reg : Nat) : Nat :=
  ((if refout then reflect width reg else reg) ^^^ xorout) % 2 ^ width

/-- CRC-32 of R428. -/
def crc32 (bs : List Byte) : Nat := crcOut 32 true 0xFFFFFFFF (crcRun 32 0x04C11DB7 true 0xFFFFFFFF bs)
/-- CRC-32C (Castagnoli), reflected, initial 0xFFFF_FFFF, final inversion (Table 12.1). -/
def crc32c (bs : List Byte) : Nat := crcOut 32 true 0xFFFFFFFF (crcRun 32 0x1EDC6F41 true 0xFFFFFFFF bs)
/-- CRC-16 with polynomial 0x1021, initial 0xFFFF, not reflected (Table 1.3). -/
def crc16 (bs : List Byte) : Nat := crcRun 16 0x1021 false 0xFFFF bs

/-! ### SHA-256 and HMAC -/

/-- The greatest r with r ^ k ≤ n, r below 2 ^ 36, by its bits from the top. -/
def rootFloor (k n : Nat) : Nat :=
  (List.range 36).foldl (fun r i => if (r + 2 ^ (35 - i)) ^ k ≤ n then r + 2 ^ (35 - i) else r) 0
def isPrime (n : Nat) : Bool := decide (1 < n) && (List.range n).all fun d => d < 2 || n % d != 0
/-- The primes up to the 64th. -/
def primes64 : List Nat := (List.range 312).filter isPrime
/-- Constants of the rounds: the first 32 bits of the fractions of the primes' cube roots. -/
def hashRoundConst : List Nat := primes64.map fun p => rootFloor 3 (p * 2 ^ 96) % 2 ^ 32
/-- Words before the first block: the same of the square roots of the first eight. -/
def hashStart : List Nat := (primes64.take 8).map fun p => rootFloor 2 (p * 2 ^ 64) % 2 ^ 32

/-- Sum of words modulo 2^32. -/
def sumWords (ws : List Nat) : Nat := ws.sum % 2 ^ 32
/-- Exclusive or of a word turned right by each of the amounts. -/
def turned (x : Nat) (amounts : List Nat) : Nat :=
  amounts.foldl (fun acc n => acc ^^^ (x / 2 ^ n + x % 2 ^ n * 2 ^ (32 - n))) 0

/-- The next word of the schedule, from the sixteen before it, oldest first. -/
def nextWord (w : List Nat) : Nat :=
  let lo := w.getD 1 0
  let hi := w.getD 14 0
  sumWords [w.getD 0 0, w.getD 9 0, turned lo [7, 18] ^^^ (lo / 2 ^ 3), turned hi [17, 19] ^^^ (hi / 2 ^ 10)]

/-- One round over the eight working words, first one first, with the window of schedule words. -/
def hashRound (st : List Nat × List Nat) (c : Nat) : List Nat × List Nat :=
  let v := st.1
  let x := fun i => v.getD i 0
  let pick := maskOf 32 fun i => if bit (x 4) i then bit (x 5) i else bit (x 6) i
  let most := maskOf 32 fun i => decide (2 ≤ b2n (bit (x 0) i) + b2n (bit (x 1) i) + b2n (bit (x 2) i))
  let up := sumWords [x 7, turned (x 4) [6, 11, 25], pick, c, st.2.getD 0 0]
  ([sumWords [up, turned (x 0) [2, 13, 22], most]] ++ v.take 3 ++ [sumWords [x 3, up]] ++ (v.drop 4).take 3, st.2.drop 1 ++ [nextWord st.2])

/-- A 64-byte block into the chained words. -/
def hashBlock (h : List Nat) (blk : List Byte) : List Nat :=
  let v := (hashRoundConst.foldl hashRound (h, (List.range 16).map fun i => rdBe blk (4 * i) 4)).1
  (List.range 8).map fun i => sumWords [h.getD i 0, v.getD i 0]

/-- SHA-256 of a message (R321). [PRESUMED, unsafe: log 103] -/
def sha256 (m : List Byte) : List Byte :=
  let bs := m ++ [0x80#8] ++ zeros ((119 - m.length % 64) % 64) ++ be 8 (8 * m.length)
  ((List.range (bs.length / 64)).foldl (fun h i => hashBlock h ((bs.drop (64 * i)).take 64)) hashStart).flatMap (be 4)

/-- HMAC-SHA-256 of a message under a key (R321). [PRESUMED, unsafe: log 103] -/
def hmacSha256 (key m : List Byte) : List Byte :=
  let short := if 64 < key.length then sha256 key else key
  let masked := fun (c : Byte) => (short ++ zeros (64 - short.length)).map fun b => b ^^^ c
  sha256 (masked 0x5c#8 ++ sha256 (masked 0x36#8 ++ m))

end Sys2Proof.Machine
end

