-- ==== Sys2Proof/Machine/TypesLaws.lean ====
section
/-! DEFINITION. Committed state of the firmware laws: rotor, EMF, sharing, detectors, limits, dispatch, black start, closing,
the engine's port steps. Exact rationals stand for the quantities of Table 5.2, rounded where the engine stores them. Each field
names the rule that gives it; a default is the value at reset. -/
namespace Sys2Proof.Machine

/-- A filter's two stored values: a quadrature's in-phase and lagged outputs (R76, R128), else its output first. -/
abbrev Filt := Rat × Rat

/-- Sub-modes of FORMING, coded as in Table 3.11. -/
inductive SubMode | none | islanded | gridParallel | blackStart
  deriving DecidableEq, Repr
def SubMode.code : SubMode → Nat
  | .none => 0 | .islanded => 1 | .gridParallel => 2 | .blackStart => 3

/-- Measured quantities of one port, from its last samples. -/
structure PortMeas where
  /-- i_p of legs 0 to 3, per unit of I_FS. R93 -/
  ip : Vector Rat 4 := Vector.replicate 4 0
  /-- v_dc_pu, per unit of V_FS. R94 -/
  vdc : Rat := 0
  /-- i_dc in A. R137 -/
  idc : Rat := 0
  /-- The samples are valid. R264 -/
  valid : Bool := false
  /-- t_pm in °C. R87 -/
  tpm : Rat := 0
  deriving DecidableEq, Repr

/-- Measured quantities of Skerry G. -/
structure GridMeas where
  /-- v[x], per unit peak. R76 -/
  v : Vector Rat 3 := Vector.replicate 3 0
  /-- Grid-side voltages, per unit peak. R108 -/
  vg : Vector Rat 3 := Vector.replicate 3 0
  /-- INV samples valid. R265 -/
  invValid : Bool := false
  /-- GRID samples valid. R113 -/
  gridValid : Bool := false
  /-- A sample set has been taken since the last bus step. R265 -/
  taken : Bool := false
  deriving DecidableEq, Repr

/-- The rotor, the EMF and the voltage loop (03_forming_the_grid.md). -/
structure Rotor where
  /-- w. R80 -/
  w : Rat := 1
  /-- w_f. R80 -/
  wf : Rat := 1
  /-- w_set. R80 -/
  wSet : Rat := 1
  /-- p_m. R80 -/
  pm : Rat := 0
  /-- e. R83 -/
  e : Rat := 0
  /-- r_f. R83 -/
  rf : Rat := 0
  /-- r_v. R83 -/
  rv : Rat := 0
  /-- p_e. R77 -/
  pe : Rat := 0
  /-- q_e. R77 -/
  qe : Rat := 0
  /-- v_pos. R77 -/
  vPos : Rat := 0
  /-- Notches on p and q. R77 -/
  notch : Vector Filt 2 := Vector.replicate 2 (0, 0)
  /-- Quadrature of v[x]. R76 -/
  sogiV : Vector Filt 3 := Vector.replicate 3 (0, 0)
  /-- Quadrature of i_bus[x]. R85 -/
  sogiI : Vector Filt 3 := Vector.replicate 3 (0, 0)
  /-- Quadrature of iref[x]. R128 -/
  sogiR : Vector Filt 3 := Vector.replicate 3 (0, 0)
  /-- Quadrature of the grid-side voltages. R108 -/
  sogiG : Vector Filt 3 := Vector.replicate 3 (0, 0)
  /-- Resonators of harmonics 1, 3, 5, 7 per phase. R86 -/
  res : Vector (Vector Filt 3) 4 := Vector.replicate 4 (Vector.replicate 3 (0, 0))
  /-- i_bus[x], per unit. R76 -/
  ibus : Vector Rat 3 := Vector.replicate 3 0
  /-- iref[x] after the budget. R128 -/
  iref : Vector Rat 3 := Vector.replicate 3 0
  /-- Grid-side frequency, Hz. R108 -/
  fGrid : Rat := 0
  /-- Filter of the grid-side frequency. R108 -/
  fllG : Filt := (0, 0)
  /-- Grid-side positive-sequence amplitude. R108 -/
  vgPos : Rat := 0
  deriving DecidableEq, Repr

/-- Shares and availabilities of one port. -/
structure Share where
  /-- Filtered a_dis, a_chg in W, a_q in W, e_dis, e_chg in kWh. R88 -/
  avail : Vector Rat 5 := Vector.replicate 5 0
  /-- w[p]. R89 -/
  w : Rat := 0
  /-- h[p]. R89 -/
  h : Rat := 0
  /-- q[p]. R89 -/
  q : Rat := 0
  /-- gov. R137 -/
  gov : Rat := 1
  /-- iref_p[x], per unit of I_FS. R92 -/
  iref : Vector Rat 3 := Vector.replicate 3 0
  /-- PORT_LIMIT bit. R130 -/
  limited : Bool := false
  /-- Zero-sequence reference held at 0. R132 -/
  neutralHold : Bool := false
  /-- Carrier periods in a row above 1.1 I_N_MAX. R132 -/
  neutralRun : Nat := 0
  /-- Bus steps in a row above V_DC_MAX. R136 -/
  ovRun : Nat := 0
  /-- Tick since which v_dc is below V_DC_MIN with the contactors closed. R136 -/
  lowFrom : Option Nat := none
  /-- Tick since which i_dc is beyond the BMS limit and its margin. R137 -/
  overFrom : Option Nat := none
  deriving DecidableEq, Repr

/-- Dispatch targets and ramped values (R96 to R100). -/
structure Dispatch where
  /-- P_SET target, W. R96 -/
  pSet : Int := 0
  /-- Q_SET target, var. R96 -/
  qSet : Int := 0
  /-- F_OFF target, mHz. R96 -/
  fOff : Int := 0
  /-- V_OFF target, 0.01 %. R96 -/
  vOff : Int := 0
  /-- Accepted targets that the next bus step takes, oldest first, with RAMP_OVR. R98 -/
  next : List (Option Int × Option Int × Option Int × Option Int × Nat) := []
  /-- Rate of P in 0.1 %/s; 0 uses RAMP_P. R98 -/
  rateP : Nat := 0
  /-- Rate of Q. R98 -/
  rateQ : Nat := 0
  /-- p_set_r, per unit. R98 -/
  pR : Rat := 0
  /-- q_set_r, per unit. R98 -/
  qR : Rat := 0
  /-- f_off_r, Hz. R98 -/
  fR : Rat := 0
  /-- v_off_r, per unit. R98 -/
  vR : Rat := 0
  /-- Stored MODE_HINT. R100 -/
  hint : Nat := 0
  deriving DecidableEq, Repr

/-- Black start, closing and stop ramps. -/
inductive Ramp
  | none
  /-- e rises after gate enable. R106 -/
  | bsUp
  /-- e falls after a black-start timeout. R107 -/
  | bsDown
  /-- The stop ramp of ISLANDED and BLACK_START. R114 -/
  | stopIslanded
  /-- The stop ramp of GRID_PARALLEL. R114 -/
  | stopParallel
  /-- e falls after the grid is lost in SYNC. R113 -/
  | gridLost
  deriving DecidableEq, Repr

structure Seq where
  /-- BS_PENDING. R103 -/
  bsPending : Bool := false
  /-- Gate time of a coordinated start, ns of PTP. R103 -/
  bsGate : Option Nat := none
  /-- Tick at which the dead check began. R104 -/
  bsFrom : Nat := 0
  /-- The dead check has passed. R104 -/
  bsPassed : Bool := false
  /-- The anchor frames have left. R105 -/
  bsAnchored : Bool := false
  /-- Tick of gate enable. R106 -/
  bsEnableAt : Nat := 0
  /-- Ramp that runs. R106 -/
  ramp : Ramp := .none
  /-- Tick at which the ramp began. R106 -/
  rampAt : Nat := 0
  /-- Ticks of ramp done. R106 -/
  rampDone : Nat := 0
  /-- e, p, q, w_set at the start of a falling ramp. R114 -/
  rampFrom : Rat × Rat × Rat × Rat := (0, 0, 0, 0)
  /-- The ramp of a black start has ended. R107 -/
  rampEnded : Bool := false
  /-- Tick since which |v_pos - e| has held. R107 -/
  holdSince : Option Nat := none
  /-- Tick of the last limitation report. R106 -/
  lastLimited : Option Nat := none
  /-- SYNC_ARMED. R110 -/
  armed : Bool := false
  /-- Tick of SYNC_CLOSE. R111 -/
  armedAt : Nat := 0
  /-- The close output has set, at this tick. R112 -/
  closeAt : Option Nat := none
  /-- BRK_CLOSE_OUT as the firmware drives it. R112 -/
  brkOut : Bool := false
  /-- SYNC_MISSED, W1C. R111 -/
  missed : Bool := false
  /-- Tick since which the grid amplitude is below 0.8 pu. R113 -/
  gridLow : Option Nat := none
  /-- A live entry completes at the next bus step. R109 -/
  liveEntry : Bool := false
  /-- Δθ in turns and Δf in Hz at the last bus step, for events 0x22 to 0x24. R111 -/
  dTheta : Rat := 0
  dF : Rat := 0
  /-- A set BRK_CLOSE_OUT was cleared when the grid was lost. R113 -/
  brkWas : Bool := false
  deriving DecidableEq, Repr

/-- Detectors and limits (04_ride_through_and_limits.md). -/
structure Ride where
  /-- FAULT_ACTIVE. R121 -/
  fault : Bool := false
  /-- Tick of the origin of the voltage event. R121 -/
  origin : Nat := 0
  /-- FREQ_EVENT. R121 -/
  freq : Bool := false
  /-- Tick of the origin of the frequency event. R121 -/
  freqOrigin : Nat := 0
  /-- Tick since which the frequency is within FREQ_BAND. R121 -/
  freqIn : Option Nat := none
  /-- Tick since which the voltage is within limits. R121 -/
  voltIn : Option Nat := none
  /-- Ticks of counted origins. R142 -/
  origins : List Nat := []
  /-- Bus steps in a row with v_ab < UV_ENTRY, and the tick of the first. R121 -/
  uvRun : Nat × Nat := (0, 0)
  /-- Bus steps in a row above V_INST_TRIP. R121 -/
  instRun : Nat := 0
  /-- Bus-step history of v[x], newest first: tick and three values. R120 -/
  vHist : List (Nat × Vector Rat 3) := []
  /-- The same of the grid-side channels. R104 -/
  gHist : List (Nat × Vector Rat 3) := []
  /-- History of f_meas, newest first. R120 -/
  fHist : List (Nat × Rat) := []
  /-- Frequency-locked loop. R120 -/
  fll : Filt := (0, 0)
  /-- v_ab. R120 -/
  vab : Rat := 0
  /-- v_min_rms and v_max_rms. R120 -/
  vMin : Rat := 0
  vMax : Rat := 0
  /-- f_meas, Hz. R120 -/
  fMeas : Rat := 0
  /-- rocof, Hz/s. R120 -/
  rocof : Rat := 0
  /-- rocof beyond ROCOF_WARN. R121 -/
  rocofHigh : Bool := false
  /-- δ of the last step, turns. R120 -/
  delta : Option Rat := none
  /-- PJ_LAST, turns. R151 -/
  pjLast : Rat := 0
  /-- Realignment: turns not yet applied, turns per second, tick of its end. R124 -/
  realign : Option (Rat × Rat × Nat) := none
  /-- w held from the origin step. R125 -/
  held : Option Rat := none
  /-- Consecutive violations of envelopes 0 to 3. R140 -/
  envRun : Vector Nat 4 := Vector.replicate 4 0
  /-- dx. R127 -/
  dx : Rat := 0
  /-- LIMIT_ACTIVE. R128 -/
  limitActive : Bool := false
  /-- i_d was reduced on the step before. R146 -/
  idReduced : Bool := false
  /-- RECOVERING: p_start and the tick it began. R146 -/
  recovering : Option (Rat × Nat) := none
  /-- i_d and i_q after R128, signed. R151 -/
  idLim : Rat := 0
  iqLim : Rat := 0
  deriving DecidableEq, Repr

/-- W1C bits of Tables 3.11, 4.11 and 5.9. -/
structure LawFlags where
  /-- HARM_SKIPPED. R119 -/
  harmSkipped : Bool := false
  /-- NO_CAPACITY. R119 -/
  noCapacity : Bool := false
  /-- SHARE_CLAMPED. R119 -/
  shareClamped : Bool := false
  /-- OVERMOD. R119 -/
  overmod : Bool := false
  /-- ENV_EXIT, 4 bits. R151 -/
  envExit : Nat := 0
  /-- REPEAT_TRIP. R151 -/
  repeatTrip : Bool := false
  /-- VINST_TRIP. R151 -/
  vinstTrip : Bool := false
  /-- PHASE_JUMP. R151 -/
  phaseJump : Bool := false
  /-- ROCOF_HIGH. R151 -/
  rocofHigh : Bool := false
  /-- CAPACITY_SHORT. R176 -/
  capacityShort : Bool := false
  /-- SAT. R155 -/
  sat : Bool := false
  /-- ACC_WRAP. R154 -/
  accWrap : Bool := false
  deriving DecidableEq, Repr

/-- The engine's step of one port (05_control_engine.md). -/
structure PortStep where
  /-- LATE_RUN, 0 to 3. R170 -/
  lateRun : Nat := 0
  /-- PLAUS_RUN, 0 to 64. R172 -/
  plausRun : Nat := 0
  /-- SPEC_TIGHT. R175 -/
  tight : Bool := false
  /-- COLD. R167 -/
  cold : Bool := false
  /-- MISS_LOOPS. R165 -/
  missLoops : Nat := 0
  /-- IMPLAUS_TRIP, LATE_TRIP, SPEC_LATE, W1C. R176 -/
  implausTrip : Bool := false
  lateTrip : Bool := false
  specLate : Bool := false
  /-- SPEC_COMMITS, RECOMPUTES, LATE_STEPS, IMPLAUSIBLE, 32 bits each. R176 -/
  counters : Vector Nat 4 := Vector.replicate 4 0
  /-- integ[x]. R93 -/
  integ : Vector Rat 3 := Vector.replicate 3 0
  /-- Prediction of m_k: i_hat, v_hat, v_dc_hat. R163 -/
  pred : Option (Vector Rat 3 × Vector Rat 3 × Rat) := none
  /-- The speculative run is complete: its duties, OVERMOD, ei, vc. R165 -/
  spec : Option (Vector Nat 4 × Bool × Vector Rat 3 × Vector Rat 3) := none
  /-- What the speculative run stored as Q15. R155 -/
  specStores : List Rat := []
  /-- B_k of the step has come. R162 -/
  passed : Bool := false
  /-- Work of the step that was not started. R160 -/
  dropped : Bool := false
  /-- High times of the legs that the prediction took up, delay-line steps. R163 -/
  usedHigh : Vector Nat 4 := Vector.replicate 4 0
  /-- A leg has rejoined since m_k arrived: the next step is cold. R167 -/
  rejoined : Bool := false
  /-- Duties, ei, vc of the last speculative run, for the trace. R179 -/
  lastSpec : Vector Nat 4 × Vector Rat 3 × Vector Rat 3 := (Vector.replicate 4 0, Vector.replicate 3 0, Vector.replicate 3 0)
  /-- i_hat and v_dc_hat of the last prediction, for the trace. R178 -/
  lastPred : Vector Rat 3 × Rat := (Vector.replicate 3 0, 0)
  /-- m_k has arrived and every loop was inside. R165 -/
  inside : Bool := false
  /-- A recompute of m_k is queued. R165 -/
  recompute : Bool := false
  /-- m_k has arrived. R165 -/
  arrived : Bool := false
  /-- The step has committed. R165 -/
  committed : Bool := false
  /-- The last commit came from a recompute. R177 -/
  recomp : Bool := false
  /-- The last step was late. R177 -/
  held : Bool := false
  /-- Committed duties. R165 -/
  duty : Vector Nat 4 := Vector.replicate 4 0
  /-- Applied duties of the last period, as the Shoal reports them. R163 -/
  applied : Vector Rat 4 := Vector.replicate 4 0
  /-- v_ff[x] and its quadrature, per unit of V_FS. R93 -/
  vff : Vector Rat 3 := Vector.replicate 3 0
  vff90 : Vector Rat 3 := Vector.replicate 3 0
  /-- ei[x] of the last commit. R166 -/
  ei : Vector Rat 3 := Vector.replicate 3 0
  /-- A leg sample above I_OC_TRIP: leg and Q15 sample. R133 -/
  oc : Option (Nat × Int) := none
  deriving DecidableEq, Repr

/-- The engine of one Headland: demand bookkeeping of Table 5.9. -/
structure Engine where
  /-- ENGINE_RUN. R176 -/
  run : Bool := false
  /-- Lane-cycles spent, with their ticks, newest first. R176 -/
  work : List (Nat × Nat) := []
  /-- PEAK_DEMAND since the last snapshot. R176 -/
  peak : Nat := 0
  /-- Lane-cycles that the bus step leaves to port work. R160 -/
  room : Nat := 0
  /-- The piece of port work that runs: its port, whether a recompute, the tick of its end. R160 -/
  running : Option (Fin 12 × Bool × Nat) := none
  deriving DecidableEq, Repr

/-! ### Trace buffers -/

inductive TraceState | idle | armed | triggered | done
  deriving DecidableEq, Repr

structure Trace where
  /-- PACE, PACE_PORT, DIV, PRE, TRIG, TRIG_ARG. R179 -/
  pace : Nat := 0
  pacePort : Nat := 0
  div : Nat := 1
  pre : Nat := 0
  trig : Nat := 0
  trigArg : Nat := 0
  /-- Selectors of channels 0 to 15. R178 -/
  sel : List Nat := List.replicate 16 0
  /-- TRACE_STATE. R182 -/
  state : TraceState := .idle
  /-- Words held, oldest first, one per channel. R177 -/
  words : List (List Nat) := []
  /-- Pacing steps since configuration, 32 bits. R177 -/
  steps : Nat := 0
  /-- TRIG_STEP, 32 bits. R182 -/
  trigStep : Nat := 0
  /-- The trigger has occurred and its word is the next recorded. R181 -/
  fire : Bool := false
  /-- The source of TRIG has occurred since PRE words were held. R181 -/
  hit : Bool := false
  deriving DecidableEq, Repr

/-! ### Battery ports (09_battery_ports.md) -/

/-- Table 9.1. -/
inductive Life
  | empty | plugged | checking | waiting | precharging | charged | admitted | releasing | discharging | released | faulted
  deriving DecidableEq, Repr

def Life.code : Life → Nat
  | .empty => 0 | .plugged => 1 | .checking => 2 | .waiting => 3 | .precharging => 4 | .charged => 5 | .admitted => 6
  | .releasing => 7 | .discharging => 8 | .released => 9 | .faulted => 10

/-- Port trips and latches that a CLEAR_TRIP clears (Table 19.6). -/
inductive Trip
  | host | legRepeat | doubleFault | hizSecond | downlink | uplink | gridLoss | gridFault | oc | dcOv | dcUv | bmsOver
  | late | implausible | contactor | pack | permit | limit | slip | shoalEcc | regionHold | clockStop | module | lateTakeover
  deriving DecidableEq, Repr

/-- One entry of a BMS map (Table 9.3). -/
structure MapEntry where
  signal : Nat
  flags : Nat
  start : Nat
  length : Nat
  timeout : Nat
  id : Nat
  scale : Int
  offset : Int
  deriving DecidableEq, Repr

/-- A stored BMS signal. -/
structure Signal where
  /-- val of R292. R292 -/
  val : Option Int := none
  /-- Fresh. R292 -/
  fresh : Bool := false
  /-- Ticks of the last stored update, and of its going stale. R292, R302 -/
  storedAt : Nat := 0
  staleAt : Nat := 0
  deriving DecidableEq, Repr

/-- Life cycle of one port. -/
structure PortLife where
  /-- PORT_STATE. R286 -/
  life : Life := .empty
  /-- FAULT_CAUSE. R302 -/
  cause : Nat := 0
  /-- ADMIT_PENDING. R295 -/
  admitPending : Bool := false
  /-- TESTS_VALID. R287 -/
  testsValid : Bool := false
  /-- Class last reported by Lookout: 0 OPEN, 1 CLOSED, 2 FAULT. R520 -/
  loop : Nat := 0
  /-- Tick since which the firmware has that class. R289 -/
  loopAt : Nat := 0
  /-- Tick of the entry into DISCHARGING. R299 -/
  dischargeAt : Nat := 0
  /-- LATCH_REQ. R300 -/
  latch : Bool := false
  /-- CK0 and CK1 as last sent. R294 -/
  ck0 : Bool := false
  ck1 : Bool := false
  /-- BTN_SEEN, W1C. R307 -/
  btnSeen : Bool := false
  /-- BMS_RANGE, W1C. R292 -/
  bmsRange : Bool := false
  /-- Tick at which the button was pressed. R297 -/
  btnAt : Option Nat := none
  /-- Signals 0x00 to 0x07. R292 -/
  signals : Vector Signal 8 := Vector.replicate 8 {}
  /-- PACK_ID_LO, PACK_ID_HI at entry into CHECKING. R302 -/
  packId : Int × Int := (0, 0)
  /-- k_rel. R299 -/
  kRel : Rat := 1
  /-- Step 2 of R299: the gates have been disabled. R299 -/
  gatesDone : Bool := false
  /-- Tick at which FB0 first read closed in PRECHARGING. R294 -/
  fb0At : Option Nat := none
  /-- An at-zero fault that waits for the current: its cause and tick. R302 -/
  atZero : Option (Nat × Nat) := none
  /-- Tick of RELEASE_REFUSED, for the pattern of Table 9.9. R301 -/
  refusedAt : Option Nat := none
  /-- Trips that stand. R563 -/
  trips : List Trip := []
  /-- Off-state tests are required before current (R172, R229). R304 -/
  retest : Bool := false
  /-- Gate enable as the firmware commands it. R296 -/
  gateEn : Bool := false
  /-- A release request waits for the next bus step. R297 -/
  relReq : Bool := false
  /-- LATCH returns to 1 at the next bus step. R300 -/
  relatch : Bool := false
  deriving DecidableEq, Repr

/-! ### Leg pulse generation (06_leg_pulse_generation.md) -/

/-- An edge that a generator will make (R184, R190, R199). -/
inductive LegPhase
  | low | riseDelay | high | fallDelay | refreshFall | refreshLow | refreshRise
  deriving DecidableEq, Repr

/-- The pulse generator of one leg. -/
structure Gen where
  /-- Active duty, 17 bits. R184 -/
  duty : Nat := 0
  /-- Carry, signed, delay-line steps. R198 -/
  carry : Int := 0
  /-- t_on, t_off and w_app of the running period, delay-line steps. R189 -/
  tOn : Nat := 0
  tOff : Nat := 0
  wApp : Nat := 0
  /-- Rising and falling edges of the period not yet fired. R189 -/
  risePending : Bool := false
  fallPending : Bool := false
  /-- Where the leg is in its pattern. R190 -/
  phase : LegPhase := .low
  /-- Gate outputs. R190 -/
  h : Bool := false
  l : Bool := false
  /-- Times of the last turn-on and turn-off of H, delay-line steps since power-up. R199, R204, R588 -/
  hOnAt : Nat := 0
  hOffAt : Nat := 0
  /-- Time of the last turn-on of L, made or held off, delay-line steps since power-up. R199, R588 -/
  lOnAt : Nat := 0
  /-- Time from which the delay in progress counts, delay-line steps since power-up. R190, R588 -/
  delayFrom : Nat := 0
  /-- High time cut off in the period, delay-line steps. R163 -/
  cut : Nat := 0
  /-- A refresh is deferred to the boundary. R200 -/
  deferred : Bool := false
  /-- Gate-off demand of a leg in high impedance. R201 -/
  hiz : Bool := false
  /-- The Skerry has reported the leg released. R201 -/
  hizEnding : Bool := false
  /-- Both gates were held off in the period. R163 -/
  offInPeriod : Bool := false
  deriving DecidableEq, Repr

/-- Pulse generation of one port at its Shoal. -/
structure Pwm where
  /-- The four generators. R184 -/
  legs : Vector Gen 4 := Vector.replicate 4 {}
  /-- Shadow duties, with the tag of their entry. R186 -/
  shadow : Option (Vector Nat 4) := none
  /-- COUNT, 16 bits. R184 -/
  count : Nat := 0
  /-- Ticks since COUNT last advanced. R184 -/
  sub : Nat := 0
  /-- PERIOD_IDX, 8 bits. R207 -/
  idx : Nat := 0
  /-- EMPTY. R207 -/
  empty : Bool := true
  /-- GATES_EN. R207 -/
  gatesEn : Bool := false
  /-- Gate enable as last received. R203 -/
  wantEn : Bool := false
  /-- The port's bits of the last frame: what the downlink frames pass on. R211 -/
  lines : CmdPort := {}
  /-- HELD. R207 -/
  held : Bool := false
  /-- SAFE. R207 -/
  safe : Bool := false
  /-- The safe state is "low sides on". R37 -/
  safeLow : Bool := false
  /-- TRIP_FORCE. R207 -/
  trip : Bool := false
  /-- The safe state ends at the next boundary. R389 -/
  safeEnding : Bool := false
  /-- DT_STRETCH, DUTY_RANGE, STALE_DUTY, SHORT_PERIOD, BS_REFRESH, MIN_DROP, W1C. R207 -/
  dtStretch : Bool := false
  dutyRange : Bool := false
  staleDuty : Bool := false
  shortPeriod : Bool := false
  bsRefresh : Bool := false
  minDrop : Bool := false
  /-- T_PRED, 24 bits. R189 -/
  tPred : Nat := 0
  /-- PULSE_DROPS, BS_REFRESHES, HELD_PERIODS, STALE_DUTIES, 32 bits each. R207 -/
  counters : Vector Nat 4 := Vector.replicate 4 0
  /-- What the carrier phase has still to advance, in units of 2^-32 turn, while the block of R193 stands. R193 -/
  block : Option Nat := none
  /-- Tick of the last boundary. R184 -/
  boundaryAt : Nat := 0
  /-- High time of the last period over its length, by leg. R163 -/
  applied : Vector Rat 4 := Vector.replicate 4 0
  /-- Legs held off during the last period. R163 -/
  appliedOff : Vector Bool 4 := Vector.replicate 4 true
  /-- Parameters in force since the last boundary: MIN_PULSE, BS_ON_T, BS_PULSE_T, d_r and d_f by class, VS_CARRY. R205 -/
  minPulse : Nat := 5120
  bsOnT : Nat := 40000
  bsPulseT : Nat := 25600
  dRise : Nat × Nat := (7680, 7680)
  dFall : Nat × Nat := (7680, 7680)
  vsCarry : Bool := true
  deriving DecidableEq, Repr

end Sys2Proof.Machine
end

