-- ==== Sys2Proof/Machine/Gen.lean ====
section
/-! DEFINITION. The pulse generators of one port (06_leg_pulse_generation.md): edges of a period, delays, minimum pulse and
carry, bootstrap refresh, gate-off demands, region safe state. Times are delay-line steps of tck / 64 (R17), since power-up or, where said,
from the boundary; now is a tick. -/
namespace Sys2Proof.Machine

/-- Effective rising delay of leg k (R191). -/
def Pwm.dr (p : Pwm) (k : Leg) : Nat := max 2048 (if k.val < 3 then p.dRise.1 else p.dRise.2)
/-- Effective falling delay of leg k (R191). -/
def Pwm.df (p : Pwm) (k : Leg) : Nat := max 2048 (if k.val < 3 then p.dFall.1 else p.dFall.2)

/-- A demand for both gates of a leg to be off (Table 6.5, R10). -/
def Pwm.offBoth (p : Pwm) (g : Gen) : Bool :=
  p.trip || g.hiz || !p.gatesEn || p.empty || (p.safe && !p.safeLow)
/-- A demand for H to be off: the safe state is one by itself (R204). -/
def Pwm.offHigh (p : Pwm) (g : Gen) : Bool := p.offBoth g || p.safe

/-- Outputs masked by the demands that stand, the tick of an H turn-off kept (R202, R204). -/
def Pwm.mask (p : Pwm) (now : Nat) (g : Gen) : Gen :=
  let h := g.h && !p.offHigh g
  { g with h := h, l := g.l && !p.offBoth g, hOffAt := if g.h && !h then now * 64 else g.hOffAt,
           offInPeriod := g.offInPeriod || p.offBoth g }

def Pwm.maskAll (p : Pwm) (now : Nat) : Pwm := { p with legs := p.legs.map (p.mask now) }

/-- The predicted period of R189, in delay-line steps. -/
def predictedPeriod (carrierN inc : Nat) : Nat := 2 ^ 54 / (carrierN * inc)

/-- The minimum-pulse rule of R197: the high time applied to a wanted w. -/
def minimumPulse (minPulse dr df w t : Nat) : Nat :=
  if 0 < w ∧ w < minPulse + dr then 0
  else if w < t ∧ (t - w) / 2 < minPulse + df then t
  else w

/-- The high time commanded by a duty (R189), before the carry. -/
def commandedHigh (duty t : Nat) : Nat := (duty * t + 2 ^ 15) / 2 ^ 16

/-- The high time wanted: command and carry, within the period (R189). -/
def wantedHigh (duty t : Nat) (carry : Int) : Nat :=
  let w := (commandedHigh duty t : Int) + carry
  if w < 0 then 0 else if (t : Int) < w then t else w.toNat

/-- The carry is cleared for this leg (R198). -/
def Pwm.noCarry (p : Pwm) (g : Gen) : Bool := !p.gatesEn || p.trip || g.hiz || p.empty || !p.vsCarry

/-- Turn H off at a time. -/
def Gen.hOff (g : Gen) (at_ : Nat) : Gen := { g with h := false, hOffAt := if g.h then at_ else g.hOffAt }
/-- L is on from a time. -/
def Gen.lOn (g : Gen) (at_ : Nat) : Gen := { g with l := true, lOnAt := if g.l then g.lOnAt else at_ }

/-- Where a leg stands as a new period begins with S low (R190, R192). -/
def Gen.enterLow (g : Gen) (at_ : Nat) : Gen :=
  match g.phase with
  | .high => { g.hOff at_ with phase := .fallDelay, delayFrom := at_ }
  | .riseDelay | .refreshRise => { g.lOn at_ with phase := .low }
  | .refreshFall => { g with phase := .fallDelay }
  | .refreshLow | .low => { g.lOn at_ with phase := .low }
  | .fallDelay => g

/-- Where a leg stands as a new period begins with S high throughout (R190, R192). -/
def Gen.enterHigh (g : Gen) (at_ : Nat) : Gen :=
  match g.phase with
  | .low | .fallDelay => { g with phase := .riseDelay, l := false, delayFrom := at_ }
  | _ => g

/-- A deferred refresh at the boundary (R200): H turns off; the refresh goes on where S stays high. -/
def Gen.deferredRefresh (g : Gen) (at_ : Nat) (full : Bool) : Gen :=
  { g.hOff at_ with phase := if full then .refreshFall else .fallDelay, delayFrom := at_, deferred := false }

/-- An edge time as the delay line makes it: tap 0 while the MDLL is not locked (R195). -/
def edgeTime (fine : Bool) (t : Nat) : Nat := if fine then t else t / 64 * 64

/-- One leg at a carrier boundary (R189, R192, R195, R197, R198). -/
def Pwm.legBoundary (p : Pwm) (now t : Nat) (fine : Bool) (k : Leg) (g0 : Gen) : Gen :=
  let g := { g0 with hiz := g0.hiz && !g0.hizEnding, hizEnding := false }
  if p.safe then
    let c := if p.noCarry g then 0 else g.carry
    p.mask now { g with risePending := false, fallPending := false, offInPeriod := p.offBoth g, cut := 0, carry := c }
  else if !p.gatesEn then
    { g.hOff (now * 64) with
      l := false, carry := 0, risePending := false, fallPending := false, phase := .low, deferred := false, offInPeriod := true
      cut := 0, wApp := 0 }
  else
    let carry := if p.noCarry g then 0 else g.carry
    let w := wantedHigh g.duty t carry
    let wApp := minimumPulse p.minPulse (p.dr k) (p.df k) w t
    let tOn := (t - wApp) / 2
    let full := decide (wApp = t)
    let g1 := { g with wApp := wApp, tOn := edgeTime fine tOn, tOff := edgeTime fine (tOn + wApp), cut := 0,
                       risePending := decide (0 < wApp) && !full, fallPending := decide (0 < wApp) && !full,
                       carry := if p.noCarry g then 0 else (w : Int) - wApp }
    let g2 := if g1.deferred && decide (g1.phase = .high) then g1.deferredRefresh (now * 64) full
              else if full then { g1.enterHigh (now * 64) with deferred := false } else { g1.enterLow (now * 64) with deferred := false }
    p.mask now { g2 with offInPeriod := p.offBoth g2 }

/-- The high time of a leg in a period of len (R163): w_app, less what an early boundary or a refresh cut off. -/
def Gen.appliedHigh (g : Gen) (len : Nat) (safe : Bool) : Nat :=
  if safe then 0 else g.wApp - g.cut - if g.fallPending && decide (len < g.tOff) then g.tOff - max len g.tOn else 0

/-- The share of the last period in which a leg was high (R163). [DEDUCED, unsafe: log 58] -/
def Gen.appliedDuty (g : Gen) (len : Nat) (safe : Bool) : Rat :=
  if len = 0 then 0 else (min (g.appliedHigh len safe) len : Nat) / (len : Nat)

/-- A port at a recognised boundary: gate enable and disable, transfer, new period (R186 to R192, R195, R203). [DEDUCED, unsafe: log 77] -/
def Pwm.boundary (p : Pwm) (now inc carrierN : Nat) (fine : Bool) : Pwm :=
  let len := (now - p.boundaryAt) * 64
  let applied := p.legs.map fun g => g.appliedDuty len p.safe
  let appliedOff := p.legs.map (·.offInPeriod)
  let short := p.gatesEn && p.legs.toList.any fun g => g.risePending || g.fallPending
  let enabling := p.wantEn && (!p.gatesEn || p.trip) && !p.safeEnding
  let p1 : Pwm :=
    { p with
      safe := p.safe && !p.safeEnding, safeLow := p.safeLow && !p.safeEnding, safeEnding := false
      gatesEn := p.wantEn && !p.safeEnding
      trip := p.trip && !enabling
      empty := p.empty || enabling || p.safeEnding
      applied := applied, appliedOff := appliedOff, idx := (p.idx + 1) % 256, count := 0, sub := 0
      boundaryAt := now, block := some (2 ^ 31), shortPeriod := p.shortPeriod || short }
  let p2 : Pwm :=
    match p1.shadow with
    | some d =>
      { p1 with legs := Vector.ofFn fun k => { p1.legs[k] with duty := min d[k] 0x10000 }, empty := false, held := false, shadow := none }
    | none =>
      if p1.gatesEn && !p1.empty && !p1.trip && !p1.safe then
        { p1 with held := true, counters := vset p1.counters 2 (satInc 32 p1.counters[2]) }
      else { p1 with held := false }
  let t := predictedPeriod carrierN inc
  let refreshed : Vector Bool 4 := p2.legs.map fun g => g.deferred && decide (g.phase = .high)
  let legs : Vector Gen 4 := Vector.ofFn fun k => p2.legBoundary now t fine k p2.legs[k]
  let drops := (List.finRange 4).countP fun (k : Fin 4) =>
    p2.gatesEn && !p2.safe && legs[k].wApp != wantedHigh legs[k].duty t (if p2.noCarry p2.legs[k] then 0 else p2.legs[k].carry)
  let fresh := (List.finRange 4).countP fun (k : Fin 4) => refreshed[k] && decide (legs[k].phase = LegPhase.refreshFall)
  { p2 with
    legs := legs, tPred := t, minDrop := p2.minDrop || decide (0 < drops), bsRefresh := p2.bsRefresh || decide (0 < fresh)
    counters := #v[satAdd 32 p2.counters[0] drops, satAdd 32 p2.counters[1] fresh, p2.counters[2], p2.counters[3]] }

/-- COUNT and the ticks below it have come to an edge time (R184); the fine bits are the delay line's. -/
def Pwm.counted (p : Pwm) (ps t : Nat) : Bool := decide (p.count = t / 64 / 2 ^ ps ∧ p.sub = t / 64 % 2 ^ ps)

/-- An edge of the period, where COUNT has come to it: one gate turns off (R184, R189, R190). -/
def Pwm.edge (p : Pwm) (ps : Nat) (k : Leg) (rise : Bool) : Pwm :=
  let g := p.legs[k]
  if rise then
    if g.risePending && p.counted ps g.tOn then
      let g1 := { g with risePending := false }
      { p with legs := vset p.legs k (if g.phase = .low ∨ g.phase = .fallDelay then
          { g1 with phase := .riseDelay, l := false, delayFrom := p.boundaryAt * 64 + g.tOn } else g1) }
    else p
  else if g.fallPending && !g.risePending && p.counted ps g.tOff then
    let t := p.boundaryAt * 64 + g.tOff
    let g1 := { g with fallPending := false }
    let g2 := match g.phase with
      | .high => { g1.hOff t with phase := .fallDelay, delayFrom := t }
      | .riseDelay | .refreshRise => { g1 with phase := .fallDelay, delayFrom := t }
      | .refreshFall => { g1 with phase := .fallDelay }
      | .refreshLow => { g1 with phase := .low }
      | .low | .fallDelay => g1
    { p with legs := vset p.legs k g2 }
  else p

/-- A delay of a leg that has ended by a tick turns the other gate on, unless a demand holds it off (R190, R202, R588). -/
def Pwm.turnOn (p : Pwm) (now : Nat) (fine : Bool) (k : Leg) (high : Bool) : Pwm :=
  let g := p.legs[k]
  let due := edgeTime fine (g.delayFrom + if high then p.dr k else p.df k)
  if now < due / 64 then p
  else
    let low := { g with l := !p.offBoth g, lOnAt := due }
    let g2 := if high then
        if g.phase = .riseDelay ∨ g.phase = .refreshRise then
          let on := !p.offHigh g
          { g with phase := .high, h := on, hOnAt := if on then due else g.hOnAt }
        else g
      else if g.phase = .fallDelay then { low with phase := .low }
      else if g.phase = .refreshFall then { low with phase := .refreshLow }
      else g
    { p with legs := vset p.legs k g2 }

/-- The time w_r that a refresh occupies (R200). -/
def Pwm.refreshTime (p : Pwm) (k : Leg) : Nat := p.df k + p.bsPulseT + p.dr k + p.minPulse

/-- H has been on for BS_ON_T since its last turn-on (R199, R200): a refresh, on a whole tick. -/
def Pwm.refresh (p : Pwm) (now : Nat) (k : Leg) : Pwm :=
  let g := p.legs[k]
  if !(g.h && decide (g.phase = .high) && decide (g.hOnAt + p.bsOnT * 64 ≤ now * 64)) then p
  else
    let at_ := (now - p.boundaryAt) * 64
    if g.fallPending && decide (at_ ≤ g.tOff ∧ g.tOff ≤ at_ + p.refreshTime k) then p
    else if p.tPred ≤ at_ + p.refreshTime k then { p with legs := vset p.legs k { g with deferred := true } }
    else
      { p with
        legs := vset p.legs k { g.hOff (now * 64) with
          phase := .refreshFall, delayFrom := now * 64, cut := g.cut + p.df k + p.bsPulseT + p.dr k }
        bsRefresh := true, counters := vset p.counters 1 (satInc 32 p.counters[1]) }

/-- BS_PULSE_T after its L turn-on, the refresh low pulse ends (R199, R588). -/
def Pwm.pulseEnd (p : Pwm) (now : Nat) (fine : Bool) (k : Leg) : Pwm :=
  let g := p.legs[k]
  let due := edgeTime fine (g.lOnAt + p.bsPulseT)
  if g.phase = .refreshLow ∧ due / 64 ≤ now then { p with legs := vset p.legs k { g with phase := .refreshRise, l := false, delayFrom := due } }
  else p

/-- A port trip reaches the generators (R202). [DEDUCED, unsafe: log 39] -/
def Pwm.tripNow (p : Pwm) (now : Nat) : Pwm :=
  let p1 : Pwm := { p with trip := true, empty := true, shadow := none, wantEn := false,
                           legs := p.legs.map fun g => { g with duty := 0, carry := 0 } }
  p1.maskAll now

/-- A leg in high impedance, as the Skerry reports it (Table 6.5). -/
def Pwm.legHiz (p : Pwm) (now : Nat) (k : Leg) : Pwm :=
  let g := { p.legs[k] with hiz := true, hizEnding := false, carry := 0 }
  { p with legs := vset p.legs k (p.mask now g) }

/-- The region safe state applies to the port (R37, R204). A port already in safe state keeps its kind. -/
def Pwm.applySafe (p : Pwm) (now : Nat) (lowWanted contactorsOpen : Bool) : Pwm :=
  if p.safe then p
  else
    let p1 : Pwm := { p with safe := true, safeLow := lowWanted && contactorsOpen }
    let leg := fun (k : Leg) =>
      let g := { p1.legs[k] with risePending := false, fallPending := false, deferred := false }
      if p1.safeLow && !p1.offBoth g then
        let g1 := g.hOff (now * 64)
        if g.h then { g1 with phase := .fallDelay, l := false, delayFrom := now * 64 }
        else if g.l || decide (g.hOffAt + p1.df k ≤ now * 64) then { g1.lOn (now * 64) with phase := .low }
        else { g1 with phase := .fallDelay, delayFrom := g.hOffAt }
      else { g.hOff (now * 64) with l := false, offInPeriod := true }
    { p1 with legs := Vector.ofFn leg }

end Sys2Proof.Machine
end

