-- ==== Sys2Proof/Machine/Engine.lean ====
section
/-! DEFINITION. The control engine's arithmetic and one port's step (05_control_engine.md): stores, port current loops,
modulation, prediction, windows, commit, late and implausible steps. -/
namespace Sys2Proof.Machine

/-! ### Formats and stores (R153 to R157) -/

/-- An accumulator that takes up a sum (Table 5.1, R154): 40 bits, two's complement, in units of 2^-30. -/
def accOf (x : Rat) : Int := ofTwos 40 (toTwos 40 (x * 2 ^ 30).floor)
/-- The true result of the sum lies outside the accumulator (R154). -/
def accWraps (x : Rat) : Bool := decide (accOf x ≠ (x * 2 ^ 30).floor)
/-- The product of two Q15 operands in units of 2^-30 (Table 5.1, R152). -/
def q15Product (a b : Int) : Int := a * b
/-- The stores of R155 from an accumulator: Q15, Q31, raw. -/
def q15Store (a : Int) : Int := satS 16 ((a + 2 ^ 14) / 2 ^ 15)
def q31Store (a : Int) : Int := satS 32 (a * 2)
def rawStore (a : Int) : Nat := toTwos 64 a

/-- The Q15 code of a quantity at a full scale, as R155 stores it. -/
def q15Code (x : Rat) : Int := q15Store (accOf x)
/-- The value after a Q15 store (R155). -/
def q15 (x : Rat) : Rat := (q15Code x : Rat) / 32768
/-- The store clamps (R155). -/
def q15Sat (x : Rat) : Bool := decide (q15Code x ≠ (accOf x + 2 ^ 14) / 2 ^ 15)
/-- Q15 of 2 pu (Table 5.2). [DESIGN CHOICE, unsafe: log 19] -/
def q15m (x : Rat) : Rat := 2 * q15 (x / 2)
/-- Q31 of 2 pu (Table 5.2), and whether its store clamps. [DESIGN CHOICE, unsafe: log 19] -/
def q31m (x : Rat) : Rat := (q31Store (accOf (x / 2)) : Rat) / 2 ^ 30
def q31mSat (x : Rat) : Bool := decide (q31Store (accOf (x / 2)) ≠ accOf (x / 2) * 2)
/-- A weight: 1 is held as 32,767 (Table 5.2). -/
def q15w (x : Rat) : Rat := q15 x

/-- A power of two above x, from 2^-20 to 2^43; the engine normalises by it. -/
def powAbove (x : Rat) : Rat := (((List.range 64).find? fun k => decide (x < 2 ^ k / 2 ^ 20)).map fun k => (2 ^ k / 2 ^ 20 : Rat)).getD (2 ^ 43)
/-- A constant that converts between classes of Table 5.2 (R157): Q15, at a power of two. [DESIGN CHOICE, unsafe: log 19] -/
def convK (x : Rat) : Rat := let m := powAbove (ratAbs x); m * q15 (x / m)

/-! ### Units (R152, R156) -/

/-- A unit's Q15 result within 1 LSB of y codes: its own choice where that lies within tol of y, else the nearest. -/
def nearCode (y tol : Rat) (pick : Int) : Int :=
  let n := y.floor + pick
  if ratAbs (n - y) ≤ tol then n else roundUpHalf y

/-- 2^48 sin of j 4,096ths of a turn, j at most 1,024: its power series to the fifteenth power and beyond, in 48 fractional bits. -/
def sinQuarter (j : Nat) : Int :=
  let a : Int := j * 1768559438007110 / 4096
  ((List.range 10).foldl (fun (x : Int × Int) n =>
    let t := -(x.2 * a / 2 ^ 48 * a / 2 ^ 48) / ((2 * n + 2) * (2 * n + 3) : Nat)
    (x.1 + t, t)) (a, a)).1
/-- Entry i of the 4,096-entry table (R156). -/
def sinTable (i : Nat) : Int :=
  let j := i % 4096
  if j ≤ 1024 then sinQuarter j else if j ≤ 2048 then sinQuarter (2048 - j)
  else if j ≤ 3072 then -sinQuarter (j - 2048) else -sinQuarter (4096 - j)
/-- The sine unit (R152, R156): the table by θ[31:20], linear between entries by θ[19:4], a Q15 result within 1 LSB. The interpolation
lies within 0.01 LSB of the sine. -/
def engSin (theta : Nat) : Rat :=
  let i := theta % 2 ^ 32 / 2 ^ 20
  let f : Int := (theta / 2 ^ 4 % 2 ^ 16 : Nat)
  let y : Rat := (sinTable i * 2 ^ 16 + (sinTable (i + 1) - sinTable i) * f : Int) / 2 ^ 49
  (satS 16 (nearCode y (99 / 100) (Config.sinPick (theta % 2 ^ 32 / 16))) : Rat) / 32768
def engCos (theta : Nat) : Rat := engSin (theta + 2 ^ 30)
/-- An angle in turns as u0.32. -/
def turns (x : Rat) : Nat := (x * 2 ^ 32).floor.emod (2 ^ 32) |>.toNat

/-- The square-root unit (R152): within 1 LSB of Q15 of the exact root. -/
def engSqrt (x : Rat) : Rat :=
  if x ≤ 0 then 0
  else
    let m := (x * 2 ^ 30).floor.toNat
    let r := Nat.sqrt m
    let exact := decide ((r * r : Nat) = x * 2 ^ 30)
    let pick := Config.sqrtPick x
    ((r : Int) + (if pick > 0 then 1 else if pick < 0 ∧ exact ∧ 0 < r then -1 else 0) : Rat) / 32768
/-- The reciprocal unit (R152) on x > 0: half the reciprocal of the normalised operand as a Q15 result within 1 LSB.
[DESIGN CHOICE, unsafe: log 19] -/
def engRecip (x : Rat) : Rat :=
  let m := powAbove x
  (satS 16 (nearCode (16384 * m / x) 1 (Config.recipPick x)) : Rat) / 16384 / m
/-- A root of a constant, to 2^-30. [DESIGN CHOICE, unsafe: log 21] -/
def constSqrt (x : Rat) : Rat := (Nat.sqrt (x * 2 ^ 60).floor.toNat : Rat) / 2 ^ 30

/-- The scaled parameters of one port's step. -/
structure PortPar where
  iFs : Rat
  vFs : Rat
  lF : Rat
  rF : Rat
  kpc : Rat
  kic : Rat
  winI : Rat
  winV : Rat
  winDc : Rat
  plausI : Rat
  plausSum : Rat
  plausDc : Rat
  plausK : Nat
  specEn : Bool
  deriving DecidableEq, Repr

/-- What a run of R93 and R94 yields; stores holds what it stored as Q15. -/
structure LoopOut where
  duty : Vector Nat 4
  overmod : Bool
  ei : Vector Rat 3
  integ : Vector Rat 3
  vc : Vector Rat 3
  stores : List Rat
  deriving DecidableEq, Repr

/-- The integrator of R93: clamped to a quarter. -/
def integrate (kic tc ei integ : Rat) : Rat := q15 (ratClamp (integ + kic * tc * ei) (-1 / 4) (1 / 4))

/-- A duty in its 17-bit format (Table 5.1). -/
def dutyCode (x : Rat) : Nat := min 0x10000 (satU 17 (roundUpHalf (x * 65536)))

def highOf (vc : Vector Rat 3) : Rat := ratMax (ratMax vc[0] vc[1]) (ratMax vc[2] 0)
def lowOf (vc : Vector Rat 3) : Rat := ratMin (ratMin vc[0] vc[1]) (ratMin vc[2] 0)

/-- The modulation stage (R94): duties, and vc as OVERMOD scales it. -/
def modulate (vc : Vector Rat 3) (vdc : Rat) : Vector Nat 4 × Bool × Vector Rat 3 :=
  let span := highOf vc - lowOf vc
  let clip := decide ((98 / 100) * vdc < span)
  let v : Vector Rat 3 := if clip then vc.map fun a => q15 (a * ((98 / 100) * vdc) * engRecip span) else vc
  let vn := -(highOf v + lowOf v) / 2
  let inv := engRecip vdc
  let d : Fin 4 → Nat := fun i => if h : i.val < 3 then dutyCode (1 / 2 + (v[i.val] + vn) * inv) else dutyCode (1 / 2 + vn * inv)
  (Vector.ofFn d, clip, v)

/-- The port current loops and the modulation stage (R93, R94); legs in high impedance by hiz (R134). -/
def portLoops (par : PortPar) (tc : Rat) (iref ip vff integ : Vector Rat 3) (vdc : Rat) (hiz : Vector Bool 4) : LoopOut :=
  let off : Fin 3 → Bool := fun x => hiz[x.val]
  let ei : Vector Rat 3 := Vector.ofFn fun x => q15 (iref[x] - ip[x])
  let integ1 : Vector Rat 3 := Vector.ofFn fun x => if off x then 0 else integrate par.kic tc ei[x] integ[x]
  let raw : Vector Rat 3 := Vector.ofFn fun x => if off x then 0 else vff[x] + par.kpc * ei[x] + integ1[x]
  let vc : Vector Rat 3 := raw.map q15
  let stores := raw.toList ++ (List.finRange 3).map fun x => iref[x] - ip[x]
  if vdc ≤ 0 then ⟨Vector.replicate 4 0x8000, true, ei, integ, vc, stores⟩
  else
    let o := modulate vc vdc
    ⟨o.1, o.2.1, ei, if o.2.1 then integ else integ1, o.2.2, stores⟩

/-- A voltage vector advanced by a fraction of a turn (R163); v90 lags v by 90°. -/
def rotateBy (v v90 turn : Rat) : Rat := v * engCos (turns turn) - v90 * engSin (turns turn)

/-- The prediction of m_k (R163) before it is stored: i_hat, v_hat. -/
def predictRaw (par : PortPar) (tc fv : Rat) (m : PortMeas) (vff vff90 : Vector Rat 3) (duty : Vector Rat 4)
    (hiz : Vector Bool 4) : Vector Rat 3 × Vector Rat 3 :=
  let kl := tc * par.vFs / (par.lF * par.iFs)
  let kr := par.rF * par.iFs / par.vFs
  let star := if hiz[3] then (duty[0] + duty[1] + duty[2]) / 3 else duty[3]
  let iHat : Vector Rat 3 := Vector.ofFn fun x =>
    let mid := rotateBy vff[x] vff90[x] (fv * tc / 2)
    m.ip[x.val] + kl * ((duty[x.val] - star) * m.vdc - mid - kr * m.ip[x.val])
  (iHat, Vector.ofFn fun x => rotateBy vff[x] vff90[x] (fv * tc))

/-- The prediction as stored: i_hat, v_hat, v_dc_hat. -/
def predictSamples (raw : Vector Rat 3 × Vector Rat 3) (vdc : Rat) : Vector Rat 3 × Vector Rat 3 × Rat := (raw.1.map q15, raw.2.map q15, vdc)

/-- Loops outside their windows, bit n for loop n (R164). -/
def missMask (par : PortPar) (m : PortMeas) (vff : Vector Rat 3) (pred : Vector Rat 3 × Vector Rat 3 × Rat) (hiz : Vector Bool 4) : Nat :=
  maskOf 4 fun n =>
    if h : n < 3 then
      !hiz[n] && !(decide (ratAbs (m.ip[n] - pred.1[n]) ≤ par.winI) && decide (ratAbs (vff[n] - pred.2.1[n]) ≤ par.winV))
    else decide (par.winDc < ratAbs (m.vdc - pred.2.2))

/-- The first failing check of Table 5.7: 0 to 2 phase, 3 leg sum, 4 DC (R171). -/
def implausible (par : PortPar) (m : PortMeas) (pred : Vector Rat 3 × Vector Rat 3 × Rat) (hiz : Vector Bool 4) : Option Nat :=
  let leg : Fin 4 → Rat := fun k => if hiz[k] then 0 else m.ip[k]
  if !hiz[0] && decide (par.plausI < ratAbs (m.ip[0] - pred.1[0])) then some 0
  else if !hiz[1] && decide (par.plausI < ratAbs (m.ip[1] - pred.1[1])) then some 1
  else if !hiz[2] && decide (par.plausI < ratAbs (m.ip[2] - pred.1[2])) then some 2
  else if par.plausSum < ratAbs (leg 0 + leg 1 + leg 2 + leg 3) then some 3
  else if par.plausDc < ratAbs (m.vdc - pred.2.2) then some 4
  else none

/-- A gate enable: LATE_RUN and PLAUS_RUN 0, the first step cold (R167, R170, R172). [DESIGN CHOICE, unsafe: log 115] -/
def PortStep.enable (s : PortStep) : PortStep :=
  { s with lateRun := 0, plausRun := 0, cold := true, pred := none, spec := none, inside := false, recompute := false,
           arrived := false, rejoined := false, committed := false, passed := false, dropped := false, integ := Vector.replicate 3 0 }

/-- The next step begins: its prediction, or cold where none is formed (R163, R167), on high times used. -/
def PortStep.next (s : PortStep) (pred : Option (Vector Rat 3 × Vector Rat 3 × Rat)) (used : Vector Nat 4) : PortStep :=
  { s with pred := pred, cold := pred.isNone, spec := none, inside := false, recompute := false, arrived := false, rejoined := false,
           passed := false, dropped := false, usedHigh := used,
           lastPred := match pred with
             | some q => (q.1, q.2.2)
             | none => s.lastPred }

/-- The prediction of the step that waits for m_k is replaced, its speculative run with it (R163, R165). -/
def PortStep.reform (s : PortStep) (pred : Option (Vector Rat 3 × Vector Rat 3 × Rat)) (used : Vector Nat 4) : PortStep :=
  { s with pred := pred, cold := pred.isNone, spec := none, dropped := false, usedHigh := used,
           lastPred := match pred with
             | some q => (q.1, q.2.2)
             | none => s.lastPred }

/-- A leg rejoins: the step whose samples have not arrived is cold, else the next one (R134, R167). -/
def PortStep.rejoin (s : PortStep) : PortStep :=
  if s.arrived then { s with rejoined := true } else { s with cold := true, pred := none, spec := none, inside := false, recompute := false }

/-- The commit of a speculative step: its duties, integrators from measured values (R166). -/
def PortStep.commitSpec (s : PortStep) (par : PortPar) (tc : Rat) (iref : Vector Rat 3) (m : PortMeas) (hiz : Vector Bool 4) : PortStep :=
  match s.spec with
  | none => s
  | some (duty, clip, _, _) =>
    let ei : Vector Rat 3 := Vector.ofFn fun x => q15 (iref[x] - m.ip[x.val])
    { s with
      duty := duty, ei := ei
      integ := Vector.ofFn fun x =>
        if hiz[x.val] then 0 else if clip then s.integ[x] else integrate par.kic tc ei[x] s.integ[x]
      counters := vset s.counters 0 (satInc 32 s.counters[0])
      lateRun := 0, committed := true, recomp := false, held := false }

/-- The commit of a recompute or cold step (R165, R167). -/
def PortStep.commitRecompute (s : PortStep) (o : LoopOut) : PortStep :=
  { s with duty := o.duty, ei := o.ei, integ := o.integ, counters := vset s.counters 1 (satInc 32 s.counters[1]),
           lateRun := 0, committed := true, recomp := true, held := false, recompute := false }

/-- A late step (R170); the caller trips the port where LATE_RUN reaches 3. -/
def PortStep.late (s : PortStep) : PortStep :=
  { s with lateRun := min 3 (s.lateRun + 1), specLate := true, counters := vset s.counters 2 (satInc 32 s.counters[2]),
           held := true, recomp := false, lateTrip := s.lateTrip || decide (3 ≤ s.lateRun + 1) }

/-- The plausibility verdict of an arrival (R171, R172). -/
def PortStep.judge (s : PortStep) (bad : Bool) : PortStep :=
  if bad then { s with plausRun := min 64 (s.plausRun + 1), counters := vset s.counters 3 (satInc 32 s.counters[3]) }
  else { s with plausRun := 0 }

/-- Lane-cycles spent at a tick; the list keeps 100 ms (Table 5.3, R176). -/
def Engine.spend (e : Engine) (now cycles : Nat) : Engine :=
  let work := (now, cycles) :: e.work.filter fun x => decide (now < x.1 + 40000000)
  let ms := ((work.filter fun x => decide (now < x.1 + 400000)).map (·.2)).sum
  { e with work := work, room := e.room - cycles, peak := max e.peak (min 255 (ms * 100 / 6400000)) }

/-- The port's piece of work that runs is abandoned. -/
def Engine.stop (e : Engine) (p : Nat) : Engine := { e with running := e.running.filter fun x => decide (x.1.val ≠ p) }

/-- AVG_DEMAND in % of capacity (R176). -/
def Engine.average (e : Engine) (now : Nat) : Nat :=
  min 255 (((e.work.filter fun x => decide (now < x.1 + 40000000)).map (·.2)).sum * 100 / 640000000)

end Sys2Proof.Machine
end

