-- ==== Sys2Proof/Machine/TypesField.lean ====
section
/-! DEFINITION. State of Shore, Lookout, Heartwood, the clock loops and the check-value units (17_field_io_panel_and_sentinel.md,
18_clocks_supply_and_check_units.md). Each field names the rule that gives it; a default is the value at reset. -/
namespace Sys2Proof.Machine

/-- One Shore input. -/
structure ShoreIn where
  /-- INPUTS: the filtered level. R526 -/
  level : Bool := false
  /-- The level as last reported while valid. R506 -/
  seen : Bool := false
  /-- Tick of the last change of the filtered level. R505 -/
  changedAt : Nat := 0
  deriving DecidableEq, Repr

/-- One Shore output. -/
structure ShoreOut where
  /-- OUT_DEMAND as the field side last received it. R526 -/
  demand : Bool := false
  /-- Driven state. R509 -/
  driven : Bool := false
  /-- READBACK. R526 -/
  readback : Bool := false
  /-- STUCK_ON. R526 -/
  stuckOn : Bool := false
  /-- UNEXPECTED_HIGH. R526 -/
  unexpected : Bool := false
  /-- Suspect. R512 -/
  suspect : Bool := false
  /-- OVERLOAD, W1C. R526 -/
  overload : Bool := false
  /-- The overload latch. R510 -/
  overLatch : Bool := false
  /-- SAG_LATCHED. R526 -/
  sagLatched : Bool := false
  /-- TESTED. R526 -/
  tested : Bool := false
  /-- TEST_JOINT. R526 -/
  joint : Bool := false
  /-- Its own test has failed and its next pulse is a joint one. R512 -/
  jointNext : Bool := false
  /-- Tick of the last change of the driven state. R508 -/
  changedAt : Nat := 0
  /-- Tick until which a suspect waits for a pulse that explains it. R512 -/
  suspectUntil : Nat := 0
  deriving DecidableEq, Repr

structure Shore where
  /-- The field side is powered. R514 -/
  powered : Bool := false
  /-- The 16 inputs. R504 -/
  ins : Vector ShoreIn 16 := Vector.replicate 16 {}
  /-- The 16 outputs. R508 -/
  outs : Vector ShoreOut 16 := Vector.replicate 16 {}
  /-- Demands of the host and the tide actions at the token holder. R509 -/
  hostDemand : Vector Bool 16 := Vector.replicate 16 false
  /-- Sag latches that a FIELD_OUT has named since. R515 -/
  release : Vector Bool 16 := Vector.replicate 16 false
  /-- Outputs that a tide action has set since the last refresh frame. R64 -/
  tideSet : Vector Bool 16 := Vector.replicate 16 false
  /-- Crossing tick and entry of the last tide action on each output. R64 -/
  tideAt : Vector (Option (Nat × Nat)) 16 := Vector.replicate 16 none
  /-- A sag is on, since a tick. R514 -/
  sag : Bool := false
  sagAt : Nat := 0
  /-- HOST_SILENT. R526 -/
  hostSilent : Bool := false
  /-- SHORE_SILENT. R526 -/
  silent : Bool := true
  /-- Valid frames have run since power-up of either side. R517 -/
  ran : Bool := false
  /-- Valid frames from the Headland that the token line does not name, checked and counted. R33 -/
  otherFrames : Nat := 0
  /-- Tick of the last valid frame. R517 -/
  lastFrame : Nat := 0
  /-- A Shore silence is to be reported once replies resume. R517 -/
  toReport : Bool := false
  /-- SAG_SEEN, SILENCE_SEEN, TEST_ABANDONED, W1C. R526 -/
  sagSeen : Bool := false
  silenceSeen : Bool := false
  abandoned : Bool := false
  /-- VFIELD, 16 bits. R526 -/
  vfield : Nat := 0
  /-- COUNT_0 to COUNT_3. R526 -/
  counts : Vector Nat 4 := Vector.replicate 4 0
  /-- Tick of the last host request, for the host-silence timer. R518 -/
  hostAt : Nat := 0
  deriving DecidableEq, Repr

/-- FIELD_OK: the field side is powered and no sag is on (R514, R526). [DEDUCED, unsafe: log 80] -/
def Shore.ok (h : Shore) : Bool := h.powered && !h.sag

/-- A wake rule (R521). -/
structure WakeRule where
  source : Nat
  cond : Nat
  filter : Nat
  action : Nat
  deriving DecidableEq, Repr

/-- Table 17.4. -/
def defaultWakeRules : List WakeRule := [⟨0x0C, 0x01, 500, 0x01⟩, ⟨0x14, 0x10, 200, 0x01⟩]

structure Lookout where
  /-- WAKE_N_LOW. R527 -/
  wakeN : Bool := false
  /-- PADS. R527 -/
  pads : Vector Bool 4 := Vector.replicate 4 false
  /-- Tick of each pad's last touch. R519 -/
  padAt : Vector Nat 4 := Vector.replicate 4 0
  /-- LOOP_CLASS. R527 -/
  loops : Vector Nat 12 := Vector.replicate 12 0
  /-- Tick of a loop's last change of class in this STANDBY. R521 -/
  loopAt : Vector (Option Nat) 12 := Vector.replicate 12 none
  /-- LAST_WAKE. R527 -/
  lastWake : Nat := 0
  /-- The table in force. R521 -/
  rules : List WakeRule := defaultWakeRules
  /-- RULE_FIRED, W1C. R527 -/
  fired : Nat := 0
  /-- Rules that have fired and whose condition has not lapsed. R521 -/
  latched : Nat := 0
  /-- WAKES, 32 bits, MRAM. R527 -/
  wakes : Nat := 0
  /-- A WAKE firing waits for the power-up. R522 -/
  waking : Bool := false
  /-- NOTES, 32 bits. R527 -/
  notes : Nat := 0
  deriving DecidableEq, Repr

structure Heartwood where
  /-- GATE_DERATED. R551 -/
  derated : Bool := false
  /-- VSUP_LOW. R551 -/
  vsupLow : Bool := false
  /-- IIN_LIMIT. R551 -/
  iinLimit : Bool := false
  /-- BASE_HOT. R551 -/
  baseHot : Bool := false
  /-- LOCKOUT_SEEN, W1C. R551 -/
  lockoutSeen : Bool := false
  /-- The last lock-out stands: logic rails are off. R540 -/
  lockedOut : Bool := false
  /-- VSUP, 16 bits. R551 -/
  vsup : Nat := 0
  /-- IIN, 16 bits. R551 -/
  iin : Nat := 0
  /-- Tick at which the input current was last at its limit. R538 -/
  iinAt : Nat := 0
  /-- T_BASE, signed. R551 -/
  tBase : Int := 0
  /-- GATE_BUDGET, 16 bits. R551 -/
  budget : Nat := 0
  /-- ISO_p limits, in 0.01 W. R541 -/
  isoLimit : Vector Nat 12 := Vector.replicate 12 0
  /-- ISO_FAULT, 13 bits, W1C. R551 -/
  isoFault : Nat := 0
  /-- Drives that run. R542 -/
  drive : Vector Bool 13 := Vector.replicate 13 false
  /-- Tick since which an island's power-good has been false under a drive that runs. R542 -/
  downAt : Vector Nat 13 := Vector.replicate 13 0
  /-- Tick at which a drive stopped. R542 -/
  isoAt : Vector (Option Nat) 13 := Vector.replicate 13 none
  /-- RESET_N is low. R558 -/
  resetN : Bool := false
  deriving DecidableEq, Repr

/-- LOOP_STATE of Table 18.10. -/
inductive LoopState | locked | acquiring | noRef
  deriving DecidableEq, Repr

def LoopState.code : LoopState → Nat
  | .locked => 0 | .acquiring => 1 | .noRef => 2

/-- A clock loop. -/
structure ClockLoop where
  /-- LOOP_STATE. R550 -/
  state : LoopState := .acquiring
  /-- BYPASS: the die runs on the bypass clock. R534 -/
  bypass : Bool := false
  /-- STEER_LIMIT, W1C. R550 -/
  steerLimit : Bool := false
  /-- PHASE_ERR, signed, 8 bits. R550 -/
  phaseErr : Int := 0
  /-- LFSR of the dither, 23 bits. R533 -/
  lfsr : Nat := 0
  /-- Cause of the last CLOCK_BYPASS: 1 lock, 2 reference. R534 -/
  cause : Nat := 0
  /-- Tick at which LOCKED was declared after a bypass. R536 -/
  lockedAt : Option Nat := none
  /-- Tick at which the acquisition began. R535 -/
  acqAt : Nat := 0
  /-- Deviation of FCW from its nominal target, in ppb. R529, R532 -/
  tune : Int := 0
  deriving DecidableEq, Repr

structure Clocks where
  /-- Loops of Headlands A and B. R528 -/
  hd : Vector ClockLoop 2 := Vector.replicate 2 {}
  /-- Loops of Shoals 0 to 3. R528 -/
  shoal : Vector ClockLoop 4 := Vector.replicate 4 {}
  /-- REF_LOST, since a tick. R550 -/
  refLost : Bool := false
  refLostAt : Nat := 0
  /-- Regions that await PWM_RESUME. R537 -/
  stop : Vector Bool 4 := Vector.replicate 4 false
  /-- UNLOCKS, 32 bits. R550 -/
  unlocks : Nat := 0
  /-- LAST_UNLOCK, 32 bits. R550 -/
  lastUnlock : Nat := 0
  /-- CLOCK_TRIM as the steps of the token holder have taken it up, 0.01 ppm. R531 -/
  trim : Int := 0
  deriving DecidableEq, Repr

/-- A check-value unit (Table 18.12). -/
structure CrcUnit where
  /-- WIDTH. R552 -/
  width : Nat := 0x20
  /-- FLAGS. R552 -/
  flags : Nat := 0x03
  /-- SNOOP. R552 -/
  snoop : Nat := 0
  /-- POLY. R552 -/
  poly : Nat := 0x04C11DB7
  /-- INIT. R552 -/
  init : Nat := 0xFFFFFFFF
  /-- XOROUT. R552 -/
  xorout : Nat := 0xFFFFFFFF
  /-- RUNNING. R552 -/
  reg : Nat := 0xFFFFFFFF
  /-- RESULT. R552 -/
  result : Nat := 0
  /-- FRAMES, 32 bits. R552 -/
  frames : Nat := 0
  /-- MISMATCHES, 32 bits. R552 -/
  mismatches : Nat := 0
  /-- SNOOP_ARG and SNOOP_LEN. R546 -/
  arg : Nat := 0
  len : Nat := 0
  /-- RESULT of the first pass of SNOOP 0x06. R547 -/
  first : Option Nat := none
  deriving DecidableEq, Repr

end Sys2Proof.Machine
end

