-- ==== Sys2Proof/Machine/TypesIsland.lean ====
section
/-! DEFINITION. State of the port islands: gates, legs, permit, contactors, latch, off-state tests and CAN FD of a Skerry; the
uplink register of a Shoal; the relay ring of a Headland (07_port_islands_and_gate_drive.md). Each field names the rule that
gives it; a default is the value at reset. -/
namespace Sys2Proof.Machine

/-- One gate at its driver. -/
structure SkGate where
  /-- The carrier of the direct edge channel is present. R216 -/
  chan : Bool := false
  /-- The gate is on. R217 -/
  on : Bool := false
  /-- Tick of the driver's turn-on command. R224 -/
  onAt : Nat := 0
  /-- A soft turn-off runs. R226 -/
  soft : Bool := false
  /-- Tick at which the driver began turning the gate off. R218 -/
  offAt : Option Nat := none
  /-- Tick of an on-transition that the interlock holds. R218 -/
  held : Option Nat := none
  /-- Tick of the channel's last on-transition. R218 -/
  chanAt : Option Nat := none
  deriving DecidableEq, Repr

/-- One leg's latch and gate supplies. -/
structure SkLeg where
  /-- Latched code: 0 none, 1 to 4 of Table 7.6. R227 -/
  latch : Nat := 0
  /-- Lock-outs of VLP_k, VLN_k, VHN_k, VBS_k. R223 -/
  vlp : Bool := false
  vln : Bool := false
  vhn : Bool := false
  vbs : Bool := false
  /-- Supplies beyond their release level: bits VLP_k, VLN_k, VBS_k, VHN_k. R230 -/
  low : Nat := 0
  /-- Tick at which the leg entered high impedance. R228 -/
  hizAt : Option Nat := none
  deriving DecidableEq, Repr

/-- One contactor driver with its feedback. -/
structure Coil where
  /-- CKn of the last good frame's CMD. R232 -/
  cmd : Bool := false
  /-- Tick at which CKn last changed. R233 -/
  cmdAt : Nat := 0
  /-- The driver's CMD bit has made its transition since the permit returned. R231 -/
  armed : Bool := false
  /-- CKn_ON. R246 -/
  on : Bool := false
  /-- The pull-in current acts. R232 -/
  pull : Bool := false
  /-- Tick of the pull-in. R232 -/
  pullAt : Nat := 0
  /-- FBn. R246 -/
  fb : Bool := false
  /-- WELDn, W1C. R246 -/
  weld : Bool := false
  /-- FAILn, W1C. R246 -/
  fail : Bool := false
  deriving DecidableEq, Repr

/-- One channel of the permit line at a Skerry. -/
structure PermitChan where
  /-- COUNT of the last word. R345 -/
  count : Option Nat := none
  /-- KIND of the last two words, newest first; none where a word was not valid. R346 -/
  kinds : Option Nat × Option Nat := (none, none)
  /-- Tick of the last valid word. R231 -/
  validAt : Nat := 0
  deriving DecidableEq, Repr

/-- The off-state tests. -/
structure Diag where
  /-- DIAG_STATE. R246 -/
  state : Nat := 0
  /-- TESTS selected, bits 0 to 3. R235 -/
  tests : Nat := 0
  /-- The test that runs, 0 GATE to 3 ISO, and its item. R236 -/
  test : Nat := 0
  item : Nat := 0
  /-- Tick at which the item started. R236 -/
  itemAt : Nat := 0
  /-- DC voltage when the test started, in µV. R237 -/
  vdc : Int := 0
  /-- Reading of the first polarity of ISO, in µV. R236 -/
  first : Int := 0
  /-- DIAG_DESAT. R246 -/
  desat : Nat := 0xFFFF
  /-- DIAG_GATE. R246 -/
  gate : Nat := 0xFFFF
  /-- DIAG_LEG. R246 -/
  leg : Nat := 0xFFFF
  /-- DIAG_ISO. R246 -/
  iso : Nat := 3
  /-- ISO_KOHM. R246 -/
  isoK : Nat := 0
  deriving DecidableEq, Repr

/-- A Skerry; Skerry G uses the fields of its Table 7.10 rows. -/
structure Skerry where
  /-- Heartwood reports the island supply good. R209 -/
  good : Bool := false
  /-- CLOCK_LOCAL. R209 -/
  clockLocal : Bool := false
  /-- PERMIT. R231 -/
  permit : Bool := false
  /-- Permissions of gates, contactor drivers, latch driver. R346 -/
  permGates : Bool := false
  permCoils : Bool := false
  permLatch : Bool := false
  /-- Channels A and B of the permit line. R345 -/
  chans : Vector PermitChan 2 := Vector.replicate 2 {}
  /-- Tick since which the two channels disagree. R231 -/
  disagreeFrom : Option Nat := none
  /-- Ticks at which the permissions of the coil and latch drivers were withdrawn. R231 -/
  coilsLost : Option Nat := none
  latchLost : Option Nat := none
  /-- GATE_EN. R246 -/
  gateEn : Bool := false
  /-- GATE_EN has made its transition since the permit returned. R231 -/
  gatesArmed : Bool := false
  /-- TRIP of the last good frame. R215 -/
  trip : Bool := false
  /-- DL_LOSS. R213 -/
  dlLoss : Bool := false
  /-- Good downlink frames in a row, 0 to 16. R213 -/
  dlGood : Nat := 0
  /-- DL_RUN, 3 bits. R246 -/
  dlRun : Nat := 0
  /-- DL_BAD_FRAMES, 16 bits. R246 -/
  dlBad : Nat := 0
  /-- SEQ that the next downlink frame must carry. R212 -/
  dlSeq : Option Nat := none
  /-- SEQ of the next uplink frame. R210 -/
  ulSeq : Nat := 0
  /-- MSEQ of the next sub-frame, 16 bits. R311 -/
  mseq : Nat := 0
  /-- ECHO: COUNTs of the last two permit words on channel A. R341 -/
  echo : Nat × Nat := (0, 0)
  /-- PORT_HIZ. R228 -/
  portHiz : Bool := false
  /-- The gates. R208 -/
  gates : Vector SkGate 8 := Vector.replicate 8 {}
  /-- The legs. R219 -/
  legs : Vector SkLeg 4 := Vector.replicate 4 {}
  /-- FAST_SHORT, 8 bits, W1C. R246 -/
  fastShort : Nat := 0
  /-- DESAT, 8 bits, W1C. R246 -/
  desat : Nat := 0
  /-- UV_POS, 4 bits, W1C. R246 -/
  uvPos : Nat := 0
  /-- UV_NEG, 4 bits, W1C. R246 -/
  uvNeg : Nat := 0
  /-- BS_UV, 4 bits, W1C. R246 -/
  bsUv : Nat := 0
  /-- INTERLOCK_HOLD, W1C. R246 -/
  interlockHold : Bool := false
  /-- BOTH_ON, W1C. R246 -/
  bothOn : Bool := false
  /-- LATCH_BLOCKED, W1C. R246 -/
  latchBlocked : Bool := false
  /-- LATCH_TIMEOUT, W1C. R246 -/
  latchTimeout : Bool := false
  /-- PACK_BUS_OFF, W1C. R246 -/
  packBusOff : Bool := false
  /-- PERMIT_LOST, W1C. R246 -/
  permitLost : Bool := false
  /-- DIAG_ABORTED, W1C. R246 -/
  diagAborted : Bool := false
  /-- Contactor drivers CK0 and CK1. R232 -/
  coils : Vector Coil 2 := Vector.replicate 2 {}
  /-- LATCH of the last good frame. R234 -/
  latchCmd : Bool := false
  /-- LATCH has made its transition since the driver was last turned off. R234 -/
  latchArmed : Bool := false
  /-- LATCH_ON. R246 -/
  latchOn : Bool := false
  /-- Tick at which the latch was energised. R234 -/
  latchAt : Nat := 0
  /-- DIAG_GO of the last good frame. R235 -/
  diagGo : Bool := false
  /-- Ones of the DC voltage and DC current streams in the last 10 frames, newest first. R234 -/
  monitor : List (Nat × Nat) := []
  /-- The last 63 bits of the leg-current, DC-voltage and DC-current streams, newest first: the filters of the return word. R341 -/
  taps : Vector (List Bool) 6 := Vector.replicate 6 []
  /-- Word addresses of the reads that the last two downlink frames requested, newest first. R210 -/
  reads : Option Nat × Option Nat := (none, none)
  /-- Off-state tests. R236 -/
  diag : Diag := {}
  /-- CAN_BUS_OFF. R246 -/
  canBusOff : Bool := false
  /-- Ticks of the bus-offs within 60 s. R243 -/
  busOffs : List Nat := []
  /-- Transmit queue, oldest first, at most 8 frames. R242 -/
  canTx : List CanFrame := []
  /-- Frames of canTx that have reached the controller whole, and the bytes of the next one that have. R211 -/
  canWhole : Nat := 0
  canBytes : Nat := 0
  /-- Chunks of received frames that await their uplink frame: FIRST, LAST, data. R210 -/
  canUp : List (Bool × Bool × List Byte) := []
  deriving DecidableEq, Repr

/-- The uplink register of one link (Table 7.11). -/
structure UlLink where
  /-- UL_BAD_FRAMES, 16 bits. R247 -/
  bad : Nat := 0
  /-- UL_LOSS, W1C. R247 -/
  loss : Bool := false
  /-- UL_RUN, 0 to 4. R247 -/
  run : Nat := 0
  /-- Good frames in a row, 0 to 16. R214 -/
  good : Nat := 0
  /-- SEQ that the next frame must carry. R212 -/
  seq : Option Nat := none
  /-- The link is lost: four bad frames in a row, and not yet 16 good ones. R214 -/
  out : Bool := true
  /-- MSUB of the last good frame, on its way to the Tide gauge. R312 -/
  msub : Option (List Byte) := none
  /-- SEQ of the next downlink frame. R211 -/
  txSeq : Nat := 0
  deriving DecidableEq, Repr

/-- A frame in a relay ring with its PTP stamp (R240). -/
structure RelayRec where
  seq : Nat
  sec : Nat
  ns : Nat
  frame : CanFrame
  deriving DecidableEq, Repr

/-- The relay ring of one port (R240, R241). -/
structure Relay where
  /-- Frames, oldest first, at most 64. R240 -/
  ring : List RelayRec := []
  /-- RELAY_LOST, 16 bits. R241 -/
  lost : Nat := 0
  /-- Number of the next frame. R381 -/
  next : Nat := 0
  deriving DecidableEq, Repr

end Sys2Proof.Machine
end

