-- ==== Sys2Proof/Machine/Params.lean ====
section
/-! DEFINITION. The parameter tables of the spec: number, allowed values and default (each as it travels on the
wire, R445), and when a committed value takes effect (R25). A parameter store is the sorted list of the values that
differ from their defaults. -/
namespace Sys2Proof.Machine

/-- Table 0.5 (R25): when a written value takes effect and who may write it. -/
inductive Takes | commit | notForming | service | sealed
  deriving DecidableEq, Repr

/-- One row of a parameter table: the allowed wire values as closed ranges, the default, the kind. -/
structure ParamRow where
  ranges : List (Int × Int)
  dflt : Int
  takes : Takes
  deriving DecidableEq, Repr

def ParamRow.admits (r : ParamRow) (v : Int) : Bool := r.ranges.any fun x => decide (x.1 ≤ v) && decide (v ≤ x.2)

/-! Parameter numbers, by the spec's names. PP_ is a P.3pxx of port p, PA_ a P.Apxx of port p. -/

abbrev P_CARRIER_N : Nat := 0x4001
abbrev P_F_NOM : Nat := 0x2001
abbrev P_V_NOM : Nat := 0x2002
abbrev P_S_RATED : Nat := 0x2003
abbrev P_H_INERTIA : Nat := 0x2010
abbrev P_D_DAMP : Nat := 0x2011
abbrev P_T_DAMP : Nat := 0x2012
abbrev P_M_P : Nat := 0x2013
abbrev P_T_PE : Nat := 0x2014
abbrev P_N_Q : Nat := 0x2015
abbrev P_T_QE : Nat := 0x2016
abbrev P_T_RESTORE : Nat := 0x2017
abbrev P_RAMP_P : Nat := 0x2018
abbrev P_RAMP_Q : Nat := 0x2019
abbrev P_RAMP_V : Nat := 0x201A
abbrev P_RAMP_F : Nat := 0x201B
abbrev P_VIRT_R : Nat := 0x2020
abbrev P_VIRT_X : Nat := 0x2021
abbrev P_K_PV : Nat := 0x2022
abbrev P_K_RV : Nat := 0x2023
abbrev P_HARM_EN : Nat := 0x2024
abbrev P_K_RH : Nat := 0x2025
abbrev P_BS_DEAD_V : Nat := 0x2030
abbrev P_BS_DEAD_T : Nat := 0x2031
abbrev P_BS_RAMP_T : Nat := 0x2032
abbrev P_STOP_RAMP_T : Nat := 0x2033
abbrev P_SYNC_DF : Nat := 0x2038
abbrev P_SYNC_DV : Nat := 0x2039
abbrev P_SYNC_DTHETA : Nat := 0x203A
abbrev P_SYNC_SLIP : Nat := 0x203B
abbrev P_SYNC_TIMEOUT : Nat := 0x203C
abbrev P_BRK_CLOSE_T : Nat := 0x203D
abbrev P_BRK_FB_TIMEOUT : Nat := 0x203E
abbrev P_BRK_CLOSE_OUT : Nat := 0x2040
abbrev P_BRK_FB_IN : Nat := 0x2041
abbrev P_PCC_FB_IN : Nat := 0x2042
abbrev P_T_W : Nat := 0x2048
abbrev P_G_BAL : Nat := 0x2049
abbrev P_UV_ENTRY : Nat := 0x2050
abbrev P_UV_EXIT : Nat := 0x2051
abbrev P_OV_ENTRY : Nat := 0x2052
abbrev P_OV_EXIT : Nat := 0x2053
abbrev P_FAULT_CLEAR_T : Nat := 0x2054
abbrev P_V_INST_TRIP : Nat := 0x2055
abbrev P_FREQ_BAND : Nat := 0x2056
abbrev P_ROCOF_WIN : Nat := 0x2057
abbrev P_ROCOF_WARN : Nat := 0x2058
abbrev P_ROCOF_LIM : Nat := 0x2059
abbrev P_PJ_THRESH : Nat := 0x205A
abbrev P_PJ_MODE : Nat := 0x205B
abbrev P_PJ_REALIGN_T : Nat := 0x205C
abbrev P_FRT_ANGLE : Nat := 0x205D
abbrev P_I_LIM_MOD : Nat := 0x2060
abbrev P_FRT_PRIO : Nat := 0x2061
abbrev P_NEG_SEQ_MODE : Nat := 0x2062
abbrev P_K_NEG : Nat := 0x2063
abbrev P_TVI_START : Nat := 0x2064
abbrev P_K_TVI : Nat := 0x2065
abbrev P_TVI_XR : Nat := 0x2066
abbrev P_TVI_DECAY : Nat := 0x2067
abbrev P_RECOV_RATE : Nat := 0x2068
abbrev P_RT_MAX_FAULTS : Nat := 0x2069
abbrev P_RT_REPEAT_WIN : Nat := 0x206A
abbrev P_MIN_PULSE : Nat := 0x4010
abbrev P_BS_ON_T : Nat := 0x4011
abbrev P_BS_PULSE_T : Nat := 0x4012
abbrev P_V_G_FS : Nat := 0x5001
abbrev P_V_NPE_FS : Nat := 0x5002
abbrev P_CIC_G_INV : Nat := 0x5010
abbrev P_SHIFT_INV_A : Nat := 0x5011
abbrev P_SHIFT_INV_B : Nat := 0x5012
abbrev P_SHIFT_INV_C : Nat := 0x5013
abbrev P_CIC_G_GRID : Nat := 0x5018
abbrev P_SHIFT_GRID_A : Nat := 0x5019
abbrev P_SHIFT_GRID_B : Nat := 0x501A
abbrev P_SHIFT_GRID_C : Nat := 0x501B
abbrev P_ADC_TIMER_T : Nat := 0x5120
abbrev P_ADC_TIMER_ENTRY : Nat := 0x5121
abbrev P_ADC_TRIG_DLY : Nat := 0x5122
abbrev P_SESS_V_ON : Nat := 0xAF00
abbrev P_SESS_V_OFF : Nat := 0xAF01
abbrev P_SESS_T : Nat := 0xAF02
abbrev P_PULSE_CONST : Nat := 0xAF03
abbrev P_RESET_TP : Nat := 0x9028
abbrev P_START_LOCKED : Nat := 0x9029
abbrev P_SL_DISC_T : Nat := 0x9160
abbrev P_SDC_FB_T : Nat := 0x9161
abbrev P_SM_OWN_ID : Nat := 0x9170
abbrev P_SM_TX_PERIOD : Nat := 0x9171
abbrev P_HOLD_LIMIT : Nat := 0xB000
abbrev P_MIRROR_SEL : Nat := 0xB001
abbrev P_PREFER : Nat := 0xB002
abbrev P_PTP_PROFILE : Nat := 0x7001
abbrev P_PTP_DOMAIN : Nat := 0x7002
abbrev P_PTP_ROLE : Nat := 0x7003
abbrev P_PTP_PRIO1 : Nat := 0x7004
abbrev P_PTP_PRIO2 : Nat := 0x7005
abbrev P_PTP_LOG_SYNC : Nat := 0x7006
abbrev P_PTP_LOG_ANNOUNCE : Nat := 0x7007
abbrev P_PTP_LOG_DELAY : Nat := 0x7008
abbrev P_PTP_LOCK_WIN : Nat := 0x7010
abbrev P_PTP_LOCK_N : Nat := 0x7011
abbrev P_PTP_UNLOCK_WIN : Nat := 0x7012
abbrev P_PTP_HOLDOVER_T : Nat := 0x7013
abbrev P_SYNT_EN : Nat := 0x7014
abbrev P_ASYM_A : Nat := 0x7018
abbrev P_ASYM_B : Nat := 0x7019
abbrev P_PHY_ROLE_A : Nat := 0x7020
abbrev P_PHY_ROLE_B : Nat := 0x7021
abbrev P_VLAN_ID : Nat := 0x7022
abbrev P_PRP_EN : Nat := 0x7023
abbrev P_SITE_ID : Nat := 0x7030
abbrev P_UNIT_ID : Nat := 0x7031
abbrev P_COORD_TIDE : Nat := 0x7032
abbrev P_IPV4_A : Nat := 0x7040
abbrev P_PREFIX_A : Nat := 0x7041
abbrev P_IPV4_B : Nat := 0x7042
abbrev P_PREFIX_B : Nat := 0x7043
abbrev P_LOG_AUTOFREEZE : Nat := 0x6001
abbrev P_LOG_POST : Nat := 0x6002
abbrev P_HOST_TIMEOUT : Nat := 0x8000
abbrev P_SAG_LATCH : Nat := 0x8001
abbrev P_OUT_TEST_EN : Nat := 0x8002
abbrev P_OUT_TEST_PULSE : Nat := 0x8003
abbrev P_COUNT_EN : Nat := 0x8004
abbrev P_PLL_LOCK_WIN : Nat := 0xC001
abbrev P_PLL_LOCK_CYCLES : Nat := 0xC002
abbrev P_DITHER_EN : Nat := 0xC003
abbrev P_DITHER_SEED : Nat := 0xC004
abbrev P_CLOCK_TRIM : Nat := 0xC005
abbrev P_VSUP_WARN : Nat := 0xC010
abbrev P_ADC_SEQ (n : Nat) : Nat := 0x5100 + n
abbrev P_ADC_MODE (n : Nat) : Nat := 0x5140 + n
abbrev P_ADC_OFFSET (n : Nat) : Nat := 0x5160 + n
abbrev P_ADC_GAIN (n : Nat) : Nat := 0x5180 + n
abbrev P_SI_MODE (n : Nat) : Nat := 0x9000 + n
abbrev P_SI_TP (n : Nat) : Nat := 0x9008 + n
abbrev P_SI_FILTER (n : Nat) : Nat := 0x9010 + n
abbrev P_SI_DISC_T (n : Nat) : Nat := 0x9018 + n
abbrev P_SI_ACTION (n : Nat) : Nat := 0x9020 + n
abbrev P_SO_SRC (n : Nat) : Nat := 0x9030 + n
abbrev P_SLC_LIM (n : Nat) : Nat := 0x9100 + n
abbrev P_SLD_DIR (n : Nat) : Nat := 0x9110 + n
abbrev P_SLD_TOL (n : Nat) : Nat := 0x9120 + n
abbrev P_SLV_MAX (n : Nat) : Nat := 0x9130 + n
abbrev P_SCL_V (n : Nat) : Nat := 0x9140 + n
abbrev P_SCL_I (n : Nat) : Nat := 0x9150 + n
abbrev P_SM_RX_ID (n : Nat) : Nat := 0x9178 + n
abbrev P_SM_RX_TIMEOUT (n : Nat) : Nat := 0x917C + n
abbrev P_SM_RX_ACTION (n : Nat) : Nat := 0x9180 + n
abbrev P_REGION_SAFE (n : Nat) : Nat := 0xB010 + n
abbrev P_LOG_SNAP (s i : Nat) : Nat := 0x6100 + 8 * s + i
abbrev P_LOG_CTRL (n : Nat) : Nat := 0x6200 + n
abbrev P_IN_FILTER (n : Nat) : Nat := 0x8010 + n
abbrev P_OUT_SAFE (n : Nat) : Nat := 0x8020 + n
abbrev PP_CARRIER_OFFSET (p : Nat) : Nat := 0x3000 + 0x100 * p + 0x01
abbrev PP_P_PORT_MAX (p : Nat) : Nat := 0x3000 + 0x100 * p + 0x20
abbrev PP_E_NOM (p : Nat) : Nat := 0x3000 + 0x100 * p + 0x21
abbrev PP_SOH_DEFAULT (p : Nat) : Nat := 0x3000 + 0x100 * p + 0x22
abbrev PP_SOC_MIN (p : Nat) : Nat := 0x3000 + 0x100 * p + 0x23
abbrev PP_SOC_MAX (p : Nat) : Nat := 0x3000 + 0x100 * p + 0x24
abbrev PP_SOC_BAND (p : Nat) : Nat := 0x3000 + 0x100 * p + 0x25
abbrev PP_T_DER_START (p : Nat) : Nat := 0x3000 + 0x100 * p + 0x26
abbrev PP_T_DER_END (p : Nat) : Nat := 0x3000 + 0x100 * p + 0x27
abbrev PP_K_PC (p : Nat) : Nat := 0x3000 + 0x100 * p + 0x28
abbrev PP_K_IC (p : Nat) : Nat := 0x3000 + 0x100 * p + 0x29
abbrev PP_I_PH_MAX (p : Nat) : Nat := 0x3000 + 0x100 * p + 0x30
abbrev PP_I_OC_TRIP (p : Nat) : Nat := 0x3000 + 0x100 * p + 0x31
abbrev PP_I_N_MAX (p : Nat) : Nat := 0x3000 + 0x100 * p + 0x32
abbrev PP_V_DC_MIN (p : Nat) : Nat := 0x3000 + 0x100 * p + 0x33
abbrev PP_V_DC_HI (p : Nat) : Nat := 0x3000 + 0x100 * p + 0x34
abbrev PP_V_DC_MAX (p : Nat) : Nat := 0x3000 + 0x100 * p + 0x35
abbrev PP_BMS_MARGIN (p : Nat) : Nat := 0x3000 + 0x100 * p + 0x36
abbrev PP_BMS_OVER_T (p : Nat) : Nat := 0x3000 + 0x100 * p + 0x37
abbrev PP_SPEC_EN (p : Nat) : Nat := 0x3000 + 0x100 * p + 0x40
abbrev PP_SPEC_WIN_I (p : Nat) : Nat := 0x3000 + 0x100 * p + 0x41
abbrev PP_SPEC_WIN_V (p : Nat) : Nat := 0x3000 + 0x100 * p + 0x42
abbrev PP_SPEC_WIN_DC (p : Nat) : Nat := 0x3000 + 0x100 * p + 0x43
abbrev PP_L_F (p : Nat) : Nat := 0x3000 + 0x100 * p + 0x44
abbrev PP_R_F (p : Nat) : Nat := 0x3000 + 0x100 * p + 0x45
abbrev PP_PLAUS_I (p : Nat) : Nat := 0x3000 + 0x100 * p + 0x46
abbrev PP_PLAUS_SUM (p : Nat) : Nat := 0x3000 + 0x100 * p + 0x47
abbrev PP_PLAUS_DC (p : Nat) : Nat := 0x3000 + 0x100 * p + 0x48
abbrev PP_PLAUS_K (p : Nat) : Nat := 0x3000 + 0x100 * p + 0x49
abbrev PP_DLY_R_PH (p : Nat) : Nat := 0x3000 + 0x100 * p + 0x50
abbrev PP_DLY_F_PH (p : Nat) : Nat := 0x3000 + 0x100 * p + 0x51
abbrev PP_DLY_R_N (p : Nat) : Nat := 0x3000 + 0x100 * p + 0x52
abbrev PP_DLY_F_N (p : Nat) : Nat := 0x3000 + 0x100 * p + 0x53
abbrev PP_VS_CARRY (p : Nat) : Nat := 0x3000 + 0x100 * p + 0x54
abbrev PP_DESAT_TH (p : Nat) : Nat := 0x3000 + 0x100 * p + 0x60
abbrev PP_DESAT_BLANK (p : Nat) : Nat := 0x3000 + 0x100 * p + 0x61
abbrev PP_DRV_R_ON (p : Nat) : Nat := 0x3000 + 0x100 * p + 0x62
abbrev PP_DRV_R_OFF (p : Nat) : Nat := 0x3000 + 0x100 * p + 0x63
abbrev PP_ISO_MIN (p : Nat) : Nat := 0x3000 + 0x100 * p + 0x64
abbrev PP_ISO_SETTLE (p : Nat) : Nat := 0x3000 + 0x100 * p + 0x65
abbrev PP_COIL_PULL_T (p : Nat) : Nat := 0x3000 + 0x100 * p + 0x66
abbrev PP_COIL_HOLD (p : Nat) : Nat := 0x3000 + 0x100 * p + 0x67
abbrev PP_COIL_FB_T (p : Nat) : Nat := 0x3000 + 0x100 * p + 0x68
abbrev PP_CAN_NOM_RATE (p : Nat) : Nat := 0x3000 + 0x100 * p + 0x70
abbrev PP_CAN_DATA_RATE (p : Nat) : Nat := 0x3000 + 0x100 * p + 0x71
abbrev PP_CAN_TERM (p : Nat) : Nat := 0x3000 + 0x100 * p + 0x72
abbrev PP_I_FS (p : Nat) : Nat := 0x3000 + 0x100 * p + 0x10
abbrev PP_V_FS (p : Nat) : Nat := 0x3000 + 0x100 * p + 0x11
abbrev PP_I_DC_FS (p : Nat) : Nat := 0x3000 + 0x100 * p + 0x12
abbrev PP_CIC_LEG (p : Nat) : Nat := 0x3000 + 0x100 * p + 0x13
abbrev PP_CIC_VDC (p : Nat) : Nat := 0x3000 + 0x100 * p + 0x14
abbrev PP_CIC_IDC (p : Nat) : Nat := 0x3000 + 0x100 * p + 0x15
abbrev PP_CIC_TEMP (p : Nat) : Nat := 0x3000 + 0x100 * p + 0x16
abbrev PP_NTC_RNOM (p : Nat) : Nat := 0x3000 + 0x100 * p + 0x17
abbrev PP_NTC_BETA (p : Nat) : Nat := 0x3000 + 0x100 * p + 0x18
abbrev PP_PLUG_DEBOUNCE (p : Nat) : Nat := 0x3000 + 0x100 * p + 0x80
abbrev PP_BMS_LOST_T (p : Nat) : Nat := 0x3000 + 0x100 * p + 0x81
abbrev PP_PRECHG_DV (p : Nat) : Nat := 0x3000 + 0x100 * p + 0x82
abbrev PP_PRECHG_MIN_T (p : Nat) : Nat := 0x3000 + 0x100 * p + 0x83
abbrev PP_PRECHG_T (p : Nat) : Nat := 0x3000 + 0x100 * p + 0x84
abbrev PP_PRECHG_AUTO (p : Nat) : Nat := 0x3000 + 0x100 * p + 0x85
abbrev PP_REL_RAMP_T (p : Nat) : Nat := 0x3000 + 0x100 * p + 0x86
abbrev PP_DISCHARGE_T (p : Nat) : Nat := 0x3000 + 0x100 * p + 0x87
abbrev PP_BTN_IN (p : Nat) : Nat := 0x3000 + 0x100 * p + 0x88
abbrev PP_BTN_MODE (p : Nat) : Nat := 0x3000 + 0x100 * p + 0x89
abbrev PP_SLOT_OUT (p : Nat) : Nat := 0x3000 + 0x100 * p + 0x8A
abbrev PA_MET_V_FS (p : Nat) : Nat := 0xA000 + 0x100 * p + 0x00
abbrev PA_MET_I_FS (p : Nat) : Nat := 0xA000 + 0x100 * p + 0x01
abbrev PA_CAL_V (p : Nat) : Nat := 0xA000 + 0x100 * p + 0x02
abbrev PA_CAL_I (p : Nat) : Nat := 0xA000 + 0x100 * p + 0x03
abbrev PA_OFS_V (p : Nat) : Nat := 0xA000 + 0x100 * p + 0x04
abbrev PA_OFS_I (p : Nat) : Nat := 0xA000 + 0x100 * p + 0x05
abbrev PA_I_START (p : Nat) : Nat := 0xA000 + 0x100 * p + 0x06

/-- The rows of the scalar parameters (no port, no index). -/
def scalarRows0 : List (Nat × ParamRow) :=
  [(0x4001, ⟨[(40, 2000)], 400, .notForming⟩),   -- CARRIER_N (R58)
   (0x2001, ⟨[(50, 50), (60, 60)], 50, .notForming⟩),   -- F_NOM (R116)
   (0x2002, ⟨[(1000, 3000)], 2300, .notForming⟩),   -- V_NOM (R116)
   (0x2003, ⟨[(50, 4800)], 1800, .notForming⟩),   -- S_RATED (R116)
   (0x2010, ⟨[(50, 2000)], 400, .commit⟩),   -- H_INERTIA (R116)
   (0x2011, ⟨[(0, 2000)], 200, .commit⟩),   -- D_DAMP (R116)
   (0x2012, ⟨[(5, 2000)], 200, .commit⟩),   -- T_DAMP (R116)
   (0x2013, ⟨[(50, 1200)], 400, .commit⟩),   -- M_P (R116)
   (0x2014, ⟨[(1, 1000)], 50, .commit⟩),   -- T_PE (R116)
   (0x2015, ⟨[(0, 2000)], 500, .commit⟩),   -- N_Q (R116)
   (0x2016, ⟨[(1, 1000)], 50, .commit⟩),   -- T_QE (R116)
   (0x2017, ⟨[(0, 600)], 0, .commit⟩),   -- T_RESTORE (R116)
   (0x2018, ⟨[(1, 10000)], 100, .commit⟩),   -- RAMP_P (R116)
   (0x2019, ⟨[(1, 10000)], 100, .commit⟩),   -- RAMP_Q (R116)
   (0x201A, ⟨[(1, 1000)], 20, .commit⟩),   -- RAMP_V (R116)
   (0x201B, ⟨[(1, 5000)], 100, .commit⟩),   -- RAMP_F (R116)
   (0x2020, ⟨[(0, 300)], 20, .commit⟩),   -- VIRT_R (R116)
   (0x2021, ⟨[(0, 500)], 100, .commit⟩),   -- VIRT_X (R116)
   (0x2022, ⟨[(0, 2000)], 200, .commit⟩),   -- K_PV (R116)
   (0x2023, ⟨[(0, 2000)], 200, .commit⟩)]   -- K_RV (R116)
def scalarRows1 : List (Nat × ParamRow) :=
  [(0x2024, ⟨[(0, 7)], 0, .commit⟩),   -- HARM_EN (R116)
   (0x2025, ⟨[(0, 1000)], 50, .commit⟩),   -- K_RH (R116)
   (0x2030, ⟨[(2, 30)], 10, .commit⟩),   -- BS_DEAD_V (R116)
   (0x2031, ⟨[(50, 5000)], 200, .commit⟩),   -- BS_DEAD_T (R116)
   (0x2032, ⟨[(20, 10000)], 2000, .commit⟩),   -- BS_RAMP_T (R116)
   (0x2033, ⟨[(10, 5000)], 100, .commit⟩),   -- STOP_RAMP_T (R116)
   (0x2038, ⟨[(1, 50)], 10, .commit⟩),   -- SYNC_DF (R116)
   (0x2039, ⟨[(10, 100)], 30, .commit⟩),   -- SYNC_DV (R116)
   (0x203A, ⟨[(10, 200)], 100, .commit⟩),   -- SYNC_DTHETA (R116)
   (0x203B, ⟨[(1, 25)], 5, .commit⟩),   -- SYNC_SLIP (R116)
   (0x203C, ⟨[(1, 600)], 60, .commit⟩),   -- SYNC_TIMEOUT (R116)
   (0x203D, ⟨[(0, 2000)], 600, .commit⟩),   -- BRK_CLOSE_T (R116)
   (0x203E, ⟨[(20, 2000)], 500, .commit⟩),   -- BRK_FB_TIMEOUT (R116)
   (0x2040, ⟨[(0, 15), (255, 255)], 255, .notForming⟩),   -- BRK_CLOSE_OUT (R116)
   (0x2041, ⟨[(0, 15), (255, 255)], 255, .notForming⟩),   -- BRK_FB_IN (R116)
   (0x2042, ⟨[(0, 15), (255, 255)], 255, .notForming⟩),   -- PCC_FB_IN (R116)
   (0x2048, ⟨[(1, 1000)], 20, .commit⟩),   -- T_W (R116)
   (0x2049, ⟨[(0, 1000)], 0, .commit⟩),   -- G_BAL (R116)
   (0x2050, ⟨[(50, 95)], 85, .commit⟩),   -- UV_ENTRY (R148)
   (0x2051, ⟨[(55, 98)], 90, .commit⟩)]   -- UV_EXIT (R148)
def scalarRows2 : List (Nat × ParamRow) :=
  [(0x2052, ⟨[(105, 140)], 110, .commit⟩),   -- OV_ENTRY (R148)
   (0x2053, ⟨[(102, 135)], 108, .commit⟩),   -- OV_EXIT (R148)
   (0x2054, ⟨[(5, 500)], 20, .commit⟩),   -- FAULT_CLEAR_T (R148)
   (0x2055, ⟨[(120, 200)], 160, .commit⟩),   -- V_INST_TRIP (R148)
   (0x2056, ⟨[(20, 2000)], 200, .commit⟩),   -- FREQ_BAND (R148)
   (0x2057, ⟨[(20, 500)], 100, .commit⟩),   -- ROCOF_WIN (R148)
   (0x2058, ⟨[(1, 100)], 10, .commit⟩),   -- ROCOF_WARN (R148)
   (0x2059, ⟨[(1, 100)], 20, .commit⟩),   -- ROCOF_LIM (R148)
   (0x205A, ⟨[(20, 450)], 80, .commit⟩),   -- PJ_THRESH (R148)
   (0x205B, ⟨[(0, 1)], 0, .commit⟩),   -- PJ_MODE (R148)
   (0x205C, ⟨[(20, 2000)], 200, .commit⟩),   -- PJ_REALIGN_T (R148)
   (0x205D, ⟨[(0, 2)], 1, .notForming⟩),   -- FRT_ANGLE (R148)
   (0x2060, ⟨[(50, 150)], 120, .commit⟩),   -- I_LIM_MOD (R148)
   (0x2061, ⟨[(0, 2)], 0, .commit⟩),   -- FRT_PRIO (R148)
   (0x2062, ⟨[(0, 2)], 0, .commit⟩),   -- NEG_SEQ_MODE (R148)
   (0x2063, ⟨[(0, 60)], 20, .commit⟩),   -- K_NEG (R148)
   (0x2064, ⟨[(50, 150)], 100, .commit⟩),   -- TVI_START (R148)
   (0x2065, ⟨[(0, 500)], 80, .commit⟩),   -- K_TVI (R148)
   (0x2066, ⟨[(10, 200)], 50, .commit⟩),   -- TVI_XR (R148)
   (0x2067, ⟨[(5, 1000)], 50, .commit⟩)]   -- TVI_DECAY (R148)
def scalarRows3 : List (Nat × ParamRow) :=
  [(0x2068, ⟨[(10, 2000)], 100, .commit⟩),   -- RECOV_RATE (R148)
   (0x2069, ⟨[(1, 15)], 3, .commit⟩),   -- RT_MAX_FAULTS (R148)
   (0x206A, ⟨[(1, 600)], 30, .commit⟩),   -- RT_REPEAT_WIN (R148)
   (0x4010, ⟨[(20, 800)], 80, .commit⟩),   -- MIN_PULSE (R205)
   (0x4011, ⟨[(10, 1000)], 100, .commit⟩),   -- BS_ON_T (R205)
   (0x4012, ⟨[(3, 30)], 10, .commit⟩),   -- BS_PULSE_T (R205)
   (0x5001, ⟨[(200, 1000)], 650, .notForming⟩),   -- V_G_FS (R279)
   (0x5002, ⟨[(20, 1000)], 100, .notForming⟩),   -- V_NPE_FS (R279)
   (0x5010, ⟨[(770, 780), (1026, 1036), (1282, 1292)], 773, .notForming⟩),   -- CIC_G_INV (R279)
   (0x5011, ⟨[(0, 65535)], 0, .notForming⟩),   -- SHIFT_INV_A (R279)
   (0x5012, ⟨[(0, 65535)], 0, .notForming⟩),   -- SHIFT_INV_B (R279)
   (0x5013, ⟨[(0, 255)], 0, .notForming⟩),   -- SHIFT_INV_C (R279)
   (0x5018, ⟨[(770, 780), (1026, 1036), (1282, 1292)], 1032, .notForming⟩),   -- CIC_G_GRID (R279)
   (0x5019, ⟨[(0, 65535)], 0, .notForming⟩),   -- SHIFT_GRID_A (R279)
   (0x501A, ⟨[(0, 65535)], 0, .notForming⟩),   -- SHIFT_GRID_B (R279)
   (0x501B, ⟨[(0, 255)], 0, .notForming⟩),   -- SHIFT_GRID_C (R279)
   (0x5120, ⟨[(0, 0), (10, 1000000)], 0, .commit⟩),   -- ADC_TIMER_T (R280)
   (0x5121, ⟨[(0, 31)], 0, .commit⟩),   -- ADC_TIMER_ENTRY (R280)
   (0x5122, ⟨[(0, 65535)], 0, .commit⟩),   -- ADC_TRIG_DLY (R280)
   (0xAF00, ⟨[(30, 400)], 60, .sealed⟩)]   -- SESS_V_ON (R334)
def scalarRows4 : List (Nat × ParamRow) :=
  [(0xAF01, ⟨[(10, 380)], 30, .sealed⟩),   -- SESS_V_OFF (R334)
   (0xAF02, ⟨[(1, 100)], 10, .sealed⟩),   -- SESS_T (R334)
   (0xAF03, ⟨[(1, 100)], 10, .sealed⟩),   -- PULSE_CONST (R334)
   (0x9028, ⟨[(0, 3)], 3, .service⟩),   -- RESET_TP (R372)
   (0x9029, ⟨[(0, 1)], 1, .service⟩),   -- START_LOCKED (R372)
   (0x9160, ⟨[(10, 1000)], 100, .service⟩),   -- SL_DISC_T (R372)
   (0x9161, ⟨[(2, 100)], 20, .service⟩),   -- SDC_FB_T (R372)
   (0x9170, ⟨[(0, 65534)], 0, .service⟩),   -- SM_OWN_ID (R372)
   (0x9171, ⟨[(10, 1000)], 50, .service⟩),   -- SM_TX_PERIOD (R372)
   (0xB000, ⟨[(1, 8)], 4, .commit⟩),   -- HOLD_LIMIT (R396)
   (0xB001, ⟨[(0, 3)], 1, .commit⟩),   -- MIRROR_SEL (R396)
   (0xB002, ⟨[(0, 1)], 0, .commit⟩),   -- PREFER (R396)
   (0x7001, ⟨[(0, 2)], 1, .commit⟩),   -- PTP_PROFILE (R422)
   (0x7002, ⟨[(0, 127)], 0, .commit⟩),   -- PTP_DOMAIN (R422)
   (0x7003, ⟨[(0, 1)], 0, .commit⟩),   -- PTP_ROLE (R422)
   (0x7004, ⟨[(0, 255)], 128, .commit⟩),   -- PTP_PRIO1 (R422)
   (0x7005, ⟨[(0, 255)], 128, .commit⟩),   -- PTP_PRIO2 (R422)
   (0x7006, ⟨[(-4, 1)], 0, .commit⟩),   -- PTP_LOG_SYNC (R422)
   (0x7007, ⟨[(-3, 3)], 0, .commit⟩),   -- PTP_LOG_ANNOUNCE (R422)
   (0x7008, ⟨[(-4, 5)], 0, .commit⟩)]   -- PTP_LOG_DELAY (R422)
def scalarRows5 : List (Nat × ParamRow) :=
  [(0x7010, ⟨[(10, 10000)], 100, .commit⟩),   -- PTP_LOCK_WIN (R422)
   (0x7011, ⟨[(2, 64)], 8, .commit⟩),   -- PTP_LOCK_N (R422)
   (0x7012, ⟨[(20, 1000000)], 1000, .commit⟩),   -- PTP_UNLOCK_WIN (R422)
   (0x7013, ⟨[(0, 600)], 10, .commit⟩),   -- PTP_HOLDOVER_T (R422)
   (0x7014, ⟨[(0, 1)], 1, .commit⟩),   -- SYNT_EN (R422)
   (0x7018, ⟨[(-10000, 10000)], 0, .commit⟩),   -- ASYM_A (R422)
   (0x7019, ⟨[(-10000, 10000)], 0, .commit⟩),   -- ASYM_B (R422)
   (0x7020, ⟨[(0, 1)], 0, .commit⟩),   -- PHY_ROLE_A (R422)
   (0x7021, ⟨[(0, 1)], 0, .commit⟩),   -- PHY_ROLE_B (R422)
   (0x7022, ⟨[(0, 4094)], 0, .commit⟩),   -- VLAN_ID (R422)
   (0x7023, ⟨[(0, 1)], 1, .commit⟩),   -- PRP_EN (R422)
   (0x7030, ⟨[(0, 65535)], 0, .commit⟩),   -- SITE_ID (R422)
   (0x7031, ⟨[(1, 32)], 1, .commit⟩),   -- UNIT_ID (R422)
   (0x7032, ⟨[(0, 1)], 1, .commit⟩),   -- COORD_TIDE (R422)
   (0x7040, ⟨[(0, 4294967294)], 0, .commit⟩),   -- IPV4_A (R422)
   (0x7041, ⟨[(8, 30)], 24, .commit⟩),   -- PREFIX_A (R422)
   (0x7042, ⟨[(0, 4294967294)], 0, .commit⟩),   -- IPV4_B (R422)
   (0x7043, ⟨[(8, 30)], 24, .commit⟩),   -- PREFIX_B (R422)
   (0x6001, ⟨[(0, 3)], 0, .commit⟩),   -- LOG_AUTOFREEZE (R501)
   (0x6002, ⟨[(0, 1024)], 64, .commit⟩)]   -- LOG_POST (R501)
def scalarRows6 : List (Nat × ParamRow) :=
  [(0x8000, ⟨[(1, 1000)], 100, .commit⟩),   -- HOST_TIMEOUT (R525)
   (0x8001, ⟨[(0, 65535)], 0, .commit⟩),   -- SAG_LATCH (R525)
   (0x8002, ⟨[(0, 65535)], 0, .commit⟩),   -- OUT_TEST_EN (R525)
   (0x8003, ⟨[(10, 50)], 30, .commit⟩),   -- OUT_TEST_PULSE (R525)
   (0x8004, ⟨[(0, 15)], 0, .commit⟩),   -- COUNT_EN (R525)
   (0xC001, ⟨[(1, 255)], 16, .commit⟩),   -- PLL_LOCK_WIN (R549)
   (0xC002, ⟨[(16, 4096)], 256, .commit⟩),   -- PLL_LOCK_CYCLES (R549)
   (0xC003, ⟨[(0, 1)], 1, .notForming⟩),   -- DITHER_EN (R549)
   (0xC004, ⟨[(1, 8388607)], 3516353, .notForming⟩),   -- DITHER_SEED (R549)
   (0xC005, ⟨[(-50000, 50000)], 0, .commit⟩),   -- CLOCK_TRIM (R549)
   (0xC010, ⟨[(60, 300)], 100, .commit⟩)]   -- VSUP_WARN (R549)
def scalarRows : List (Nat × ParamRow) :=
  scalarRows0 ++ scalarRows1 ++ scalarRows2 ++ scalarRows3 ++ scalarRows4 ++ scalarRows5 ++ scalarRows6

/-- The rows of P.3pxx, by their low byte; CARRIER_OFFSET (0x01) has its default per port (Table 2.5). -/
def portRows0 : List (Nat × ParamRow) :=
  [(0x01, ⟨[(0, 65535)], 0, .notForming⟩),   -- CARRIER_OFFSET (R58)
   (0x20, ⟨[(50, 400)], 150, .commit⟩),   -- P_PORT_MAX (R117)
   (0x21, ⟨[(100, 10000)], 2000, .commit⟩),   -- E_NOM (R117)
   (0x22, ⟨[(0, 100)], 80, .commit⟩),   -- SOH_DEFAULT (R117)
   (0x23, ⟨[(0, 50)], 10, .commit⟩),   -- SOC_MIN (R117)
   (0x24, ⟨[(50, 100)], 90, .commit⟩),   -- SOC_MAX (R117)
   (0x25, ⟨[(1, 20)], 5, .commit⟩),   -- SOC_BAND (R117)
   (0x26, ⟨[(40, 150)], 90, .commit⟩),   -- T_DER_START (R117)
   (0x27, ⟨[(45, 155)], 110, .commit⟩),   -- T_DER_END (R117)
   (0x28, ⟨[(0, 4000)], 250, .commit⟩),   -- K_PC (R117)
   (0x29, ⟨[(0, 10000)], 500, .commit⟩),   -- K_IC (R117)
   (0x30, ⟨[(10, 2000)], 400, .commit⟩),   -- I_PH_MAX (R149)
   (0x31, ⟨[(10, 2000)], 500, .commit⟩),   -- I_OC_TRIP (R149)
   (0x32, ⟨[(10, 2000)], 200, .commit⟩),   -- I_N_MAX (R149)
   (0x33, ⟨[(300, 1000)], 450, .commit⟩),   -- V_DC_MIN (R149)
   (0x34, ⟨[(400, 1050)], 950, .commit⟩),   -- V_DC_HI (R149)
   (0x35, ⟨[(450, 1050)], 1000, .commit⟩),   -- V_DC_MAX (R149)
   (0x36, ⟨[(0, 50)], 10, .commit⟩),   -- BMS_MARGIN (R149)
   (0x37, ⟨[(10, 10000)], 1000, .commit⟩),   -- BMS_OVER_T (R149)
   (0x40, ⟨[(0, 1)], 1, .notForming⟩)]   -- SPEC_EN (R173)
def portRows1 : List (Nat × ParamRow) :=
  [(0x41, ⟨[(1, 100)], 20, .commit⟩),   -- SPEC_WIN_I (R173)
   (0x42, ⟨[(1, 100)], 10, .commit⟩),   -- SPEC_WIN_V (R173)
   (0x43, ⟨[(1, 100)], 5, .commit⟩),   -- SPEC_WIN_DC (R173)
   (0x44, ⟨[(10, 10000)], 250, .commit⟩),   -- L_F (R173)
   (0x45, ⟨[(0, 500)], 10, .commit⟩),   -- R_F (R173)
   (0x46, ⟨[(1, 50)], 10, .commit⟩),   -- PLAUS_I (R173)
   (0x47, ⟨[(1, 50)], 5, .commit⟩),   -- PLAUS_SUM (R173)
   (0x48, ⟨[(1, 50)], 5, .commit⟩),   -- PLAUS_DC (R173)
   (0x49, ⟨[(1, 64)], 8, .commit⟩),   -- PLAUS_K (R173)
   (0x50, ⟨[(0, 4000000)], 300000, .commit⟩),   -- DLY_R_PH (R205)
   (0x51, ⟨[(0, 4000000)], 300000, .commit⟩),   -- DLY_F_PH (R205)
   (0x52, ⟨[(0, 4000000)], 300000, .commit⟩),   -- DLY_R_N (R205)
   (0x53, ⟨[(0, 4000000)], 300000, .commit⟩),   -- DLY_F_N (R205)
   (0x54, ⟨[(0, 1)], 1, .commit⟩),   -- VS_CARRY (R205)
   (0x60, ⟨[(40, 100)], 70, .notForming⟩),   -- DESAT_TH (R244)
   (0x61, ⟨[(80, 1200)], 320, .notForming⟩),   -- DESAT_BLANK (R244)
   (0x62, ⟨[(1, 16)], 4, .notForming⟩),   -- DRV_R_ON (R244)
   (0x63, ⟨[(1, 16)], 2, .notForming⟩),   -- DRV_R_OFF (R244)
   (0x64, ⟨[(5, 50)], 20, .commit⟩),   -- ISO_MIN (R244)
   (0x65, ⟨[(5, 200)], 30, .commit⟩)]   -- ISO_SETTLE (R244)
def portRows2 : List (Nat × ParamRow) :=
  [(0x66, ⟨[(5, 50)], 20, .commit⟩),   -- COIL_PULL_T (R244)
   (0x67, ⟨[(6, 20)], 10, .commit⟩),   -- COIL_HOLD (R244)
   (0x68, ⟨[(2, 100)], 10, .commit⟩),   -- COIL_FB_T (R244)
   (0x70, ⟨[(125, 125), (250, 250), (500, 500), (1000, 1000)], 500, .notForming⟩),   -- CAN_NOM_RATE (R244)
   (0x71, ⟨[(0, 2), (4, 5)], 2, .notForming⟩),   -- CAN_DATA_RATE (R244)
   (0x72, ⟨[(0, 1)], 1, .commit⟩),   -- CAN_TERM (R244)
   (0x10, ⟨[(20, 2500)], 600, .notForming⟩),   -- I_FS (R278)
   (0x11, ⟨[(500, 1250)], 1100, .notForming⟩),   -- V_FS (R278)
   (0x12, ⟨[(20, 2500)], 600, .notForming⟩),   -- I_DC_FS (R278)
   (0x13, ⟨[(770, 776), (1026, 1032), (1282, 1288)], 773, .notForming⟩),   -- CIC_LEG (R278)
   (0x14, ⟨[(770, 776), (1026, 1032), (1282, 1288)], 773, .notForming⟩),   -- CIC_VDC (R278)
   (0x15, ⟨[(770, 776), (1026, 1032), (1282, 1288)], 773, .notForming⟩),   -- CIC_IDC (R278)
   (0x16, ⟨[(770, 776), (1026, 1032), (1282, 1288)], 776, .notForming⟩),   -- CIC_TEMP (R278)
   (0x17, ⟨[(10, 1000)], 100, .commit⟩),   -- NTC_RNOM (R278)
   (0x18, ⟨[(2000, 5000)], 3435, .commit⟩),   -- NTC_BETA (R278)
   (0x80, ⟨[(10, 500)], 50, .commit⟩),   -- PLUG_DEBOUNCE (R305)
   (0x81, ⟨[(10, 3000)], 200, .commit⟩),   -- BMS_LOST_T (R305)
   (0x82, ⟨[(5, 100)], 20, .commit⟩),   -- PRECHG_DV (R305)
   (0x83, ⟨[(5, 2000)], 20, .commit⟩),   -- PRECHG_MIN_T (R305)
   (0x84, ⟨[(10, 1000)], 200, .commit⟩)]   -- PRECHG_T (R305)
def portRows3 : List (Nat × ParamRow) :=
  [(0x85, ⟨[(0, 1)], 0, .commit⟩),   -- PRECHG_AUTO (R305)
   (0x86, ⟨[(1, 1000)], 50, .commit⟩),   -- REL_RAMP_T (R305)
   (0x87, ⟨[(1, 300)], 30, .commit⟩),   -- DISCHARGE_T (R305)
   (0x88, ⟨[(0, 15), (255, 255)], 255, .notForming⟩),   -- BTN_IN (R305)
   (0x89, ⟨[(0, 1)], 0, .commit⟩),   -- BTN_MODE (R305)
   (0x8A, ⟨[(0, 15), (255, 255)], 255, .notForming⟩)]   -- SLOT_OUT (R305)
def portRows : List (Nat × ParamRow) :=
  portRows0 ++ portRows1 ++ portRows2 ++ portRows3

def meterRows : List (Nat × ParamRow) :=
  [(0x00, ⟨[(500, 1250)], 1100, .sealed⟩),   -- MET_V_FS (R334)
   (0x01, ⟨[(20, 2500)], 600, .sealed⟩),   -- MET_I_FS (R334)
   (0x02, ⟨[(90000, 110000)], 100000, .sealed⟩),   -- CAL_V (R334)
   (0x03, ⟨[(90000, 110000)], 100000, .sealed⟩),   -- CAL_I (R334)
   (0x04, ⟨[(-500, 500)], 0, .sealed⟩),   -- OFS_V (R334)
   (0x05, ⟨[(-1000, 1000)], 0, .sealed⟩),   -- OFS_I (R334)
   (0x06, ⟨[(2, 50)], 10, .sealed⟩)]   -- I_START (R334)

/-- Table 2.5: the default CARRIER_OFFSET of each port. -/
def carrierOffsets : List Int :=
  [0, 5461, 10923, 16384, 21845, 27307, 32768, 38229, 43691, 49152, 54613, 60075]

/-- The indexed parameters: first number, count, row. -/
def arrayRows : List (Nat × Nat × ParamRow) :=
  [(0x5140, 24, ⟨[(0, 3)], 0, .commit⟩),   -- ADC_MODE_n (R280)
   (0x5160, 24, ⟨[(-4096, 4095)], 0, .commit⟩),   -- ADC_OFFSET_n (R280)
   (0x5180, 24, ⟨[(16384, 49151)], 32768, .commit⟩),   -- ADC_GAIN_n (R280)
   (0x9000, 8, ⟨[(0, 3)], 0, .service⟩),   -- SI_MODE_n (R372)
   (0x9010, 8, ⟨[(5, 100)], 10, .service⟩),   -- SI_FILTER_n (R372)
   (0x9018, 8, ⟨[(5, 2000)], 100, .service⟩),   -- SI_DISC_T_n (R372)
   (0x9020, 8, ⟨[(1, 2)], 2, .service⟩),   -- SI_ACTION_n (R372)
   (0x9030, 4, ⟨[(0, 3)], 0, .service⟩),   -- SO_SRC_m (R372)
   (0x9100, 12, ⟨[(100, 3000)], 2400, .service⟩),   -- SLC_LIM_p (R372)
   (0x9110, 12, ⟨[(0, 2)], 0, .service⟩),   -- SLD_DIR_p (R372)
   (0x9120, 12, ⟨[(5, 500)], 40, .service⟩),   -- SLD_TOL_p (R372)
   (0x9130, 12, ⟨[(400, 1200)], 960, .service⟩),   -- SLV_MAX_p (R372)
   (0x9140, 12, ⟨[(5, 100)], 54, .service⟩),   -- SCL_V_p (R372)
   (0x9150, 12, ⟨[(5, 100)], 10, .service⟩),   -- SCL_I_p (R372)
   (0x9178, 4, ⟨[(0, 65534)], 0, .service⟩),   -- SM_RX_ID_j (R372)
   (0x917C, 4, ⟨[(20, 5000)], 200, .service⟩),   -- SM_RX_TIMEOUT_j (R372)
   (0x9180, 4, ⟨[(0, 1)], 1, .service⟩),   -- SM_RX_ACTION_j (R372)
   (0xB010, 12, ⟨[(0, 1)], 0, .commit⟩),   -- REGION_SAFE_p (R396)
   (0x8010, 16, ⟨[(0, 1000)], 30, .commit⟩),   -- IN_FILTER_n (R525)
   (0x8020, 16, ⟨[(0, 2)], 0, .commit⟩)]   -- OUT_SAFE_n (R525)

/-- SI_TP_n: two nibbles, each 0x0 to 0x3 or 0xF (Table 11.10). -/
def siTpRow : ParamRow :=
  ⟨[0, 1, 2, 3, 15].flatMap fun b => [0, 1, 2, 3, 15].map fun a => (16 * b + a, 16 * b + a), 0x10, .service⟩

/-- LOG_CTRL_c: LOG_RATE in [15:8], set in [3:0], [7:4] 0 (R501). -/
def logCtrlAdmits (v : Int) : Bool :=
  decide (0 ≤ v) && decide (v ≤ 0xFFFF) && decide (1 ≤ v / 256) &&
    (decide (v % 256 ≤ 7) || decide (v % 256 = 15))

/-- Block bases and sizes of Table 14.7. -/
def addrBlocks : List (Nat × Nat) :=
  [(0x00000000, 0x10000), (0x00010000, 0x10000), (0x00020000, 0x10000)] ++
  (List.range 4).map (fun s => (0x00100000 + s * 0x1000, 0x1000)) ++
  (List.range 13).map (fun p => (0x00200000 + p * 0x1000, 0x1000)) ++
  [(0x00300000, 0x10000), (0x00310000, 0x10000), (0x00320000, 0x10000), (0x00330000, 0x10000), (0x00400000, 0x10000)]

/-- The block of Table 14.7 that holds an address. [DESIGN CHOICE, safe: log 100] -/
def blockOf (a : Nat) : Option (Nat × Nat) :=
  addrBlocks.find? fun b => decide (b.1 ≤ a) && decide (a < b.1 + b.2)

/-- LOG_SNAP_s_i: none, or a 4-aligned address inside a block (R501). -/
def logSnapAdmits (v : Int) : Bool :=
  decide (v = 0xFFFFFFFF) || (decide (0 ≤ v) && decide (v.toNat % 4 = 0) && (blockOf v.toNat).isSome)

/-- ADC_SEQ_e (R280, R281): [15] LAST, [14:13] averaging code, [12:5] 0, [4:0] input 0 to 23. -/
def adcSeqAdmits (v : Int) : Bool := decide (0 ≤ v) && decide (v ≤ 0xFFFF) && decide (v % 32 ≤ 23)
/-- A nonzero bit in [12:5] is refused with a status of its own (R281). -/
def adcSeqReserved (v : Int) : Bool := decide (v / 32 % 256 ≠ 0)

def scalarRow (n : Nat) : Option ParamRow := (scalarRows.find? fun r => r.1 == n).map (·.2)

def portRow (p low : Nat) : Option ParamRow :=
  if low = 0x01 then some ⟨[(0, 65535)], carrierOffsets.getD p 0, .notForming⟩
  else (portRows.find? fun r => r.1 == low).map (·.2)

def arrayRow (n : Nat) : Option ParamRow :=
  (arrayRows.find? fun r => decide (r.1 ≤ n) && decide (n < r.1 + r.2.1)).map (·.2.2)

/-- The default and kind of an assigned parameter number (R23); none where unassigned. -/
def paramRow (n : Nat) : Option ParamRow :=
  if n / 0x1000 = 3 then if n / 0x100 % 16 < 12 then portRow (n / 0x100 % 16) (n % 0x100) else none
  else if n / 0x1000 = 0xA then
    if n / 0x100 % 16 < 12 then (meterRows.find? fun r => r.1 == n % 0x100).map (·.2) else scalarRow n
  else if 0x6100 ≤ n ∧ n < 0x6140 ∧ n % 8 < 6 then some ⟨[], 0xFFFFFFFF, .commit⟩
  else if 0x6200 ≤ n ∧ n < 0x6300 then some ⟨[], 0x100F, .commit⟩
  else if 0x5100 ≤ n ∧ n < 0x5120 then some ⟨[], if n < 0x5118 then 0x8000 + (n - 0x5100 : Nat) else 0x8000, .commit⟩
  else if 0x9008 ≤ n ∧ n < 0x9010 then some siTpRow
  else (arrayRow n).or (scalarRow n)

/-- Does the table allow the wire value? -/
def paramAdmits (n : Nat) (v : Int) : Bool :=
  if 0x6100 ≤ n ∧ n < 0x6140 then logSnapAdmits v
  else if 0x6200 ≤ n ∧ n < 0x6300 then logCtrlAdmits v
  else if 0x5100 ≤ n ∧ n < 0x5120 then adcSeqAdmits v
  else match paramRow n with
    | some r => r.admits v
    | none => false

/-- Values travel signed where the range includes negative values (R445). -/
def paramSigned (n : Nat) : Bool :=
  match paramRow n with
  | some r => r.ranges.any fun x => decide (x.1 < 0)
  | none => false

/-- A 32-bit wire word as the parameter's integer. -/
def paramOfWire (n w : Nat) : Int :=
  if paramSigned n ∧ 2 ^ 31 ≤ w then (w : Int) - 2 ^ 32 else w

/-- The parameter's integer as a 32-bit wire word. -/
def paramToWire (v : Int) : Nat := (v % 2 ^ 32).toNat

abbrev ParamStore := List (Nat × Int)

/-- A stored value: the listed deviation or the default (0 where unassigned). -/
def ParamStore.get (st : ParamStore) (n : Nat) : Int :=
  match st.find? (fun e => e.1 == n) with
  | some e => e.2
  | none => match paramRow n with
    | some r => r.dflt
    | none => 0

/-- Store a value, keeping the list sorted and free of defaults. -/
def ParamStore.set (st : ParamStore) (n : Nat) (v : Int) : ParamStore :=
  let before := st.filter fun e => decide (e.1 < n)
  let after := st.filter fun e => decide (n < e.1)
  if (paramRow n).map (·.dflt) = some v then before ++ after else before ++ (n, v) :: after

/-- Every assigned number of a list of thousands groups, ascending (R449). -/
def assignedIn (g : Nat) : List Nat := (List.range 0x1000).map (g * 0x1000 + ·) |>.filter fun n => (paramRow n).isSome

/-- The numbers PARAM_HASH covers: P.1xxx to P.8xxx, P.Bxxx, P.Cxxx (R449). -/
def hashedNumbers : List Nat := [1, 2, 3, 4, 5, 6, 7, 8, 0xB, 0xC].flatMap assignedIn

/-- The safety parameters P.9xxx, ascending. -/
def safetyNumbers : List Nat := assignedIn 9

end Sys2Proof.Machine
end

