-- ==== Sys2Proof/Machine/TypesHost.lean ====
section
/-! DEFINITION. State of one Headland's host side: the Zwisoif transports, the Ring log, Strandline. Each field names the rule
that gives it; a default is the value at reset. -/
namespace Sys2Proof.Machine

/-! ### Zwisoif transports (14_zwisoif_packets.md) -/

/-- A request that has passed step 7 of Table 14.3 and waits in a class queue (R442). -/
structure QItem where
  op : Nat
  req : Req
  /-- Tick at which its last byte arrived (R443). -/
  at_ : Nat := 0
  /-- The SPI transaction that carried it (R431). -/
  txn : Nat := 0
  deriving DecidableEq, Repr

/-- A reply as Table 14.1 and R426 lay it out. -/
structure Reply where
  session : Session
  net : Net
  cls : Nat
  op : Nat
  status : Nat
  seq : Nat
  replayed : Bool := false
  urgent : Bool := false
  normal : Bool := false
  payload : List Byte := []
  deriving DecidableEq, Repr

/-- A reply kept for the replay check (R436). -/
structure Kept where
  op : Nat
  req : Req
  reply : Reply
  deriving DecidableEq, Repr

/-- A tracked UDP session with its kept replies (R435, R436). -/
structure UdpSession where
  key : Session
  kept : List Kept := []
  deriving DecidableEq, Repr

/-- A reply that waits on SPI, with the transaction that carried its request (R430, R431). -/
structure SpiReply where
  reply : Reply
  txn : Nat
  deriving DecidableEq, Repr

/-- A finished configuration change whose reply waits for the standby (R382). -/
structure AwaitAck where
  item : QItem
  status : Nat
  payload : List Byte
  /-- The standby has acknowledged it, or the 10 ms have passed. R382 -/
  acked : Bool := false
  /-- SEQ of the last mirror frame that carried part of the change; none until launched (R379). -/
  carried : Option Nat := none
  /-- Tick of its acceptance. R382 -/
  since : Nat := 0
  deriving DecidableEq, Repr

/-- What begins after a reply (R460, R461). -/
inductive AfterReply | standby | moduleReset | peerReset
  deriving DecidableEq, Repr

/-- A fragmented datagram in reassembly (R433). -/
structure Reassembly where
  net : Net
  src : Nat
  ident : Nat
  /-- Fragments held: offset in bytes and length. -/
  parts : List (Nat × Nat)
  /-- Total length, known once the last fragment is in. -/
  total : Option Nat
  /-- Tick of the first fragment. R433 -/
  since : Nat
  deriving DecidableEq, Repr

/-- The host interface of one Headland. -/
structure HostIf where
  /-- Class queues 0 to 3, oldest first. R442 -/
  queues : Vector (List QItem) 4 := Vector.replicate 4 []
  /-- Replies the SPI session keeps, newest last, at most 8. R436 -/
  spiKept : List Kept := []
  /-- UDP sessions tracked, longest silent first, at most 8. R435 -/
  udp : List UdpSession := []
  /-- Equal requests that await the reply of the one queued. R436 -/
  twins : List QItem := []
  /-- Class-0 replies waiting on SPI, oldest first, at most 4. R432 -/
  spi0 : List SpiReply := []
  /-- Replies of classes 1 to 3 waiting on SPI, at most 32. R432 -/
  spiN : List SpiReply := []
  /-- Number of the SPI transaction, counted at each CS_N fall. R430 -/
  txn : Nat := 0
  /-- CS_N is low. R430 -/
  csLow : Bool := false
  /-- The parser discards until CS_N rises. R431 -/
  hunt : Bool := false
  /-- SPI_STAT and SPI_ROOM as last sent. R430 -/
  spiHead : Nat × Nat := (0, 0)
  /-- Finished configuration changes that await the standby. R382 -/
  awaiting : List AwaitAck := []
  /-- What begins after the reply. R460 -/
  after : Option AfterReply := none
  /-- A GET_STATUS was answered since TRIPPED or LOCKOUT was entered. R439 -/
  attnSeen : Bool := false
  /-- Tick of the last class-0 request on SPI, network A, network B. R443 -/
  lastClass0 : Vector (Option Nat) 3 := Vector.replicate 3 none
  /-- Datagrams in reassembly, at most 4. R433 -/
  reasm : List Reassembly := []
  /-- BAD_CRCS, 32 bits. R453 -/
  badCrcs : Nat := 0
  /-- LEN_EXCEEDED, 32 bits. R453 -/
  lenExceeded : Nat := 0
  /-- SPI_ABORTS, 16 bits. R431 -/
  spiAborts : Nat := 0
  /-- SPI_OVERRUNS, 16 bits. R432 -/
  spiOverruns : Nat := 0
  /-- UDP_DISCARDED, 16 bits. R434 -/
  udpDiscarded : Nat := 0
  /-- REPLAYS, 16 bits. R436 -/
  replays : Nat := 0
  /-- QUEUE_FULLS, 16 bits. R453 -/
  queueFulls : Nat := 0
  /-- CLASS0_UNBOUND, 16 bits. R443 -/
  class0Unbound : Nat := 0
  /-- CLASS0_WORST since the last snapshot, 16 bits, 0.1 µs. R453 -/
  class0Worst : Nat := 0
  deriving DecidableEq, Repr

/-! ### The Ring log (16_capture_and_history.md) -/

/-- An event as raised: Table 19.5 with the stamps of Table 16.5. -/
structure Event where
  code : Nat
  source : Nat := 0xFF
  arg0 : Nat := 0
  arg1 : Nat := 0
  data : List Nat := []
  tick : Nat := 0
  opSec : Nat := 0
  pcc : Nat := 0
  ptpValid : Bool := false
  ptpSec : Nat := 0
  ptpNs : Nat := 0
  /-- The STATE_CHANGE of an entry that starts the count of LOG_AUTOFREEZE (R498). -/
  entry : Bool := false
  deriving DecidableEq, Repr

/-- A record of the Ring log (Table 16.5); CHECK is formed when it is read. -/
structure LogRecord where
  number : Nat
  event : Event
  writer : Hd
  suppressed : Bool
  snapshot : Bool
  dropped : Nat
  deriving DecidableEq, Repr

structure Log where
  /-- Records held, lowest number first, at most 32,768 of 64 bytes. R492 -/
  records : List LogRecord := []
  /-- Highest number written, 32 bits; 0 when none. R494 -/
  newest : Nat := 0
  /-- Numbers left out before the next record, after a takeover. R494 -/
  gap : Nat := 0
  /-- CURSOR, 32 bits. R500 -/
  cursor : Nat := 1
  /-- FROZEN, held in MRAM. R498 -/
  frozen : Bool := false
  /-- OP_SEC, 32 bits, held in MRAM. R493 -/
  opSec : Nat := 0
  /-- Tick of the last count of OP_SEC. R493 -/
  opAt : Nat := 0
  /-- PCC, 24 bits, held in MRAM. R493 -/
  pcc : Nat := 0
  /-- FROZEN_DROPS, 32 bits. R498 -/
  frozenDrops : Nat := 0
  /-- RATE_DROPS, 32 bits. R502 -/
  rateDrops : Nat := 0
  /-- Records written of each code since OP_SEC last moved. R497 -/
  written : List (Nat × Nat) := []
  /-- DROPPED counts by code. R497 -/
  dropped : List (Nat × Nat) := []
  /-- Records that remain before an automatic freeze. R498 -/
  post : Option Nat := none
  /-- The next record is LOG_RESUMED. R498 -/
  resume : Bool := false
  /-- Events raised and not yet written, oldest first. R495 -/
  queue : List Event := []
  deriving DecidableEq, Repr

/-! ### Strandline (16_capture_and_history.md) -/

inductive CapState | idle | armed | triggered | done | streaming
  deriving DecidableEq, Repr

/-- CAP_CONFIG and CAP_TRIGGER (Table 15.6). -/
structure CapConfig where
  length : Nat := 0
  pre : Nat := 0
  div : Nat := 0
  mode : Nat := 0
  /-- Bit 31 ENABLE, [23:16] LINK, [15:8] CHANNEL, by record channel. -/
  sel : List Nat := List.replicate 32 0
  source : Nat := 4
  arg : Nat := 0
  edge : Nat := 0
  level : Int := 0
  hyst : Nat := 0
  holdoff : Nat := 0
  deriving DecidableEq, Repr

/-- A host mask (R481): vertices of time in µs and value. -/
structure CapMask where
  channel : Nat
  upper : Bool
  stop : Bool
  vertices : List (Nat × Int)
  deriving DecidableEq, Repr

/-- CAP_STREAM (Table 15.6). -/
structure CapStream where
  nets : Nat
  cls : Nat
  port : Nat
  ip : Nat
  mask : Nat
  deriving DecidableEq, Repr

/-- One sample of one channel: validity and r. -/
structure CapSample where
  valid : Bool
  r : Int
  deriving DecidableEq, Repr

/-- The samples of every enabled channel at one instant, with the PTP reading in ns (R474, R475). -/
structure CapSet where
  samples : List CapSample
  index : Nat
  ptp : Rat
  deriving DecidableEq, Repr

/-- A trigger condition that waits for its sample (R479). -/
structure CapFire where
  time : Rat
  forced : Bool
  maskStop : Bool
  deriving DecidableEq, Repr

structure Cap where
  /-- Configuration of CAP_CONFIG and CAP_TRIGGER. R467 -/
  cfg : CapConfig := {}
  /-- Host masks 0 to 3. R481 -/
  masks : Vector (Option CapMask) 4 := Vector.replicate 4 none
  /-- Destination of CAP_STREAM. R488 -/
  stream : Option CapStream := none
  /-- Configuration of the record in memory, as its arming found it. R468 -/
  recordCfg : CapConfig := {}
  /-- Streaming of the record in memory, as its arming found it. R489 -/
  recordStream : Option CapStream := none
  /-- CAP_STATE. R476 -/
  state : CapState := .idle
  /-- OVERFLOW, W1C. R489 -/
  overflow : Bool := false
  /-- MASK_STOP. R482 -/
  maskStop : Bool := false
  /-- FORCED. R479 -/
  forced : Bool := false
  /-- ECC_DISCARD, W1C. R476 -/
  eccDiscard : Bool := false
  /-- MASK_HIT, 8 bits. R481 -/
  maskHit : Nat := 0
  /-- RECORD_NO, 32 bits. R476 -/
  recordNo : Nat := 0
  /-- Sample sets held, oldest first. R474 -/
  sets : List CapSet := []
  /-- Index the next sample takes. R474 -/
  nextIndex : Nat := 0
  /-- Capture time, in ns of PTP. R478 -/
  trigTime : Rat := 0
  /-- PTP_VALID at the trigger. R475 -/
  trigValid : Bool := false
  /-- Index of the trigger sample. R479 -/
  trigIndex : Option Nat := none
  /-- Trigger condition that waits for the next sample instant. R479 -/
  fire : Option CapFire := none
  /-- Time at which trigger evaluation begins, ns of PTP. R477 -/
  evalFrom : Option Rat := none
  /-- Time at which PRE samples were held. R477 -/
  fullAt : Option Rat := none
  /-- Rising and falling priming of a level trigger. R478 -/
  primed : Bool × Bool := (false, false)
  /-- Trigger found at the newest sample, until the record becomes TRIGGERED. R479 -/
  due : Option CapFire := none
  /-- Tick of the arming. R474 -/
  armedAt : Nat := 0
  /-- MCLK of the last sample instant. R474 -/
  lastAt : Option Nat := none
  /-- Tick of the entry into DONE. R487 -/
  doneAt : Nat := 0
  /-- The last sample has been taken and DONE waits for the measurements. R476 -/
  ended : Bool := false
  /-- Measurements of each channel, formed at DONE. R486 -/
  meas : List (List Int) := []
  /-- STREAM_SENT, 32 bits. R502 -/
  streamSent : Nat := 0
  /-- STREAM_LOST, 32 bits. R502 -/
  streamLost : Nat := 0
  /-- Sets discarded since the last datagram. R488 -/
  lost : Nat := 0
  /-- Sets that wait to leave, oldest first. R488 -/
  fifo : List CapSet := []
  deriving DecidableEq, Repr

end Sys2Proof.Machine
end

