-- ==== Sys2Proof/Machine/TypesSense.lean ====
section
/-! DEFINITION. State of the sensing chain: decimators of the Shoals, auxiliary converter of a Headland
(08_sensing_chain.md). Each field names the rule that gives it; a default is the value at reset. -/
namespace Sys2Proof.Machine

/-- One bit after the integrators: u mod 2^W, and whether R264 makes it invalid. -/
structure HistBit where
  u : Nat
  bad : Bool
  deriving DecidableEq, Repr

/-- One decimated channel (R259). -/
structure DecChan where
  /-- acc[1] to acc[N]. R259 -/
  acc : List Nat := []
  /-- hist, newest first, as long as the combs reach. R259 -/
  hist : List HistBit := []
  /-- Identical consecutive bits, 0 to 256, and their value. R254 -/
  run : Nat := 0
  last : Bool := false
  /-- Clocks since the restart, 0 to 2^20. R264 -/
  clocks : Nat := 0
  deriving DecidableEq, Repr

/-- q and r of one sample with its validity (R261, R264). -/
structure Sample where
  q : Int := 0
  r : Int := 0
  valid : Bool := false
  deriving DecidableEq, Repr

/-- The decimators of one link. -/
structure DecLink where
  /-- The seven channels. R258 -/
  chans : Vector DecChan 7 := Vector.replicate 7 {}
  /-- MCLK of the newest bit, 32 bits. R253 -/
  head : Option Nat := none
  /-- End clock of the sample that a tide SAMPLE asked for. R262 -/
  sampleAt : Option Nat := none
  /-- The last sample of each channel, as the Headlands hold it. R262 -/
  samples : Vector Sample 7 := Vector.replicate 7 {}
  /-- The last free-running output of each channel. R263 -/
  free : Vector Sample 7 := Vector.replicate 7 {}
  /-- r of the last valid temperature sample. R255 -/
  temp : Option Int := none
  /-- STUCK_SEEN, 7 bits, W1C. R282 -/
  stuckSeen : Nat := 0
  /-- NTC_FAULT. R282 -/
  ntcFault : Bool := false
  /-- Tick since which the NTC reads within 0.02 V to 1.22 V. R255 -/
  ntcGood : Option Nat := none
  /-- CH_SAT, 7 bits, W1C. R282 -/
  chSat : Nat := 0
  /-- LOST, 7 bits, W1C. R282 -/
  lost : Nat := 0
  /-- CFG_LEG, CFG_VDC, CFG_IDC, CFG_TEMP in force; CFG_LEG and CFG_VDC hold INV and GRID of Skerry G. R282 -/
  cfg : Vector Nat 4 := #v[0x0305, 0x0305, 0x0305, 0x0308]
  /-- Shifts of INV and of GRID, stages 1 to 10, 4 bits each, stage 1 lowest. R282 -/
  shifts : Nat × Nat := (0, 0)
  deriving DecidableEq, Repr

/-- An urgent request in the queue (R273, R276). -/
structure Urgent where
  input : Nat
  avg : Nat
  item : QItem
  deriving DecidableEq, Repr

/-- The auxiliary converter of a Headland. -/
structure Adc where
  /-- SEQ_COUNT, 8 bits. R283 -/
  seqCount : Nat := 0
  /-- RUNNING. R283 -/
  running : Bool := false
  /-- SCHEDULED, with the start entry and the rank of its trigger: 0 tide, 1 timer, 2 ADC_START. R272 -/
  scheduled : Option (Nat × Nat) := none
  /-- Tick of the first sampling instant. R271 -/
  startAt : Nat := 0
  /-- Tick at which the slots of the running entry or urgent request begin. R269 -/
  slotAt : Nat := 0
  /-- Tick of the timer's last expiry. R271 -/
  timerAt : Nat := 0
  /-- RESUMING. R283 -/
  resuming : Bool := false
  /-- The running entry has been restarted and is not interrupted. R273 -/
  restarted : Bool := false
  /-- The urgent requests being served came between two entries: none was interrupted. R273 -/
  between : Bool := false
  /-- SHIFTED applies to this and later entries. R271 -/
  shifted : Bool := false
  /-- ENTRY, 5 bits. R283 -/
  entry : Nat := 0
  /-- Urgent queue in order of arrival, at most 4. R273 -/
  urgent : List Urgent := []
  /-- Urgent requests completed, modulo 4. R283 -/
  urgentNo : Nat := 0
  /-- OVR_SEEN, SHIFT_SEEN, TRIG_OVERRUN, W1C. R283 -/
  ovrSeen : Bool := false
  shiftSeen : Bool := false
  trigOverrun : Bool := false
  /-- OVERRUNS, 32 bits. R283 -/
  overruns : Nat := 0
  /-- RESULT_0 to RESULT_31, then URGENT_0 to URGENT_3, without NEW. R283 -/
  results : Vector Nat 36 := Vector.replicate 36 0
  /-- Words written since the last snapshot. R283 -/
  fresh : Vector Bool 36 := Vector.replicate 36 false
  /-- Parameters ADC_SEQ, TIMER, DLY, MODE, OFFSET, GAIN that differ from the committed ones, in force until applied. R280 -/
  inForce : Option ParamStore := none
  deriving DecidableEq, Repr

end Sys2Proof.Machine
end

