-- ==== Sys2Proof/Machine/TypesMeter.lean ====
section
/-! DEFINITION. State of the Tide gauge, the sealed cartridge (10_metrology_cartridge.md). Each field names the rule that gives
it; a default is the value at reset. -/
namespace Sys2Proof.Machine

/-- A session record (Table 10.4); the END fields of an open one are formed at the read. -/
structure SessionRec where
  port : Nat
  no : Nat
  opened : Bool := true
  cause : Nat := 0
  sealOpen : Bool := false
  overrange : Bool := false
  openSec : Nat
  openPcc : Nat
  closeSec : Nat := 0
  closePcc : Nat := 0
  impStart : Nat
  expStart : Nat
  impEnd : Nat := 0
  expEnd : Nat := 0
  gapUs : Nat := 0
  /-- Lowest and highest v at or above SESS_V_ON, 0.1 V. -/
  vMin : Nat := 0xFFFF
  vMax : Nat := 0
  legalId : Nat := 0
  deriving DecidableEq, Repr

/-- Register values and OP_SEC of the first valid sample of an interval, and what its samples have given (R317, R321). -/
structure Interval where
  imp : Nat
  exp : Nat
  sec : Nat
  vMin : Nat
  vMax : Nat
  overrange : Bool
  gapUs : Nat
  /-- The tick of its first valid sample. R317 -/
  startedAt : Nat
  /-- SEAL_STATE has been other than SEALED at or after that sample. R321 -/
  sealOpen : Bool
  deriving DecidableEq, Repr

/-- Energy of one port. -/
structure Energy where
  /-- IMPORT, 64 bits, mWh. R315 -/
  imp : Nat := 0
  /-- EXPORT, 64 bits, mWh. R315 -/
  exp : Nat := 0
  /-- import_acc and export_acc, 96 bits: the part below 1 mWh, in nWh. R314 -/
  impAcc : Nat := 0
  expAcc : Nat := 0
  /-- GAP_TOTAL, 32 bits. R336 -/
  gapTotal : Nat := 0
  deriving DecidableEq, Repr

/-- What the cartridge writes to MRAM every second (R316). -/
structure MeterStore where
  /-- Registers and remainders of the ports. R316 -/
  energy : Vector Energy 12 := Vector.replicate 12 {}
  /-- SessionRec records, lowest number first, at most 4,096. R319 -/
  sessions : List SessionRec := []
  /-- SESSION_NO of the last opening. R319 -/
  lastNo : Nat := 0
  /-- OVERWRITTEN, 32 bits. R336 -/
  overwritten : Nat := 0
  /-- OP_SEC, 32 bits. R320 -/
  opSec : Nat := 0
  deriving DecidableEq, Repr

/-- The metering path of one port. -/
structure MeterPort where
  /-- MSEQ of the last accepted sub-frame. R313 -/
  mseq : Option Nat := none
  /-- After a mismatch of MSEQ: the MSEQ of the sub-frame before, none where its MCRC did not match. R313 -/
  resync : Option (Option Nat) := none
  /-- The tick at which the last slot was fed. R313 -/
  slotAt : Option Nat := none
  /-- Voltage and current decimators. R314 -/
  v : DecChan := {}
  i : DecChan := {}
  /-- Modulator clocks towards the next output, 0 to 99. R314 -/
  phase : Nat := 0
  /-- Interval in progress towards an opening. R317 -/
  opening : Option Interval := none
  /-- Interval in progress towards a closing. R317 -/
  closing : Option Interval := none
  /-- Registers and OP_SEC at the last valid sample. R318 -/
  lastValid : Option (Nat × Nat × Nat) := none
  /-- The tick of the last valid sample. R318 -/
  validAt : Option Nat := none
  deriving DecidableEq, Repr

/-- An answer on the read link: the word at an address, SEALED (R34), or a read refused for its CRC (R32). -/
inductive LinkAnswer
  | word (addr value : Nat)
  | isSealed
  | readRefused
  deriving DecidableEq, Repr

structure Meter where
  /-- The cartridge is powered. R333 -/
  powered : Bool := false
  /-- The values in the cartridge's SRAM. R316 -/
  live : MeterStore := {}
  /-- The last write to MRAM. R316 -/
  mram : MeterStore := {}
  /-- Metering paths. R313 -/
  ports : Vector MeterPort 12 := Vector.replicate 12 {}
  /-- SEAL_STATE: 0 UNVERIFIED, 1 SEALED, 2 OPEN, in MRAM. R329 -/
  sealState : Nat := 0
  /-- COVER_OPEN, in MRAM. R336 -/
  coverOpen : Bool := false
  /-- Step 5 has completed while this cover was open. R329 -/
  verified : Bool := false
  /-- The key; none where no key is loaded. R331 -/
  key : Option (List Byte) := none
  /-- KEY_ID, 32 bits. R336 -/
  keyId : Nat := 0
  /-- LEGAL_ID as the last verification formed it; none before the first, see Meter.legal. R331 -/
  legalId : Option Nat := none
  /-- PCC, 24 bits, in MRAM. R320 -/
  pcc : Nat := 0
  /-- VERIFY_COUNT, 16 bits. R336 -/
  verifyCount : Nat := 0
  /-- SEAL_BREAKS, 16 bits. R336 -/
  sealBreaks : Nat := 0
  /-- MODULE_SERIAL, 32 bits. R336 -/
  moduleSerial : Nat := 0
  /-- VERIFY_DATE, 32 bits. R336 -/
  verifyDate : Nat := 0
  /-- The tool's own identifier, written in step 5. R330 -/
  toolId : Nat := 0
  /-- The tick of the last second of OP_SEC. R316, R320 -/
  secAt : Option Nat := none
  /-- The tick of the third failure in a row. R330 -/
  lockAt : Option Nat := none
  /-- The sealed parameters P.Axxx. R334 -/
  params : ParamStore := []
  /-- The tool has authenticated. R330 -/
  auth : Bool := false
  /-- Failed authentications, 0 to 3; 3 is the lock-out of 1 h. R330 -/
  authFails : Nat := 0
  /-- The connector refuses further requests. R330 -/
  toolRefused : Bool := false
  /-- The tool's last read: LEGAL_ID, CART_SERIAL, sealed parameters. R330 -/
  toolReply : List Nat := []
  /-- Port and direction (export) of the pulse output. R330 -/
  pulse : Option (Nat × Bool) := none
  /-- Energy towards the next pulse, nWh, and pulses given. R330 -/
  pulseAcc : Nat := 0
  pulses : Nat := 0
  /-- The Headland takes the cartridge as absent. R332 -/
  absent : Bool := true
  /-- The firmware has read SEAL_STATE = OPEN. R332 -/
  openSeen : Bool := false
  /-- MODULE_SERIAL has been compared since the power-up. R333 -/
  compared : Bool := false
  /-- Corrected SRAM errors, saturating at 0xFFFF_FFFF. R30 -/
  eccCorrected : Nat := 0
  /-- The answer to the last request on the read link; none where the cartridge is unpowered. R34 -/
  linkReply : Option LinkAnswer := none
  deriving DecidableEq, Repr

end Sys2Proof.Machine
end

