-- ==== Sys2Proof/Machine/TypesPair.lean ====
section
/-! DEFINITION. State of the tide table, the pair of Headlands, PTP, the networks and the peers. Each field names the rule that
gives it; a default is the value at reset. -/
namespace Sys2Proof.Machine

/-! ### The tide table (02_angle_time.md) -/

/-- One tide entry, Table 2.6. -/
structure TideEntry where
  /-- ANGLE, 32 bits. R61 -/
  angle : Nat := 0
  /-- ENABLE. R61 -/
  enable : Bool := false
  /-- PERIODIC. R61 -/
  periodic : Bool := false
  /-- GATED. R61 -/
  gated : Bool := false
  /-- ARMED. R61 -/
  armed : Bool := false
  /-- ACTION, 4 bits. R61 -/
  action : Nat := 0
  /-- REF, 4 bits. R61 -/
  ref : Nat := 0
  /-- PORT, 4 bits. R61 -/
  port : Nat := 0
  /-- ARG, 8 bits. R61 -/
  arg : Nat := 0
  /-- FIRE_COUNT, 8 bits. R61 -/
  fireCount : Nat := 0
  /-- GATE_SEC, 32 bits. R61 -/
  gateSec : Nat := 0
  /-- GATE_NS, 30 bits. R61 -/
  gateNs : Nat := 0
  /-- What its reference has still to advance, in units of 2^-32 turn, while the block of R63 stands. R63 -/
  block : Option Nat := none
  deriving DecidableEq, Repr

/-- The angle fields of a command-link frame. R51 -/
structure AngleFields where
  incNew : Nat
  applyTick : Nat
  anchor : Nat
  /-- Deviation of FCW from its nominal target from APPLY_TICK on, in ppb: a small step. R532 -/
  tune : Int := 0
  deriving DecidableEq, Repr

/-- What one command-link frame brings for its APPLY_TICK: the angle fields and the tide updates. R51, R68 -/
structure StepFields where
  /-- The angle fields. R51 -/
  angle : AngleFields
  /-- The tide updates, by entry. R68 -/
  tides : List (Nat × TideEntry) := []
  /-- The Headland whose frame it was. R384 -/
  sender : Hd := 0
  deriving DecidableEq, Repr

/-- A tide event frame on its way to the Headlands (R62). -/
structure TideEvent where
  entry : Nat
  action : Nat
  arg : Nat
  theta : Nat
  tick : Nat
  /-- PTP time of the crossing tick in ns. -/
  ptp : Rat
  deriving DecidableEq, Repr

/-! ### The pair (12_headland_fail_over.md) -/

/-- Roles of R374, coded as in Table 12.5. -/
inductive Role | boot | active | standby | resync | resetting
  deriving DecidableEq, Repr

def Role.code : Role → Nat
  | .boot => 0 | .active => 1 | .standby => 2 | .resync => 3 | .resetting => 4

/-- An item of the selectable set (R381): a log record by number, or a CAN frame of a port's relay ring by sequence. -/
inductive MirrorItem
  | log (number : Nat)
  | can (port : Nat) (seq : Nat)
  deriving DecidableEq, Repr

structure Pair where
  /-- ROLE. R374 -/
  role : Role := .boot
  /-- ALIVE toggles. R375 -/
  alive : Bool := false
  /-- CLAIM is driven. R375 -/
  claim : Bool := false
  /-- INELIG bit 0. R390 -/
  ineligSelftest : Bool := true
  /-- INELIG bit 1. R390 -/
  ineligResync : Bool := true
  /-- INELIG bit 2. R390 -/
  ineligHash : Bool := false
  /-- INELIG bit 3. R390 -/
  ineligSafety : Bool := false
  /-- Consecutive valid mirror frames, 0 to 256. R390 -/
  validRun : Nat := 0
  /-- Tick of the last bad mirror frame. R390 -/
  lastBad : Option Nat := none
  /-- INELIG bit 4. R390 -/
  ineligMirror : Bool := false
  /-- HANDOVER_BUSY. R394 -/
  handover : Bool := false
  /-- Claims on the handover frame it received. R394 -/
  handoverClaim : Bool := false
  /-- MISS_RUN, 0 to 2. R383 -/
  missRun : Nat := 0
  /-- A valid frame arrived in the running slot. R383 -/
  slotGot : Bool := false
  /-- SEQ of the last valid mirror frame. R383 -/
  lastSeq : Option Nat := none
  /-- SEQ of the next frame it launches, 32 bits. R378 -/
  seq : Nat := 0
  /-- Slot number within the mirror period. R377 -/
  slot : Nat := 0
  /-- SEQs launched in the last 2 slots. R379 -/
  launched : List Nat := []
  /-- APPLIED_SEQ, 32 bits. R379 -/
  appliedSeq : Nat := 0
  /-- HASH_SELF, 32 bits. R397 -/
  hashSelf : Nat := 0
  /-- HASH_PEER, 32 bits. R397 -/
  hashPeer : Nat := 0
  /-- Peer's SAFETY_CRC as last received. R390 -/
  safetyPeer : Nat := 0
  /-- Tick of the last valid frame or acknowledgement from the peer. R397 -/
  peerSeen : Option Nat := none
  /-- Tick of the last acknowledgement. R395 -/
  lastAck : Option Nat := none
  /-- The peer's six PAIR words as last acknowledged. R395 -/
  peerWords : List Nat := []
  /-- ELIGIBLE of the last acknowledgement. R376 -/
  peerEligible : Bool := false
  /-- TAKEOVERS, 32 bits. R397 -/
  takeovers : Nat := 0
  /-- MIRROR_BAD, 16 bits. R397 -/
  mirrorBad : Nat := 0
  /-- MIRROR_DROPS, 16 bits. R397 -/
  mirrorDrops : Nat := 0
  /-- LAST_CAUSE, 8 bits. R397 -/
  lastCause : Nat := 0
  /-- Cause of the claim that runs: SILENCE, HANDOVER or LATE. R384 -/
  claimCause : Nat := 0
  /-- Self-test failures in a row. R556 -/
  selfFails : Nat := 0
  /-- Tick of the entry into RESYNC, or of the last repetition of the transfer. R391 -/
  resyncAt : Nat := 0
  /-- Since the grant: each Shoal has applied a frame of this Headland, Shore has had a refresh, Breakwater a request word. R384 -/
  tookShoals : Vector Bool 4 := Vector.replicate 4 false
  tookShore : Bool := false
  tookBw : Bool := false
  /-- The transfer to a resynchronising peer runs. R391 -/
  transfer : Bool := false
  /-- RECORD_NO of a record that the peer lost as it failed. R491 -/
  capLost : Option Nat := none
  /-- Selectable items that wait, oldest first. R381 -/
  items : List MirrorItem := []
  deriving DecidableEq, Repr

/-- A selectable item waits for the mirror link; beyond 1,024 the oldest is dropped (R381). -/
def Pair.pushItem (p : Pair) (i : MirrorItem) : Pair :=
  if p.items.length < 1024 then { p with items := p.items ++ [i] }
  else { p with items := p.items.tail ++ [i], mirrorDrops := satInc 16 p.mirrorDrops }

def Pair.eligible (p : Pair) : Bool :=
  !(p.ineligSelftest || p.ineligResync || p.ineligHash || p.ineligSafety || p.ineligMirror)

/-- INELIG of Table 12.5. -/
def Pair.inelig (p : Pair) : Nat :=
  b2n p.ineligSelftest + 2 * b2n p.ineligResync + 4 * b2n p.ineligHash + 8 * b2n p.ineligSafety + 16 * b2n p.ineligMirror

/-! ### Time (13_time_and_networks.md) -/

/-- Table 13.3. -/
inductive PtpState | disabled | listening | uncalibrated | locked | holdover | master
  deriving DecidableEq, Repr

def PtpState.code : PtpState → Nat
  | .disabled => 0 | .listening => 1 | .uncalibrated => 2 | .locked => 3 | .holdover => 4 | .master => 5

/-- One PTP port (R403, R405). -/
structure PtpPort where
  /-- portState of IEEE 1588-2019, 8 bits. R424 -/
  portState : Nat := 0
  /-- Best Announce heard. R405 -/
  best : Option Dataset := none
  /-- Tick of the last Announce from it. R407 -/
  heardAt : Option Nat := none
  /-- Last offset from master, ns. R406 -/
  offset : Option Int := none
  /-- Mean path delay, ns. R404 -/
  meanDelay : Nat := 0
  deriving DecidableEq, Repr

structure Ptp where
  /-- The PTP clock, in 2^-32 ns. R406 -/
  clock : Nat := 0
  /-- ADJ, in 2^-32 ns per tick. R406 -/
  adj : Int := 0
  /-- Oscillator correction, ppb. R409 -/
  corr : Int := 0
  /-- Integral term of the servo, 2^-32 ns per tick. R406 -/
  integ : Int := 0
  /-- PTP_STATE. R407 -/
  state : PtpState := .disabled
  /-- Tick of the entry into HOLDOVER. R407 -/
  holdAt : Nat := 0
  /-- Tick of the last syntonisation step. R409 -/
  syntAt : Option Nat := none
  /-- PTP_HOLDOVER_T has run out. R407 -/
  expired : Bool := false
  /-- SEL_NET. R405 -/
  sel : Net := 0
  /-- The two ports. R405 -/
  ports : Vector PtpPort 2 := Vector.replicate 2 {}
  /-- Sync in a row within PTP_LOCK_WIN. R407 -/
  inWin : Nat := 0
  /-- Sync in a row beyond PTP_UNLOCK_WIN. R407 -/
  outWin : Nat := 0
  /-- Sync in a row whose network offsets differ by more than 1 µs. R408 -/
  diffRun : Nat := 0
  /-- SYNT_RANGE, W1C. R409 -/
  syntRange : Bool := false
  /-- STEPPED, W1C. R406 -/
  stepped : Bool := false
  /-- NET_DIFF, W1C. R408 -/
  netDiff : Bool := false
  deriving DecidableEq, Repr

/-- A frame of NET_SEND (R411 to R414). -/
structure TxFrame where
  handle : Nat
  cls : Nat
  /-- Launch time in ns. -/
  launch : Option Nat
  /-- Sequence number of its PRP trailer; none where it carries none (R416). -/
  prp : Option Nat
  bytes : List Byte
  /-- Copy status on A and B (R414). -/
  status : Vector Nat 2
  /-- The copy has started, and it started late. -/
  started : Vector Bool 2
  late : Vector Bool 2
  /-- Timestamps: seconds and ns. -/
  stamp : Vector (Nat × Nat) 2
  /-- Tick at which each copy started. R413 -/
  startedAt : Vector Nat 2 := Vector.replicate 2 0
  deriving DecidableEq, Repr

/-- One network port (R424, Table 13.8). -/
structure NetPort where
  /-- LINK. R424 -/
  link : Bool := false
  /-- LINK_DOWNS, 16 bits. R424 -/
  linkDowns : Nat := 0
  /-- RX_FRAMES, 32 bits. R424 -/
  rxFrames : Nat := 0
  /-- TX_FRAMES, 32 bits. R424 -/
  txFrames : Nat := 0
  /-- RX_FCS_ERR, 32 bits. R424 -/
  rxFcsErr : Nat := 0
  /-- DUP_DISCARDED, 32 bits. R416 -/
  dups : Nat := 0
  /-- RX_DROPPED, 32 bits. R402 -/
  rxDropped : Nat := 0
  /-- LOOPED, 16 bits. R401 -/
  looped : Nat := 0
  /-- FOREIGN_SITE, 16 bits. R418 -/
  foreignSite : Nat := 0
  /-- TX_LATE, 16 bits. R424 -/
  txLate : Nat := 0
  /-- RX_UNCLAIMED, 16 bits. R424 -/
  rxUnclaimed : Nat := 0
  /-- Transmit time of the last peer announcement. R417 -/
  annTx : Option (Nat × Nat) := none
  deriving DecidableEq, Repr

/-- What a Headland hands to a network or line, kept for the last 32 outputs (R433, R417, R488, R367, R403). -/
inductive Out
  | reply (net : Net) (session : Session) (bytes : List Byte)
  | frame (net : Net) (cls : Nat) (bytes : List Byte)
  | arp (net : Net)
  | icmpEcho (net : Net) (bytes : List Byte)
  | ptp (net : Net) (m : PtpMsg)
  | announce (net : Net) (bytes : List Byte)
  | stream (net : Net) (cls : Nat) (bytes : List Byte)
  | safety (net : Net) (bytes : List Byte)
  deriving DecidableEq, Repr

/-- The first copy of a PRP pair (R416). -/
structure PrpSeen where
  src : Nat
  seq : Nat
  net : Net
  at_ : Nat
  deriving DecidableEq, Repr

/-- A peer entry (R418, R419, Table 13.7). -/
structure Peer where
  /-- KNOWN. R418 -/
  known : Bool := false
  /-- LOST. R418 -/
  lost : Bool := false
  /-- HASH_DIFF, ROM_DIFF, TIME_DIFF, CLASH, STATE_DIFF. R419 -/
  diff : Vector Bool 5 := Vector.replicate 5 false
  /-- Used announcements in a row without each disagreement. R419 -/
  agree : Vector Nat 5 := Vector.replicate 5 0
  /-- PEER_PTP_VALID. R424 -/
  ptpValid : Bool := false
  /-- STATE byte. R424 -/
  state : Nat := 0
  /-- ROM_MAJOR. R424 -/
  romMajor : Nat := 0
  /-- ROM_MINOR. R424 -/
  romMinor : Nat := 0
  /-- PEER_HASH. R424 -/
  hash : Nat := 0
  /-- PEER_OFFSET in ns; none when not known. R418 -/
  offset : Option Int := none
  /-- Tick of the last used announcement, for AGE. R424 -/
  usedAt : Nat := 0
  /-- PEER_SEQ. R424 -/
  seq : Nat := 0
  /-- SEQ and own receive time in ns of the last announcement received on each network. R418 -/
  prevRx : Vector (Option (Nat × Nat)) 2 := Vector.replicate 2 none
  deriving DecidableEq, Repr

/-- Networks and peers of one Headland. -/
structure NetIf where
  /-- The two network ports. R399 -/
  ports : Vector NetPort 2 := Vector.replicate 2 {}
  /-- NET_SEND frames whose copies have not all completed, in order of acceptance. R413 -/
  tx : List TxFrame := []
  /-- Write-back of the last 32 completed handles, newest last. R414 -/
  txDone : List TxFrame := []
  /-- PRP sequence number of the next frame, 16 bits. R416 -/
  prpSeq : Nat := 0
  /-- First copies within the 400 ms window. R416 -/
  prpSeen : List PrpSeen := []
  /-- Peers by UNIT_ID - 1. R418 -/
  peers : Vector Peer 32 := Vector.replicate 32 {}
  /-- SEQ of the next announcement, 16 bits. R417 -/
  annSeq : Nat := 0
  /-- Tick of the last announcement. R417 -/
  annAt : Option Nat := none
  /-- The last 32 outputs. R402 -/
  out : List Out := []
  deriving DecidableEq, Repr

end Sys2Proof.Machine
end

