-- ==== Sys2Proof/Machine/TypesSafety.lean ====
section
/-! DEFINITION. State of Breakwater (11_safety_channel.md). Each field names the rule that gives it; a default is the value at
reset. -/
namespace Sys2Proof.Machine

/-- Permit kinds, coded as KIND of Table 11.11. -/
inductive Kind | off | sgo | run | unlock
  deriving DecidableEq, Repr

def Kind.code : Kind → Nat
  | .off => 0 | .sgo => 1 | .run => 2 | .unlock => 3

/-- One channel of a safety input. -/
structure SiChan where
  /-- The level read last, kept between 5 V and 11 V. R353 -/
  level : Bool := false
  /-- The channel is in demand. R353 -/
  demand : Bool := false
  /-- Own pulses in a row without a low read. R355 -/
  missed : Nat := 0
  /-- Own pulses in a row that passed. R359 -/
  passed : Nat := 0
  /-- Periods in a row with a low read in the window of supplies 0 to 3. R355 -/
  cross : Vector Nat 4 := Vector.replicate 4 0
  deriving DecidableEq, Repr

structure SafeInput where
  /-- Channels A and B. R353 -/
  chans : Vector SiChan 2 := Vector.replicate 2 {}
  /-- Fault of code 0x01 stands. R355 -/
  pulseFault : Bool := false
  /-- Fault of code 0x02 stands. R356 -/
  discFault : Bool := false
  /-- Since SI_DISC, both channels have been in demand together. R356 -/
  bothSeen : Bool := false
  /-- Tick since which the two channels differ. R356 -/
  differFrom : Option Nat := none
  /-- R356 is satisfied. R356 -/
  discOk : Bool := true
  deriving DecidableEq, Repr

/-- A safe output. -/
structure SafeOut where
  /-- SO_ON. R358 -/
  on : Bool := false
  /-- SO_FAULT holds it off. R358 -/
  fault : Bool := false
  deriving DecidableEq, Repr

/-- Breakwater's view of one link. -/
structure BwPort where
  /-- KIND. R373 -/
  kind : Kind := .off
  /-- Tick since which the kind is OFF. R349 -/
  offAt : Nat := 0
  /-- The last word sent is still on its way, on channels A and B. R345 -/
  onLine : Vector Bool 2 := Vector.replicate 2 false
  /-- Last valid return word: IMAX, VDC, IDC, FB0_OPEN, FB1_OPEN. R341 -/
  imax : Nat := 0
  vdc : Nat := 0
  idc : Int := 0
  fb0Open : Bool := false
  fb1Open : Bool := false
  /-- ECHO expected: COUNTs of the last permit words sent, newest first, at most 4. R341 -/
  sent : List Nat := []
  /-- Valid return words in a row, and the tick of the first. R359 -/
  validFrom : Option Nat := none
  /-- Tick of the last valid return word. R341 -/
  lastAt : Nat := 0
  /-- Event BW_G_RETURN_LOST has been raised for the loss that lasts. R341 -/
  lossTold : Bool := false
  /-- Valid words in a row with IMAX beyond SLC_LIM. R350 -/
  slcRun : Nat := 0
  /-- Valid words in a row with VDC beyond SLV_MAX. R350 -/
  slvRun : Nat := 0
  /-- IDC of the last 500 valid words, newest first. R350 -/
  idcs : List Int := []
  /-- Valid words in a row that meet R348, 0 to 5. R348 -/
  okRun : Nat := 0
  /-- Skerry verdicts SLC, SLD, SLV. R344 -/
  own : Vector Bool 3 := Vector.replicate 3 false
  /-- Firmware verdicts SLC, SLD, SLV as last received. R343 -/
  firm : Vector Bool 3 := Vector.replicate 3 false
  /-- Tick since which both verdicts of SLC, SLD, SLV show no demand. R351 -/
  quietFrom : Vector (Option Nat) 3 := Vector.replicate 3 (some 0)
  /-- Tick since which the verdicts differ, for CH_DISC. R344 -/
  differFrom : Vector (Option Nat) 3 := Vector.replicate 3 none
  /-- Tick since which the verdicts agree. R359 -/
  agreeFrom : Option Nat := some 0
  /-- SLC_LATCH, SLD_LATCH, SLV_LATCH. R373 -/
  latch : Vector Bool 3 := Vector.replicate 3 false
  /-- RETURN_LOST. R373 -/
  returnLost : Bool := false
  /-- CH_DISC. R373 -/
  chDisc : Bool := false
  /-- SDC_FB. R373 -/
  sdcFb : Bool := false
  /-- UNLOCK_REQ as last received. R373 -/
  unlockReq : Bool := false
  /-- CLEAR_REQ as last received. R343 -/
  clearReq : Bool := false
  /-- Demands of sources with SM_RX_ACTION = 0. R366 -/
  msgSgo : Bool := false
  msgSdc : Bool := false
  deriving DecidableEq, Repr

/-- A copy of a safety message that awaits its twin. -/
structure MsgCopy where
  net : Net
  seq : Nat
  bytes : List Byte
  at_ : Nat
  deriving DecidableEq, Repr

/-- A configured message source (R365, R366). -/
structure MsgSource where
  /-- Tick of the last accepted message or timeout. R366 -/
  lastAt : Nat := 0
  /-- last_seq. R365 -/
  lastSeq : Nat := 0
  /-- pending. R365 -/
  pending : Option MsgCopy := none
  /-- SM_VALID. R373 -/
  valid : Bool := false
  /-- SM_SGO. R373 -/
  sgo : Bool := false
  /-- SM_SDC. R373 -/
  sdc : Bool := false
  /-- TIMED_OUT. R373 -/
  timedOut : Bool := false
  /-- SM_PORTS, 12 bits. R373 -/
  ports : Nat := 0
  /-- MSG_SINGLE, 8 bits. R373 -/
  single : Nat := 0
  /-- MSG_MISMATCH, 8 bits. R373 -/
  mismatch : Nat := 0
  deriving DecidableEq, Repr

structure Breakwater where
  /-- Breakwater's self-test has ended. R361 -/
  started : Bool := false
  /-- Tick at which the safety channel started. R354 -/
  startAt : Nat := 0
  /-- The token line names this Headland. R375 -/
  token : Option Hd := none
  /-- LOCKOUT. R373 -/
  lockout : Bool := true
  /-- RESET_ARMED. R373 -/
  resetArmed : Bool := false
  /-- Tick at which the reset was last armed. R362 -/
  armedAt : Nat := 0
  /-- COMMISSION_WAIT. R373 -/
  commissionWait : Bool := false
  /-- HL_LOST. R373 -/
  hlLost : Bool := false
  /-- Tick at which HL_LOST set. R343, R393 -/
  hlLostAt : Nat := 0
  /-- Tick of the last valid request word. R343 -/
  requestAt : Nat := 0
  /-- CFG_VALID. R373 -/
  cfgValid : Bool := false
  /-- SHORE_STUCK. R373 -/
  shoreStuck : Bool := false
  /-- SDC_MOD. R373 -/
  sdcMod : Bool := true
  /-- SGO_MOD. R373 -/
  sgoMod : Bool := true
  /-- TP_FAULT, with the tick since which the supply is within limits. R373 -/
  tpFault : Vector Bool 4 := Vector.replicate 4 false
  tpGood : Vector (Option Nat) 4 := Vector.replicate 4 (some 0)
  /-- The safety inputs. R353 -/
  inputs : Vector SafeInput 8 := Vector.replicate 8 {}
  /-- Fault of code 0x01 of the reset input, fed by RESET_TP. R363 -/
  resetChan : SiChan := {}
  resetPulseFault : Bool := false
  /-- The safe outputs. R358 -/
  outs : Vector SafeOut 4 := Vector.replicate 4 {}
  /-- Fault SO_FAULT. R359 -/
  soFault : Bool := false
  /-- Fault BW_LANE, comparisons in a row that disagreed, and the tick since which they agree. R340 -/
  laneFault : Bool := false
  laneDiffer : Nat := 0
  laneAgree : Option Nat := some 0
  /-- Fault CFG_INVALID. R370 -/
  cfgFault : Bool := false
  /-- Fault RESET_STUCK, and the tick of the release since. R359 -/
  stuckFault : Bool := false
  releasedAt : Option Nat := some 0
  /-- Tick of the filtered press that runs, and whether it counts. R363 -/
  press : Option (Nat × Bool) := none
  /-- Tick of SAFETY_COMMISSION. R369 -/
  commissionAt : Nat := 0
  /-- FIRST_CAUSE. R373 -/
  firstCause : Nat := 0
  /-- LOCKOUTS, 16 bits. R373 -/
  lockouts : Nat := 0
  /-- Links 0 to 12. R347 -/
  ports : Vector BwPort 13 := Vector.replicate 13 {}
  /-- COUNT of the next permit word. R345 -/
  count : Nat := 0
  /-- The safety set in force, P.9xxx. R370 -/
  params : ParamStore := []
  /-- The pending safety set. R368 -/
  pending : ParamStore := []
  /-- SAFETY_CRC. R373 -/
  crc : Nat := 0
  /-- Sources 0 to 3. R366 -/
  sources : Vector MsgSource 4 := Vector.replicate 4 {}
  /-- Copies dropped under the first check of R365. R365 -/
  dropped : Nat := 0
  /-- SM_TX_SEQ. R373 -/
  txSeq : Nat := 0
  /-- Tick of the last message sent. R367 -/
  txAt : Nat := 0
  deriving DecidableEq, Repr

end Sys2Proof.Machine
end

