-- ==== Sys2Proof/Machine/TypesFirm.lean ====
section
/-! DEFINITION. Configuration, the fixed set that a takeover keeps (Table 12.2), a Headland, a Shoal. Each field names the rule
that gives it; a default is the value at reset. -/
namespace Sys2Proof.Machine

/-- Device states, coded as in Table 15.1. -/
inductive DevState | standby | boot | idle | ready | sync | forming | tripped | lockout | service
  deriving DecidableEq, Repr

def DevState.code : DevState → Nat
  | .standby => 0 | .boot => 1 | .idle => 2 | .ready => 3 | .sync => 4 | .forming => 5 | .tripped => 6 | .lockout => 7
  | .service => 8

/-! ### Configuration -/

/-- A ride-through envelope (Table 4.4): ENABLE, CONFIRM, vertices of time in µs and value. -/
structure Envelope where
  enable : Nat := 0
  confirm : Nat := 0
  vertices : List (Nat × Int) := []
  deriving DecidableEq, Repr

/-- The parameter set with envelopes and BMS maps (R449). -/
structure Conf where
  /-- P.1xxx to P.8xxx, P.Bxxx, P.Cxxx, as deviations from the tables. R23 -/
  params : ParamStore := []
  /-- Envelopes 0 to 3. R143 -/
  env : Vector Envelope 4 := Vector.replicate 4 {}
  /-- BMS maps by port. R290 -/
  maps : Vector (List MapEntry) 12 := Vector.replicate 12 []
  deriving DecidableEq, Repr

/-- What a Headland holds of the configuration; both Headlands hold a copy (R382). -/
structure Cfg where
  /-- The committed set, in MRAM. R554 -/
  committed : Conf := {}
  /-- PARAM_HASH stored with it; none where no valid copy is stored. R554 -/
  hash : Option Nat := none
  /-- Number of the commit that stored it, to tell the later copy. R554 -/
  commitNo : Nat := 0
  /-- The pending set. R448 -/
  pendingSet : Conf := {}
  /-- Master copy of the tide table. R61 -/
  tides : Vector TideEntry 128 := Vector.replicate 128 {}
  /-- Wake table, in MRAM; none where never loaded. R523 -/
  wake : Option (List WakeRule) := none
  /-- Safety set and its stored CRC, in MRAM; none is the set of defaults as made, with its CRC. R370 -/
  safety : Option (ParamStore × Nat) := none
  deriving DecidableEq, Repr

/-! ### The fixed set -/

/-- The committed values that a takeover keeps (Table 12.2). -/
structure Firm where
  /-- Device state. R561 -/
  dev : DevState := .boot
  /-- Sub-mode. R119 -/
  sub : SubMode := .none
  /-- Rotor, EMF, voltage loop. R80 -/
  rotor : Rotor := {}
  /-- Black start, closing, ramps. R103 -/
  seq : Seq := {}
  /-- Detectors and limits. R121 -/
  ride : Ride := {}
  /-- Dispatch. R96 -/
  dispatch : Dispatch := {}
  /-- W1C bits of the laws. R119 -/
  flags : LawFlags := {}
  /-- Shares. R89 -/
  shares : Vector Share 12 := Vector.replicate 12 {}
  /-- Life cycles. R286 -/
  life : Vector PortLife 12 := Vector.replicate 12 {}
  /-- Engine steps. R165 -/
  steps : Vector PortStep 12 := Vector.replicate 12 {}
  /-- Measured quantities of the ports. R93 -/
  meas : Vector PortMeas 12 := Vector.replicate 12 {}
  /-- Measured quantities of Skerry G. R76 -/
  grid : GridMeas := {}
  /-- Parameters as the laws use them since the last bus step. R25 -/
  applied : ParamStore := []
  /-- Tick of the last bus step. R75 -/
  busAt : Nat := 0
  /-- Bus steps in a row with an invalid INV sample. R265 -/
  gridInvalid : Nat := 0
  /-- LEG_STATE codes as last reported, by leg number. R227 -/
  legCode : Vector Nat 48 := Vector.replicate 48 0
  /-- Ticks of desaturations and fast shorts within 60 s, by leg number. R229 -/
  legFaults : Vector (List Nat) 48 := Vector.replicate 48 []
  /-- Firmware verdicts of SLC, SLD, SLV. R344 -/
  verdict : Vector (Vector Bool 3) 12 := Vector.replicate 12 (Vector.replicate 3 false)
  /-- i_dc of the bus steps within 1 ms, newest first, for SLD. R344 -/
  idcHist : Vector (List (Nat × Rat)) 12 := Vector.replicate 12 []
  /-- UNLOCK_REQ and CLEAR_REQ as the firmware sets them. R343 -/
  unlockReq : Vector Bool 12 := Vector.replicate 12 false
  clearReq : Vector Bool 12 := Vector.replicate 12 false
  /-- Engine flags of the control step that runs, 8 bits. R62 -/
  engineFlags : Nat := 0
  /-- Engine flags that wait for their step, with the tick of the crossing. R62 -/
  flagWait : List (Nat × Nat) := []
  /-- Event code of the last port trip, for the STATE_CHANGE that it causes. R566 -/
  tripEvent : Nat := 0
  /-- INC_NEW, APPLY_TICK and ANCHOR of the last bus step. R80 -/
  angleOut : AngleFields := ⟨0, 0, 0, 0⟩
  /-- Angle fields launched and not yet carried by a frame to each Shoal, oldest first. R51 -/
  launch : Vector (List AngleFields) 4 := Vector.replicate 4 []
  /-- Deviation of FCW that the frames carry, in ppb. R532 -/
  tune : Int := 0
  /-- Duties committed and not yet sent, with the tag of their period, by port. R162 -/
  dutyOut : Vector (Option (Vector Nat 4 × Nat)) 12 := Vector.replicate 12 none
  /-- DIAG_GO as the frames carry it, by port. R235 -/
  diagGo : Vector Bool 12 := Vector.replicate 12 false
  deriving DecidableEq, Repr

/-! ### The mirror link -/

/-- A mirror frame on its way to the standby (R378 to R382), with the resync frame of its slot (R391). -/
structure MirrorFrame where
  /-- KIND: full, else beat. R378 -/
  full : Bool
  /-- SEQ, 32 bits. R378 -/
  seq : Nat
  /-- PARAM_HASH, 32 bits. R378 -/
  hash : Nat
  /-- SAFETY_CRC, 32 bits. R378 -/
  safetyCrc : Nat
  /-- HANDOVER. R378 -/
  handover : Bool := false
  /-- ANCHOR, APPLY_TICK and INC of the last command-link frame, with its small step. R378, R532 -/
  angle : AngleFields := ⟨0, 0, 0, 0⟩
  /-- The fixed set of a full frame. R380 -/
  firm : Option Firm := none
  /-- ADJ and the mean path delays of a full frame. R410 -/
  adj : Int := 0
  delays : Vector Nat 2 := Vector.replicate 2 0
  /-- Configuration changes, or the transfer of R391. R382 -/
  cfg : Option Cfg := none
  /-- Configuration, masks and destination of Strandline. R491 -/
  cap : Option (CapConfig × Vector (Option CapMask) 4 × Option CapStream) := none
  /-- CURSOR and FROZEN of the Ring log, with the configuration. R498, R500 -/
  cursor : Nat := 1
  frozen : Bool := false
  /-- Selectable items: log records, CAN frames by port. R381 -/
  items : List LogRecord := []
  relays : List (Port × RelayRec) := []
  deriving DecidableEq, Repr

/-- An acknowledgement on its way to the active Headland (R379, R395). -/
structure MirrorAckFrame where
  seq : Nat
  appliedSeq : Nat
  eligible : Bool
  inelig : Nat
  words : List Nat
  hash : Nat
  deriving DecidableEq, Repr

/-! ### Dies -/

/-- The angle replica of a Headland (R50). -/
structure Replica where
  /-- ACC, 48 bits. R47 -/
  acc : Nat := 0
  /-- INC, 32 bits. R48 -/
  inc : Nat := 35184372
  /-- TICK, 32 bits. R46 -/
  tick : Nat := 0
  /-- Angle fields sent and not yet applied. R51 -/
  fields : List AngleFields := []
  /-- AT_SEC, AT_NS and PTP_VALID of the angle-time pair. R73 -/
  atTime : Nat × Nat × Bool := (0, 0, false)
  /-- AT_THETA, 32 bits. R73 -/
  atTheta : Nat := 0
  /-- AT_INC, 32 bits. R73 -/
  atInc : Nat := 35184372
  deriving DecidableEq, Repr

structure Headland where
  /-- The pair. R374 -/
  pair : Pair := {}
  /-- PTP. R403 -/
  ptp : Ptp := {}
  /-- Networks and peers. R399 -/
  net : NetIf := {}
  /-- Host interface. R453 -/
  host : HostIf := {}
  /-- Ring log. R492 -/
  log : Log := {}
  /-- Strandline. R467 -/
  cap : Cap := {}
  /-- Trace buffers. R177 -/
  trace : Trace := {}
  /-- Engine bookkeeping. R176 -/
  engine : Engine := {}
  /-- Auxiliary converter. R267 -/
  adc : Adc := {}
  /-- Check-value units 0 to 7. R543 -/
  crc : Vector CrcUnit 8 := Vector.replicate 8 {}
  /-- Relay rings by port. R240 -/
  relays : Vector Relay 12 := Vector.replicate 12 {}
  /-- Configuration. R448 -/
  cfg : Cfg := {}
  /-- Angle replica. R50 -/
  replica : Replica := {}
  /-- Corrected SRAM errors, saturating at 0xFFFF_FFFF. R30 -/
  eccCorrected : Nat := 0
  deriving DecidableEq, Repr

structure ShoalSt where
  /-- ACC, 48 bits. R47 -/
  acc : Nat := 0
  /-- ACC one tick earlier. R62 -/
  accPrev : Nat := 0
  /-- INC, 32 bits. R48 -/
  inc : Nat := 35184372
  /-- TICK, 32 bits. R46 -/
  tick : Nat := 0
  /-- Angle fields and tide updates received and not yet applied. R51, R68 -/
  fields : List StepFields := []
  /-- The accumulator was re-anchored on this tick. R65 -/
  anchored : Bool := false
  /-- LAST_DELTA, signed, 16 bits. R55 -/
  lastDelta : Int := 0
  /-- HOLDING. R54 -/
  holding : Bool := false
  /-- LATE_APPLY, INC_CLAMPED, SLIP, REANCHORED, W1C. R55 -/
  lateApply : Bool := false
  incClamped : Bool := false
  slip : Bool := false
  reanchored : Bool := false
  /-- A valid frame has arrived since the last boundary of the region's port 0. R387 -/
  frameSince : Bool := false
  /-- HOLD_COUNT, 4 bits. R398 -/
  holdCount : Nat := 0
  /-- HOLD_LIMIT in force, 4 bits. R398 -/
  holdLimit : Nat := 4
  /-- SAFE_HOLD. R398 -/
  safeHold : Bool := false
  /-- OTHER_FRAMES, 32 bits. R398 -/
  otherFrames : Nat := 0
  /-- The region safe state stands. R204 -/
  safeRegion : Bool := false
  /-- A clock stop was carried by the last frame. R536 -/
  clockStop : Bool := false
  /-- Tide entries of the Shoal. R61 -/
  tides : Vector TideEntry 32 := Vector.replicate 32 {}
  /-- Tide updates that the next command-link frame to the Shoal carries. R68 -/
  tideWait : List (Nat × TideEntry) := []
  /-- Entries as they stood before an update that took effect on this tick, by comparator. R68 -/
  tideOld : List (Nat × TideEntry) := []
  /-- Event frames that wait to leave, oldest first. R62 -/
  events : List TideEvent := []
  /-- DL_LOCK. R207 -/
  dlLock : Bool := false
  /-- DL_UNLOCKED, W1C. R207 -/
  dlUnlocked : Bool := false
  /-- DL_CODE, 12 bits. R207 -/
  dlCode : Nat := 0
  /-- Corrected SRAM errors, saturating at 0xFFFF_FFFF. R30 -/
  eccCorrected : Nat := 0
  deriving DecidableEq, Repr

/-- A register snapshot group (R587): the companions return view, the next read of the trigger returns armed. -/
structure RsSnap where
  addr : Nat
  view : List Nat
  armed : List Nat
  deriving DecidableEq, Repr

/-- Time of the module. -/
structure Clk where
  /-- Ticks of the 400 MHz timebase since power-up. R17 -/
  now : Nat := 0
  /-- MCLK, 32 bits. R253 -/
  mclk : Nat := 0
  /-- Ticks since MCLK last advanced, 0 to 19. R253 -/
  sub : Nat := 0
  deriving DecidableEq, Repr

end Sys2Proof.Machine
end

