-- ==== Sys2Proof/Machine/State.lean ====
section
/-! DEFINITION. The state of the Unyar UY4812, the reasons a command can stop, and the state after reset. Each field names the rule
that gives it; a default is the value at reset. -/
namespace Sys2Proof.Machine

/-- Reasons to stop with a fault. The spec describes the effect of every command, so no meaning raises one. -/
inductive Fault
  /-- Raised by no meaning: kept so that the type has a value. Safe. -/
  | unreachable
  deriving DecidableEq, Repr

/-- Reasons to refuse a command. -/
inductive Refusal
  /-- Raised by an arm of exec whose command has no meaning in the model, by its mnemonic. Safe: the machine stops. -/
  | notModelled (mnemonic : String)
  deriving DecidableEq, Repr

/-- The machine: the queue of waiting commands and every die's registers. -/
structure State where
  /-- Commands that wait, first in, first out. The model's own. -/
  pending : List Instr := []
  /-- Time. R17 -/
  clk : Clk := {}
  /-- The fixed set at the token holder. R380 -/
  firm : Firm := {}
  /-- The fixed set as the standby last applied it. R379 -/
  mirrored : Firm := {}
  /-- Headlands A and B. R26 -/
  hl : Vector Headland 2 := Vector.replicate 2 {}
  /-- Shoals 0 to 3. R27 -/
  shoals : Vector ShoalSt 4 := Vector.replicate 4 {}
  /-- Pulse generators by port. R184 -/
  pwm : Vector Pwm 12 := Vector.replicate 12 {}
  /-- Skerries 0 to 11, and Skerry G at 12. R208 -/
  sk : Vector Skerry 13 := Vector.replicate 13 {}
  /-- Uplink registers by link. R247 -/
  ul : Vector UlLink 13 := Vector.replicate 13 {}
  /-- Decimators by link. R258 -/
  dec : Vector DecLink 13 := Vector.replicate 13 {}
  /-- Breakwater. R340 -/
  bw : Breakwater := {}
  /-- Shore. R503 -/
  shore : Shore := {}
  /-- Lookout. R520 -/
  lookout : Lookout := {}
  /-- Heartwood. R538 -/
  heart : Heartwood := {}
  /-- Clock loops. R528 -/
  clocks : Clocks := {}
  /-- The Tide gauge. R308 -/
  meter : Meter := {}
  /-- Tick since which the dies of BOOT have had CORE and been out of reset. R555, R556 -/
  bootAt : Nat := 0
  /-- Register snapshots, by trigger address. R587 -/
  rs : List RsSnap := []
  /-- The mirror frame on its way to the standby. R378 -/
  mirror : Option MirrorFrame := none
  /-- The acknowledgement on its way back. R379 -/
  ack : Option MirrorAckFrame := none
  /-- Reset kind of the boot that runs or ran last. R557 -/
  resetKind : Nat := 0
  /-- No Headland claimed within 1,000 ms: the Unyar stays in BOOT. R556 -/
  bootHeld : Bool := false
  /-- The words that hold W1C bits as the present cycle began; none before the first tick. R20 -/
  cycle : Option (List (Nat × Nat)) := none
  /-- Free values read so far. The model's own. -/
  freeCount : Nat := 0
  deriving DecidableEq, Repr

/-- The state after reset: the start of BOOT after a POWER reset, nothing stored in MRAM, every register at the reset column of
its table, or, where the spec gives none, at the value that the log names. -/
def State.reset : State := {}

end Sys2Proof.Machine
end

