-- ==== Sys2Proof/Machine/Ops.lean ====
section
/-! DEFINITION. Shared operations: parts of the state, parameters, the Ring log's events, port and module trips, device-state
changes. -/
namespace Sys2Proof.Machine

/-- What a meaning answers. -/
abbrev Res := Host.Outcome State Fault Refusal

/-! ### Parts -/

/-- The Headland that the token line names (R33). -/
def State.hd (s : State) : Hd := s.bw.token.getD 0
/-- The token holder, or Headland A where none holds the token. -/
def State.act (s : State) : Headland := s.hl[s.hd]
def State.modHl (s : State) (h : Hd) (f : Headland → Headland) : State := { s with hl := vmod s.hl h f }
def State.modAct (s : State) (f : Headland → Headland) : State := s.modHl s.hd f
def State.modBoth (s : State) (f : Headland → Headland) : State := { s with hl := s.hl.map f }
def State.modLog (s : State) (f : Log → Log) : State := s.modAct fun a => { a with log := f a.log }
def State.modHost (s : State) (f : HostIf → HostIf) : State := s.modAct fun a => { a with host := f a.host }
def State.modNet (s : State) (f : NetIf → NetIf) : State := s.modAct fun a => { a with net := f a.net }
def State.modPtp (s : State) (f : Ptp → Ptp) : State := s.modAct fun a => { a with ptp := f a.ptp }
def State.modCap (s : State) (f : Cap → Cap) : State := s.modAct fun a => { a with cap := f a.cap }
def State.modTrace (s : State) (f : Trace → Trace) : State := s.modAct fun a => { a with trace := f a.trace }
def State.modAdc (s : State) (f : Adc → Adc) : State := s.modAct fun a => { a with adc := f a.adc }
def State.modCfg (s : State) (f : Cfg → Cfg) : State := s.modAct fun a => { a with cfg := f a.cfg }
def State.modPair (s : State) (h : Hd) (f : Pair → Pair) : State := s.modHl h fun a => { a with pair := f a.pair }
def State.modFirm (s : State) (f : Firm → Firm) : State := { s with firm := f s.firm }
def State.modLife (s : State) (p : Port) (f : PortLife → PortLife) : State := s.modFirm fun m => { m with life := vmod m.life p f }
def State.modStep (s : State) (p : Port) (f : PortStep → PortStep) : State := s.modFirm fun m => { m with steps := vmod m.steps p f }
def State.modShare (s : State) (p : Port) (f : Share → Share) : State := s.modFirm fun m => { m with shares := vmod m.shares p f }
def State.modSeq (s : State) (f : Seq → Seq) : State := s.modFirm fun m => { m with seq := f m.seq }
def State.modFlags (s : State) (f : LawFlags → LawFlags) : State := s.modFirm fun m => { m with flags := f m.flags }
def State.modRide (s : State) (f : Ride → Ride) : State := s.modFirm fun m => { m with ride := f m.ride }
def State.modShoal (s : State) (k : Shoal) (f : ShoalSt → ShoalSt) : State := { s with shoals := vmod s.shoals k f }
def State.modPwm (s : State) (p : Port) (f : Pwm → Pwm) : State := { s with pwm := vmod s.pwm p f }
def State.modSk (s : State) (l : Link) (f : Skerry → Skerry) : State := { s with sk := vmod s.sk l f }
def State.modUl (s : State) (l : Link) (f : UlLink → UlLink) : State := { s with ul := vmod s.ul l f }
def State.modDec (s : State) (l : Link) (f : DecLink → DecLink) : State := { s with dec := vmod s.dec l f }
def State.modBw (s : State) (f : Breakwater → Breakwater) : State := { s with bw := f s.bw }
def State.modBwPort (s : State) (l : Link) (f : BwPort → BwPort) : State := s.modBw fun b => { b with ports := vmod b.ports l f }
def State.modShore (s : State) (f : Shore → Shore) : State := { s with shore := f s.shore }
def State.modLookout (s : State) (f : Lookout → Lookout) : State := { s with lookout := f s.lookout }
def State.modHeart (s : State) (f : Heartwood → Heartwood) : State := { s with heart := f s.heart }
def State.modClocks (s : State) (f : Clocks → Clocks) : State := { s with clocks := f s.clocks }
def State.modMeter (s : State) (f : Meter → Meter) : State := { s with meter := f s.meter }

/-- Fold a port action over every port, in ascending order. -/
def State.eachPort (s : State) (f : State → Port → State) : State := (List.finRange 12).foldl f s
/-- Over the ports of a region. -/
def State.eachOf (s : State) (k : Shoal) (f : State → Port → State) : State := (List.finRange 3).foldl (fun t j => f t (portOf k j)) s

/-- A committed parameter's integer (R25). -/
def State.par (s : State) (n : Nat) : Int := s.act.cfg.committed.params.get n
def State.parN (s : State) (n : Nat) : Nat := (s.par n).toNat
/-- A parameter as the laws use it since the last bus step. -/
def State.law (s : State) (n : Nat) : Int := s.firm.applied.get n
def State.lawN (s : State) (n : Nat) : Nat := (s.law n).toNat
def State.dev (s : State) : DevState := s.firm.dev
def State.life (s : State) (p : Port) : PortLife := s.firm.life[p]

/-- The origins that FAULT_COUNT counts: those within RT_REPEAT_WIN before now (R142). -/
def State.recentOrigins (s : State) (m : Firm) : List Nat :=
  m.ride.origins.filter fun t => decide (s.clk.now < t + 400000 * (1000 * (m.applied.get P_RT_REPEAT_WIN).toNat))

/-- Ticks of a time in µs, ms (R17). -/
def usTicks (us : Nat) : Nat := us * 400
def msTicks (ms : Nat) : Nat := ms * 400000

/-- At least so many ticks have passed since a noted tick. -/
def heldFor (now ticks : Nat) : Option Nat → Bool
  | some t => decide (t + ticks ≤ now)
  | none => false

/-- Bytes with those that the line has changed. -/
def noisy (bytes noise : List Byte) : List Byte := bytes.mapIdx fun i b => b ^^^ noise.getD i 0

/-! ### Time and events -/

/-- PTP_VALID (R407, Table 13.3). [DEDUCED, unsafe: log 62] -/
def Ptp.valid (p : Ptp) : Bool :=
  match p.state with
  | .locked | .master => true
  | .holdover => !p.expired
  | _ => false

/-- The PTP clock in ns. -/
def Ptp.ns (p : Ptp) : Nat := p.clock / 2 ^ 32
def Ptp.sec (p : Ptp) : Nat := p.ns / 1000000000 % 2 ^ 32
def Ptp.subNs (p : Ptp) : Nat := p.ns % 1000000000

/-- An event with its stamps (Table 16.5). -/
def State.stamped (s : State) (tick : Nat) (e : Event) : Event :=
  let a := s.act
  let v := a.ptp.valid
  { e with
    tick := tick, opSec := a.log.opSec, pcc := a.log.pcc, ptpValid := v
    ptpSec := if v then a.ptp.sec else 0, ptpNs := if v then a.ptp.subNs else 0 }

/-- Time in ns of PTP (R475), and as it read on an earlier tick. -/
def State.ptpNow (s : State) : Rat := (s.act.ptp.clock : Rat) / 2 ^ 32
def State.ptpAtTick (s : State) (tick : Nat) : Rat := s.ptpNow - ((s.act.replica.tick + 2 ^ 32 - tick) % 2 ^ 32 : Nat) * (5 / 2)

/-- Trigger evaluation has begun at a time (R477). [DEDUCED, unsafe: log 85] -/
def Cap.evaluates (c : Cap) (t : Rat) : Bool :=
  match c.evalFrom with
  | some e => decide (e ≤ t)
  | none => false

/-- A trigger condition of SOURCE and ARG at a time waits for its sample (R477, R479, R480, R483). -/
def Cap.condition (c : Cap) (source arg : Nat) (time : Rat) : Cap :=
  if c.state = .armed ∧ c.due = none ∧ c.cfg.source = source ∧ c.cfg.arg = arg ∧ c.evaluates time ∧ c.fire.all (·.forced) then
    { c with fire := some ⟨time, false, decide (source = 2)⟩ }
  else c

/-- Raise an event with given arguments at a given tick (R566): stamped, queued for the Ring log, or dropped where the log is
frozen (R498); either way it is a trigger of the capture (R479). -/
def State.raiseTick (s : State) (tick : Nat) (e : Event) : State :=
  let s1 := s.modCap (·.condition 3 e.code (s.ptpAtTick tick))
  if s.act.log.frozen then s1.modLog fun l => { l with frozenDrops := satInc 32 l.frozenDrops }
  else s1.modLog fun l => { l with queue := l.queue ++ [s.stamped tick e] }

/-- Raise an event at the present tick. -/
def State.raiseAs (s : State) (e : Event) : State := s.raiseTick s.act.replica.tick e

/-- Raise an event by code, source and arguments. [DEDUCED, unsafe: log 87] -/
def State.raise (s : State) (code : Nat) (source : Nat := 0xFF) (arg0 : Nat := 0) (arg1 : Nat := 0) (data : List Nat := []) : State :=
  s.raiseAs { code := code, source := source, arg0 := arg0, arg1 := arg1, data := data }

/-- What the laws stored (R154, R155): values at the scale of Q15, and at the 2 pu of a Q31. A clamp sets SAT, a wrapped accumulator
ACC_WRAP with its event. -/
def State.noteStores (s : State) (q15s q31s : List Rat) : State :=
  let s1 := if q15s.any q15Sat || q31s.any q31mSat then s.modFlags fun f => { f with sat := true } else s
  if q15s.any accWraps || q31s.any fun x => accWraps (x / 2) then (s1.modFlags fun f => { f with accWrap := true }).raise 0x53 s.hd.val else s1

/-- A trigger source of the trace has occurred (Table 5.15); it counts once PRE words are held (R181). [DESIGN CHOICE, unsafe: log 121] -/
def State.traceSource (s : State) (trig arg : Nat) : State :=
  s.modTrace fun t => { t with hit := t.hit || (decide (t.state = .armed ∧ t.trig = trig ∧ t.trigArg = arg ∧ t.pre ≤ t.words.length) && !t.fire) }

/-- A signed argument in 32 bits. -/
def sArg (i : Int) : Nat := toTwos 32 i

/-! ### Trips -/

/-- A port trip other than CLOCK_STOP and REGION_HOLD forces the generators and the TRIP bit (R202, R215). [DEDUCED, unsafe: log 39] -/
def Trip.forces (t : Trip) : Bool :=
  match t with
  | .regionHold | .clockStop => false
  | _ => true

/-- The event that reports a trip (Table 19.5). -/
def Trip.event (t : Trip) : Nat :=
  match t with
  | .host => 0x03 | .legRepeat => 0x45 | .doubleFault => 0x43 | .hizSecond => 0x44 | .downlink => 0x49 | .uplink => 0x4A
  | .gridLoss => 0x4B | .gridFault => 0x56 | .oc => 0x46 | .dcOv => 0x47 | .dcUv => 0x48 | .bmsOver => 0x39 | .late => 0x51
  | .implausible => 0x52 | .contactor => 0x4C | .pack | .permit => 0x36 | .limit => 0x92 | .slip => 0x11 | .shoalEcc => 0x5B
  | .regionHold => 0xB4 | .clockStop => 0xC0 | .module => 0 | .lateTakeover => 0xB0

/-- Set a trip of a port (R563): it stands, the gates are commanded off, the generators act (R202). [DEDUCED, unsafe: log 39] -/
def State.tripPort (s : State) (p : Port) (t : Trip) : State :=
  let s1 := ((s.modLife p fun l => { l with trips := if l.trips.contains t then l.trips else l.trips ++ [t], gateEn := false }).modFirm
    fun m => { m with tripEvent := t.event }).traceSource 4 p.val
  if t.forces then s1.modPwm p fun w => w.tripNow s.clk.now else s1

def PortLife.admitted (l : PortLife) : Bool := decide (l.life = .admitted)

/-- Set a trip of every admitted port. -/
def State.tripAdmitted (s : State) (t : Trip) : State :=
  s.eachPort fun u p => if (u.life p).admitted then u.tripPort p t else u

/-- Bit p: port p is admitted. -/
def State.admittedMask (s : State) : Nat := vmask s.firm.life (·.admitted)

/-- A port fault of Table 11.5 stands: port lock-out (R360). -/
def BwPort.portLockout (b : BwPort) : Bool := b.returnLost || b.chDisc || b.sdcFb
/-- A limit latch stands (R350). -/
def BwPort.latched (b : BwPort) : Bool := b.latch.toList.any id

/-- A port able to carry current (R563). -/
def State.able (s : State) (p : Port) : Bool :=
  let b := s.bw.ports[linkOf p]
  (s.life p).admitted && (s.life p).trips.isEmpty && !b.portLockout && !b.latched
def State.anyAdmitted (s : State) : Bool := s.firm.life.toList.any (·.admitted)
def State.anyAble (s : State) : Bool := (List.finRange 12).any fun p => s.able p

/-! ### The device state -/

/-- A pending black start ends with BS_ABORT and its cause (R104, R589). -/
def State.abortBlackStart (s : State) (cause : Nat) : State :=
  if s.firm.seq.bsPending then
    (s.modSeq fun q => { q with bsPending := false, bsGate := none, bsPassed := false, bsAnchored := false }).raise
      0x21 0xFF cause
  else s

/-- The actions on entry into TRIPPED or LOCKOUT (R565, R589): gates off at the next boundaries, the breaker output cleared, an
armed close disarmed. [DEDUCED, unsafe: log 117] -/
def State.gatesOut (s : State) : State :=
  s.modFirm fun m =>
    { m with
      life := m.life.map fun l => { l with gateEn := false }
      seq := { m.seq with brkOut := false, armed := false, closeAt := none, ramp := .none, liveEntry := false } }

/-- The word + 0x038C of Table 4.11. -/
def Ride.rmsWord (r : Ride) : Nat := wordOf [(16, 16, pct16 r.vMin), (0, 16, pct16 r.vMax)]

/-- The voltage event ends (R121, R125): HOLD and TRACK end with it unless RECOVERING runs. -/
def State.endFault (s : State) : State :=
  let r := s.firm.ride
  if r.fault then
    (s.modRide fun r => { r with fault := false, voltIn := none, held := if r.recovering.isSome then r.held else none }).raise
      0x26 0xFF r.rmsWord (min (2 ^ 32 - 1) ((s.clk.now - r.origin) / 400))
  else s

/-- The Unyar leaves both SYNC and FORMING (R120): open events end, the laws stop. [DEDUCED, unsafe: log 56] [DESIGN CHOICE, unsafe: log 118] -/
def State.leaveLive (s : State) : State :=
  (s.endFault.modRide fun r =>
    { r with
      freq := false, freqIn := none, uvRun := (0, 0), instRun := 0, delta := none, realign := none, held := none, recovering := none
      limitActive := false, idReduced := false, rocofHigh := false, dx := 0, envRun := Vector.replicate 4 0, fHist := [] }).modFirm fun m =>
    { m with shares := m.shares.map fun x => { x with limited := false } }

/-- SYNC or FORMING. -/
def DevState.runs (d : DevState) : Bool :=
  match d with
  | .sync | .forming => true
  | _ => false

/-- A device-state change (R561): STATE_CHANGE with the causing event's code, and the entry actions of R565, R589. [DEDUCED, unsafe: log 78] -/
def State.setDev (s : State) (new : DevState) (cause : Nat) : State :=
  let old := s.dev
  if old = new then s
  else
    let auto := (decide (new = .tripped) && bit (s.parN P_LOG_AUTOFREEZE) 0) ||
      (decide (new = .lockout) && bit (s.parN P_LOG_AUTOFREEZE) 1)
    let s1 := s.modFirm fun m => { m with dev := new, sub := if new = .forming then m.sub else .none }
    let s2 := s1.raiseAs { code := 0x02, arg0 := old.code * 256 + new.code, arg1 := cause, entry := auto }
    let s2 := if old.runs && !new.runs then s2.leaveLive else s2
    match new with
    | .tripped => ((s2.abortBlackStart 5).gatesOut).modHost fun h => { h with attnSeen := false }
    | .lockout => ((s2.abortBlackStart 6).gatesOut).modHost fun h => { h with attnSeen := false }
    | .boot | .standby => s2.modSeq fun _ => {}
    | .forming | .ready => s2
    | .idle | .sync => if old = .ready then s2.abortBlackStart 7 else s2
    | .service => s2.modBw fun b => { b with pending := b.params }

/-- A module trip (R141): every admitted port trips and the state becomes TRIPPED from READY, SYNC and FORMING. -/
def State.moduleTrip (s : State) (t : Trip) (cause : Nat) : State :=
  (s.tripAdmitted t).setDev .tripped cause

/-- The accumulators, links and firmware run: neither STANDBY nor BOOT (R50). -/
def State.awake (s : State) : Bool :=
  match s.dev with
  | .standby | .boot => false
  | _ => true
/-- READY, SYNC or FORMING. -/
def DevState.live (d : DevState) : Bool :=
  match d with
  | .ready | .sync | .forming => true
  | _ => false

/-- The device state that R563 and R564 ask for, from the ports. [DEDUCED, unsafe: log 78] -/
def State.settle (s : State) : State :=
  match s.dev with
  | .ready =>
    if !s.anyAdmitted then s.setDev .idle 0 else if !s.anyAble then s.setDev .tripped s.firm.tripEvent else s
  | .sync | .forming => if !s.anyAble then s.setDev .tripped s.firm.tripEvent else s
  | .idle => if s.anyAble then s.setDev .ready 0 else if s.anyAdmitted then s.setDev .tripped s.firm.tripEvent else s
  | _ => s

/-- The state after a clearing command accepted in TRIPPED (R565). [DEDUCED, unsafe: log 78] -/
def State.settleTripped (s : State) : State :=
  match s.dev with
  | .tripped => if s.anyAble then s.setDev .ready 0 else if !s.anyAdmitted then s.setDev .idle 0 else s
  | _ => s

/-! ### Outputs -/

/-- Hand something to a network; the last 32 are kept. [DESIGN CHOICE, safe: log 14] -/
def State.emit (s : State) (o : Out) : State := s.modNet fun n => { n with out := (n.out ++ [o]).drop (n.out.length + 1 - 32) }

/-- Hand a frame to a network port, which counts it in TX_FRAMES (R424). [DEDUCED, unsafe: log 9] -/
def State.send (s : State) (n : Net) (o : Out) : State :=
  (s.emit o).modNet fun x => { x with ports := vmod x.ports n fun p => { p with txFrames := satInc 32 p.txFrames } }

/-- A frame sent on both networks takes the next PRP sequence number (R416). [DEDUCED, unsafe: log 9] -/
def State.prpNext (s : State) : State :=
  if s.par P_PRP_EN = 1 then s.modNet fun n => { n with prpSeq := (n.prpSeq + 1) % 2 ^ 16 } else s

/-! ### A Headland's reset (R376, R560) -/

/-- What a Headland keeps in MRAM across a reset (Table 19.3). [DEDUCED, unsafe: log 108] -/
def Headland.afterReset (a : Headland) : Headland :=
  { cfg := { committed := a.cfg.committed, hash := a.cfg.hash, commitNo := a.cfg.commitNo, pendingSet := a.cfg.committed
             wake := a.cfg.wake, safety := a.cfg.safety }
    log := { records := a.log.records, newest := a.log.newest, cursor := a.log.cursor, frozen := a.log.frozen, opSec := a.log.opSec
             opAt := a.log.opAt, pcc := a.log.pcc }
    pair := { role := .resetting } }

/-- The other Headland. -/
def otherHd (h : Hd) : Hd := if h = 0 then 1 else 0

/-- A capture that a failure or a handover ends (R491). -/
def Cap.liveNo (c : Cap) : Option Nat :=
  match c.state with
  | .armed | .triggered | .streaming => some c.recordNo
  | .idle | .done => none

/-- The snapshots of a die that is reset go: its block is size bytes from base (R587). -/
def State.dropSnaps (s : State) (base size : Nat) : State :=
  { s with rs := s.rs.filter fun x => decide (x.addr < base ∨ base + size ≤ x.addr) }

/-- A Headland stops ALIVE, releases CLAIM and resets (R376). -/
def State.failHeadland (s : State) (h : Hd) : State :=
  let lost := s.hl[h].cap.liveNo
  ((s.dropSnaps (0x10000 * (h.val + 1)) 0x10000).modHl h (·.afterReset)).modPair (otherHd h) fun p => if h = s.hd then { p with capLost := lost } else p

end Sys2Proof.Machine
end

