-- ==== Sys2Proof/Machine/Sense.lean ====
section
/-! DEFINITION. Decimators, temperature conversion and auxiliary converter: their shared operations (08_sensing_chain.md). -/
namespace Sys2Proof.Machine

/-! ### Decimators -/

/-- How a channel computes: width W, order N, log2 D, D, shifts of stages 1 to 2N (4 bits each). -/
structure CicPar where
  w : Nat
  n : Nat
  d : Nat
  e : Nat
  shifts : Nat
  deriving DecidableEq, Repr

/-- Shift of stage j, j from 1 (R279). -/
def CicPar.sh (c : CicPar) (j : Nat) : Nat := c.shifts / 16 ^ (j - 1) % 16

/-- The integrators of R259: from u, the new acc and the u they give. -/
def integrators (c : CicPar) : Nat → Int → List Nat → List Nat × Int
  | _, u, [] => ([], u)
  | j, u, a :: rest =>
    let a1 := toTwos c.w ((a : Int) + u)
    let r := integrators c (j + 1) (ofTwos c.w a1 / 2 ^ c.sh j) rest
    (a1 :: r.1, r.2)

/-- The combs of R259: stage i over the differences. -/
def combs (c : CicPar) : Nat → Nat → List Int → List Int
  | 0, _, cs => cs
  | k + 1, i, cs => combs c k (i + 1) ((cs.zip cs.tail).map fun x => ofTwos c.w (toTwos c.w (x.1 - x.2)) / 2 ^ c.sh (c.n + i))

/-- A restart clears the registers of a channel (R264). -/
def DecChan.restart (_ : DecChan) : DecChan := {}

/-- One modulator clock of the integrators, with no rule on runs (R259, R314). -/
def DecChan.clockBare (ch : DecChan) (c : CicPar) (b bad : Bool) : DecChan :=
  let acc := if ch.acc.length = c.n then ch.acc else List.replicate c.n 0
  let r := integrators c 1 (if b then 1 else -1) acc
  { ch with
    acc := r.1, last := b, clocks := min (2 ^ 20) (ch.clocks + 1)
    hist := { u := toTwos c.w r.2, bad := bad } :: ch.hist.take (c.n * c.d + 512) }

/-- One modulator clock at a Shoal (R259), with the run of R254: the run's bits are invalid once it is 256 long. -/
def DecChan.clock (ch : DecChan) (c : CicPar) (b bad : Bool) : DecChan :=
  let run := if ch.clocks = 0 || b != ch.last then 1 else min 256 (ch.run + 1)
  let x := { ch.clockBare c b (bad || decide (run = 256)) with run := run }
  if run = 256 && decide (ch.run ≠ 256) then
    { x with hist := (x.hist.take 256).map (fun h => { h with bad := true }) ++ x.hist.drop 256 }
  else x

/-- Output for the end clock that lies back clocks before the newest (R259); 42 bits after the clamp. -/
def DecChan.output (ch : DecChan) (c : CicPar) (back : Nat) : Int :=
  let h := ch.hist.drop back
  let cs := (List.range (c.n + 1)).map fun k => ofTwos c.w ((h.drop (k * c.d)).headD { u := 0, bad := true }).u
  satS 42 (ofTwos c.w (toTwos c.w ((combs c c.n 1 cs).headD 0)))

/-- The window ends within the restart interval (R264). -/
def DecChan.restarting (ch : DecChan) (c : CicPar) (back : Nat) : Bool := decide (ch.clocks < back + c.n * (c.d - 1) + 1)
/-- No invalid bit lies in the window and the restart interval is over (R264). -/
def DecChan.windowOk (ch : DecChan) (c : CicPar) (back : Nat) : Bool :=
  !ch.restarting c back && ((ch.hist.drop back).take (c.n * (c.d - 1) + 1)).all fun x => !x.bad

/-- q of R261 before the clamp. -/
def qRaw (y : Int) (e : Nat) : Int := if 14 ≤ e then (5 * y + 2 ^ (e - 14)) / 2 ^ (e - 13) else 5 * y * 2 ^ (13 - e)
/-- r of R261. -/
def rOf (y : Int) (e : Nat) : Int := satS 24 (if 24 ≤ e then (y + 2 ^ (e - 24)) / 2 ^ (e - 23) else y * 2 ^ (23 - e))

/-- Settings of channel c of a link (R258, R260). -/
def DecLink.par (l : DecLink) (isG : Bool) (c : Fin 7) : CicPar :=
  let word : Nat := if isG then l.cfg[if c.val ≤ 3 then (0 : Fin 4) else 1]
    else l.cfg[if c.val ≤ 3 then (0 : Fin 4) else if c.val = 4 then 1 else if c.val = 5 then 2 else 3]
  let sh := if isG then (if c.val ≤ 3 then l.shifts.1 else l.shifts.2) else 0
  let n := word / 256
  let lg := word % 256
  let total := ((List.range (2 * n)).map fun j => sh / 16 ^ j % 16).sum
  { w := if isG then 64 else 42, n := n, d := 2 ^ lg, e := n * lg - total, shifts := sh }

/-- Form one sample of channel c, and the LOST and CH_SAT bits it sets (R261, R264, R282). -/
def DecLink.sample (l : DecLink) (isG : Bool) (c : Fin 7) (back : Nat) : Sample × Bool × Bool :=
  let par := l.par isG c
  let ch := l.chans[c]
  let y := ch.output par back
  let q := qRaw y par.e
  let ok := ch.windowOk par back && decide (back < ch.hist.length)
  (⟨satS 16 q, rOf y par.e, ok⟩, !ok && !ch.restarting par back, decide (satS 16 q ≠ q))

/-- Note the LOST and CH_SAT bits of a sample. -/
def DecLink.noteSample (l : DecLink) (c : Fin 7) (x : Sample × Bool × Bool) : DecLink :=
  { l with lost := if x.2.1 then l.lost ||| 2 ^ c.val else l.lost, chSat := if x.2.2 then l.chSat ||| 2 ^ c.val else l.chSat }

/-- The free-running outputs of R263 at the newest clock. -/
def DecLink.freeRun (l : DecLink) (isG : Bool) : DecLink :=
  (List.finRange 7).foldl (fun (l : DecLink) c =>
    if l.head.getD 0 % (l.par isG c).d = 0 then
      let x := l.sample isG c 0
      { l.noteSample c x with free := vset l.free c x.1 }
    else l) l

/-- One modulator clock on every channel (R253, R259). -/
def DecLink.clock (l : DecLink) (isG : Bool) (label : Nat) (bits : Fin 7 → Bool) (bad : Fin 7 → Bool) : DecLink :=
  { l with
    head := some label
    chans := Vector.ofFn fun c => l.chans[c].clock (l.par isG c) (bits c) (bad c) }.freeRun isG

/-- Bit i of stream c, oldest first, in bytes 2 to 19 of an uplink frame (Table 7.1). -/
def streamBit (bytes : List Byte) (c i : Nat) : Bool :=
  let pos := 20 * c + i
  bit (by8 bytes (2 + pos / 8)) (7 - pos % 8)
def streamOnes (bytes : List Byte) (c : Nat) : Nat := (List.range 20).countP fun i => streamBit bytes c i

/-- Channels that are STUCK (R254). -/
def DecLink.stuck (l : DecLink) : Nat := vmask l.chans fun c => decide (c.run = 256)

/-- A link after one clock, with the channels that it has seen enter STUCK since a frame began (R254). -/
def DecLink.noteStuck (was now : DecLink) (seen : Nat) : DecLink × Nat :=
  let fresh := now.stuck &&& (was.stuck ^^^ 0x7F)
  ({ now with stuckSeen := now.stuckSeen ||| fresh }, seen ||| fresh)

/-- Twenty clocks of a frame: the streams, or alternating bits marked lost (R264); the channels that enter STUCK. [DEDUCED, unsafe: log 67] -/
def DecLink.feed (l : DecLink) (isG : Bool) (mclk : Nat) (bytes : Option (List Byte)) (bad : Fin 7 → Bool) : DecLink × Nat :=
  let first := match l.head with
    | some h => h + 1
    | none => mclk + 2 ^ 32 - 19
  (List.range 20).foldl (fun (x : DecLink × Nat) i =>
    let label := (first + i) % 2 ^ 32
    let l1 := match bytes with
      | some bs => x.1.clock isG label (fun c => streamBit bs c.val i) bad
      | none => x.1.clock isG label (fun _ => decide (i % 2 = 0)) fun _ => true
    x.1.noteStuck l1 x.2) (l, 0)

/-- A restart of every group of a link (R264). -/
def DecLink.restartAll (l : DecLink) : DecLink := { l with chans := l.chans.map (·.restart), head := none }

/-- Put settings in force; a group whose settings change restarts (R264, R282). -/
def DecLink.configure (l : DecLink) (isG : Bool) (cfg : Vector Nat 4) (shifts : Nat × Nat) : DecLink :=
  let l1 := { l with cfg := cfg, shifts := shifts }
  { l1 with chans := Vector.ofFn fun c => if l1.par isG c = l.par isG c then l.chans[c] else l.chans[c].restart }

/-- A group is within its restart interval (R282). -/
def DecLink.restarting (l : DecLink) (isG : Bool) : Bool := (List.finRange 7).any fun c => l.chans[c].restarting (l.par isG c) 0

/-- The samples of R262 at the end clock that the tide SAMPLE set; invalid where the clock has not arrived. -/
def DecLink.takeSamples (l : DecLink) (isG : Bool) : DecLink :=
  match l.sampleAt, l.head with
  | some t, some h =>
    let back := (h + 2 ^ 32 - t) % 2 ^ 32
    (List.finRange 7).foldl (fun (l : DecLink) c =>
      if back < 2 ^ 31 then
        let x := l.sample isG c back
        { l.noteSample c x with
          samples := vset l.samples c x.1, temp := if !isG && decide (c = 6) && x.1.valid then some x.1.r else l.temp }
      else { l with samples := vset l.samples c { l.samples[c] with valid := false } }) { l with sampleAt := none }
  | _, _ => { l with samples := l.samples.map fun x => { x with valid := false } }

/-- Shift word of a group: stages 1 to 10 from words A, B, C (R279). -/
def shiftWord (a b c : Nat) : Nat := a + b * 2 ^ 16 + c % 256 * 2 ^ 32

/-- The settings of a link from the committed parameters (R278, R279). -/
def State.decSettings (s : State) (l : Link) : Vector Nat 4 × (Nat × Nat) :=
  match portOfLink l with
  | some p => (#v[s.parN (PP_CIC_LEG p), s.parN (PP_CIC_VDC p), s.parN (PP_CIC_IDC p), s.parN (PP_CIC_TEMP p)], (0, 0))
  | none =>
    (#v[s.parN P_CIC_G_INV, s.parN P_CIC_G_GRID, 0x0305, 0x0308],
      (shiftWord (s.parN P_SHIFT_INV_A) (s.parN P_SHIFT_INV_B) (s.parN P_SHIFT_INV_C),
       shiftWord (s.parN P_SHIFT_GRID_A) (s.parN P_SHIFT_GRID_B) (s.parN P_SHIFT_GRID_C)))

/-- Put the committed settings of every link in force. -/
def State.applyDec (s : State) : State :=
  { s with dec := Vector.ofFn fun l => let c := s.decSettings l; s.dec[l].configure (decide (l = linkG)) c.1 c.2 }

/-- A link's twenty clocks, with MOD_STUCK for each channel that enters STUCK (R254). -/
def State.feedLink (s : State) (l : Link) (bytes : Option (List Byte)) (bad : Fin 7 → Bool) : State :=
  let d := s.dec[l].feed (decide (l = linkG)) s.clk.mclk bytes bad
  (List.range 7).foldl (fun t c => if bit d.2 c then t.raise 0x54 l.val c else t) { s with dec := vset s.dec l d.1 }

/-- Largest group delay of LEG, VDC and INV, in modulator clocks (R266, R71). -/
def groupDelayOf (ps : ParamStore) (p : Port) : Rat :=
  let g := fun (n : Nat) => let w := (ps.get n).toNat; ((w / 256 * (2 ^ (w % 256) - 1) : Nat) : Rat) / 2
  ratMax (g (PP_CIC_LEG p)) (ratMax (g (PP_CIC_VDC p)) (g P_CIC_G_INV))
def State.groupDelay (s : State) (p : Port) : Rat := groupDelayOf s.act.cfg.committed.params p

/-! ### Temperature (R255) -/

/-- The first terms of 2 · artanh t, which is ln ((1 + t) / (1 - t)). [DESIGN CHOICE, unsafe: log 122] -/
def artanh2 (t : Rat) (terms : Nat) : Rat := 2 * ((List.range terms).map fun k => t ^ (2 * k + 1) / (2 * k + 1 : Nat)).sum

/-- Powers of two taken out of a positive ratio, so that what is left lies within 2/3 to 4/3. [DESIGN CHOICE, unsafe: log 122] -/
def lnReduce : Nat → Rat → Int → Rat × Int
  | 0, x, k => (x, k)
  | n + 1, x, k => if 4 / 3 < x then lnReduce n (x / 2) (k + 1) else if x < 2 / 3 then lnReduce n (2 * x) (k - 1) else (x, k)

/-- The natural logarithm of R255, its series cut below 2^-50. [DESIGN CHOICE, unsafe: log 122] -/
def lnOf (x : Rat) : Rat :=
  let r := lnReduce 64 x 0
  artanh2 ((r.1 - 1) / (r.1 + 1)) 11 + r.2 * artanh2 (1 / 3) 16

/-- vin in volts of a temperature sample. -/
def ntcVin (r : Int) : Rat := (r : Rat) / 2 ^ 23 * (125 / 100)
/-- t_pm in °C. -/
def ntcTemp (vin rnom beta : Rat) : Rat :=
  let x := 10000 * vin / (125 / 100 - vin)
  1 / (1 / (29815 / 100) + lnOf (x / rnom) / beta) - 27315 / 100

/-- The conversion of one port in a bus step, NTC_FAULT with its events included. -/
def State.ntcStep (s : State) (p : Port) : State :=
  let l := linkOf p
  match s.dec[l].temp with
  | none => s
  | some r =>
    let vin := ntcVin r
    let outside := decide (123 / 100 ≤ vin) || decide (vin ≤ 1 / 100)
    let inside := decide (2 / 100 ≤ vin) && decide (vin ≤ 122 / 100)
    let d := s.dec[l]
    let setT := fun (t : State) (x : Rat) => t.modFirm fun m => { m with meas := vmod m.meas p fun q => { q with tpm := x } }
    let tEnd : Rat := s.lawN (PP_T_DER_END p)
    if outside then
      let t := setT (s.modDec l fun d => { d with ntcFault := true, ntcGood := none }) tEnd
      if d.ntcFault then t else t.raise 0x55 p.val 1
    else if d.ntcFault then
      let since := d.ntcGood.getD s.clk.now
      if inside && decide (since + msTicks 100 ≤ s.clk.now) then
        setT ((s.modDec l fun d => { d with ntcFault := false, ntcGood := none }).raise 0x55 p.val 0)
          (ntcTemp vin (s.lawN (PP_NTC_RNOM p) * 100) (s.lawN (PP_NTC_BETA p)))
      else setT (s.modDec l fun d => { d with ntcGood := if inside then some since else none }) tEnd
    else setT s (ntcTemp vin (s.lawN (PP_NTC_RNOM p) * 100) (s.lawN (PP_NTC_BETA p)))

/-! ### Auxiliary converter (R267 to R277) -/

/-- The converter's parameters in force (R280). -/
def State.adcPar (s : State) (n : Nat) : Int := (s.act.adc.inForce.getD s.act.cfg.committed.params).get n

/-- No sequence is scheduled or running and the urgent queue is empty (R280). -/
def Adc.idle (a : Adc) : Bool := a.scheduled.isNone && !a.running && a.urgent.isEmpty

/-- OVR of one slot's code, by mode (Table 8.4): beyond its threshold always, within the range never. [DESIGN CHOICE, safe: log 22] -/
def adcOvr (mode : Nat) (code : Int) : Bool :=
  let top : Int := if mode = 1 then 65664 else if mode = 2 then 65792 else 65700
  if top < code then true
  else if 65536 < code then Config.ovrPick mode code
  else if mode = 1 ∧ code < 0 then (if code < -128 then true else Config.ovrPick mode code)
  else false

/-- The A codes of an entry with an averaging code (R269, R276). -/
def adcSlots (avg : Nat) (codes : List Int) : List Int := (List.range (2 ^ avg)).map fun i => codes.getD i 0

/-- Average of A codes, each clamped to the converter's range (R269, R275). -/
def adcRaw (codes : List Int) : Int :=
  let a : Int := codes.length
  if codes.isEmpty then 0 else ((codes.map fun c => (satU 16 c : Int)).sum + a / 2) / a

/-- The correction of R274. -/
def adcCorrect (raw offset gain : Int) : Int := ((raw - offset) * gain + 2 ^ 14) / 2 ^ 15

/-- A result word without NEW (Table 8.11). -/
def adcWord (mode : Nat) (offset gain : Int) (codes : List Int) (shifted : Bool) (tag : Nat) : Nat :=
  if mode = 0 then wordOf [(27, 1, 1), (26, 1, b2n shifted), (16, 8, tag)]
  else
    let ovr := codes.any (adcOvr mode)
    let c := adcCorrect (adcRaw codes) offset gain
    let code := satU 16 c
    let low := (decide (mode = 2) && decide (code < 9216)) || (decide (mode = 3) && decide (code < 1000))
    wordOf [(30, 1, b2n ovr), (29, 1, b2n (decide ((code : Int) ≠ c))), (28, 1, b2n low), (26, 1, b2n shifted), (16, 8, tag), (0, 16, code)]

/-- Write a result word. -/
def Adc.write (a : Adc) (i : Fin 36) (w : Nat) : Adc :=
  { a with results := vset a.results i w, fresh := vset a.fresh i true, ovrSeen := a.ovrSeen || bit w 30, shiftSeen := a.shiftSeen || bit w 26 }

/-- A discarded trigger (R272). -/
def Adc.overrun (a : Adc) : Adc := { a with trigOverrun := true, overruns := satInc 32 a.overruns }

/-- A trigger of rank 0 tide, 1 timer, 2 ADC_START schedules a sequence or is discarded (R271, R272). -/
def Adc.trigger (a : Adc) (rank entry startAt : Nat) : Adc :=
  if a.running then a.overrun
  else match a.scheduled with
    | none => { a with scheduled := some (entry, rank), entry := entry % 32, startAt := startAt, shifted := false }
    | some (_, r0) =>
      if a.startAt = startAt ∧ rank < r0 then { a with scheduled := some (entry, rank), entry := entry % 32 }.overrun else a.overrun

/-- ADC_TRIG_DLY in ticks; 10 ns each. -/
def State.adcDelay (s : State) : Nat := (s.adcPar P_ADC_TRIG_DLY).toNat * 4

/-- Result word of an input (R274). -/
def State.adcResult (s : State) (input : Nat) (codes : List Int) (shifted : Bool) (tag : Nat) : Nat :=
  adcWord (s.adcPar (P_ADC_MODE input)).toNat (s.adcPar (P_ADC_OFFSET input)) (s.adcPar (P_ADC_GAIN input)) codes shifted tag

end Sys2Proof.Machine
end

