-- ==== Sys2Proof/Machine/Loops.lean ====
section
/-! DEFINITION. Clock loops, clock stop and check-value units (18_clocks_supply_and_check_units.md). -/
namespace Sys2Proof.Machine

/-! ### The region safe state and the clock stop -/

/-- The region safe state applies to every port of a region (R37, R204). -/
def State.regionSafe (s : State) (k : Shoal) : State :=
  (s.modShoal k fun h => { h with safeRegion := true }).eachOf k fun t p =>
    let cs := t.sk[linkOf p].coils
    t.modPwm p fun w => w.applySafe t.clk.now (decide (t.par (P_REGION_SAFE p) = 1)) (!cs[0].fb && !cs[1].fb)

/-- A region stops with its clock: safe state, PWM_RESUME awaited (R536, R537). -/
def State.stopRegion (s : State) (k : Shoal) : State := (s.regionSafe k).modClocks fun c => { c with stop := vset c.stop k true }
def State.stopAll (s : State) : State := (List.finRange 4).foldl State.stopRegion s

/-! ### Loops -/

/-- TARGET code of a die with a loop (Table 14.2), and its number in the seed of R533. -/
def dieTarget : ClockDie → Nat
  | .headland h => 0x20 + h.val
  | .shoal k => 0x10 + k.val
def dieSeedNo : ClockDie → Nat
  | .headland h => 1 + h.val
  | .shoal k => 3 + k.val

/-- Every die with a loop. -/
def allDies : List ClockDie := [.headland 0, .headland 1, .shoal 0, .shoal 1, .shoal 2, .shoal 3]

def Clocks.get (c : Clocks) : ClockDie → ClockLoop
  | .headland h => c.hd[h]
  | .shoal k => c.shoal[k]
def Clocks.mod (c : Clocks) (d : ClockDie) (f : ClockLoop → ClockLoop) : Clocks :=
  match d with
  | .headland h => { c with hd := vmod c.hd h f }
  | .shoal k => { c with shoal := vmod c.shoal k f }

/-- The loops at the start of an acquisition after a reset (R530, R535). -/
def Clocks.acquiring (now : Nat) : Clocks := { hd := Vector.replicate 2 { acqAt := now }, shoal := Vector.replicate 4 { acqAt := now } }

/-- The LFSR seed of an acquisition (R533). -/
def ditherSeed (seed : Nat) (d : ClockDie) : Nat :=
  let x := (seed ^^^ (dieSeedNo d * 0x000101)) % 2 ^ 23
  if x = 0 then 1 else x

/-- Every loop begins an acquisition with its seed (R533). [DEDUCED, unsafe: log 95] -/
def State.seedLoops (s : State) : State :=
  s.modClocks fun c => allDies.foldl (fun (c : Clocks) d => c.mod d fun l => { l with lfsr := ditherSeed (s.parN P_DITHER_SEED) d }) c

/-- A die leaves its main path: bypass, UNLOCKS, LAST_UNLOCK, CLOCK_BYPASS, and what Table 18.2 gives the die (R534, R536);
a token holder that loses lock beside an eligible standby fails (R376). -/
def State.toBypass (s : State) (d : ClockDie) (cause : Nat) : State :=
  let s1 := s.modClocks fun c =>
    { c.mod d fun l =>
        { l with state := if cause = 2 then .noRef else .acquiring, bypass := true, cause := cause, lockedAt := none, acqAt := s.clk.now
                 lfsr := ditherSeed (s.parN P_DITHER_SEED) d } with
      unlocks := satInc 32 c.unlocks, lastUnlock := s.act.log.opSec }
  let s2 := s1.raise 0xC0 (dieTarget d) cause
  match d with
  | .shoal k => s2.stopRegion k
  | .headland h =>
    if h = s.hd ∧ cause = 1 ∧ s.act.pair.peerEligible then s2.failHeadland h
    else if h = s.hd then
      (s2.modAct fun a => { a with
        engine := { a.engine with run := false }
        net := { a.net with ports := a.net.ports.map fun p =>
          { p with link := false, linkDowns := if p.link then satInc 16 p.linkDowns else p.linkDowns } } }).stopAll
    else s2.modPair h fun p => { p with ineligSelftest := true }

/-- PLL_LOSS_OF_LOCK (R530, R534, R536). [DEDUCED, unsafe: log 95] -/
def execPllLossOfLock (die : ClockDie) (s : State) : Res :=
  .next (if (s.clocks.get die).state = .locked then s.toBypass die 1 else s)

/-- REFERENCE_LOSS (R530, R534): every loop; the token holder keeps the token. In STANDBY the loops are without supply.
[DEDUCED, unsafe: log 95] -/
def execReferenceLoss (s : State) : Res :=
  .next (if s.dev = .standby ∨ s.clocks.refLost then s
    else allDies.foldl (fun t d => t.toBypass d 2) (s.modClocks fun c => { c with refLost := true, refLostAt := s.clk.now }))

/-- REFERENCE_RETURN (R530, R535): 1,024 periods of 40 ns in range; the loops reacquire. -/
def execReferenceReturn (s : State) : Res :=
  .next (if s.clocks.refLost && decide (s.clocks.refLostAt + 1024 * 16 ≤ s.clk.now) then
      s.modClocks fun c =>
        allDies.foldl (fun (c : Clocks) d => c.mod d fun l => { l with state := .acquiring, acqAt := s.clk.now, lfsr := ditherSeed (s.parN P_DITHER_SEED) d })
          { c with refLost := false }
    else s)

/-- PLL_RELOCK (R530, R535): a phase error within PLL_LOCK_WIN on PLL_LOCK_CYCLES cycles of 40 ns; the outputs return to the main path.
[DEDUCED, unsafe: log 95] -/
def execPllRelock (die : ClockDie) (phaseErr : Int) (s : State) : Res :=
  let l := s.clocks.get die
  if s.dev = .standby ∨ l.state ≠ .acquiring ∨ s.par P_PLL_LOCK_WIN < phaseErr.natAbs ∨ s.clk.now < l.acqAt + 16 * s.parN P_PLL_LOCK_CYCLES then .next s
  else
    let s1 := s.modClocks fun c =>
      c.mod die fun l => { l with state := .locked, bypass := false, phaseErr := satS 8 phaseErr, lockedAt := if l.bypass then some s.clk.now else none }
    let s2 := if l.bypass then s1.raise 0xC1 (dieTarget die) l.cause else s1
    .next (match die with
      | .headland h => if h = s.hd ∧ s.awake then s2.modAct fun a => { a with engine := { a.engine with run := true } } else s2
      | .shoal _ => s2)

/-! ### Check-value units -/

def CrcUnit.refin (u : CrcUnit) : Bool := bit u.flags 0
def CrcUnit.refout (u : CrcUnit) : Bool := bit u.flags 1
/-- RESULT from the running value (R544). -/
def CrcUnit.out (u : CrcUnit) : Nat := crcOut u.width u.refout u.xorout u.reg
/-- Feed data bytes (R544, R545). -/
def CrcUnit.feed (u : CrcUnit) (bs : List Byte) : CrcUnit :=
  let v := { u with reg := crcRun u.width u.poly u.refin u.reg bs }
  { v with result := v.out }

/-- Bytes that a snooped frame feeds, and the frame's own check field (Table 18.8); none where the SOF is not the source's. -/
def CrcUnit.snooped (u : CrcUnit) (bs : List Byte) : Option (List Byte × Nat) :=
  let link := fun (sof len : Nat) =>
    if by8 bs 0 = sof then
      some ((if bit u.flags 2 then le 1 u.arg else []) ++ (if bit u.flags 3 then le 1 (by8 bs 1) else []) ++ (bs.drop 2).take len, rdBe bs (len + 2) 2)
    else none
  let n := bs.length - 4
  if u.snoop = 1 then link 0xD5 44
  else if u.snoop = 2 then link 0xB3 8
  else if u.snoop = 3 then
    if by8 bs 0 = 0xE7 then some ((if bit u.flags 3 then (bs.drop 2).take 4 else []) ++ bs.take n, rd bs n 4) else none
  else if u.snoop = 4 ∨ u.snoop = 5 then some (bs.take n, rd bs n 4)
  else none

/-- CRC_SNOOP_FRAME (R546). [DEDUCED, unsafe: log 98] -/
def execCrcSnoopFrame (u : Fin 8) (bytes : List Byte) (s : State) : Res :=
  .next (s.modAct fun a =>
    { a with crc := vmod a.crc u fun c =>
        match c.snooped bytes with
        | none => c
        | some (bs, check) =>
          let v := { c with reg := c.init }.feed bs
          { v with frames := satInc 32 v.frames, mismatches := if v.result = check then v.mismatches else satInc 32 v.mismatches } })

/-- CRC_REGION_PASS (R547): the first pass is the reference. -/
def execCrcRegionPass (u : Fin 8) (bytes : List Byte) (s : State) : Res :=
  let c := s.act.crc[u]
  if c.snoop ≠ 6 then .next s
  else
    let v := { c with reg := c.init }.feed ((if bit c.flags 2 then le 4 c.arg else []) ++ bytes)
    let bad := match c.first with
      | some r => decide (v.result ≠ r)
      | none => false
    let w := { v with frames := satInc 32 v.frames, first := some (c.first.getD v.result), mismatches := if bad then satInc 32 v.mismatches else v.mismatches }
    let s1 := s.modAct fun a => { a with crc := vset a.crc u w }
    .next (if bad then s1.raise 0xCA u.val v.result else s1)

end Sys2Proof.Machine
end

