-- ==== Sys2Proof/Machine/Pulse.lean ====
section
/-! DEFINITION. Carrier phases and the pulse generators' own events (02_angle_time.md, 06_leg_pulse_generation.md). -/
namespace Sys2Proof.Machine

/-! ### Angle -/

/-- The INC of a frequency in Hz (R48). -/
def incOf (f : Rat) : Nat := (f * 70368744177664 / 100000 / 1000 + 1 / 2).floor.toNat
/-- f_nom in Hz. -/
def State.fNom (s : State) : Nat := s.parN P_F_NOM
def State.incNom (s : State) : Nat := incOf s.fNom
/-- INC_MIN and INC_MAX (R49). -/
def State.incMin (s : State) : Nat := incOf (s.fNom * 9 / 10 : Rat)
def State.incMax (s : State) : Nat := incOf (s.fNom * 11 / 10 : Rat)
/-- INC within the bounds of R49. [DEDUCED, unsafe: log 48] -/
def State.clampInc (s : State) (inc : Nat) : Nat := max s.incMin (min s.incMax inc)

/-- θv of an accumulator (R47). -/
def thetaOf (acc : Nat) : Nat := acc / 2 ^ 16 % 2 ^ 32
/-- φc of a port for a value of θv (R56). -/
def State.carrierPhase (s : State) (p : Port) (theta : Nat) : Nat :=
  (s.parN P_CARRIER_N * theta + s.parN (PP_CARRIER_OFFSET p) * 2 ^ 16) % 2 ^ 32

/-- The step of a reference, signed: a step of half a turn or more is a backward one (R63, R65). -/
def refStep (now prev : Nat) : Int := ofTwos 32 ((now + 2 ^ 32 - prev % 2 ^ 32) % 2 ^ 32)

/-- What a reference has still to advance before a block ends, after a step; none once it has (R63, R193). -/
def stillBlocked (block : Option Nat) (step : Int) : Option Nat :=
  block.bind fun b => if (b : Int) ≤ step then none else some ((b : Int) - step).toNat

/-- A reference that moves from prev to now passes an angle on this tick (R63); a backward move passes none. [DEDUCED, unsafe: log 36] -/
def crosses (angle prev now : Nat) : Bool :=
  let step := (now + 2 ^ 32 - prev % 2 ^ 32) % 2 ^ 32
  let dist := (angle + 2 ^ 32 - prev % 2 ^ 32) % 2 ^ 32
  decide (step < 2 ^ 31 ∧ 1 ≤ dist ∧ dist ≤ step)

/-- Ticks until the carrier phase of a port next wraps at the present INC (R56). -/
def State.ticksToBoundary (s : State) (p : Port) : Nat :=
  let h := s.shoals[shoalOf p]
  let wrap := thetaOf h.acc + ceilDiv (2 ^ 32 - s.carrierPhase p (thetaOf h.acc)) (max 1 (s.parN P_CARRIER_N))
  ceilDiv (wrap * 2 ^ 16 - h.acc) (max 1 h.inc)

/-- Prescale PS (R185): the smallest with 2^(16 + PS) tck at least 1.0625 / (0.9 N F_NOM). -/
def prescale (carrierN fNom : Nat) : Nat :=
  let enough := fun (ps : Nat) => decide ((10625 * 400000000 : Nat) ≤ 2 ^ (16 + ps) * 9000 * carrierN * fNom)
  if enough 0 then 0 else if enough 1 then 1 else if enough 2 then 2 else 3

/-! ### Duty entries -/

/-- A duty entry at its Shoal (R186, R187). -/
def State.dutyEntry (s : State) (p : Port) (d : Vector Nat 4) (tag : Nat) : State :=
  s.modPwm p fun w =>
    if tag = (w.idx + 1) % 256 ∧ 20 ≤ s.ticksToBoundary p then
      { w with shadow := some d, dutyRange := w.dutyRange || d.toList.any fun x => decide (0x10000 < x) }
    else { w with staleDuty := true, counters := vset w.counters 3 (satInc 32 w.counters[3]) }

/-! ### Delays -/

/-- A delay in picoseconds as delay-line steps of 39.0625 ps, halves up (R206). -/
def delaySteps (ps : Nat) : Nat := (ps * 16 * 2 + 625) / 1250

/-- A COMMIT_PARAMS has been accepted and has yet to complete (R382, R442). -/
def State.commitWaits (s : State) : Bool := s.act.host.awaiting.any fun a => decide (a.item.op = 0x12)

/-- The pulse-generation parameters of a port, taken at a boundary once their commit has completed (R205). [DEDUCED, unsafe: log 38] -/
def State.pwmParams (s : State) (p : Port) (w : Pwm) : Pwm :=
  if s.commitWaits then w else
  { w with
    minPulse := s.parN P_MIN_PULSE * 64, bsOnT := s.parN P_BS_ON_T * 400, bsPulseT := s.parN P_BS_PULSE_T * 40 * 64
    dRise := (delaySteps (s.parN (PP_DLY_R_PH p)), delaySteps (s.parN (PP_DLY_R_N p)))
    dFall := (delaySteps (s.parN (PP_DLY_F_PH p)), delaySteps (s.parN (PP_DLY_F_N p)))
    vsCarry := decide (s.parN (PP_VS_CARRY p) = 1) }

/-! ### Events -/

/-- The hold count of a Shoal at a boundary of port 0; beyond HOLD_LIMIT the region safe state (R387). [DEDUCED, unsafe: log 34] -/
def State.holdBoundary (s : State) (k : Shoal) : State :=
  let h := s.shoals[k]
  let limit := s.parN P_HOLD_LIMIT
  if h.frameSince then s.modShoal k fun h => { h with holdLimit := limit, holdCount := 0, frameSince := false }
  else
    let s1 := s.modShoal k fun h => { h with holdLimit := limit, holding := true, holdCount := min (limit + 1) (h.holdCount + 1) }
    if limit < h.holdCount + 1 ∧ h.holdCount ≤ limit then
      let s2 := (s1.modShoal k fun h => { h with safeHold := true }).regionSafe k
      let mask := maskOf 12 fun i => if hi : i < 12 then decide (shoalOf ⟨i, hi⟩ = k) && s2.pwm[i].safe else false
      s2.raise 0xB4 (0x10 + k.val) (limit + 1) mask
    else s1

/-- SAFE_REGION clears when no port of the region remains in safe state (R389). -/
def State.safeRegionOver (s : State) (k : Shoal) : State :=
  if (List.finRange 3).any fun j => s.pwm[portOf k j].safe then s else s.modShoal k fun h => { h with safeRegion := false }

/-- PWM_EDGE (R189, R190). -/
def execPwmEdge (p : Port) (k : Leg) (rise : Bool) (s : State) : Res := .next (s.modPwm p fun w =>
  w.edge (prescale (s.parN P_CARRIER_N) s.fNom) k rise)

/-- GATE_TURN_ON_DELAY (R190, R202). -/
def execGateTurnOnDelay (p : Port) (k : Leg) (high : Bool) (s : State) : Res := .next (s.modPwm p fun w =>
  w.turnOn s.clk.now s.shoals[shoalOf p].dlLock k high)

/-- BS_REFRESH (R199, R200). -/
def execBsRefresh (p : Port) (k : Leg) (s : State) : Res := .next (s.modPwm p fun w => w.refresh s.clk.now k)

/-- BS_PULSE_END (R199). -/
def execBsPulseEnd (p : Port) (k : Leg) (s : State) : Res := .next (s.modPwm p fun w =>
  w.pulseEnd s.clk.now s.shoals[shoalOf p].dlLock k)

/-- GATE_OFF_DEMAND (Table 6.5, R202, R204). -/
def execGateOffDemand (p : Port) (k : Leg) (src : GateOffSource) (s : State) : Res :=
  .next (match src with
    | .hiz => s.modPwm p fun w => w.legHiz s.clk.now k
    | .hizEnd => s.modPwm p fun w => { w with legs := vmod w.legs k fun g => { g with hizEnding := g.hiz } }
    | .trip => if (s.life p).trips.any (·.forces) || s.pwm[p].lines.trip then s.modPwm p fun w => w.tripNow s.clk.now else s
    | .regionSafe =>
      let cs := s.sk[linkOf p].coils
      (s.modShoal (shoalOf p) fun h => { h with safeRegion := true }).modPwm p fun w =>
        w.applySafe s.clk.now (decide (s.par (P_REGION_SAFE p) = 1)) (!cs[0].fb && !cs[1].fb))

/-- DL_UNLOCK (R195): edges on whole ticks until the lock returns. -/
def execDlUnlock (k : Shoal) (s : State) : Res :=
  .next (if s.shoals[k].dlLock then
      (((s.modShoal k fun h => { h with dlLock := false, dlUnlocked := true }).eachOf k fun t p =>
        t.modPwm p fun w => { w with legs := w.legs.map fun g => { g with tOn := edgeTime false g.tOn, tOff := edgeTime false g.tOff } })).raise
        0x4F (0x10 + k.val) s.shoals[k].dlCode
    else s)

/-- DL_LOCK (R194, R195). -/
def execDlLock (k : Shoal) (code : Nat) (s : State) : Res := .next (s.modShoal k fun h => { h with dlLock := true, dlCode := code % 4096 })

end Sys2Proof.Machine
end

