-- ==== Sys2Proof/Machine/Tick.lean ====
section
/-! DEFINITION. One tick of the 400 MHz timebase (R17, R47, R50, R253, R406): what step does where no command waits. -/
namespace Sys2Proof.Machine

/-- A tide entry's block follows its reference (R63). -/
def TideEntry.unblock (e : TideEntry) (step : Int) : TideEntry := { e with block := stillBlocked e.block step }

/-- The value of an entry's reference (REF) for an accumulator. -/
def State.refOf (s : State) (k : Shoal) (ref acc : Nat) : Nat :=
  if ref = 1 then s.carrierPhase (portOf k 0) (thetaOf acc)
  else if ref = 2 then s.carrierPhase (portOf k 1) (thetaOf acc)
  else if ref = 3 then s.carrierPhase (portOf k 2) (thetaOf acc)
  else thetaOf acc

/-- A Shoal's accumulator and TICK advance (R47, R50). -/
def State.tickShoal (s : State) (k : Shoal) (h : ShoalSt) : ShoalSt :=
  let acc := (h.acc + h.inc) % 2 ^ 48
  { h with
    acc := acc, accPrev := h.acc, tick := (h.tick + 1) % 2 ^ 32, anchored := false, tideOld := []
    tides := h.tides.map fun e => if e.block.isNone then e else e.unblock (refStep (s.refOf k e.ref acc) (s.refOf k e.ref h.acc)) }

/-- A Headland's replica advances on the same ticks (R50). -/
def Replica.advance (r : Replica) : Replica := { r with acc := (r.acc + r.inc) % 2 ^ 48, tick := (r.tick + 1) % 2 ^ 32 }

/-- COUNT advances every 2^PS ticks up to 0xFFFF (R184); the block of R193 follows the carrier phase. -/
def Pwm.tick (w : Pwm) (ps : Nat) (step : Int) : Pwm :=
  let w1 := { w with block := stillBlocked w.block step }
  if w.sub + 1 < 2 ^ ps then { w1 with sub := w.sub + 1 } else { w1 with sub := 0, count := min 0xFFFF (w.count + 1) }

/-- MCLK advances every 20 ticks (R253). [DESIGN CHOICE, unsafe: log 1] -/
def Clk.tick (c : Clk) (awake : Bool) : Clk :=
  let c1 := { c with now := c.now + 1 }
  if !awake then c1
  else if c.sub + 1 < 20 then { c1 with sub := c.sub + 1 }
  else { c1 with sub := 0, mclk := (c.mclk + 1) % 2 ^ 32 }

/-- The PTP clock advances by 2.5 ns + ADJ (R406). -/
def Ptp.tick (p : Ptp) : Ptp := { p with clock := ((p.clock : Int) + 10737418240 + p.adj).toNat }

/-- One tick: nothing but the count in STANDBY, the PTP clocks in BOOT too, everything afterwards. [DESIGN CHOICE, unsafe: log 1, 2] -/
def State.tick (s : State) : State :=
  let s1 := { s with clk := s.clk.tick s.awake }
  if s.dev = .standby then s1
  else
    let s2 := s1.modBoth fun a => { a with ptp := a.ptp.tick }
    if !s.awake then s2
    else
      let ps := prescale (s.parN P_CARRIER_N) s.fNom
      let s3 := { s2 with
        shoals := Vector.ofFn fun k => s2.tickShoal k s2.shoals[k]
        pwm := Vector.ofFn fun p =>
          let h := s2.shoals[shoalOf p]
          s2.pwm[p].tick ps (refStep (s2.carrierPhase p (thetaOf (h.acc + h.inc))) (s2.carrierPhase p (thetaOf h.acc))) }
      s3.modBoth fun a => { a with replica := a.replica.advance }

end Sys2Proof.Machine
end

