-- ==== Sys2Proof/Machine/Angle.lean ====
section
/-! DEFINITION. Command-link frames, re-anchoring and the tide table (02_angle_time.md). -/
namespace Sys2Proof.Machine

/-! ### Command-link frames -/

/-- The token holder reports the admitted ports of a region in safe state as tripped (R389). [DEDUCED, unsafe: log 34] -/
def State.reportHold (s : State) (k : Shoal) : State :=
  if s.shoals[k].safeRegion && !s.clocks.stop[k] then
    s.eachOf k fun t p => if (t.life p).admitted && t.pwm[p].safe then t.tripPort p .regionHold else t
  else s

/-- One port's bits of a frame: trip, duties, gate enable, the lines to the Skerry (R186, R202, R203, R211). -/
def State.framePort (s : State) (p : Port) (c : CmdPort) : State :=
  let s1 := if c.trip then s.modPwm p fun w => w.tripNow s.clk.now else s
  let s2 := match c.duty with
    | some d => s1.dutyEntry p d c.tag
    | none => s1
  s2.modPwm p fun w => { w with wantEn := c.gateEn && !c.trip, lines := c }

/-- What the token holder puts into a frame for one port: committed duties only (R162, R165, R168), gate enable, the port trips
that force, the contactor and latch drivers, DIAG_GO. [DEDUCED, unsafe: log 37, 39] -/
def State.cmdPort (s : State) (p : Port) : CmdPort :=
  let l := s.life p
  { duty := s.firm.dutyOut[p].map (·.1), tag := (s.firm.dutyOut[p].map (·.2)).getD 0, gateEn := l.gateEn, trip := l.trips.any (·.forces)
    ck0 := l.ck0, ck1 := l.ck1, latch := l.latch, diagGo := s.firm.diagGo[p] }

/-- The replica's accumulator and INC at a later tick, through the fields that it has still to apply. -/
def State.predictAt (s : State) (at_ : Nat) : Nat × Nat :=
  let r := s.act.replica
  let x := r.fields.foldl (fun (x : Nat × Nat × Nat) f => if (f.applyTick + 2 ^ 32 - x.2.2) % 2 ^ 32 < 2 ^ 31 then
    (f.anchor, s.clampInc f.incNew, f.applyTick) else x) (r.acc, r.inc, r.tick)
  ((x.1 + x.2.1 * ((at_ + 2 ^ 32 - x.2.2) % 2 ^ 32)) % 2 ^ 48, x.2.1)
def State.predictAcc (s : State) (at_ : Nat) : Nat := (s.predictAt at_).1

/-- The fields of a step, launched now, that leaves the angle as it runs: its APPLY_TICK lies 800 tck ahead (R51). [DEDUCED, unsafe: log 37] -/
def State.steadyFields (s : State) : AngleFields :=
  let t := (s.act.replica.tick + 800) % 2 ^ 32
  ⟨(s.predictAt t).2, t, s.predictAcc t, s.firm.tune⟩

/-- The angle fields of the next frame to a Shoal: those of the last bus step, once; while the engine stands, no step sends any and
the supervisor repeats the angle as it runs (R51, R536). [DEDUCED, unsafe: log 37] -/
def State.frameFields (s : State) (k : Shoal) : Option AngleFields :=
  if s.act.engine.run then s.firm.launch[k].head? else some s.steadyFields

/-- The token holder has sent its frame to a Shoal: its fields and duties are not sent again. -/
def State.frameSent (s : State) (k : Shoal) : State :=
  s.modFirm fun m =>
    { m with
      launch := vmod m.launch k (·.tail)
      dutyOut := Vector.ofFn fun p => if shoalOf p = k then none else m.dutyOut[p] }

/-- The Shoal takes a valid frame of the token holder (R51, R54, R68, R387, R536). [DEDUCED, unsafe: log 37] -/
def State.takeFrame (s : State) (k : Shoal) : State :=
  let stop := s.clocks.hd[s.hd].bypass
  let s1 := s.modShoal k fun h =>
    { h with
      frameSince := true, holding := false, clockStop := stop
      fields := match s.frameFields k with
        | some f => h.fields ++ [⟨f, h.tideWait, s.hd⟩]
        | none => h.fields
      tideWait := if (s.frameFields k).isSome then [] else h.tideWait }
  let s2 := if stop then s1.regionSafe k else s1
  ((List.finRange 3).foldl (fun (t : State) j => t.framePort (portOf k j) (s.cmdPort (portOf k j))) s2).reportHold k

/-- COMMAND_LINK_FRAME (R33, R51, R54, R186, R387, R389, R536): only the token holder's frames are applied; the token holder forms
the frame. A frame with a bad CRC is lost with what it carried, tide updates apart. [DEDUCED, unsafe: log 37] -/
def execCommandLinkFrame (k : Shoal) (sender : Hd) (crcOk : Bool) (s : State) : Res :=
  if s.dev = .standby then .next s
  else if s.bw.token ≠ some sender then
    .next (if crcOk then s.modShoal k fun h => { h with otherFrames := satInc 32 h.otherFrames } else s)
  else .next ((if crcOk then s.takeFrame k else s).frameSent k)

/-! ### APPLY_TICK -/

/-- The tick of a frame's fields has come (R52): an earlier frame waits. [DEDUCED, unsafe: log 30] -/
def fieldsDue (tick applyTick : Nat) : Bool := decide ((tick + 2 ^ 32 - applyTick % 2 ^ 32) % 2 ^ 32 < 2 ^ 31)

/-- lag of R52, of fields that are due. [DEDUCED, unsafe: log 30] -/
def lagOf (tick applyTick : Nat) : Nat := (tick + 2 ^ 32 - applyTick % 2 ^ 32) % 2 ^ 32

/-- The displacement d of R52. -/
def displacement (acc inc lag anchor : Nat) : Int := ofTwos 48 (toTwos 48 ((acc : Int) - inc * lag - anchor))

/-- The registers of a Shoal after its angle fields apply (R52, R49). [DEDUCED, unsafe: log 30, 31] -/
def ShoalSt.reanchor (h : ShoalSt) (f : AngleFields) (inc : Nat) : ShoalSt :=
  let lag := lagOf h.tick f.applyTick
  let d := displacement h.acc h.inc lag f.anchor
  { h with
    inc := inc, acc := (f.anchor + inc * lag) % 2 ^ 48, lateApply := h.lateApply || decide (0 < lag)
    incClamped := h.incClamped || decide (inc ≠ f.incNew), reanchored := h.reanchored || decide (d ≠ 0)
    lastDelta := if d = 0 then h.lastDelta else satS 16 (d / 2 ^ 16), anchored := h.anchored || decide (d ≠ 0) }

/-- The blocks of R63 and R193 follow the move of the anchor tick (R65, R193): a backward one lengthens them. -/
def State.moveBlocks (s old : State) (k : Shoal) : State :=
  let a0 := old.shoals[k].acc
  let a1 := s.shoals[k].acc
  (s.modShoal k fun h =>
    { h with tides := h.tides.map fun e => if e.block.isNone then e else e.unblock (refStep (s.refOf k e.ref a1) (s.refOf k e.ref a0)) }).eachOf
    k fun t p => t.modPwm p fun w => { w with block := stillBlocked w.block (refStep (s.carrierPhase p (thetaOf a1)) (s.carrierPhase p (thetaOf a0))) }

/-- A die's FCW takes a small step (R529, R531, R532): beyond ±5,000 ppm it is clamped and STEER_LIMIT sets. -/
def ClockLoop.retune (c : ClockLoop) (tune : Int) : ClockLoop :=
  { c with tune := max (-5000000) (min 5000000 tune), steerLimit := c.steerLimit || decide (5000000 < tune.natAbs) }

/-- PWM runs in the region: a gate enable stands and the clock has not stopped it (R52, R55). [DEDUCED, unsafe: log 35] -/
def State.pwmRunning (s : State) (k : Shoal) : Bool :=
  !s.clocks.stop[k] && (List.finRange 3).any fun j => s.pwm[portOf k j].gatesEn

/-- One set of fields that is due applies to a replica (R50, R52). -/
def Replica.apply (r : Replica) (f : AngleFields) (inc : Nat) : Replica :=
  { r with inc := inc, acc := (f.anchor + inc * lagOf r.tick f.applyTick) % 2 ^ 48 }

/-- A Headland's replica applies every set of fields that is due, and the angle-time pair is captured, once (R50, R73).
[DEDUCED, unsafe: log 30] -/
def Headland.applyReplica (a : Headland) (clamp : Nat → Nat) : Headland :=
  let r := a.replica
  let due := r.fields.filter fun f => fieldsDue r.tick f.applyTick
  if due.isEmpty then a
  else
    let r1 := due.foldl (fun (x : Replica) f => x.apply f (clamp f.incNew)) { r with fields := r.fields.filter fun f => !fieldsDue r.tick f.applyTick }
    { a with replica := { r1 with atTime := (a.ptp.sec, a.ptp.subNs, a.ptp.valid), atTheta := thetaOf r1.acc, atInc := r1.inc } }

/-- The small step of the fields that a holder's replica applies (R532). -/
def State.holderTune (s : State) : State :=
  match (s.act.replica.fields.filter fun f => fieldsDue s.act.replica.tick f.applyTick).getLast? with
  | some f => s.modClocks fun c => { c with hd := vmod c.hd s.hd fun l => l.retune f.tune }
  | none => s

/-- Both replicas at an APPLY_TICK (R50, R73, R532). -/
def State.applyReplicas (s : State) : State := s.holderTune.modBoth fun a => a.applyReplica s.clampInc

/-- A gated entry is refused on a peer's account (R420). [DEDUCED, unsafe: log 33] -/
def NetIf.disagrees (n : NetIf) : Bool := n.peers.toList.any fun p => (p.known && p.diff[2]) || p.diff[3]

/-- An entry takes effect (R67, R68): a gated one whose gate has passed is armed on locked time, or lost. [DEDUCED, unsafe: log 32, 33] -/
def State.tideEffect (s : State) (k : Shoal) (c : Nat) (e : TideEntry) : State :=
  if h : c < 32 then
    let put := fun (t : State) (x : TideEntry) => t.modShoal k fun u => { u with tides := u.tides.set c x h }
    let a := s.act
    let passed := decide (e.gateSec * 1000000000 + e.gateNs ≤ a.ptp.sec * 1000000000 + a.ptp.subNs)
    if !e.enable then put s { e with armed := false }
    else if !e.gated then put s { e with armed := true }
    else if a.ptp.valid then put s { e with armed := passed }
    else if passed then (put s { e with enable := false, armed := false }).raise 0x13 (32 * k.val + c) 1
    else put s { e with armed := false }
  else s

/-- SLIP or a plain re-anchor (R52, R53). [DEDUCED, unsafe: log 35] -/
def State.reportAnchor (s : State) (k : Shoal) (d : Int) : State :=
  if d = 0 then s
  else
    let arg := toTwos 16 s.shoals[k].lastDelta
    if s.pwmRunning k && decide (2 ^ 44 < s.parN P_CARRIER_N * d.natAbs) then
      let mask := maskOf 12 fun i => if hi : i < 12 then decide (shoalOf ⟨i, hi⟩ = k) && (s.life ⟨i, hi⟩).admitted else false
      ((s.modShoal k fun h => { h with slip := true }).eachOf k fun t p => if (t.life p).admitted then t.tripPort p .slip else t).raise
        0x11 (0x10 + k.val) arg mask
    else s.raise 0x10 (0x10 + k.val) arg

/-- Fields of a Shoal that are due, oldest first, apply with their tide updates; crossings of this tick still see the entries as they
stood (R49, R52, R53, R68, R532). [DEDUCED, unsafe: log 30, 32] -/
def State.applyShoal (s : State) (k : Shoal) : State :=
  let h := s.shoals[k]
  match h.fields.find? fun f => fieldsDue h.tick f.angle.applyTick with
  | none => s
  | some f =>
    let inc := s.clampInc f.angle.incNew
    let d := displacement h.acc h.inc (lagOf h.tick f.angle.applyTick) f.angle.anchor
    let s1 := ((s.modShoal k fun h => { h.reanchor f.angle inc with fields := h.fields.erase f }).moveBlocks s k).modClocks fun c =>
      { c with shoal := vmod c.shoal k fun l => l.retune f.angle.tune }
    let s2 := s1.reportAnchor k d
    let took := if f.sender = s.hd then s2.modPair s.hd fun p => { p with tookShoals := vset p.tookShoals k true } else s2
    let s3 := took.modShoal k fun u => { u with tideOld := u.tideOld ++ f.tides.map fun x => (x.1, Vector.at_ h.tides x.1 {}) }
    f.tides.foldl (fun (t : State) x => t.tideEffect k x.1 x.2) s3

/-- APPLY_TICK (R49, R52, R53, R68, R73, R532): nothing happens before the tick that the fields name. [DEDUCED, unsafe: log 30] -/
def State.applyTick (s : State) (k : Shoal) : State := (s.applyShoal k).applyReplicas

/-! ### The tide table -/

/-- The Shoal of entry e, and its comparator. -/
def tideShoal (e : Fin 128) : Shoal := ⟨e.val / 32, by omega⟩
def tideComp (e : Fin 128) : Fin 32 := ⟨e.val % 32, by omega⟩

/-- A SAMPLE action (R62): the window of the link's decimators ends at the last modulator clock. -/
def State.tideSample (s : State) (k : Shoal) (port : Nat) : State :=
  let mark := fun (l : Link) => s.modDec l fun d => { d with sampleAt := some s.clk.mclk }
  if port = 0 then mark (linkOf (portOf k 0)) else if port = 1 then mark (linkOf (portOf k 1)) else if port = 2 then mark (linkOf (portOf k 2))
  else if port = 3 ∧ k = 0 then mark linkG
  else s

/-- An event frame takes its place: behind older crossings, and among those of one tick in ascending entry number (R64).
[DEDUCED, unsafe: log 36] -/
def insertEvent (ev : TideEvent) : List TideEvent → List TideEvent
  | [] => [ev]
  | x :: rest => if x.tick = ev.tick ∧ ev.entry < x.entry then ev :: x :: rest else x :: insertEvent ev rest

/-- An entry acts (R62, R63): its count, its block, the end of a one-shot, its sample or event frame; an entry that an update has
replaced on this tick still acts as it stood (R68). [DEDUCED, unsafe: log 31, 36] -/
def State.tideAct (s : State) (e : Fin 128) (x : TideEntry) (old : Bool) : State :=
  let k := tideShoal e
  let h := s.shoals[k]
  let y := { x with fireCount := (x.fireCount + 1) % 256, block := some (2 ^ 31), enable := x.periodic, armed := x.periodic }
  let s1 := s.modShoal k fun h =>
    if old then { h with tideOld := h.tideOld.map fun o => if o.1 = (tideComp e).val then (o.1, y) else o } else { h with tides := vset h.tides (tideComp e) y }
  if x.action = 0 then s1
  else if x.action = 1 then s1.tideSample k x.port
  else s1.modShoal k fun h0 =>
    { h0 with events := insertEvent ⟨e.val, x.action, x.arg, thetaOf h.acc, h.tick, (s.act.ptp.clock : Rat) / 2 ^ 32⟩ h0.events }

/-- TIDE_CROSSING (R62 to R68): nothing where the reference does not pass ANGLE on this tick; else blocked, skipped or acting.
[DEDUCED, unsafe: log 36] -/
def execTideCrossing (e : Fin 128) (s : State) : Res :=
  let k := tideShoal e
  let h := s.shoals[k]
  let was := h.tideOld.lookup (tideComp e).val
  let x := was.getD h.tides[tideComp e]
  if !s.awake || !x.enable || !x.armed || x.block.isSome || !crosses x.angle (s.refOf k x.ref h.accPrev) (s.refOf k x.ref h.acc) then .next s
  else if (h.holding && decide (2 ≤ x.action ∧ x.action ≤ 7)) || (h.anchored && decide (4 ≤ x.action ∧ x.action ≤ 6)) then
    .next (s.raise 0x12 e.val x.action)
  else .next (s.tideAct e x was.isSome)

/-- PTP time has reached an entry's gate time (R67). -/
def State.gatePassed (s : State) (x : TideEntry) : Bool :=
  decide (x.gateSec * 1000000000 + x.gateNs ≤ s.act.ptp.sec * 1000000000 + s.act.ptp.subNs)

/-- TIDE_GATE_ARM (R67, R420): the gate time of an entry that waits is reached; before it nothing happens. -/
def execTideGateArm (e : Fin 128) (s : State) : Res :=
  let k := tideShoal e
  let x := s.shoals[k].tides[tideComp e]
  let put := fun (t : State) (y : TideEntry) => t.modShoal k fun h => { h with tides := vset h.tides (tideComp e) y }
  if !s.awake || !x.enable || !x.gated || x.armed || !s.gatePassed x then .next s
  else if !s.act.ptp.valid then .next ((put s { x with enable := false }).raise 0x13 e.val 1)
  else if s.par P_COORD_TIDE = 1 ∧ 8 ≤ (tideComp e).val ∧ s.act.net.disagrees then
    .next ((put s { x with enable := false }).raise 0x13 e.val 2)
  else .next (put s { x with armed := true })

end Sys2Proof.Machine
end

