-- ==== Sys2Proof/Machine/Time.lean ====
section
/-! DEFINITION. PTP, the two networks, launches and peers (13_time_and_networks.md). -/
namespace Sys2Proof.Machine

/-! ### PTP -/

/-- Bits [31:16] and below of an event argument in ns. -/
def nsArg (i : Int) : Nat := sArg (satS 32 i)

/-- Order of the best master clock algorithm (R405): smaller is better. [DEDUCED, unsafe: log 26] -/
def datasetRank (d : Dataset) : List Nat := [d.prio1, d.clockClass, d.accuracy, d.variance, d.prio2, d.identity, d.steps]
/-- A data set is better than another (R405). [DEDUCED, unsafe: log 26] -/
def datasetBetter (a b : Dataset) : Bool := decide (datasetRank a < datasetRank b)

/-- The Unyar's own data set as a master (R405). -/
def State.ownDataset (s : State) : Dataset :=
  { prio1 := s.parN P_PTP_PRIO1, clockClass := 248, accuracy := Config.clockQuality.1, variance := Config.clockQuality.2
    prio2 := s.parN P_PTP_PRIO2, identity := Config.clockId, steps := 0 }

/-- The master that the ports hear and where: the better of the two, A on equal ranks. [DEDUCED, unsafe: log 26] -/
def Ptp.bestHeard (p : Ptp) : Option (Net × Dataset) :=
  match p.ports[0].best, p.ports[1].best with
  | some a, some b => if datasetBetter b a then some (1, b) else some (0, a)
  | some a, none => some (0, a)
  | none, some b => some (1, b)
  | none, none => none

/-- IEEE 1588-2019 portState codes (Table 13.8). [PRESUMED, unsafe: log 24] -/
def psDisabled : Nat := 3
/-- PORT_STATE LISTENING. [PRESUMED, unsafe: log 24] -/
def psListening : Nat := 4
/-- PORT_STATE MASTER. [PRESUMED, unsafe: log 24] -/
def psMaster : Nat := 6
/-- PORT_STATE PASSIVE. [PRESUMED, unsafe: log 24] -/
def psPassive : Nat := 7
/-- PORT_STATE SLAVE. [PRESUMED, unsafe: log 24] -/
def psSlave : Nat := 9

/-- State of each port under a selection (R405). -/
def Ptp.setPorts (p : Ptp) (link : Net → Bool) (master : Bool) (sel : Option (Net × Dataset)) : Ptp :=
  { p with ports := Vector.ofFn fun n =>
      let st :=
        if !link n then psDisabled
        else if master then psMaster
        else match sel with
          | none => psListening
          | some (m, d) => if n = m then psSlave else if p.ports[n].best.map (·.identity) = some d.identity then psPassive else psListening
      { p.ports[n] with portState := st } }

/-- What a selection needs to know. -/
structure PtpEnv where
  profile : Nat
  link : Net → Bool
  own : Option Dataset
  lockWin : Nat
  now : Nat

/-- The state and ports that the announcements, links and roles ask for; true where the SLAVE port changes without loss (R405,
R407, R408). [DEDUCED, unsafe: log 26] -/
def Ptp.select (p : Ptp) (e : PtpEnv) : Ptp × Bool :=
  if e.profile = 0 || !(e.link 0 || e.link 1) then
    ({ p with state := .disabled, inWin := 0, outWin := 0 }.setPorts (fun _ => false) false none, false)
  else
    let heard := p.bestHeard
    let asMaster := match e.own, heard with
      | some o, some (_, d) => datasetBetter o d
      | some _, none => true
      | none, _ => false
    if asMaster then ({ p with state := .master, inWin := 0, outWin := 0 }.setPorts e.link true none, false)
    else match heard with
      | none =>
        let st := match p.state with
          | .locked | .holdover => PtpState.holdover
          | _ => .listening
        let again := decide (p.state = PtpState.holdover)
        ({ p with state := st, expired := p.expired && again, holdAt := if again then p.holdAt else e.now, inWin := 0, outWin := 0 }.setPorts
          e.link false none, false)
      | some (n, d) =>
        let q := p.setPorts e.link false (some (n, d))
        match p.state with
        | .locked =>
          if n = p.sel then (q, false)
          else match p.ports[n].offset with
            | some o => if o.natAbs ≤ e.lockWin then ({ q with sel := n, outWin := 0 }, true)
              else ({ q with sel := n, state := .uncalibrated, inWin := 0 }, false)
            | none => ({ q with sel := n, state := .uncalibrated, inWin := 0 }, false)
        | .uncalibrated => ({ q with sel := n, inWin := if n = p.sel then p.inWin else 0 }, false)
        | _ => ({ q with sel := n, state := .uncalibrated, inWin := 0, outWin := 0 }, false)

def State.ptpEnv (s : State) (a : Headland) : PtpEnv :=
  { profile := s.parN P_PTP_PROFILE, link := fun n => a.net.ports[n].link
    own := if s.par P_PTP_ROLE = 1 then some s.ownDataset else none, lockWin := s.parN P_PTP_LOCK_WIN, now := s.clk.now }

/-- Both Headlands select anew after a change of their ports; the token holder reports a change of port (R405, R408, R410).
[DEDUCED, unsafe: log 27] -/
def State.ptpSelect (s : State) (f : Ptp → Ptp) : State :=
  let changed := ((f s.act.ptp).select (s.ptpEnv s.act)).2
  let s1 := s.modBoth fun a => { a with ptp := ((f a.ptp).select (s.ptpEnv a)).1 }
  if changed then s1.raise 0x76 s1.act.ptp.sel.val (nsArg (s1.act.ptp.ports[s1.act.ptp.sel].offset.getD 0)) else s1

/-- Bound of ADJ, ±500 ppm of 2.5 ns in 2^-32 ns (R406). -/
def adjBound : Int := 5368709
def clampI (x b : Int) : Int := if x < -b then -b else if b < x then b else x

/-- The servo's update on a Sync of the SLAVE port (R406). -/
def Ptp.servo (p : Ptp) (offset : Int) : Ptp :=
  let r := Config.servo offset p.integ
  { p with integ := r.1, adj := clampI r.2 adjBound }

/-- What a Sync of the SLAVE port does besides the servo (R406, R407): 0x73 lock, 0x74 unlock, 0x75 step with its size.
[DEDUCED, unsafe: log 27] -/
def Ptp.judge (p : Ptp) (offset : Int) (lockWin lockN unlockWin : Nat) : Ptp × Option (Nat × Int) :=
  match p.state with
  | .locked =>
    if unlockWin < offset.natAbs then
      if p.outWin + 1 = 3 then ({ p with state := .uncalibrated, inWin := 0, outWin := 0 }, some (0x74, offset))
      else ({ p with outWin := p.outWin + 1 }, none)
    else ({ p with outWin := 0 }, none)
  | .uncalibrated =>
    if 10000 < offset.natAbs then
      ({ p with clock := ((p.clock : Int) - offset * 2 ^ 32).toNat, stepped := true, inWin := 0 }, some (0x75, -offset))
    else if offset.natAbs ≤ lockWin then
      if lockN ≤ p.inWin + 1 then ({ p with state := .locked, inWin := 0, outWin := 0 }, some (0x73, offset))
      else ({ p with inWin := p.inWin + 1 }, none)
    else ({ p with inWin := 0 }, none)
  | _ => (p, none)

/-- The run of Sync in which the two networks differ (R408); true where it reaches 10. [DEDUCED, unsafe: log 28] -/
def Ptp.diffStep (p : Ptp) : Ptp × Bool :=
  match p.ports[0].offset, p.ports[1].offset with
  | some a, some b =>
    let both := p.ports.toList.all fun q => decide (q.portState = psSlave ∨ q.portState = psPassive)
    if both && decide (1000 < (a - b).natAbs) then ({ p with diffRun := min 10 (p.diffRun + 1) }, decide (p.diffRun = 9))
    else ({ p with diffRun := 0 }, false)
  | _, _ => ({ p with diffRun := 0 }, false)

/-- One Headland's Sync (R405 to R408). [DEDUCED, unsafe: log 27, 28] -/
def Ptp.sync (p : Ptp) (n : Net) (offset : Int) (meanDelay lockWin lockN unlockWin : Nat) : Ptp × Option (Nat × Int) × Bool :=
  let p1 := { p with ports := vmod p.ports n fun q => { q with offset := some offset, meanDelay := meanDelay } }
  if p1.ports[n].portState ≠ psSlave then (p1, none, false)
  else
    let j := p1.judge offset lockWin lockN unlockWin
    let d := (j.1.servo offset).diffStep
    ({ d.1 with netDiff := d.1.netDiff || d.2 }, j.2, d.2)

/-- The asymmetry of a network in ns, in the direction from the master (R404). [DEDUCED, unsafe: log 27] -/
def State.asymOf (s : State) (n : Net) : Int := if n = 0 then s.par P_ASYM_A else s.par P_ASYM_B

/-- PTP_SYNC (R403 to R408, R410): the measured mean path delay takes the asymmetry, the measured offset loses it (R404). The offset is
the token holder's; the standby's follows from its own clock. [DEDUCED, unsafe: log 27] -/
def execPtpSync (net : Net) (offset : Int) (meanDelay : Nat) (s : State) : Res :=
  if s.dev = .standby ∨ s.parN P_PTP_PROFILE = 0 ∨ !s.act.net.ports[net].link then .next s
  else
    let w := (s.parN P_PTP_LOCK_WIN, s.parN P_PTP_LOCK_N, s.parN P_PTP_UNLOCK_WIN)
    let off := offset - s.asymOf net
    let delay := ((meanDelay : Int) + s.asymOf net).toNat
    let run := fun (a : Headland) => a.ptp.sync net (off + (a.ptp.ns : Int) - s.act.ptp.ns) delay w.1 w.2.1 w.2.2
    let r := run s.act
    let s1 := s.modBoth fun a => { a with ptp := (run a).1 }
    let s2 := match r.2.1 with
      | some (code, x) => s1.raise code net.val (nsArg x)
      | none => s1
    .next (if r.2.2 then
        s2.raise 0x77 0xFF (nsArg ((s2.act.ptp.ports[otherNet s2.act.ptp.sel].offset.getD 0) - off))
      else s2)

/-- PTP_ANNOUNCE (R405, R407). -/
def execPtpAnnounce (net : Net) (d : Dataset) (s : State) : Res :=
  .next (if s.dev = .standby ∨ s.parN P_PTP_PROFILE = 0 ∨ !s.act.net.ports[net].link then s
    else s.ptpSelect fun p => { p with ports := vmod p.ports net fun q =>
      match q.best with
      | none => { q with best := some d, heardAt := some s.clk.now }
      | some b =>
        if b.identity = d.identity ∨ datasetBetter d b then { q with best := some d, heardAt := some s.clk.now } else q })

/-- Three announce intervals, in ticks (R407). -/
def State.announceTicks (s : State) : Nat := 3 * 50000000 * 2 ^ (s.par P_PTP_LOG_ANNOUNCE + 3).toNat

/-- PTP_ANNOUNCE_TIMEOUT (R407): the selected master has not been heard for three announce intervals. -/
def execPtpAnnounceTimeout (s : State) : Res :=
  .next (if s.dev = .standby || !heldFor s.clk.now s.announceTicks s.act.ptp.ports[s.act.ptp.sel].heardAt then s
    else s.ptpSelect fun p => { p with ports := vmod p.ports p.sel fun q => { q with best := none, heardAt := none } })

/-- PTP_HOLDOVER_EXPIRE (R407): PTP_HOLDOVER_T after the entry into HOLDOVER. -/
def execPtpHoldoverExpire (s : State) : Res :=
  let due := fun (p : Ptp) => decide (p.state = .holdover ∧ p.holdAt + msTicks (1000 * s.parN P_PTP_HOLDOVER_T) ≤ s.clk.now)
  .next (s.modBoth fun a => { a with ptp := if due a.ptp then { a.ptp with expired := true } else a.ptp })

/-- PTP_MESSAGE_SEND (R403, R410): messages of the profile, Sync and Announce as a master. -/
def execPtpMessageSend (net : Net) (m : PtpMsg) (s : State) : Res :=
  let profile := s.parN P_PTP_PROFILE
  let fits := match m with
    | .pdelayReq => decide (profile = 1)
    | .delayReq => decide (profile = 2) && decide (s.act.ptp.ports[net].portState = psSlave)
    | .sync | .announce => decide (profile ≠ 0) && decide (s.act.ptp.state = .master)
  .next (if s.dev = .standby ∨ !s.act.net.ports[net].link ∨ !fits then s else s.send net (.ptp net m))

/-- 1 ppb of a 2.5 ns tick in 2^-32 ns. -/
def ppbUnit : Rat := 1073741824 / 100000000
/-- The frequency part of ADJ, in ppb (R409). -/
def Ptp.freqPpb (p : Ptp) : Int := roundUpHalf ((p.integ : Rat) / ppbUnit)

/-- One step of the syntonisation, at most 10 ppb (R409). -/
def Ptp.syntStep (p : Ptp) (on : Bool) : Ptp :=
  if !on then { p with corr := p.corr - clampI p.corr 10 }
  else if p.state = .locked then
    let want := p.corr + p.freqPpb
    let corr := clampI (p.corr + clampI p.freqPpb 10) 100000
    let moved := roundUpHalf ((corr - p.corr : Int) * ppbUnit)
    { p with corr := corr, integ := p.integ - moved, adj := p.adj - moved, syntRange := p.syntRange || decide (100000 < want.natAbs) }
  else p

/-- SYNT_STEP (R409): at most one in 10 µs. -/
def execSyntStep (s : State) : Res :=
  let due := s.act.ptp.syntAt.all fun t => decide (t + usTicks 10 ≤ s.clk.now)
  .next (if !due then s else s.modPtp fun p => { p with syntAt := some s.clk.now }.syntStep
    (decide (s.par P_SYNT_EN = 1) && decide (s.parN P_PTP_PROFILE ≠ 0)))

/-! ### Links and frames -/

/-- NET_LINK_UP (R399, Table 13.3). -/
def execNetLinkUp (net : Net) (s : State) : Res :=
  if s.dev = .standby ∨ s.act.net.ports[net].link then .next s
  else
    let s1 := s.modBoth fun a => { a with net := { a.net with ports := vmod a.net.ports net fun p => { p with link := true } } }
    .next ((s1.raise 0x70 net.val).ptpSelect id)

/-- NET_LINK_DOWN (R399, Table 13.3). -/
def execNetLinkDown (net : Net) (s : State) : Res :=
  if s.dev = .standby ∨ !s.act.net.ports[net].link then .next s
  else
    let s1 := s.modBoth fun a =>
      { a with net := { a.net with ports := vmod a.net.ports net fun p => { p with link := false, linkDowns := satInc 16 p.linkDowns } } }
    .next ((s1.raise 0x71 net.val).ptpSelect fun p => { p with ports := vmod p.ports net fun q => { q with best := none, heardAt := none, offset := none } })

/-- Offset of the EtherType of a frame: 16 behind a tag, 12 otherwise; PCP of the tag (R402). -/
def etherOffset (bs : List Byte) : Nat := if rdBe bs 12 2 = 0x8100 then 16 else 12
def etherType (bs : List Byte) : Nat := rdBe bs (etherOffset bs) 2
def frameClass (bs : List Byte) : Nat := if rdBe bs 12 2 = 0x8100 then by8 bs 14 / 32 else 0

/-- Sequence number of a PRP trailer: LAN identifier of a network and suffix 0x88FB (R416). [PRESUMED, unsafe: log 25] -/
def prpTrailer (bs : List Byte) : Option Nat :=
  let n := bs.length
  let lan := by8 bs (n - 4) / 16
  if 20 ≤ n ∧ rdBe bs (n - 2) 2 = 0x88FB ∧ (lan = 0xA ∨ lan = 0xB) then some (rdBe bs (n - 6) 2) else none

/-- The duplicate check of R416: true where the frame is a twin. -/
def NetIf.prp (x : NetIf) (net : Net) (now src seq : Nat) : NetIf × Bool :=
  let live := x.prpSeen.filter fun e => decide (now < e.at_ + msTicks 400)
  if live.any fun e => decide (e.src = src ∧ e.seq = seq ∧ e.net ≠ net) then
    ({ x with prpSeen := live.filter (fun e => !decide (e.src = src ∧ e.seq = seq)),
              ports := vmod x.ports net fun p => { p with dups := satInc 32 p.dups } }, true)
  else
    let sources := (live.map (·.src)).eraseDups
    let kept := if sources.contains src ∨ sources.length < 128 then live
      else match live with
        | e :: _ => live.filter fun o => decide (o.src ≠ e.src)
        | [] => []
    ({ x with prpSeen := kept ++ [⟨src, seq, net, now⟩] }, false)

/-- An own IPv4 address; 0 is none (R433). -/
def State.ipOf (s : State) (n : Net) : Nat := if n = 0 then s.parN P_IPV4_A else s.parN P_IPV4_B

/-- One fragment into reassembly (R433): at most 4 datagrams, of at most 4,108 bytes; a complete one leaves. [DESIGN CHOICE, safe: log 14] -/
def reassemble (now : Nat) (rs : List Reassembly) (net : Net) (src ident off len : Nat) (more : Bool) : List Reassembly :=
  let same := fun (r : Reassembly) => decide (r.net = net ∧ r.src = src ∧ r.ident = ident)
  let upd := fun (r : Reassembly) =>
    { r with parts := r.parts ++ [(off, len)], total := if more then r.total else some (off + len) }
  let rs1 := if rs.any same then rs.map fun r => if same r then upd r else r
    else if rs.length < 4 then rs ++ [upd ⟨net, src, ident, [], none, now⟩] else rs
  rs1.filter fun r =>
    !(match r.total with
      | some t => decide (t ≤ (r.parts.map (·.2)).sum) || decide (4108 + 8 < t)
      | none => false)

/-- IPv4 in a frame (R403, R433): ICMP echo is answered, fragments of UDP are held; true where a function consumes the frame.
[PRESUMED, unsafe: log 103] -/
def State.ipFrame (s : State) (net : Net) (bs : List Byte) : State × Bool :=
  let o := etherOffset bs + 2
  let proto := by8 bs (o + 9)
  let hdr := by8 bs o % 16 * 4
  let frag := rdBe bs (o + 6) 2
  let mine := decide (s.ipOf net ≠ 0 ∧ rdBe bs (o + 16) 4 = s.ipOf net)
  let dport := rdBe bs (o + hdr + 2) 2
  if proto = 17 ∧ frag % 0x4000 = 0 ∧ s.parN P_PTP_PROFILE = 2 ∧ (dport = 319 ∨ dport = 320) then (s, true)
  else if !mine then (s, false)
  else if proto = 1 ∧ by8 bs (o + hdr) = 8 then (s.send net (.icmpEcho net (bs.drop (o + hdr))), true)
  else if proto = 17 then
    if frag % 0x4000 = 0 then (s, decide (dport = 48120))
    else
      let len := rdBe bs (o + 2) 2 - hdr
      let add := fun (rs : List Reassembly) => reassemble s.clk.now rs net (rdBe bs (o + 12) 4) (rdBe bs (o + 4) 2) (frag % 0x2000 * 8) len (bit frag 13)
      (s.modHost fun h => { h with reasm := add h.reasm }, true)
  else (s, false)

/-- The function that a frame reaches by its EtherType; its content arrives by a command of its own. -/
def State.claimFrame (s : State) (net : Net) (bs : List Byte) : State × Bool :=
  let t := etherType bs
  if t = 0x88F7 then (s, decide (s.parN P_PTP_PROFILE = 1))
  else if t = 0x88B5 then (s, true)
  else if t = 0x88B6 then (s, true)
  else if t = 0x0806 then
    if s.ipOf net ≠ 0 ∧ rdBe bs (etherOffset bs + 26) 4 = s.ipOf net then (s.send net (.arp net), true) else (s, false)
  else if t = 0x0800 then s.ipFrame net bs
  else (s, false)

/-- A reception counts at both Headlands, whose receivers both listen (R386, R424). -/
def State.onNetPort (s : State) (net : Net) (f : NetPort → NetPort) : State :=
  s.modBoth fun a => { a with net := { a.net with ports := vmod a.net.ports net f } }

/-- ETHERNET_FRAME_RECEIVE (R401, R402, R416, R424, R433). -/
def execEthernetFrameReceive (net : Net) (bytes : List Byte) (fcsOk room : Bool) (s : State) : Res :=
  let port := fun (t : State) (f : NetPort → NetPort) => t.onNetPort net f
  if s.dev = .standby ∨ !s.act.net.ports[net].link then .next s
  else
    let s1 := port s fun p => { p with rxFrames := satInc 32 p.rxFrames }
    if !fcsOk then .next (port s1 fun p => { p with rxFcsErr := satInc 32 p.rxFcsErr })
    else if rdBe bytes 6 6 = Config.mac (otherNet net).val then
      .next ((port s1 fun p => { p with looped := satInc 16 p.looped }).raise 0x72 net.val)
    else if !room ∧ frameClass bytes ≤ 5 then .next (port s1 fun p => { p with rxDropped := satInc 32 p.rxDropped })
    else
      let t := etherType bytes
      let prp := fun (x : NetIf) => match prpTrailer bytes with
        | some q => if s.par P_PRP_EN = 1 ∧ t ≠ 0x88F7 ∧ t ≠ 0x88B5 then x.prp net s.clk.now (rdBe bytes 6 6) q else (x, false)
        | none => (x, false)
      let s2 := s1.modBoth fun a => { a with net := (prp a.net).1 }
      if (prp s1.act.net).2 then .next s2
      else
        let c := s2.claimFrame net bytes
        .next (if c.2 then c.1 else port c.1 fun p => { p with rxUnclaimed := satInc 16 p.rxUnclaimed })

/-- UDP_REASSEMBLY_TIMEOUT (R433): 100 ms after its first fragment an incomplete datagram goes. -/
def execUdpReassemblyTimeout (net : Net) (src ident : Nat) (s : State) : Res :=
  .next (s.modHost fun h =>
    { h with reasm := h.reasm.filter fun r => !decide (r.net = net ∧ r.src = src ∧ r.ident = ident ∧ r.since + msTicks 100 ≤ s.clk.now) })

/-! ### Launches -/

/-- A frame of NET_SEND by its handle. -/
def TxFrame.isOf (h : Nat) (f : TxFrame) : Bool := decide (f.handle = h)
/-- Every copy has completed (R414). -/
def TxFrame.complete (f : TxFrame) : Bool := f.status.toList.all fun x => decide (x ≠ 1)

/-- Change a queued frame; a completed one moves to the last 32 write-backs (R414). -/
def NetIf.modTx (x : NetIf) (h : Nat) (f : TxFrame → TxFrame) : NetIf :=
  let tx := x.tx.map fun t => if t.isOf h then f t else t
  let done := tx.filter (·.complete)
  let all := x.txDone ++ done
  { x with tx := tx.filter fun t => !t.complete, txDone := all.drop (all.length - 32) }

/-- A queued copy of the handle stands on the network. -/
def NetIf.queued (x : NetIf) (net : Net) (h : Nat) : Bool := x.tx.any fun t => t.isOf h && decide (t.status[net] = 1)

/-- A frame of NET_SEND as it leaves on a network (R402, R411, R416): own source address, tag, padding to 64 bytes with the FCS,
PRP trailer. [PRESUMED, unsafe: log 25] -/
def State.wireFrame (s : State) (net : Net) (f : TxFrame) : List Byte :=
  let body := f.bytes.take 6 ++ be 6 (Config.mac net.val) ++ be 2 0x8100 ++ be 2 (f.cls * 0x2000 + s.parN P_VLAN_ID) ++ f.bytes.drop 12
  let room := match f.prp with
    | some _ => 54
    | none => 60
  let padded := body ++ zeros (room - body.length)
  match f.prp with
  | some q => padded ++ be 2 q ++ be 2 ((0xA + net.val) * 4096 + (padded.length - 16 + 6) % 4096) ++ be 2 0x88FB
  | none => padded

/-- ns that a copy holds the wire: preamble and SFD, the frame, its FCS, the gap (R413). -/
def State.wireNs (s : State) (net : Net) (f : TxFrame) : Nat := 8 * (8 + (s.wireFrame net f).length + 4 + 12)

/-- A copy that could start at a PTP time: none of the same network runs, and it is held no longer (R402, R413). -/
def TxFrame.waits (f : TxFrame) (net : Net) : Bool := decide (f.status[net] = 1) && !f.started[net]
def TxFrame.ready (f : TxFrame) (net : Net) (ptp : Nat) : Bool := f.waits net && f.launch.all fun l => decide (l ≤ ptp)

/-- Copies that leave before another that is ready (R402, R413): of a higher class, and within the class the held ones in launch order,
those of equal launch times and the others in the order of acceptance. [DEDUCED, unsafe: log 9] -/
def TxFrame.before (u f : TxFrame) (first : Bool) : Bool :=
  decide (f.cls < u.cls) || (decide (f.cls = u.cls) && match u.launch, f.launch with
    | some a, some b => decide (a < b) || (decide (a = b) && first)
    | none, none => first
    | _, _ => false)

/-- The copy may start now (R402, R413): its turn has come, the wire is free of the others, and it ends before the launch time of every
held copy of a higher class. -/
def State.mayStart (s : State) (net : Net) (f : TxFrame) : Bool :=
  let tx := s.act.net.tx
  let ptp := s.act.ptp.ns
  let pos := tx.idxOf f
  f.ready net ptp && tx.all (fun u => !(u.started[net] && decide (u.status[net] = 1))) &&
    (tx.zipIdx).all fun u =>
      decide (u.1 = f) ||
        (!(u.1.ready net ptp && u.1.before f (decide (u.2 < pos))) &&
          (!u.1.waits net || decide (u.1.cls ≤ f.cls) || u.1.launch.all fun l => decide (l ≤ ptp ∨ ptp + s.wireNs net f ≤ l)))

/-- The copy starts: late more than 8 ns after its launch time; its timestamp is the PTP time (R413, R414). -/
def TxFrame.start (f : TxFrame) (net : Net) (now : Nat) (p : Ptp) : TxFrame :=
  { f with
    started := vset f.started net true, startedAt := vset f.startedAt net now, stamp := vset f.stamp net (p.sec, p.subNs)
    late := vset f.late net (f.launch.any fun l => decide (l + 8 < p.ns)) }

/-- NET_LAUNCH (R402, R413, R414): a copy whose turn and time have come starts, unless other traffic of the module holds the wire; it
may find its link down. Beyond 100 µs after its launch time it cannot start. [DEDUCED, unsafe: log 9] -/
def execNetLaunch (net : Net) (handle : Nat) (busy : Bool) (s : State) : Res :=
  match s.act.net.tx.find? fun t => t.isOf handle && t.waits net with
  | none => .next s
  | some f =>
    let tooLate := f.launch.any fun l => decide (l + 100000 < s.act.ptp.ns)
    .next (if busy || tooLate || !s.mayStart net f then s
      else s.modNet fun x => x.modTx handle fun t =>
        if !t.waits net then t
        else if x.ports[net].link then t.start net s.clk.now s.act.ptp
        else { t with status := vset t.status net 5 })

/-- NET_TX_COMPLETE (R413, R414): the last bit has left, 3.2 ticks a byte after the start. -/
def execNetTxComplete (net : Net) (handle : Nat) (s : State) : Res :=
  match s.act.net.tx.find? fun t => t.isOf handle && decide (t.status[net] = 1) && t.started[net] with
  | none => .next s
  | some f =>
    if 5 * s.clk.now < 5 * f.startedAt[net] + 2 * (s.wireNs net f - 96) then .next s
    else
      .next ((s.send net (.frame net f.cls (s.wireFrame net f))).modNet fun x =>
        { x with ports := vmod x.ports net fun p => { p with txLate := if f.late[net] then satInc 16 p.txLate else p.txLate } }.modTx handle fun t =>
          if t.status[net] = 1 ∧ t.started[net] then { t with status := vset t.status net (if t.late[net] then 3 else 2) } else t)

/-- NET_LATE_DROP (R413): more than 100 µs after its launch time. -/
def execNetLateDrop (net : Net) (handle : Nat) (s : State) : Res :=
  match s.act.net.tx.find? fun t => t.isOf handle && t.waits net && t.launch.any fun l => decide (l + 100000 < s.act.ptp.ns) with
  | none => .next s
  | some _ =>
    .next (s.modNet fun x =>
      { x with ports := vmod x.ports net fun p => { p with txLate := satInc 16 p.txLate } }.modTx handle fun t =>
        if t.status[net] = 1 then { t with status := vset t.status net 4 } else t)

/-! ### Peers -/

/-- The STATE byte of Table 12.1. -/
def State.stateByte (s : State) : Nat := s.dev.code * 16 + s.firm.sub.code

/-- GM_ID, first byte most significant; 0 without a valid clock (Table 13.6). -/
def gmIdOf (a : Headland) : Nat :=
  if !a.ptp.valid then 0
  else if a.ptp.state = .master then Config.clockId
  else (a.ptp.ports[a.ptp.sel].best.map (·.identity)).getD 0

/-- A quantity per unit of S_RATED in W or var. -/
def State.watts (s : State) (x : Rat) : Int := roundUpHalf (x * s.parN P_S_RATED * 1000)

/-- The announcement on a network (Table 13.6). [DEDUCED, unsafe: log 29] -/
def State.announcement (s : State) (n : Net) : List Byte :=
  let a := s.act
  let prev := a.net.ports[n].annTx.getD (0, 0)
  let q := s.firm.seq
  let gate := q.bsGate.getD 0
  let flags := wordOf [(0, 1, b2n a.ptp.valid), (1, 1, b2n q.bsPending), (2, 1, b2n q.armed), (3, 1, b2n (decide (s.hd = 1)))]
  let body := le 2 1 ++ le 2 (s.parN P_SITE_ID) ++ le 1 (s.parN P_UNIT_ID) ++ le 1 s.stateByte ++ le 1 3 ++ le 1 2 ++ le 1 0x43 ++ le 1 flags ++
    le 2 a.net.annSeq ++ le 4 a.pair.hashSelf ++ le 4 s.bw.crc ++ be 8 (gmIdOf a) ++ le 4 prev.1 ++ le 4 prev.2 ++
    le 4 (roundUpHalf ((a.replica.inc : Rat) * 400000000000000 / 2 ^ 48)).toNat ++ le 4 (sArg (s.watts s.firm.rotor.pe)) ++
    le 4 (sArg (s.watts s.firm.rotor.qe)) ++ le 4 (s.parN P_S_RATED) ++ le 4 (gate / 1000000000) ++ le 4 (gate % 1000000000)
  body ++ le 4 (crc32c body)

/-- PEER_ANNOUNCE_SEND (R417): every 100 ms. -/
def execPeerAnnounceSend (s : State) : Res :=
  let due := s.act.net.annAt.all fun t => decide (t + msTicks 100 ≤ s.clk.now)
  if !s.awake ∨ s.parN P_SITE_ID = 0 ∨ !due then .next s
  else
    let out := fun (t : State) (n : Net) =>
      if s.act.net.ports[n].link then
        (t.send n (.announce n (s.announcement n))).modNet fun x =>
          { x with ports := vmod x.ports n fun p => { p with annTx := some (s.act.ptp.sec, s.act.ptp.subNs) } }
      else t
    .next ((out (out s 0) 1).prpNext.modNet fun x => { x with annSeq := (x.annSeq + 1) % 65536, annAt := some s.clk.now })

/-- A peer's disagreement bit after one used announcement (R419): the new bit and run, and whether it changed. -/
def diffBit (bit : Bool) (run : Nat) (disagrees : Bool) : Bool × Nat × Bool :=
  if disagrees then (true, 0, !bit)
  else if bit then (if run + 1 = 2 then (false, 0, true) else (true, run + 1, false))
  else (false, 0, false)

/-- PEER_OFFSET as a register (Table 13.8), µs. -/
def Peer.offsetWord (p : Peer) : Nat :=
  match p.offset with
  | some o => sArg (satS 32 (o / 1000))
  | none => 0x80000000

/-- An announcement used by one Headland's entry at its own receive time (R418, R419): the new entry and the disagreements that changed. -/
def State.useAnnouncement (s : State) (a : Headland) (p : Peer) (net : Net) (b : List Byte) : Peer × List (Nat × Bool) :=
  let seq := rd b 10 2
  let flags := by8 b 9
  let prev := (rd b 28 4, rd b 32 4)
  let known := a.ptp.valid && bit flags 0 && decide (rdBe b 20 8 = gmIdOf a) && decide (prev ≠ (0, 0))
  let offset : Option Int := match p.prevRx[net] with
    | some (q, t) => if known && decide ((q + 1) % 65536 = seq) then some ((t : Int) - (prev.1 * 1000000000 + prev.2 : Nat)) else none
    | none => none
  let dis : Vector Bool 5 := #v[decide (rd b 12 4 ≠ a.pair.hashSelf), decide (by8 b 6 ≠ 3),
    (match offset with
     | some o => decide (1000000 < o.natAbs)
     | none => true), false, decide (by8 b 5 ≠ s.stateByte)]
  let r : Vector (Bool × Nat × Bool) 5 := Vector.ofFn fun i => diffBit p.diff[i] p.agree[i] dis[i]
  ({ p with
     known := true, lost := false, diff := r.map (·.1), agree := r.map (·.2.1), ptpValid := bit flags 0, state := by8 b 5
     romMajor := by8 b 6, romMinor := by8 b 7, hash := rd b 12 4, offset := offset, usedAt := s.clk.now, seq := seq
     prevRx := vset p.prevRx net (some (seq, a.ptp.ns)) },
   (List.finRange 5).filterMap fun i => if r[i].2.2 then some (i.val, r[i].1) else none)

/-- ARG1 of a disagreement's event (Table 19.5): the offset, or the announced value. -/
def Peer.diffArg (p : Peer) (i : Nat) : Nat :=
  if i = 0 then p.hash else if i = 1 then p.romMajor else if i = 2 then p.offsetWord else if i = 4 then p.state else 0

/-- A coordinated black start ends on a peer's account before its gate (R421). -/
def State.peerAbort (s : State) : State :=
  match s.firm.seq.bsGate with
  | some g =>
    if decide (s.act.ptp.ns < g) && s.act.net.peers.toList.any (fun p => (p.known && (p.diff[1] || p.diff[2])) || p.diff[3]) then
      s.abortBlackStart 4
    else s
  | none => s

/-- Report changes of an entry's disagreements. -/
def State.reportDiffs (s : State) (unit : Nat) (p : Peer) (ch : List (Nat × Bool)) : State :=
  ch.foldl (fun (t : State) x => t.raise (0x7A + x.1) unit (b2n x.2) (p.diffArg x.1)) s

/-- PEER_ANNOUNCEMENT (R418 to R421). [DEDUCED, unsafe: log 29] -/
def execPeerAnnouncement (net : Net) (payload : List Byte) (s : State) : Res :=
  let unit := by8 payload 4
  if s.dev = .standby ∨ payload.length ≠ 64 ∨ rd payload 60 4 ≠ crc32c (payload.take 60) ∨ rd payload 0 2 ≠ 1 then .next s
  else if rd payload 2 2 ≠ s.parN P_SITE_ID then
    .next (s.onNetPort net fun p => { p with foreignSite := satInc 16 p.foreignSite })
  else if h : 1 ≤ unit ∧ unit ≤ 32 then
    let u : Fin 32 := ⟨unit - 1, by omega⟩
    let setBoth := fun (t : State) (f : Headland → Peer → Peer) => t.modBoth fun a => { a with net := { a.net with peers := vmod a.net.peers u (f a) } }
    let p := s.act.net.peers[u]
    if unit = s.parN P_UNIT_ID then
      let s1 := setBoth s fun _ q => { q with diff := vset q.diff 3 true, usedAt := s.clk.now }
      .next ((if p.diff[3] then s1 else s1.raise 0x7D unit 1).peerAbort)
    else if p.known && decide (p.seq = rd payload 10 2) then
      .next (setBoth s fun a q => { q with prevRx := vset q.prevRx net (some (rd payload 10 2, a.ptp.ns)) })
    else
      let s1 := setBoth s fun a q => (s.useAnnouncement a q net payload).1
      let s2 := if p.known then s1 else s1.raise 0x78 unit
      .next ((s2.reportDiffs unit s2.act.net.peers[u] (s.useAnnouncement s.act p net payload).2).peerAbort)
  else .next s

/-- PEER_LOST (R418, R419): 350 ms without a used announcement. [DEDUCED, unsafe: log 29] -/
def execPeerLost (unit : Fin 32) (s : State) : Res :=
  let p := s.act.net.peers[unit]
  if (!p.known && !p.diff[3]) || s.clk.now < p.usedAt + msTicks 350 then .next s
  else
    let off : List (Nat × Bool) := (List.finRange 5).filterMap fun i => if p.diff[i] then some (i.val, false) else none
    let s1 := s.modBoth fun a => { a with net := { a.net with peers := vmod a.net.peers unit fun q =>
      { q with known := false, lost := q.known, diff := Vector.replicate 5 false, agree := Vector.replicate 5 0 } } }
    let s2 := if p.known then s1.raise 0x79 (unit.val + 1) else s1
    .next (s2.reportDiffs (unit.val + 1) p off)

end Sys2Proof.Machine
end

