-- ==== Sys2Proof/Machine/Transport.lean ====
section
/-! DEFINITION. Requests and replies on SPI and UDP: acceptance, queues, replays, replies (14_zwisoif_packets.md). -/
namespace Sys2Proof.Machine

/-! ### Status codes (Table 14.5) -/

abbrev ST_OK : Nat := 0x00
abbrev ST_PENDING : Nat := 0x01
abbrev ST_BAD_CRC : Nat := 0x10
abbrev ST_BAD_OPCODE : Nat := 0x11
abbrev ST_BAD_LENGTH : Nat := 0x12
abbrev ST_LENGTH_EXCEEDS : Nat := 0x13
abbrev ST_BAD_PARAMETER : Nat := 0x14
abbrev ST_OUT_OF_RANGE : Nat := 0x15
abbrev ST_BAD_CLASS : Nat := 0x16
abbrev ST_STATE_FORBIDS : Nat := 0x20
abbrev ST_TRIP_ACTIVE : Nat := 0x21
abbrev ST_LOCKED_OUT : Nat := 0x22
abbrev ST_SEALED : Nat := 0x23
abbrev ST_NOT_ACTIVE : Nat := 0x24
abbrev ST_BUSY : Nat := 0x30
abbrev ST_QUEUE_FULL : Nat := 0x31
abbrev ST_INTERNAL_FAULT : Nat := 0x40

/-- Opcodes with their class (Table 15.2); NOP, of every class, is listed with none. -/
def opcodes : List (Nat × Option Nat) :=
  [(0x00, none), (0x01, some 1), (0x02, some 1), (0x03, some 1), (0x0E, some 1), (0x10, some 2), (0x11, some 2), (0x12, some 2),
   (0x18, some 2), (0x19, some 2), (0x20, some 1), (0x24, some 1), (0x25, some 1), (0x28, some 2), (0x29, some 2), (0x30, some 1),
   (0x31, some 1), (0x38, some 1), (0x39, some 3), (0x3A, some 2), (0x3B, some 2), (0x40, some 0), (0x41, some 1), (0x44, some 2),
   (0x48, some 2), (0x49, some 2)] ++
  [(0x50, some 2), (0x51, some 2), (0x52, some 2), (0x53, some 1), (0x54, some 1), (0x55, some 1), (0x56, some 3), (0x57, some 3),
   (0x58, some 2), (0x60, some 0), (0x61, some 3), (0x62, some 1), (0x63, some 1), (0x70, some 1), (0x71, some 3), (0x74, some 1),
   (0x75, some 1), (0x80, some 1), (0x81, some 1), (0x82, some 1), (0x84, some 1), (0x88, some 2), (0x89, some 2), (0x90, some 1),
   (0x91, some 1), (0x92, some 2), (0x93, some 2)] ++
  [(0xA0, some 3), (0xA1, some 3), (0xA2, some 3), (0xB0, some 1), (0xB1, some 2), (0xC0, some 1), (0xC1, some 1), (0xC4, some 1),
   (0xC5, some 1), (0xC8, some 2), (0xC9, some 1), (0xCA, some 2), (0xCC, some 2), (0xCD, some 2), (0xCE, some 3)]

/-- Opcodes that BOOT accepts (R441, step 6). -/
def bootOpcode (op : Nat) : Bool := decide (op = 0x00 ∨ op = 0x01 ∨ op = 0x02 ∨ op = 0x18)
/-- Room of each class queue (R442). -/
def queueRoom (cls : Nat) : Nat := if cls = 0 then 4 else if cls = 1 then 16 else if cls = 2 then 8 else 4

/-! ### Attention lines (R439) -/

/-- LOG_UNREAD (R500). -/
def Log.unread (l : Log) : Bool := decide (l.cursor ≤ l.newest)
/-- ATTN0 is asserted (R439). [DEDUCED, unsafe: log 106] -/
def State.attn0 (s : State) : Bool :=
  !s.act.host.spi0.isEmpty || (decide (s.dev = .tripped ∨ s.dev = .lockout) && !s.act.host.attnSeen) || s.bootHeld
def State.attn1 (s : State) : Bool := !s.act.host.spiN.isEmpty || s.act.log.unread

/-! ### Replies -/

/-- A reply's bytes (R426, R428). -/
def Reply.bytes (r : Reply) : List Byte :=
  let body := le 1 (r.cls * 64 + b2n r.replayed + 2 * b2n r.urgent + 4 * b2n r.normal) ++ le 1 r.op ++ le 1 r.status ++ le 2 r.seq ++
    le 2 r.payload.length ++ r.payload
  le 1 0x5A ++ body ++ le 4 (crc32 body)

/-- A request apart from its network of arrival. -/
def sameReq (a b : Req) : Bool := decide ({ a with net := 0 } = { b with net := 0 })

/-- Hand a reply to its transport, with the attention flags at its forming (R426, R427, R432, R433); under
PRP a UDP reply leaves on both networks (R416). [DEDUCED, unsafe: log 9] -/
def State.deliver (s : State) (req : Req) (txn : Nat) (r : Reply) : State :=
  if req.noReply && decide (r.status = ST_OK ∨ r.status = ST_PENDING) then s
  else match req.session with
    | .spi =>
      let q := { r with urgent := s.attn0 || decide (r.cls = 0), normal := s.attn1 || decide (r.cls ≠ 0) }
      s.modHost fun h => if r.cls = 0 then { h with spi0 := h.spi0 ++ [⟨q, txn⟩] } else { h with spiN := h.spiN ++ [⟨q, txn⟩] }
    | .udp _ _ =>
      let q := { r with urgent := s.attn0, normal := s.attn1 }
      if s.par P_PRP_EN = 1 then
        let out := fun (t : State) (n : Net) => if t.act.net.ports[n].link then t.send n (.reply n req.session q.bytes) else t
        (out (out s 0) 1).prpNext
      else s.send req.net (.reply req.net req.session q.bytes)

/-- Add to the last 8 replies (R436). -/
def keepReply (l : List Kept) (k : Kept) : List Kept := (l ++ [k]).drop (l.length + 1 - 8)

def HostIf.keep (h : HostIf) (k : Kept) : HostIf :=
  match k.req.session with
  | .spi => { h with spiKept := keepReply h.spiKept k }
  | key => { h with udp := h.udp.map fun u => if u.key = key then { u with kept := keepReply u.kept k } else u }

def HostIf.keptOf (h : HostIf) (key : Session) : List Kept :=
  match key with
  | .spi => h.spiKept
  | _ => (h.udp.filter fun u => decide (u.key = key)).flatMap (·.kept)

/-- A session that has spoken is the last to be displaced; a ninth displaces the first (R435). -/
def HostIf.touch (h : HostIf) (key : Session) : HostIf :=
  match key with
  | .spi => h
  | _ =>
    let cur := h.udp.filter fun u => decide (u.key = key)
    let others := h.udp.filter fun u => decide (u.key ≠ key)
    { h with udp := others.drop (others.length - 7) ++ [cur.headD { key := key }] }

/-- Form the reply of a request past step 7: it is kept and sent, and its twins receive it replayed (R436). -/
def State.reply (s : State) (it : QItem) (status : Nat) (payload : List Byte) : State :=
  let r : Reply := { session := it.req.session, net := it.req.net, cls := it.req.cls, op := it.op, status := status, seq := it.req.seq,
                     payload := payload }
  let s1 := (s.deliver it.req it.txn r).modHost fun h => h.keep ⟨it.op, it.req, r⟩
  let isTwin := fun (t : QItem) => decide (t.op = it.op) && sameReq t.req it.req
  let twins := s1.act.host.twins.filter isTwin
  let s2 := s1.modHost fun h => { h with twins := h.twins.filter fun t => !isTwin t }
  twins.foldl (fun (t : State) (w : QItem) =>
    (t.deliver w.req w.txn { r with net := w.req.net, replayed := true }).modHost fun h => { h with replays := satInc 16 h.replays }) s2

/-- A reply of steps 1 to 7: sent and not kept. [DEDUCED, unsafe: log 11] -/
def State.refuseEarly (s : State) (op : Nat) (req : Req) (status : Nat) : State :=
  s.deliver req s.act.host.txn
    { session := req.session, net := req.net, cls := req.cls, op := op, status := status, seq := req.seq }

/-! ### Acceptance (Table 14.3) -/

/-- A request's opcode and fields from its bytes (Table 14.1). -/
def reqOf (key : Session) (net : Net) (b : List Byte) : Nat × Req :=
  (by8 b 2, { session := key, net := net, cls := by8 b 1 / 64, noReply := bit (by8 b 1) 0, target := by8 b 3, seq := rd b 4 2,
              payload := (b.drop 8).take (rd b 6 2) })

/-- Requests of a session whose reply is not formed yet. -/
def State.open_ (s : State) : List QItem :=
  let a := s.act
  a.host.queues.toList.flatMap id ++ a.host.awaiting.map (·.item) ++ a.adc.urgent.map (·.item)

/-- Index of the transport: SPI, network A, network B (R443). -/
def transportOf (req : Req) : Fin 3 :=
  match req.session with
  | .spi => 0
  | .udp _ _ => if req.net = 0 then 1 else 2

/-- The conditions of R443 hold for a class-0 request. [DEDUCED, unsafe: log 10] -/
def State.class0Bound (s : State) (req : Req) : Bool :=
  decide (req.payload.length ≤ 52) && decide (s.dev ≠ .boot) &&
    (match s.act.host.lastClass0[transportOf req] with
     | some t => decide (t + usTicks 100 ≤ s.clk.now)
     | none => true)

/-- Steps 3 to 7 and entry into the class queue (R440 to R443). [DEDUCED, unsafe: log 10] -/
def State.enqueue (s : State) (op : Nat) (req : Req) (flags : Nat) : State :=
  match opcodes.find? fun x => x.1 == op with
  | none => s.refuseEarly op req ST_BAD_OPCODE
  | some (_, cls) =>
    if cls.isSome ∧ cls ≠ some req.cls then s.refuseEarly op req ST_BAD_CLASS
    else if flags / 2 % 32 ≠ 0 then s.refuseEarly op req ST_BAD_PARAMETER
    else if s.dev = .boot ∧ !bootOpcode op then s.refuseEarly op req ST_STATE_FORBIDS
    else
      let c : Fin 4 := ⟨req.cls % 4, by omega⟩
      if queueRoom req.cls ≤ s.act.host.queues[c].length then
        (s.refuseEarly op req ST_QUEUE_FULL).modHost fun h => { h with queueFulls := satInc 16 h.queueFulls }
      else
        let unbound := decide (req.cls = 0) && !s.class0Bound req
        s.modHost fun h =>
          { h with
            queues := vmod h.queues c fun q => q ++ [{ op := op, req := req, at_ := s.clk.now, txn := h.txn }]
            class0Unbound := if unbound then satInc 16 h.class0Unbound else h.class0Unbound }

/-- The end of host silence: any request that passes its CRC (R438, R518). -/
def State.hostHeard (s : State) : State := s.modShore fun h => { h with hostAt := s.clk.now, hostSilent := false }

/-- A request whose LEN and CRC are right: replay check, over every bit of byte 1, then steps 3 to 7 (R436, R438, R441). -/
def State.acceptGood (s : State) (op : Nat) (req : Req) (flags : Nat) : State :=
  let s1 := s.hostHeard.modHost fun h => h.touch req.session
  let plain := decide (flags / 2 % 32 = 0)
  let s2 := match (s1.act.host.keptOf req.session).find? fun k => plain && decide (k.op = op) && sameReq k.req req with
    | some k =>
      (s1.deliver req s1.act.host.txn { k.reply with net := req.net, replayed := true }).modHost fun h => { h with replays := satInc 16 h.replays }
    | none =>
      if plain && s1.open_.any fun i => decide (i.op = op) && sameReq i.req req then
        s1.modHost fun h => { h with twins := h.twins ++ [{ op := op, req := req, at_ := s.clk.now, txn := h.txn }] }
      else s1.enqueue op req flags
  if req.cls = 0 then s2.modHost fun h => { h with lastClass0 := vset h.lastClass0 (transportOf req) (some s.clk.now) } else s2

/-- A whole request from a transport: steps 1 and 2 first (R429, R441). True where the SPI parser must hunt. -/
def State.accept (s : State) (key : Session) (net : Net) (b : List Byte) : State × Bool :=
  let r := reqOf key net b
  let len := rd b 6 2
  if 4096 < len then
    ((s.refuseEarly r.1 { r.2 with payload := [] } ST_LENGTH_EXCEEDS).modHost fun h => { h with lenExceeded := satInc 32 h.lenExceeded }, true)
  else if rd b (8 + len) 4 ≠ crc32 ((b.drop 1).take (7 + len)) then
    ((s.refuseEarly r.1 r.2 ST_BAD_CRC).modHost fun h => { h with badCrcs := satInc 32 h.badCrcs }, true)
  else (s.acceptGood r.1 r.2 (by8 b 1), false)

/-- A transport answers: a Headland holds the token and the Unyar is not in STANDBY (R374, R455, R556). [DEDUCED, safe: log 4] -/
def State.answers (s : State) : Bool := decide (s.dev ≠ .standby) && s.bw.token.isSome && !s.bootHeld && decide (s.act.pair.role = .active)

/-! ### SPI -/

/-- Bytes of SPI requests that wait in the class queues (R432). -/
def HostIf.spiUsed (h : HostIf) : Nat :=
  ((h.queues.toList.flatMap id).filter (fun i => decide (i.req.session = .spi))).foldl (fun n i => n + 12 + i.req.payload.length) 0

/-- SPI_STAT and SPI_ROOM (R430, R432). -/
def HostIf.head (h : HostIf) : Nat × Nat :=
  let free := 16384 - h.spiUsed
  let n := h.spi0.length + h.spiN.length
  (wordOf [(7, 1, b2n (decide (4108 ≤ free ∧ h.spiN.length < 32))), (6, 1, b2n (!h.spi0.isEmpty)), (0, 6, n)], min 255 (free / 64))

/-- SPI_CS_FALL (R430). -/
def execSpiCsFall (s : State) : Res :=
  .next (if s.answers then s.modHost fun h => { h with csLow := true, hunt := false, txn := h.txn + 1, spiHead := h.head } else s)

/-- Replies that leave within the clocked bytes, class 0 first; none of the running transaction (R430, R431). [DEDUCED, unsafe: log 8] -/
def HostIf.sendReplies (h : HostIf) : Nat → Nat → HostIf
  | 0, _ => h
  | fuel + 1, room =>
    let fit := fun (l : List SpiReply) => l.find? fun r => decide (r.txn ≠ h.txn)
    match fit h.spi0 with
    | some r =>
      let n := 12 + r.reply.payload.length
      if n ≤ room then { h with spi0 := h.spi0.erase r }.sendReplies fuel (room - n) else h
    | none =>
      match fit h.spiN with
      | some r =>
        let n := 12 + r.reply.payload.length
        if n ≤ room then { h with spiN := h.spiN.erase r }.sendReplies fuel (room - n) else h
      | none => h

/-- SPI_CS_RISE (R430, R431). [DEDUCED, unsafe: log 8] -/
def execSpiCsRise (clocked : Nat) (unfinished : Bool) (s : State) : Res :=
  .next (if s.answers && s.act.host.csLow then
      s.modHost fun h =>
        let h1 := h.sendReplies 36 (clocked - 2)
        { h1 with csLow := false, hunt := false, spiAborts := if unfinished && !h.hunt then satInc 16 h.spiAborts else h.spiAborts }
    else s)

/-- SPI_REQUEST (R429, R431, R432). [DESIGN CHOICE, unsafe: log 3] [DEDUCED, unsafe: log 8] -/
def execSpiRequest (bytes : List Byte) (s : State) : Res :=
  let h := s.act.host
  let len := rd bytes 6 2
  let cls := by8 bytes 1 / 64
  if !s.answers || !h.csLow || h.hunt || by8 bytes 0 ≠ 0xA5 || (decide (len ≤ 4096) && decide (bytes.length < 12 + len)) then .next s
  else if (if cls = 0 then decide (4 ≤ h.spi0.length) else decide (32 ≤ h.spiN.length) || decide (16384 < h.spiUsed + 12 + len)) then
    .next (s.modHost fun h => { h with spiOverruns := satInc 16 h.spiOverruns })
  else
    let r := s.accept .spi 0 bytes
    .next (if r.2 then r.1.modHost fun h => { h with hunt := true } else r.1)

/-- UDP_DATAGRAM (R433, R434). [DESIGN CHOICE, unsafe: log 3] -/
def execUdpDatagram (net : Net) (ip port : Nat) (bytes : List Byte) (checksumOk : Bool) (s : State) : Res :=
  let key := Session.udp ip port
  if !s.answers || s.ipOf net = 0 || !s.act.net.ports[net].link then .next s
  else if bytes.length < 12 ∨ by8 bytes 0 ≠ 0xA5 ∨ !checksumOk then
    .next (s.modHost fun h => { h with udpDiscarded := satInc 16 h.udpDiscarded })
  else if rd bytes 6 2 ≤ 4096 ∧ bytes.length ≠ 12 + rd bytes 6 2 then
    let r := reqOf key net bytes
    .next (s.refuseEarly r.1 r.2 ST_BAD_LENGTH)
  else .next (s.accept key net bytes).1

/-! ### Execution -/

/-- What a command's execution answers: the state, the status, the payload, and whether the reply waits for the standby (R382). -/
structure Ans where
  st : State
  status : Nat := ST_OK
  payload : List Byte := []
  wait : Bool := false
  /-- The reply is formed later (R273). -/
  later : Bool := false

def State.ok (s : State) (payload : List Byte := []) : Ans := { st := s, payload := payload }
def State.err (s : State) (status : Nat) : Ans := { st := s, status := status }
/-- OK once the standby has acknowledged the change (R382). [DEDUCED, unsafe: log 7] -/
def State.okAck (s : State) (payload : List Byte := []) : Ans := { st := s, payload := payload, wait := true }

/-- A command's own refusals, the first condition that holds, then its effect (R441). -/
def State.check (s : State) (rs : List (Bool × Nat)) (f : State → Ans) : Ans :=
  match rs.find? (·.1) with
  | some x => s.err x.2
  | none => f s

/-- TARGET values that a command takes (R441). -/
inductive Targets | device | port | portOrAll | any
  deriving DecidableEq, Repr

/-- TARGET values of Table 14.2. -/
def targetKnown (t : Nat) : Bool :=
  decide (t ≤ 0x0C) || decide (0x10 ≤ t ∧ t ≤ 0x13) || decide (t = 0x20 ∨ t = 0x21) || decide (0x30 ≤ t ∧ t ≤ 0x33) || decide (t = 0x40 ∨ t = 0xFF)
def Targets.takes (k : Targets) (t : Nat) : Bool :=
  match k with
  | .device => decide (t = 0xFF)
  | .port => decide (t ≤ 0x0B)
  | .portOrAll => decide (t ≤ 0x0B ∨ t = 0xFF)
  | .any => true
/-- The TARGET refusal of R441. [DEDUCED, unsafe: log 12] -/
def targetRefusal (k : Targets) (t : Nat) : Option Nat :=
  if k.takes t then none else if targetKnown t then some ST_BAD_PARAMETER else some ST_OUT_OF_RANGE

/-- Take the request from its class queue as its execution starts (R442); one that no queue holds executes as it stands.
 [DESIGN CHOICE, unsafe: log 3] [DEDUCED, unsafe: log 11] -/
def State.begin_ (s : State) (op : Nat) (req : Req) : State × QItem :=
  let c : Fin 4 := ⟨req.cls % 4, by omega⟩
  match s.act.host.queues[c].find? fun i => decide (i.op = op ∧ i.req = req) with
  | some i => (s.modHost fun h => { h with queues := vmod h.queues c fun q => q.erase i }, i)
  | none => (s, { op := op, req := req, at_ := s.clk.now, txn := 0 })

/-- The supervisor that executes a class (R442). -/
def supervisorOf (cls : Nat) : Nat := cls / 2

/-- A request that waits in its class queue may start (R442): it is the oldest of its class, a class-3 one only behind every class-2 one,
and no change of its supervisor waits for the standby; class 0 interrupts. [DESIGN CHOICE, unsafe: log 3] -/
def State.inTurn (s : State) (op : Nat) (req : Req) : Bool :=
  let h := s.act.host
  let q := h.queues[(⟨req.cls % 4, by omega⟩ : Fin 4)]
  let is := fun (i : QItem) => decide (i.op = op ∧ i.req = req)
  !q.any is || (q.head?.any is && (decide (req.cls ≠ 3) || h.queues[2].isEmpty) &&
    (decide (req.cls = 0) || !h.awaiting.any fun w => decide (w.item.req.cls ≠ 0 ∧ supervisorOf w.item.req.cls = supervisorOf req.cls)))

/-- CLASS0_WORST: the latency of a class-0 request in 0.1 µs (R443, R453). -/
def State.noteLatency (s : State) (it : QItem) : State :=
  if it.req.cls = 0 then s.modHost fun h => { h with class0Worst := max h.class0Worst (min 65535 ((s.clk.now - it.at_) / 40)) } else s

/-- Reply with an answer, or hold the reply for the standby's acknowledgement. -/
def Ans.finish (a : Ans) (it : QItem) : State :=
  if a.later then a.st
  else if a.wait then a.st.modHost fun h => { h with awaiting := h.awaiting ++ [{ item := it, status := a.status, payload := a.payload, since := a.st.clk.now }] }
  else (a.st.reply it a.status a.payload).noteLatency it

/-- Execute a host command (R441, R442, R455): nothing in STANDBY or out of turn; STATE_FORBIDS in BOOT unless the command is accepted there; the
TARGET check; then its own refusals and effect. [DESIGN CHOICE, unsafe: log 3] -/
def State.hostItem (s : State) (op : Nat) (req : Req) (targets : Targets) (f : QItem → State → Ans) : State :=
  if !s.answers || !s.inTurn op req then s
  else
    let b := s.begin_ op req
    if s.dev = .boot ∧ !bootOpcode op then b.1.refuseEarly op req ST_STATE_FORBIDS
    else match targetRefusal targets req.target with
      | some st => (b.1.err st).finish b.2
      | none => (f b.2 b.1).finish b.2

/-- The same for a command that does not keep its request. [DESIGN CHOICE, unsafe: log 3] [DEDUCED, safe: log 4] [DEDUCED, unsafe: log 11] -/
def State.host (s : State) (op : Nat) (req : Req) (targets : Targets) (f : State → Ans) : State := s.hostItem op req targets fun _ => f

/-- TARGET rows of the commands whose own refusals name them: 0x0C, then anything else beyond 0x0B. -/
def portTargets (t : Nat) : List (Bool × Nat) := [(decide (t = 0x0C), ST_BAD_PARAMETER), (decide (0x0C < t), ST_OUT_OF_RANGE)]

/-- The port of a request that has passed its TARGET check. -/
def reqPort (r : Req) : Port := ⟨r.target % 12, by omega⟩

end Sys2Proof.Machine
end

