-- ==== Sys2Proof/Machine/AdcEvents.lean ====
section
/-! DEFINITION. The auxiliary converter's own events (08_sensing_chain.md, R267 to R280). -/
namespace Sys2Proof.Machine

/-- The timer runs and ADC_TIMER_T has passed since its last expiry (R271). -/
def State.adcTimerDue (s : State) : Bool :=
  let t := (s.adcPar P_ADC_TIMER_T).toNat
  s.awake && decide (t ≠ 0) && decide (s.act.adc.timerAt + usTicks t ≤ s.clk.now)

/-- ADC_TIMER (R271, R272): every ADC_TIMER_T. -/
def execAdcTimer (s : State) : Res :=
  .next (if s.adcTimerDue then
    s.modAdc fun a => { a.trigger 1 (s.adcPar P_ADC_TIMER_ENTRY).toNat (s.clk.now + s.adcDelay) with timerAt := s.clk.now } else s)

/-- A slot's ticks, 500 ns (R269). -/
def slotTicks : Nat := 200
/-- The slots of an averaging code are over (R269). -/
def Adc.slotsOver (a : Adc) (now avg : Nat) : Bool := decide (a.slotAt + slotTicks * 2 ^ avg ≤ now)

/-- ADC_SEQ_START (R270, R271): a first slot later than its instant is SHIFTED; waiting urgent requests interrupt after it. -/
def execAdcSeqStart (s : State) : Res :=
  .next (if s.awake then s.modAdc fun a =>
    match a.scheduled with
    | none => a
    | some (e, _) =>
      if s.clk.now < a.startAt then a else
      { a with scheduled := none, running := true, entry := e % 32, restarted := false, shifted := decide (a.startAt < s.clk.now)
               between := false, resuming := !a.urgent.isEmpty, slotAt := if a.urgent.isEmpty then s.clk.now else s.clk.now + slotTicks }
    else s)

/-- ADC_ENTRY_DONE (R269, R270, R273, R274): the entry's result is written; after LAST or entry 31 the sequence ends. -/
def execAdcEntryDone (codes : List Int) (s : State) : Res :=
  let a := s.act.adc
  if s.awake && a.running && !a.resuming && a.slotsOver s.clk.now (bitsOf (s.adcPar (P_ADC_SEQ (a.entry % 32))).toNat 14 13) then
    let e : Fin 36 := ⟨a.entry % 32, by omega⟩
    let w := (s.adcPar (P_ADC_SEQ e.val)).toNat
    let r := s.adcResult (w % 32) (adcSlots (bitsOf w 14 13) codes) a.shifted a.seqCount
    .next (s.modAdc fun a =>
      let a1 := { a.write e r with restarted := false, slotAt := s.clk.now }
      if bit w 15 || e.val = 31 then { a1 with running := false, shifted := false, seqCount := (a1.seqCount + 1) % 256 }
      else { a1 with entry := e.val + 1, resuming := !a.urgent.isEmpty, between := !a.urgent.isEmpty, shifted := a1.shifted || !a.urgent.isEmpty })
  else .next s

/-- ADC_URGENT_DONE (R273, R276), once its slots are over, not while an entry converts, nor past the first instant of a
scheduled sequence: the oldest urgent request is replied, NEW of the replied word a free value (R283 gives it to snapshots alone);
once the queue is empty the sequence resumes. [DESIGN CHOICE, safe: log 23] -/
def execAdcUrgentDone (codes : List Int) (s : State) : Res :=
  match s.act.adc.urgent with
  | [] => .next s
  | u :: rest =>
    if !s.awake || !s.act.adc.slotsOver s.clk.now u.avg || (s.act.adc.running && !s.act.adc.resuming) ||
        (s.act.adc.scheduled.isSome && decide (s.act.adc.startAt < s.clk.now)) then .next s else
    let w := s.adcResult u.input (adcSlots u.avg codes) false (u.item.req.seq % 256)
    let s1 := s.modAdc fun a =>
      let a1 := { a.write ⟨32 + a.urgentNo % 4, by omega⟩ w with urgent := rest, urgentNo := (a.urgentNo + 1) % 4, slotAt := s.clk.now }
      if rest.isEmpty && a.resuming then { a1 with resuming := false, restarted := !a.between, between := false, shifted := true } else a1
    let s2 := { s1 with freeCount := s1.freeCount + 1 }
    .next (s2.reply u.item ST_OK (le 4 (w + Config.freeValue s.freeCount % 2 * 2 ^ 31)))

/-! ### Host commands (R271, R276) -/

def adcUrgentAns (b : List Byte) (it : QItem) (s : State) : Ans :=
  s.check
    [(decide (b.length ≠ 2), ST_BAD_LENGTH), (decide (23 < by8 b 0), ST_OUT_OF_RANGE), (decide (3 < by8 b 1), ST_BAD_PARAMETER),
     (decide (4 ≤ s.act.adc.urgent.length), ST_QUEUE_FULL)]
    fun s =>
      { st := s.modAdc fun a =>
          let interrupts := a.running && !a.restarted && !a.resuming && a.urgent.isEmpty
          let at_ := if interrupts then a.slotAt + ceilDiv (s.clk.now - a.slotAt) slotTicks * slotTicks
            else if a.running || !a.urgent.isEmpty then a.slotAt else s.clk.now
          { a with
            urgent := a.urgent ++ [⟨by8 b 0, by8 b 1, it⟩]
            slotAt := at_
            resuming := a.resuming || interrupts
            between := a.between && !interrupts }
        later := true }

def adcStartAns (b : List Byte) (s : State) : Ans :=
  s.check
    [(decide (b.length ≠ 1), ST_BAD_LENGTH), (decide (31 < by8 b 0), ST_OUT_OF_RANGE),
     (s.act.adc.scheduled.isSome || s.act.adc.running, ST_BUSY)]
    fun s => (s.modAdc fun a => a.trigger 2 (by8 b 0) (s.clk.now + s.adcDelay)).ok

def execAdcUrgent (r : Req) (s : State) : Res := .next (s.hostItem 0xC4 r .device (adcUrgentAns r.payload))
def execAdcStart (r : Req) (s : State) : Res := .next (s.host 0xC5 r .device (adcStartAns r.payload))

/-- ADC_PARAM_APPLY (R280). -/
def execAdcParamApply (s : State) : Res :=
  .next (s.modAdc fun a => if a.idle then { a with inForce := none } else a)

end Sys2Proof.Machine
end

