-- ==== Sys2Proof/Machine/Capture.lean ====
section
/-! DEFINITION. Strandline: records, triggers, masks, measurements, streaming (16_capture_and_history.md). -/
namespace Sys2Proof.Machine

/-! ### Vertices (R139, R144) -/

/-- The times of a mask or envelope: first 0, never falling, no three alike. -/
def timesOk (ts : List Nat) : Bool :=
  decide (ts.head? = some 0) && (ts.zip ts.tail).all (fun x => decide (x.1 ≤ x.2)) &&
    (ts.zip (ts.drop 2)).all fun x => decide (x.1 < x.2)

/-- The bound at time t in µs: linear between the vertices that enclose t, the later of two at one time, the last beyond it. -/
def boundAt (t : Rat) : List (Nat × Int) → Rat
  | [] => 0
  | [(_, v)] => v
  | (t0, v0) :: (t1, v1) :: rest =>
    if t < t1 then (v0 : Rat) + (v1 - v0 : Int) * (t - t0) / ((t1 : Rat) - t0) else boundAt t ((t1, v1) :: rest)

/-- COUNT vertices from byte 4 on (Tables 4.4 and 15.6). -/
def verticesOf (b : List Byte) (count : Nat) : List (Nat × Int) :=
  (List.range count).map fun i => (rd b (4 + 8 * i) 4, ofTwos 32 (rd b (8 + 8 * i) 4))

/-! ### Channels -/

def selEnabled (w : Nat) : Bool := bit w 31
def selLink (w : Nat) : Nat := bitsOf w 23 16
def selChannel (w : Nat) : Nat := bitsOf w 15 8
def CapConfig.enabled (c : CapConfig) : List Nat := (List.range 32).filter fun i => selEnabled (c.sel.getD i 0)

/-- The quantity of envelope n in the unit of Table 4.3, as the last bus step wrote it. [DESIGN CHOICE, unsafe: log 19] -/
def State.envQuantity (s : State) (n : Nat) : Int :=
  let r := s.firm.ride
  if n = 0 then roundUpHalf (r.vMin * 10000) else if n = 1 then roundUpHalf (r.vMax * 10000)
  else roundUpHalf ((r.fMeas - s.lawN P_F_NOM) * 1000)

/-- The value of a source at the present instant (R473, R474): a quantity of the laws while they run (R80). [DEDUCED, unsafe: log 86] -/
def State.capSource (s : State) (w : Nat) : CapSample :=
  let l := selLink w
  if h : l < 13 then
    if hc : selChannel w < 7 then
      let x := s.dec[l].free[selChannel w]
      ⟨x.valid, x.r⟩
    else ⟨false, 0⟩
  else
    ⟨s.dev.runs, satS 24 (s.envQuantity (selChannel w))⟩

/-- Position of a record channel among the enabled ones. -/
def CapConfig.column (c : CapConfig) (ch : Nat) : Option Nat := c.enabled.idxOf? ch
def CapConfig.value (c : CapConfig) (x : CapSet) (ch : Nat) : Option CapSample := (c.column ch).bind fun i => x.samples[i]?

/-! ### Triggers (R477 to R480) -/

/-- Time of a crossing of a level between two samples (R478). -/
def crossing (level : Int) (a : Option (Rat × Int)) (t1 : Rat) (x1 : Int) : Rat :=
  match a with
  | some (t0, x0) => if x0 = x1 then t1 else t0 + ((level - x0 : Int) : Rat) / ((x1 - x0 : Int) : Rat) * (t1 - t0)
  | none => t1

/-- The priming after a valid sample of the watched channel (R478). -/
def Cap.prime (c : Cap) (x : Int) : Bool × Bool :=
  (c.primed.1 || decide (x ≤ c.cfg.level - c.cfg.hyst), c.primed.2 || decide (c.cfg.level + c.cfg.hyst ≤ x))

/-- The level trigger fires at a valid sample (R478). -/
def Cap.levelFires (c : Cap) (x : Int) : Bool :=
  (c.primed.1 && decide (c.cfg.edge ≠ 1) && decide (c.cfg.level ≤ x)) || (c.primed.2 && decide (c.cfg.edge ≠ 0) && decide (x ≤ c.cfg.level))

/-- The level trigger at a sample set: the time of its crossing where it fires. -/
def Cap.levelAt (c : Cap) (k : CapSet) : Option Rat :=
  if c.cfg.source ≠ 0 ∨ !c.evaluates k.ptp then none
  else match c.cfg.value k c.cfg.arg with
    | some x =>
      if x.valid && c.levelFires x.r then
        let prev := c.sets.getLast?.bind fun p => (c.cfg.value p c.cfg.arg).bind fun y => if y.valid then some (p.ptp, y.r) else none
        some (crossing c.cfg.level prev k.ptp x.r)
      else none
    | none => none

/-- A sample of a mask's channel lies strictly beyond the bound, time counted from an instant (R481). -/
def CapMask.beaten (m : CapMask) (cfg : CapConfig) (k : CapSet) (since : Rat) : Bool :=
  match cfg.value k m.channel with
  | some x =>
    let b := boundAt ((k.ptp - since) / 1000) m.vertices
    x.valid && (if m.upper then decide (b < x.r) else decide ((x.r : Rat) < b))
  | none => false

/-- The host mask that CAP_TRIGGER names. -/
def Cap.trigMask (c : Cap) : Option CapMask := if c.cfg.source = 2 then c.masks.toList.getD c.cfg.arg none else none

/-- That mask is violated at a sample set, time counted from the begin of the evaluation (R484). -/
def Cap.maskAt (c : Cap) (k : CapSet) : Option CapFire :=
  match c.trigMask, c.evalFrom with
  | some m, some e => if c.evaluates k.ptp && m.beaten c.cfg k e then some ⟨k.ptp, false, m.stop⟩ else none
  | _, _ => none

/-- The trigger that a sample set brings (R477 to R480, R484); a forced one gives way to any other. [DEDUCED, unsafe: log 86] -/
def Cap.hit (c : Cap) (k : CapSet) : Option CapFire :=
  match c.levelAt k, c.maskAt k, c.fire with
  | some t, _, _ => some ⟨t, false, false⟩
  | none, some f, _ => some f
  | none, none, some f => if c.evaluates k.ptp then some { f with time := if f.forced then k.ptp else f.time } else none
  | none, none, none => none

/-- A sample set while ARMED: the trigger sample, or one more of the ring of PRE (R476 to R480). -/
def Cap.armedSample (c : Cap) (k : CapSet) : Cap :=
  let ready := c.evaluates k.ptp
  match c.hit k with
  | some f => { c with sets := c.sets ++ [k], fire := none, due := some f }
  | none =>
    let sets := (c.sets ++ [k]).drop (c.sets.length + 1 - c.cfg.pre)
    let full := c.fullAt.isNone && decide (sets.length = c.cfg.pre)
    let primed := match c.cfg.value k c.cfg.arg with
      | some x => if ready && x.valid then c.prime x.r else c.primed
      | none => c.primed
    { c with
      sets := sets, primed := primed, fullAt := if full then some k.ptp else c.fullAt
      evalFrom := if full then some (k.ptp + c.cfg.holdoff * 1000) else c.evalFrom }

/-! ### Streaming (R488, R489) -/

/-- The channels streamed. -/
def Cap.streamed (c : Cap) : List Nat :=
  let m := (c.stream.map (·.mask)).getD 0
  let l := c.cfg.enabled.filter fun i => bit m i
  if l.isEmpty then c.cfg.enabled else l

/-- Sets that the FIFO holds. -/
def Cap.fifoRoom (c : Cap) : Nat := 6291456 / (4 * max 1 c.streamed.length)

def Cap.streamSample (c : Cap) (k : CapSet) : Cap :=
  let over_ := decide (c.fifoRoom ≤ c.fifo.length)
  let c1 : Cap := if over_ then { c with overflow := true, lost := satInc 32 c.lost, streamLost := satInc 32 c.streamLost }
    else { c with fifo := c.fifo ++ [k], sets := (c.sets ++ [k]).drop (c.sets.length + 1 - c.fifoRoom) }
  { c1 with ended := decide (c.cfg.length ≤ k.index + 1) }

/-- The trigger sample makes the record TRIGGERED (R476, R479): a stop at it ends the record (R482, R483). [DEDUCED, unsafe: log 86] -/
def Cap.trigger (c : Cap) (ptpValid : Bool) : Cap :=
  match c.due with
  | some f =>
    { c with
      state := .triggered, due := none, trigTime := f.time, trigValid := ptpValid, trigIndex := some (c.sets.length - 1), forced := f.forced
      maskStop := f.maskStop, ended := f.maskStop || decide (c.cfg.length ≤ c.sets.length)
      maskHit := if c.trigMask.isSome && !f.forced then c.maskHit ||| 2 ^ c.cfg.arg else c.maskHit }
  | none => c

/-- A trigger that waits comes into force; that of a host mask is the mask's first violation (R481, R484). -/
def State.capTrigger (s : State) : State :=
  let c := s.act.cap
  let s1 := s.modCap (·.trigger s.act.ptp.valid)
  match c.due with
  | some f => if c.trigMask.isSome && !f.forced then s1.raise 0x58 c.cfg.arg (c.sets.length - 1) c.recordNo else s1
  | none => s1

/-- CAP_TRIGGER_FIRE (R478 to R480, R483, R484): the trigger that the newest sample set met. [DEDUCED, unsafe: log 86] -/
def execCapTriggerFire (s : State) : Res := .next s.capTrigger

/-- One sample instant (R474, R476). -/
def Cap.sample (c : Cap) (k : CapSet) : Cap :=
  if c.ended then c
  else
    let c1 := match c.state with
      | .armed => c.armedSample k
      | .triggered => { c with sets := c.sets ++ [k], ended := decide (c.cfg.length ≤ c.sets.length + 1) }
      | .streaming => c.streamSample k
      | .idle | .done => c
    { c1 with nextIndex := c.nextIndex + 1 }

/-- A sample instant falls now (R474): at first on a modulator clock with MCLK ≡ 0 mod 4 at least 1 µs after the arming, then every
4 × DIV clocks. -/
def State.capInstant (s : State) : Bool :=
  let c := s.act.cap
  s.awake && decide (s.clk.sub = 0) && match c.lastAt with
    | none => decide (s.clk.mclk % 4 = 0 ∧ c.armedAt + usTicks 1 ≤ s.clk.now)
    | some m =>
      let d := (s.clk.mclk + 2 ^ 32 - m) % 2 ^ 32
      decide (d ≠ 0 ∧ d % (4 * c.cfg.div) = 0)

/-- The sample set of the present instant. -/
def State.capSet (s : State) : CapSet :=
  let c := s.act.cap
  { samples := c.cfg.enabled.map fun i => s.capSource (c.cfg.sel.getD i 0), index := c.nextIndex, ptp := s.ptpNow }

/-- CAP_SAMPLE_INSTANT (R474 to R480, R488): a trigger that the sample before has met comes first. [DEDUCED, unsafe: log 86] -/
def execCapSampleInstant (s : State) : Res :=
  .next (if s.capInstant then
      let t := s.capTrigger
      t.modCap fun c => { c.sample t.capSet with lastAt := some s.clk.mclk }
    else s)

/-- Bits 4 to 7 of MASK_HIT: an envelope violation while ARMED or TRIGGERED (R483). [DEDUCED, unsafe: log 86] -/
def Cap.envelope (c : Cap) (n : Nat) : Cap :=
  if c.state = .armed ∨ c.state = .triggered then { c with maskHit := c.maskHit ||| 2 ^ (4 + n) } else c

/-- The newest sample set of a TRIGGERED record violates host mask m, which has not yet been violated (R481, R484). -/
def Cap.violates (c : Cap) (m : Fin 4) : Bool :=
  match c.masks[m], c.sets.getLast? with
  | some k, some x =>
    decide (c.state = .triggered) && !bit c.maskHit m.val && !decide (c.cfg.source = 2 ∧ c.cfg.arg = m.val) && k.beaten c.cfg x c.trigTime
  | _, _ => false

/-- CAP_MASK_HIT (R481, R482): the first violation of a host mask, at the newest sample. [DEDUCED, unsafe: log 86] -/
def execCapMaskHit (m : Fin 4) (s : State) : Res :=
  let c := s.act.cap
  match c.masks[m] with
  | none => .next s
  | some k =>
    if !c.violates m then .next s
    else
      .next ((s.modCap fun c =>
        { c with maskHit := c.maskHit ||| 2 ^ m.val, maskStop := c.maskStop || k.stop, ended := c.ended || k.stop }).raise
        0x58 m.val (c.sets.length - 1) c.recordNo)

/-! ### Measurements (R486) -/

/-- Rising crossings of the mean: armed by a sample at or below mean - h; the sample before with its time; times found. -/
def risings (mean h : Int) : Bool → Option (Rat × Int) → List (Rat × CapSample) → List Rat
  | _, _, [] => []
  | armed, prev, (t, x) :: rest =>
    if !x.valid then risings mean h armed none rest
    else if armed && decide (mean ≤ x.r) then crossing mean prev t x.r :: risings mean h (decide (x.r ≤ mean - h)) (some (t, x.r)) rest
    else risings mean h (armed || decide (x.r ≤ mean - h)) (some (t, x.r)) rest

/-- The eight values of one channel. -/
def measure (xs : List (Rat × CapSample)) : List Int :=
  let vs : List Int := (xs.filter (·.2.valid)).map (·.2.r)
  match vs.min?, vs.max? with
  | some lo, some hi =>
    let n : Int := vs.length
    let mean := roundUpHalf (((vs.sum : Int) : Rat) / n)
    let rms := Nat.sqrt (((vs.map fun v => v * v).sum / n).toNat)
    let idx := fun (v : Int) => (xs.findIdx? fun x => x.2.valid && decide (x.2.r = v)).getD 0
    let ts := risings mean ((hi - lo) / 64) false none xs
    let period : Int := match ts.head?, ts.getLast? with
      | some a, some b => if ts.length < 2 then 0 else roundUpHalf ((b - a) / ((ts.length - 1 : Nat) : Rat))
      | _, _ => 0
    [lo, hi, mean, rms, idx lo, idx hi, ts.length, period]
  | _, _ => [0, 0, 0, 0, -1, -1, 0, 0]

/-- The record in memory under the configuration that its arming found: a later CAP_CONFIG leaves it readable (R468). [DEDUCED, unsafe: log 86] -/
def Cap.asRecorded (c : Cap) : Cap := { c with cfg := c.recordCfg, stream := c.recordStream }

/-- The samples held of a channel with their times: none of a channel that was enabled but not streamed (R489). -/
def Cap.channelOf (c : Cap) (ch : Nat) : List (Rat × CapSample) :=
  if c.cfg.mode = 2 ∧ !c.streamed.contains ch then [] else c.sets.filterMap fun k => (c.cfg.value k ch).map fun x => (k.ptp, x)

/-- Entry into DONE (R476, R486). -/
def State.capFinish (s : State) : State :=
  let s1 := s.modCap fun c => { c with state := .done, ended := false, doneAt := s.clk.now, meas := (List.range 32).map fun i => measure (c.channelOf i) }
  s1.raise 0x57 0xFF s1.act.cap.recordNo s1.act.cap.sets.length

/-- CAP_DONE (R476). -/
def execCapDone (s : State) : Res :=
  .next (if s.act.cap.state = .triggered ∧ s.act.cap.ended then s.capFinish else s)

/-- Arming at a PTP time and a tick (R476): the held samples go, RECORD_NO counts. [DEDUCED, unsafe: log 86] -/
def Cap.arm (c : Cap) (now : Rat) (tick : Nat) : Cap :=
  { c with
    armedAt := tick, lastAt := none, due := none, recordCfg := c.cfg, recordStream := c.stream
    state := if c.cfg.mode = 2 then .streaming else .armed, eccDiscard := false, maskStop := false, forced := false, maskHit := 0
    recordNo := (c.recordNo + 1) % 2 ^ 32, sets := [], nextIndex := 0, trigTime := 0, trigValid := false, trigIndex := none, fire := none
    fullAt := if c.cfg.pre = 0 then some now else none, evalFrom := if c.cfg.pre = 0 then some (now + c.cfg.holdoff * 1000) else none
    primed := (false, false), ended := false, meas := [], lost := 0, fifo := [] }

/-- CAP_REARM (R487): after HOLDOFF in DONE, or 1,000 µs where that is longer. [DEDUCED, unsafe: log 86] -/
def execCapRearm (s : State) : Res :=
  .next (s.modCap fun c =>
    if c.state = .done ∧ c.cfg.mode = 1 ∧ c.doneAt + usTicks (max c.cfg.holdoff 1000) ≤ s.clk.now then c.arm s.ptpNow s.clk.now else c)

/-- A word of CAP_READ and of a stream (Table 15.6). -/
def CapSample.word (x : CapSample) : Nat := wordOf [(31, 1, b2n x.valid), (0, 24, toTwos 24 x.r)]

/-- A stream datagram (Table 16.4). [DEDUCED, unsafe: log 86] -/
def Cap.datagram (c : Cap) (sets : List CapSet) (last ptpValid : Bool) : List Byte :=
  let first := sets.head?
  let t0 : Rat := (first.map fun (x : CapSet) => x.ptp).getD 0
  let t := t0.floor.toNat
  let chs := c.streamed
  le 2 1 ++ le 2 sets.length ++ le 4 c.recordNo ++ le 4 ((first.map (·.index)).getD c.nextIndex) ++ le 4 (t / 1000000000) ++
    le 4 (wordOf [(31, 1, b2n ptpValid), (0, 30, t % 1000000000)]) ++ le 4 (maskOf 32 fun i => chs.contains i) ++ le 4 c.lost ++
    le 1 (wordOf [(0, 1, b2n (decide (c.lost ≠ 0))), (1, 1, b2n last)]) ++ zeros 3 ++
    sets.flatMap fun k => chs.flatMap fun ch => le 4 ((((c.cfg.value k ch).map CapSample.word)).getD 0)

/-- STREAM_DATAGRAM (R488, R489): the oldest sets leave once they fill a datagram or the first is 1 ms old; the last datagram of a
record ends it. -/
def execStreamDatagram (s : State) : Res :=
  let c := s.act.cap
  match c.state, c.stream with
  | .streaming, some d =>
    let n := 360 / max 1 c.streamed.length
    let sets := c.fifo.take n
    let last := c.ended && decide (c.fifo.length ≤ n)
    let old := (sets.head?.map fun k => decide (k.ptp + 1000000 ≤ s.ptpNow)).getD false
    if !(decide (n ≤ sets.length) || old || last) then .next s
    else
      let bytes := c.datagram sets last s.act.ptp.valid
      let out := fun (t : State) (net : Net) => if bit d.nets net.val then t.send net (.stream net d.cls bytes) else t
      let s1 := (out (out s 0) 1).modCap fun c => { c with fifo := c.fifo.drop n, lost := 0, streamSent := satInc 32 c.streamSent }
      .next (if last then s1.capFinish else s1)
  | _, _ => .next s

/-! ### Host commands (Tables 15.6 and 15.7) -/

/-- ARMED, TRIGGERED or STREAMING. -/
def Cap.busy (c : Cap) : Bool := decide (c.state = .armed ∨ c.state = .triggered ∨ c.state = .streaming)

/-- A SEL word's LINK is defined and its reserved bits are 0. -/
def selOk (w : Nat) : Bool := decide (bitsOf w 30 24 = 0 ∧ bitsOf w 7 0 = 0) && decide (selLink w ≤ 0x0C ∨ selLink w = 0xF0)
def selInRange (w : Nat) : Bool := if selLink w = 0xF0 then decide (selChannel w ≤ 3) else decide (selChannel w ≤ 6)

/-- Configuration of Strandline in both Headlands (R491). -/
def State.modCapCfg (s : State) (f : Cap → Cap) : State := s.modBoth fun a => { a with cap := f a.cap }

/-- CAP_CONFIG. -/
def capConfigAns (b : List Byte) (s : State) : Ans :=
  let sel := (List.range 32).map fun c => rd b (12 + 4 * c) 4
  let len := rd b 0 4
  if b.length ≠ 140 then s.err ST_BAD_LENGTH
  else if s.act.cap.busy then s.err ST_BUSY
  else if len = 0 ∨ rd b 8 2 = 0 ∨ 2 < by8 b 10 ∨ by8 b 11 ≠ 0 ∨ !sel.all selOk then s.err ST_BAD_PARAMETER
  else if len ≤ rd b 4 4 ∨ 4096 < rd b 8 2 ∨ !sel.all selInRange then s.err ST_OUT_OF_RANGE
  else (s.modCapCfg fun c => { c with cfg := { c.cfg with length := len, pre := rd b 4 4, div := rd b 8 2, mode := by8 b 10, sel := sel } }).okAck

/-- CAP_TRIGGER. -/
def capTriggerAns (b : List Byte) (s : State) : Ans :=
  let source := by8 b 0
  let arg := by8 b 1
  if b.length ≠ 16 then s.err ST_BAD_LENGTH
  else if s.act.cap.busy then s.err ST_BUSY
  else if 4 < source ∨ 2 < by8 b 2 ∨ by8 b 3 ≠ 0 then s.err ST_BAD_PARAMETER
  else if (source = 0 ∧ 31 < arg) ∨ ((source = 1 ∨ source = 2) ∧ 7 < arg) then s.err ST_OUT_OF_RANGE
  else (s.modCapCfg fun c =>
    { c with cfg := { c.cfg with source := source, arg := arg, edge := by8 b 2, level := ofTwos 32 (rd b 4 4), hyst := rd b 8 4,
                                 holdoff := rd b 12 4 } }).okAck

/-- CAP_MASK_LOAD. -/
def capMaskLoadAns (b : List Byte) (s : State) : Ans :=
  let count := by8 b 2
  let vs := verticesOf b count
  if b.length ≠ 4 + 8 * count then s.err ST_BAD_LENGTH
  else if s.act.cap.busy then s.err ST_BUSY
  else if count < 2 ∨ 3 < by8 b 3 ∨ !timesOk (vs.map (·.1)) ∨ (4 ≤ by8 b 0 ∧ by8 b 0 ≤ 7) then s.err ST_BAD_PARAMETER
  else if h : by8 b 0 < 4 ∧ by8 b 1 ≤ 31 ∧ count ≤ 64 then
    (s.modCapCfg fun c =>
      { c with masks := c.masks.set (by8 b 0) (some ⟨by8 b 1, bit (by8 b 3) 0, bit (by8 b 3) 1, vs⟩) h.1 }).okAck
  else s.err ST_OUT_OF_RANGE

/-- CAP_STREAM. -/
def capStreamAns (b : List Byte) (s : State) : Ans :=
  if b.length ≠ 12 then s.err ST_BAD_LENGTH
  else if s.act.cap.busy then s.err ST_BUSY
  else if 3 < by8 b 0 then s.err ST_BAD_PARAMETER
  else if 5 < by8 b 1 then s.err ST_OUT_OF_RANGE
  else if by8 b 0 = 0 ∨ rdBe b 4 4 = 0 then s.err ST_BAD_PARAMETER
  else (s.modCapCfg fun c => { c with stream := some ⟨by8 b 0, by8 b 1, rd b 2 2, rd b 4 4, rd b 8 4⟩ }).okAck

/-- CAP_ARM. -/
def capArmAns (b : List Byte) (s : State) : Ans :=
  let c := s.act.cap
  let on := fun (ch : Nat) => c.cfg.enabled.contains ch
  let maskOff : Bool := if h : c.cfg.arg < 4 then (match c.masks[c.cfg.arg] with
    | some m => !on m.channel
    | none => false) else false
  let noAddress : Bool := match c.stream with
    | some d => (bit d.nets 0 && decide (s.ipOf 0 = 0)) || (bit d.nets 1 && decide (s.ipOf 1 = 0))
    | none => true
  if b.length ≠ 0 then s.err ST_BAD_LENGTH
  else if c.cfg.enabled.isEmpty ∨ (c.cfg.source = 0 ∧ !on c.cfg.arg) ∨ (c.cfg.source = 2 ∧ maskOff) then s.err ST_BAD_PARAMETER
  else if 6291456 < c.cfg.length * c.cfg.enabled.length * 4 then s.err ST_OUT_OF_RANGE
  else if c.cfg.mode = 2 ∧ noAddress then s.err ST_STATE_FORBIDS
  else if c.state = .triggered ∨ c.state = .streaming then s.err ST_BUSY
  else (s.modCap (·.arm s.ptpNow s.clk.now)).ok

/-- CAP_FORCE. [DEDUCED, unsafe: log 85] -/
def capForceAns (b : List Byte) (s : State) : Ans :=
  if b.length ≠ 0 then s.err ST_BAD_LENGTH
  else if s.act.cap.state ≠ .armed then s.err ST_STATE_FORBIDS
  else (s.modCap fun c => if c.fire.isSome ∨ c.due.isSome ∨ !c.evaluates s.ptpNow then c else { c with fire := some ⟨s.ptpNow, true, false⟩ }).ok

def CapState.code : CapState → Nat
  | .idle => 0 | .armed => 1 | .triggered => 2 | .done => 3 | .streaming => 4

/-- TRIG_SEC, TRIG_NS, TRIG_FRAC (R478). -/
def Cap.trig (c : Cap) : Nat × Nat × Nat :=
  let units := (roundUpHalf (c.trigTime * 65536)).toNat
  let ns := units / 65536
  (ns / 1000000000 % 2 ^ 32, ns % 1000000000, units % 65536)

/-- CAP_STATUS. -/
def capStatusAns (b : List Byte) (s : State) : Ans :=
  let c := s.act.cap
  let t := c.trig
  if b.length ≠ 0 then s.err ST_BAD_LENGTH
  else s.ok (le 1 c.state.code ++ le 1 (wordOf [(0, 1, b2n c.maskStop), (1, 1, b2n c.overflow), (2, 1, b2n c.forced)]) ++ le 1 c.maskHit ++
    zeros 1 ++ le 4 c.recordNo ++ le 4 c.sets.length ++ le 4 t.1 ++ le 4 t.2.1 ++ le 2 t.2.2 ++ zeros 2)

/-- CAP_READ (R468, R489, R490). -/
def capReadAns (b : List Byte) (s : State) : Ans :=
  let c := s.act.cap.asRecorded
  let ch := by8 b 0
  let start := rd b 4 4
  let asked := rd b 2 2
  if b.length ≠ 8 then s.err ST_BAD_LENGTH
  else if c.state ≠ .done then s.err ST_BUSY
  else if by8 b 1 ≠ 0 then s.err ST_BAD_PARAMETER
  else if 31 < ch then s.err ST_OUT_OF_RANGE
  else if !c.cfg.enabled.contains ch ∨ asked = 0 then s.err ST_BAD_PARAMETER
  else if c.cfg.length ≤ start then s.err ST_OUT_OF_RANGE
  else
    let xs := ((c.channelOf ch).drop start).take (min asked 1022)
    s.ok (le 2 xs.length ++ zeros 2 ++ xs.flatMap fun x => le 4 x.2.word)

/-- CAP_MEAS_READ. -/
def capMeasReadAns (b : List Byte) (s : State) : Ans :=
  let c := s.act.cap.asRecorded
  let ch := by8 b 0
  if b.length ≠ 1 then s.err ST_BAD_LENGTH
  else if c.state ≠ .done then s.err ST_BUSY
  else if 31 < ch then s.err ST_OUT_OF_RANGE
  else if !c.cfg.enabled.contains ch then s.err ST_BAD_PARAMETER
  else s.ok ((c.meas.getD ch (measure [])).flatMap fun v => le 4 (toTwos 32 v))

def execCapConfig (r : Req) (s : State) : Res := .next (s.host 0x50 r .device (capConfigAns r.payload))
def execCapTrigger (r : Req) (s : State) : Res := .next (s.host 0x51 r .device (capTriggerAns r.payload))
def execCapMaskLoad (r : Req) (s : State) : Res := .next (s.host 0x52 r .device (capMaskLoadAns r.payload))
def execCapArm (r : Req) (s : State) : Res := .next (s.host 0x53 r .device (capArmAns r.payload))
def execCapForce (r : Req) (s : State) : Res := .next (s.host 0x54 r .device (capForceAns r.payload))
def execCapStatus (r : Req) (s : State) : Res := .next (s.host 0x55 r .device (capStatusAns r.payload))
def execCapRead (r : Req) (s : State) : Res := .next (s.host 0x56 r .device (capReadAns r.payload))
def execCapMeasRead (r : Req) (s : State) : Res := .next (s.host 0x57 r .device (capMeasReadAns r.payload))
def execCapStream (r : Req) (s : State) : Res := .next (s.host 0x58 r .device (capStreamAns r.payload))

end Sys2Proof.Machine
end

