-- ==== Sys2Proof/Machine/Field.lean ====
section
/-! DEFINITION. Shore, Lookout and Heartwood: shared operations and their own events (17_field_io_panel_and_sentinel.md,
18_clocks_supply_and_check_units.md). -/
namespace Sys2Proof.Machine

/-! ### Shore -/

/-- An input is valid (R506). -/
def Shore.inValid (h : Shore) : Bool := h.ok

/-- The driven state of an output outside a test pulse (R509). -/
def Shore.drives (h : Shore) (o : ShoreOut) : Bool := h.ok && !h.silent && !o.sagLatched && !o.overLatch && o.demand

/-- Every output takes its driven state; the pin follows unless it is held high from outside (R508, R512). [DEDUCED, unsafe: log 80] -/
def Shore.drive (h : Shore) (now : Nat) : Shore :=
  { h with outs := h.outs.map fun o =>
      let d := h.drives o
      { o with
        driven := d, changedAt := if d = o.driven then o.changedAt else now, suspect := o.suspect && !d
        readback := if d != o.driven then d || o.suspect || o.stuckOn || o.unexpected else o.readback } }

/-- SHORE_STUCK follows Shore's status line (R513). -/
def State.shoreLine (s : State) : State := s.modBw fun b => { b with shoreStuck := s.shore.outs.toList.any (·.stuckOn) }

/-- The port whose SLOT_OUT names an output. -/
def State.slotOf (s : State) (n : Nat) : Option Port := (List.finRange 12).find? fun p => decide (s.parN (PP_SLOT_OUT p) = n)
/-- The output is named by BRK_CLOSE_OUT or a SLOT_OUT (R509). -/
def State.owned (s : State) (n : Nat) : Bool := decide (s.parN P_BRK_CLOSE_OUT = n) || (s.slotOf n).isSome

/-- A host or tide demand on an output without an owner (R509, R64): a tide action of the same refresh frame prevails. -/
def Shore.setHost (h : Shore) (n : Fin 16) (v tide : Bool) : Shore :=
  if !tide && h.tideSet[n] then h
  else { h with hostDemand := vset h.hostDemand n v, tideSet := if tide then vset h.tideSet n true else h.tideSet }

/-- A tide FIELD_SET or FIELD_CLEAR of an entry that crossed at a tick; during host silence it changes only outputs with OUT_SAFE 2
(R518); of two actions of one tick the higher entry prevails (R64). -/
def State.tideField (s : State) (n : Nat) (v : Bool) (at_ entry : Nat) : State :=
  if h : n < 16 then
    let beaten := match s.shore.tideAt[n] with
      | some (t, e) => decide (t = at_ ∧ entry < e)
      | none => false
    if s.owned n || beaten || (s.shore.hostSilent && decide (s.parN (P_OUT_SAFE n) ≠ 2)) then s
    else s.modShore fun x => { x.setHost ⟨n, h⟩ v true with tideAt := vset x.tideAt ⟨n, h⟩ (some (at_, entry)) }
  else s

/-- A field side that gains power: counters 0, outputs off until a valid frame (R503, R507); the Headlands keep the last valid
input levels (R506), and a sag lasts until R514 ends it. [DEDUCED, unsafe: log 80] -/
def Shore.powerUp (h : Shore) (vfield now : Nat) : Shore :=
  { h with
    powered := true, silent := true, ran := false, vfield := vfield, counts := Vector.replicate 4 0
    outs := Vector.replicate 16 { changedAt := now }, ins := h.ins.map fun i => { i with level := false, changedAt := now } }

/-- A field side without power (R514). [DEDUCED, unsafe: log 80] -/
def Shore.powerDown (h : Shore) : Shore := { h with powered := false, outs := h.outs.map fun o => { o with driven := false, readback := false } }

/-- An output's driven state has stood for the 200 µs without readback checks and then for a time (R508). -/
def ShoreOut.stood (o : ShoreOut) (now us : Nat) : Bool := decide (o.changedAt + usTicks (200 + us) ≤ now)

/-- FIELD_OVERLOAD (R508, R510): low for 1 ms. -/
def execFieldOverload (n : Fin 16) (s : State) : Res :=
  if s.shore.outs[n].driven && s.shore.outs[n].stood s.clk.now 1000 then
    .next ((s.modShore fun h =>
      { h with outs := vmod h.outs n fun o =>
          { o with overLatch := true, overload := true, driven := false, readback := false, changedAt := s.clk.now } }).raise 0x80 n.val)
  else .next s

/-- Suspects that a pulse of output n has pulled low are UNEXPECTED_HIGH (R512). -/
def State.explainSuspects (s : State) (n : Fin 16) (readback : Nat) : State :=
  (List.finRange 16).foldl (fun (t : State) m =>
    if m ≠ n ∧ t.shore.outs[m].suspect ∧ !bit readback m.val then
      (t.modShore fun h => { h with outs := vmod h.outs m fun o => { o with suspect := false, unexpected := true } }).raise 0x82 m.val n.val
    else t) s

/-- FIELD_TEST_PULSE (R511 to R513): the pulse or joint pulse of output n, with every pin's level in its last 50 µs. [DEDUCED, unsafe: log 80] -/
def execFieldTestPulse (n : Fin 16) (readback : Nat) (abandoned : Bool) (s : State) : Res :=
  let o := s.shore.outs[n]
  let set := fun (t : State) (f : ShoreOut → ShoreOut) => t.modShore fun h => { h with outs := vmod h.outs n f }
  if !(bit (s.parN P_OUT_TEST_EN) n.val && o.driven) then .next s
  else if abandoned then
    .next (s.modShore fun h =>
      { h with
        abandoned := true
        outs := h.outs.map fun o => { o with suspectUntil := if o.suspect then max o.suspectUntil (s.clk.now + msTicks 1000) else o.suspectUntil } })
  else
    let s1 := s.explainSuspects n readback
    let low := !bit readback n.val
    if o.jointNext then
      if low then .next (set s1 fun o => { o with jointNext := false, joint := true })
      else
        let s2 := (set s1 fun o => { o with jointNext := false, stuckOn := true }).shoreLine
        .next (if o.stuckOn then s2 else s2.raise 0x81 n.val)
    else if low then .next ((set s1 fun o => { o with tested := true, stuckOn := false, unexpected := false }).shoreLine)
    else .next (set s1 fun o => { o with tested := false, jointNext := true })

/-- FIELD_SUSPECT (R508, R512): high for 1 ms; readback checks stop in a sag (R514). -/
def execFieldSuspect (n : Fin 16) (s : State) : Res :=
  let o := s.shore.outs[n]
  .next (if s.shore.ok && !o.driven && !o.suspect && o.stood s.clk.now 1000 then
    s.modShore fun h =>
      { h with outs := vmod h.outs n fun o => { o with suspect := true, readback := true, suspectUntil := s.clk.now + msTicks 1000 } } else s)

/-- FIELD_STUCK_ON (R512, R513): a suspect for 1 s, longer by the pulses abandoned meanwhile. -/
def execFieldStuckOn (n : Fin 16) (s : State) : Res :=
  if s.shore.outs[n].suspect && decide (s.shore.outs[n].suspectUntil ≤ s.clk.now) then
    .next (((s.modShore fun h => { h with outs := vmod h.outs n fun o => { o with suspect := false, stuckOn := true } }).raise 0x81 n.val).shoreLine)
  else .next s

/-- FIELD_STUCK_CLEAR (R513): low for 100 ms while commanded off. -/
def execFieldStuckClear (n : Fin 16) (s : State) : Res :=
  if s.shore.outs[n].driven || decide (s.clk.now < s.shore.outs[n].changedAt + msTicks 100) then .next s
  else .next ((s.modShore fun h =>
    { h with outs := vmod h.outs n fun o => { o with suspect := false, stuckOn := false, unexpected := false, readback := false } }).shoreLine)

/-- FIELD_SAG (R514): outputs off, inputs invalid; below 12 V the field side is unpowered. A sag that is already on begins no
second one. -/
def execFieldSag (vfield : Nat) (s : State) : Res :=
  if 1800 ≤ vfield then .next s else
  let s1 := s.modShore fun h =>
    let h1 := { h with sag := true, sagAt := s.clk.now, sagSeen := h.sagSeen || !h.sag, vfield := vfield }.drive s.clk.now
    if vfield < 1200 then h1.powerDown else h1
  .next (if s.shore.sag then s1 else s1.raise 0x83 0xFF vfield)

/-- FIELD_RESTORED (R514, R515): after 10 ms above 19.5 V; outputs with SAG_LATCH and demand on stay off, the others resume. -/
def execFieldRestored (vfield : Nat) (s : State) : Res :=
  if !s.shore.sag || !s.shore.powered || decide (vfield ≤ 1950) || decide (s.clk.now < s.shore.sagAt + msTicks 10) then .next s
  else
    let mask := s.parN P_SAG_LATCH
    .next ((s.modShore fun h =>
      { h with
        sag := false, vfield := vfield
        outs := Vector.ofFn fun (n : Fin 16) => { h.outs[n] with sagLatched := h.outs[n].sagLatched || (bit mask n.val && h.outs[n].demand) } }.drive s.clk.now).raise
        0x84 0xFF vfield)

/-- FIELD_SIDE_POWER_UP (R503, R507). -/
def execFieldSidePowerUp (vfield : Nat) (s : State) : Res :=
  .next (if s.shore.powered || decide (vfield < 1200) then s else (s.modShore (·.powerUp vfield s.clk.now)).shoreLine)

/-- SHORE_SILENCE (R517): 75 µs without a valid frame. -/
def execShoreSilence (s : State) : Res :=
  .next (if s.shore.silent || !s.shore.powered || decide (s.clk.now < s.shore.lastFrame + usTicks 75) then s
    else s.modShore fun h => { h with silent := true, silenceSeen := h.silenceSeen || h.ran, toReport := h.toReport || h.ran }.drive s.clk.now)

/-- HOST_SILENCE (R518): HOST_TIMEOUT without a request; outputs without an owner take OUT_SAFE. -/
def execHostSilence (s : State) : Res :=
  if !s.awake || s.shore.hostSilent || decide (s.clk.now < s.shore.hostAt + msTicks (10 * s.parN P_HOST_TIMEOUT)) then .next s
  else
    let dem := fun (n : Fin 16) =>
      let safe := s.parN (P_OUT_SAFE n)
      if s.owned n || decide (safe = 2) then s.shore.hostDemand[n] else decide (safe = 1)
    .next ((s.modShore fun h => { h with hostSilent := true, hostDemand := Vector.ofFn dem }).raise 0x86 0xFF (s.parN P_HOST_TIMEOUT * 10))

/-- COUNTER_EDGE (R507). -/
def execCounterEdge (n : Fin 4) (s : State) : Res :=
  .next (if bit (s.parN P_COUNT_EN) n.val && s.shore.inValid then
    s.modShore fun h => { h with counts := vmod h.counts n fun c => (c + 1) % 2 ^ 32 } else s)

/-- FIELD_INPUT_CHANGE (R505): the field side's filtered level, no sooner than IN_FILTER after its last change, or 5 µs where that
is 0. -/
def execFieldInputChange (n : Fin 16) (level : Bool) (s : State) : Res :=
  let i := s.shore.ins[n]
  .next (if s.shore.powered && i.level != level && decide (i.changedAt + usTicks (max 5 (100 * s.parN (P_IN_FILTER n))) ≤ s.clk.now) then
    s.modShore fun h => { h with ins := vmod h.ins n fun i => { i with level := level, changedAt := s.clk.now } } else s)

/-! ### Pads and Lookout -/

/-- The class that a wake rule on loops asks for. -/
def WakeRule.loopCode (u : WakeRule) : Nat := if u.cond = 1 then 1 else if u.cond = 2 then 0 else 2

/-- Loop p meets a rule at a tick: it has come to the class in this STANDBY and held it for FILTER. -/
def Lookout.loopMeets (k : Lookout) (u : WakeRule) (now : Nat) (p : Port) : Bool :=
  heldFor now (msTicks u.filter) k.loopAt[p] && (decide (u.cond = 4) || decide (k.loops[p] = u.loopCode))

/-- Pad j meets a rule at a tick: touched for FILTER. -/
def Lookout.padMeets (k : Lookout) (u : WakeRule) (now : Nat) (j : Fin 4) : Bool := k.pads[j] && decide (k.padAt[j] + msTicks u.filter ≤ now)

/-- A wake rule's condition has held for FILTER (R521). -/
def Lookout.meets (k : Lookout) (u : WakeRule) (now : Nat) : Bool :=
  ((List.finRange 12).any fun p => (decide (u.source = 0x0C) || decide (u.source = p.val)) && k.loopMeets u now p) ||
    (List.finRange 4).any fun j => (decide (u.source = 0x14) || decide (u.source = 0x10 + j.val)) && k.padMeets u now j

/-- The condition of a wake rule on pads has lapsed where none of its pads is touched (R521). [DEDUCED, unsafe: log 79] -/
def Lookout.lapse (k : Lookout) : Lookout :=
  let on := fun (r : Nat) =>
    match k.rules[r]? with
    | some u => if u.source = 0x14 then k.pads.toList.any id else if 0x10 ≤ u.source then k.pads.toList.getD (u.source - 0x10) false else true
    | none => false
  { k with latched := maskOf 16 fun r => bit k.latched r && on r }

/-- A report of loop p ends the conditions on loops that no longer hold (R521): "any change" with the next report. [DEDUCED, unsafe: log 79] -/
def Lookout.lapseLoop (k : Lookout) (p : Nat) : Lookout :=
  let holds := fun (u : WakeRule) =>
    if u.source = 0x0C then decide (u.cond ≠ 4) && k.loops.toList.contains u.loopCode
    else if u.source = p then decide (u.cond ≠ 4) && decide (k.loops.toList.getD p 0 = u.loopCode)
    else true
  { k with latched := maskOf 16 fun r => bit k.latched r && ((k.rules[r]?).map holds).getD false }

/-- PANEL_TOUCH (R519): an event outside STANDBY. -/
def execPanelTouch (k : Fin 4) (s : State) : Res :=
  if s.lookout.pads[k] then .next s
  else
    let s1 := s.modLookout fun o => { o with pads := vset o.pads k true, padAt := vset o.padAt k s.clk.now }
    .next (if s.dev = .standby then s1 else s1.raise 0x87 k.val)

/-- PAD_HOLD_TIMEOUT (R519): held for more than 60 s. [DESIGN CHOICE, unsafe: log 2] -/
def execPadHoldTimeout (k : Fin 4) (s : State) : Res :=
  .next (if s.lookout.padAt[k] + msTicks 60000 < s.clk.now then s.modLookout fun o => { o with pads := vset o.pads k false }.lapse else s)

/-- PAD_RELEASE (R519). -/
def execPadRelease (k : Fin 4) (s : State) : Res := .next (s.modLookout fun o => { o with pads := vset o.pads k false }.lapse)

/-- WAKE_RULE_FIRE (R521, R522): in STANDBY, for a rule of the table whose condition has held for FILTER and that has not fired since
it lapsed. [DEDUCED, unsafe: log 79] -/
def execWakeRuleFire (r : Fin 16) (s : State) : Res :=
  match s.dev, s.lookout.rules[r.val]? with
  | .standby, some u =>
    .next (if bit s.lookout.latched r.val || !s.lookout.meets u s.clk.now then s
      else s.modLookout fun k =>
        let k1 := { k with fired := k.fired ||| 2 ^ r.val, latched := k.latched ||| 2 ^ r.val }
        if u.action = 2 then { k1 with notes := satInc 32 k1.notes }
        else if k1.waking && decide (k1.lastWake < 0x80 + r.val) then k1
        else { k1 with waking := true, lastWake := 0x80 + r.val })
  | _, _ => .next s

/-- WAKE_N_LOW (R521, R522): WAKE_N prevails over the rules. [DEDUCED, unsafe: log 79] -/
def execWakeNLow (s : State) : Res :=
  let s1 := s.modLookout fun k => { k with wakeN := true }
  .next (if s.dev = .standby then s1.modLookout fun k => { k with waking := true, lastWake := 1 } else s1)

/-! ### Heartwood -/

/-- gate_budget_w in 0.01 W from VSUP in 10 mV (R44), before the factor of R541. -/
def gateBudget (vsup : Nat) : Rat :=
  let v : Rat := (vsup : Rat) / 100
  if 16 ≤ v then 9600 else if 6 ≤ v then 2400 + 720 * (v - 6) else ratMax 0 (4800 * (v - 55 / 10))

/-- The budget in force from VSUP and the baseplate, in 0.01 W, and an island's limit (R44, R45, R541). [DESIGN CHOICE, unsafe: log 111] -/
def budgetOf (vsup : Nat) (tbase : Int) : Nat := (gateBudget vsup * ratClamp ((1150 - tbase : Int) / 100 : Rat) 0 1 + 1 / 2).floor.toNat
/-- An island's share of the gate budget (R44). [DESIGN CHOICE, unsafe: log 111] -/
def islandLimit (budget : Nat) : Nat := budget / 12

/-- Heartwood takes VSUP in 10 mV and the baseplate in 0.1 °C: the budget, GATE_DERATED and its two events (R44, R541). -/
def State.setBudget (s : State) (vsup : Nat) (tbase : Int) : State :=
  let budget := budgetOf vsup tbase
  let derated := decide (vsup < 1600) || decide (1050 < tbase)
  let s1 := s.modHeart fun h =>
    { h with vsup := vsup, tBase := tbase, budget := budget, derated := derated, isoLimit := Vector.replicate 12 (islandLimit budget) }
  if derated && !s.heart.derated then s1.raise 0xC8 0x33 vsup budget
  else if !derated && s.heart.derated then s1.raise 0xC9 0x33 vsup budget else s1

/-- After a lock-out no budget applies until the next power-up (R44). -/
def Heartwood.noBudget (h : Heartwood) (vsup : Nat) : Heartwood :=
  { h with vsup := vsup, budget := 0, isoLimit := Vector.replicate 12 0, derated := decide (vsup < 1600) || decide (1050 < h.tBase) }

/-- GATE_BUDGET_UPDATE (R44, R45, R541): every 1 ms; the converters stand still while a lock-out stands. -/
def execGateBudgetUpdate (vsup : Nat) (tbase : Int) (s : State) : Res :=
  let hot := if 950 < tbase then true else if tbase < 930 then false else s.heart.baseHot
  let s1 := if s.heart.lockedOut then s.modHeart fun h => { h with tBase := tbase }.noBudget vsup else s.setBudget vsup tbase
  let s2 := s1.modHeart fun h => { h with baseHot := hot }
  .next (if hot && !s.heart.baseHot then s2.raise 0xC6 0x33 (sArg tbase) else s2)

/-- A measured value may have passed a threshold of R538, which is accurate to 2 %, downwards or upwards. -/
def maybeBelow (v threshold : Nat) : Bool := decide (100 * v < 102 * threshold)
def maybeAbove (v threshold : Nat) : Bool := decide (98 * threshold < 100 * v)

/-- An event of Heartwood, where a Headland has its supply to log it. -/
def State.heartEvent (s : State) (code a0 : Nat) : State := if s.dev = .standby then s else s.raise code 0x33 a0

/-- VSUP_LOW (R538): below VSUP_WARN, once. -/
def execVsupLow (vsup : Nat) (s : State) : Res :=
  .next (if s.heart.vsupLow || !maybeBelow vsup (10 * s.parN P_VSUP_WARN) then s
    else (s.modHeart fun h => { h with vsupLow := true, vsup := vsup }).heartEvent 0xC3 vsup)

/-- VSUP_OK (R538): above VSUP_WARN + 0.5 V. -/
def execVsupOk (vsup : Nat) (s : State) : Res :=
  .next (if s.heart.vsupLow && maybeAbove vsup (10 * s.parN P_VSUP_WARN + 50) then
    (s.modHeart fun h => { h with vsupLow := false, vsup := vsup }).heartEvent 0xC4 vsup else s)

/-- IIN_LIMIT (R538): the input current, in mA, is at 9 A. -/
def execIinLimit (iin : Nat) (s : State) : Res :=
  .next (if maybeAbove iin 9000 then s.modHeart fun h => { h with iinLimit := true, iin := iin, iinAt := s.clk.now } else s)
/-- IIN_LIMIT_RELEASE (R538): below 8.5 A for 10 ms. -/
def execIinLimitRelease (iin : Nat) (s : State) : Res :=
  .next (if maybeBelow iin 8500 && decide (s.heart.iinAt + msTicks 10 ≤ s.clk.now) then s.modHeart fun h => { h with iinLimit := false, iin := iin } else s)

/-- ISLAND_SUPPLY_FAULT (R542): power-good false for 10 ms under a drive that runs. -/
def execIslandSupplyFault (l : Link) (s : State) : Res :=
  .next (if s.dev = .standby || s.sk[l].good || s.heart.isoAt[l].isSome || decide (s.clk.now < s.heart.downAt[l] + msTicks 10) then s
    else (s.modHeart fun h =>
      { h with drive := vset h.drive l false, isoFault := h.isoFault ||| 2 ^ l.val, isoAt := vset h.isoAt l (some s.clk.now) }).raise 0xC7 l.val)

/-- ISLAND_SUPPLY_RETRY (R542): 1 s after the drive stopped. -/
def execIslandSupplyRetry (l : Link) (s : State) : Res :=
  .next (if s.dev ≠ .standby && heldFor s.clk.now (msTicks 1000) s.heart.isoAt[l] then
    s.modHeart fun h => { h with drive := vset h.drive l true, downAt := vset h.downAt l s.clk.now, isoAt := vset h.isoAt l none } else s)

/-- ISLAND_POWER_GOOD (R209, R264): under a drive that has not stopped, the Skerry leaves reset, every latch clear, drivers off; its decimators restart.
[DEDUCED, unsafe: log 68, 96] -/
def execIslandPowerGood (l : Link) (s : State) : Res :=
  if s.dev = .standby || s.sk[l].good || s.heart.isoAt[l].isSome then .next s
  else
    let s1 := (s.modHeart fun h => { h with drive := vset h.drive l true }).dropSnaps (0x200000 + 0x1000 * l.val) 0x1000
    .next (((s1.modSk l fun k => { good := true, clockLocal := true, canTx := k.canTx }).modDec l fun d =>
      { d with chans := Vector.replicate 7 {}, head := none }).modUl l fun u => { u with seq := none })

/-- ISLAND_POWER_FAIL (R539): the Skerry is held in reset. -/
def execIslandPowerFail (l : Link) (s : State) : Res :=
  .next (if s.sk[l].good then
    ((s.dropSnaps (0x200000 + 0x1000 * l.val) 0x1000).modHeart fun h => { h with downAt := vset h.downAt l s.clk.now }).modSk l fun k =>
      { canTx := k.canTx } else s)

end Sys2Proof.Machine
end

