-- ==== Sys2Proof/Machine/Conf.lean ====
section
/-! DEFINITION. The parameter set with envelopes and BMS maps: wire layouts and PARAM_HASH (R143, R291, R449). -/
namespace Sys2Proof.Machine

/-- An envelope in the layout of Table 4.4. -/
def Envelope.bytes (n : Nat) (e : Envelope) : List Byte :=
  le 1 n ++ le 1 e.enable ++ le 1 e.vertices.length ++ le 1 e.confirm ++ e.vertices.flatMap fun v => le 4 v.1 ++ le 4 (toTwos 32 v.2)

/-- A BMS map entry in the layout of Table 9.3. -/
def MapEntry.bytes (m : MapEntry) : List Byte :=
  le 1 m.signal ++ le 1 m.flags ++ le 2 m.start ++ le 1 m.length ++ le 1 0 ++ le 2 m.timeout ++ le 4 m.id ++ le 4 (toTwos 32 m.scale) ++
    le 4 (toTwos 32 m.offset)

/-- A BMS map in the layout of R291. -/
def mapBytes (m : List MapEntry) : List Byte := le 1 m.length ++ zeros 3 ++ m.flatMap (·.bytes)

/-- A BMS map entry from its 20 bytes. -/
def mapEntryOf (b : List Byte) : MapEntry :=
  { signal := by8 b 0, flags := by8 b 1, start := rd b 2 2, length := by8 b 4, timeout := rd b 6 2, id := rd b 8 4,
    scale := ofTwos 32 (rd b 12 4), offset := ofTwos 32 (rd b 16 4) }

/-- PARAM_HASH of a set (R449). -/
def Conf.hash (c : Conf) (safetyCrc : Nat) : Nat :=
  crc32c ((hashedNumbers.flatMap fun n => le 2 n ++ le 4 (paramToWire (c.params.get n))) ++
    ((List.finRange 4).flatMap fun n => c.env[n].bytes n.val) ++ (c.maps.toList.flatMap mapBytes) ++ le 4 safetyCrc)

/-- Every Headland forms and stores the hash of its set again, after a change of the set or of SAFETY_CRC (R370, R397, R449). -/
def State.rehash (s : State) : State :=
  s.modBoth fun a =>
    let h := a.cfg.committed.hash s.bw.crc
    { a with cfg := { a.cfg with hash := a.cfg.hash.map fun _ => h }, pair := { a.pair with hashSelf := h } }

end Sys2Proof.Machine
end

