-- ==== Sys2Proof/Machine/Island.lean ====
section
/-! DEFINITION. The Skerry: frames, gates, supplies, desaturation, permit, contactors, latch, off-state tests, CAN FD
(07_port_islands_and_gate_drive.md). -/
namespace Sys2Proof.Machine

/-! ### Gates -/

/-- The other gate of the same leg. -/
def otherGate (g : Gate) : Gate := if g.val % 2 = 0 then gateL (legOfGate g) else gateH (legOfGate g)

/-- A leg in high impedance by its latch or its supplies (R223, R227). -/
def SkLeg.hiz (l : SkLeg) : Bool := decide (l.latch ≠ 0) || l.vlp || l.vln || l.vhn || l.vbs

/-- LEG_STATE code of a leg (Table 7.6). -/
def Skerry.legCode (k : Skerry) (i : Leg) : Nat :=
  let l := k.legs[i]
  if k.portHiz then 8 else if l.latch ≠ 0 then l.latch else if l.vlp then 5 else if l.vln || l.vhn then 6 else if l.vbs then 7 else 0
def Skerry.legState (k : Skerry) : Nat := ((List.finRange 4).map fun i => k.legCode i * 16 ^ i.val).sum

/-- A gate-off demand of the chapter stands for the gates of leg i (R217). -/
def Skerry.offDemand (k : Skerry) (i : Leg) : Bool :=
  !k.good || !k.permGates || !k.gatesArmed || k.trip || k.dlLoss || k.portHiz || k.legs[i].hiz

/-- Turn a gate off at its ordinary strength; a soft turn-off goes on (R226). -/
def SkGate.turnOff (g : SkGate) (now : Nat) : SkGate :=
  { g with on := false, held := none, offAt := if g.on then some now else g.offAt }

/-- The driver turns a gate on. -/
def SkGate.turnOn (g : SkGate) (now : Nat) : SkGate := { g with held := none, on := true, onAt := now }

def Skerry.gatesOff (k : Skerry) (now : Nat) : Skerry := { k with gates := k.gates.map (·.turnOff now) }
def Skerry.legOff (k : Skerry) (now : Nat) (i : Leg) : Skerry :=
  { k with gates := vmod (vmod k.gates (gateH i) (·.turnOff now)) (gateL i) (·.turnOff now) }

/-- Ticks since the other gate began turning off; none where it never did. -/
def SkGate.since (g : SkGate) (now : Nat) : Option Nat := g.offAt.map (now - ·)

/-- The fixed interlock in ticks: 80 ns (R218). -/
def interlockTicks : Nat := 32

/-- An on-transition of a direct edge channel (R217, R218). -/
def Skerry.chanOn (k : Skerry) (now : Nat) (g : Gate) : Skerry :=
  let o := otherGate g
  let k1 := { k with gates := vmod k.gates g fun x => { x with chan := true, chanAt := some now, held := none } }
  if k.offDemand (legOfGate g) || k.gates[g].on || k.gates[g].soft then k1
  else if k.gates[o].on then
    if k.gates[o].chanAt = some now then
      { k1 with bothOn := true, gates := vmod k1.gates o fun x => { x with on := false } }
    else { k1 with bothOn := true }
  else if k.gates[o].held.isSome && decide (k.gates[o].chanAt = some now) then
    { k1 with bothOn := true, gates := vmod k1.gates o fun x => { x with held := none } }
  else match k.gates[o].since now with
    | some t =>
      if t < interlockTicks then
        { k1 with
          gates := vmod k1.gates g fun x => { x with held := some now }
          interlockHold := k.interlockHold || decide (t + 1 < interlockTicks) }
      else { k1 with gates := vmod k1.gates g (·.turnOn now) }
    | none => { k1 with gates := vmod k1.gates g (·.turnOn now) }

/-- An off-transition (R216, R218). -/
def Skerry.chanOff (k : Skerry) (now : Nat) (g : Gate) : Skerry :=
  { k with gates := vmod k.gates g fun x => { x.turnOff now with chan := false } }

/-- The interlock still holds a gate: the other gate of its leg began turning off less than 80 ns ago (R218). -/
def Skerry.interlocked (k : Skerry) (now : Nat) (g : Gate) : Bool :=
  match k.gates[otherGate g].since now with
  | some t => decide (t < interlockTicks)
  | none => false

/-- The interlock hold of a gate expires (R217, R218). -/
def Skerry.holdEnd (k : Skerry) (now : Nat) (g : Gate) : Skerry :=
  let x := k.gates[g]
  if k.interlocked now g then k
  else if x.held.isSome && x.chan && !x.soft && !k.offDemand (legOfGate g) && !k.gates[otherGate g].on then
    { k with gates := vmod k.gates g (·.turnOn now) }
  else { k with gates := vmod k.gates g fun x => { x with held := none } }

/-- A leg has just entered high impedance: the tick is noted, and PORT_HIZ latches where another leg entered within 1 µs while
GATE_EN is 1 (R228). -/
def Skerry.enterHiz (k : Skerry) (now : Nat) (i : Leg) : Skerry :=
  let near := (List.finRange 4).any fun j =>
    decide (j ≠ i) && (match k.legs[j].hizAt with
      | some t => decide (now - t ≤ 400)
      | none => false)
  let k1 := { k with legs := vmod k.legs i fun l => { l with hizAt := some now } }
  let k2 := k1.legOff now i
  if near && k.gateEn then { k2 with portHiz := true }.gatesOff now else k2

/-- Change a leg; entry into high impedance and release are noted. -/
def Skerry.modLeg (k : Skerry) (now : Nat) (i : Leg) (f : SkLeg → SkLeg) : Skerry :=
  let was := k.legs[i].hiz
  let k1 := { k with legs := vmod k.legs i f }
  let is := k1.legs[i].hiz
  if is && !was then k1.enterHiz now i
  else if !is then { k1 with legs := vmod k1.legs i fun l => { l with hizAt := none } }
  else k1

/-- Ticks after the turn-on command before which no fast short is confirmed: the mask ends 80 ns after it at the earliest (R225). -/
def fastMask : Nat := 32
/-- The same of a desaturation: DESAT_BLANK in 2.5 ns, and 50 ns of filter (R224). -/
def desatMask (blank : Nat) : Nat := blank + 20

/-- A confirmed desaturation or fast short of a gate that is on, its mask over (R224 to R227): soft turn-off, the leg latched. -/
def Skerry.shorted (k : Skerry) (now : Nat) (g : Gate) (fast : Bool) (mask : Nat) : Skerry :=
  if k.gates[g].on && k.good && decide (k.gates[g].onAt + mask ≤ now) then
    let code := (if fast then 3 else 1) + g.val % 2
    let k1 := { k with
      gates := vmod k.gates g fun x => { x with on := false, soft := true, held := none, offAt := some now }
      fastShort := if fast then k.fastShort ||| 2 ^ g.val else k.fastShort
      desat := if fast then k.desat else k.desat ||| 2 ^ g.val }
    k1.modLeg now (legOfGate g) fun l => { l with latch := if l.latch = 0 then code else l.latch }
  else k

/-- A soft turn-off reaches the off-level 0.85 µs after its start at the earliest (R226). -/
def SkGate.softEnd (g : SkGate) (now : Nat) : SkGate :=
  if g.soft && decide ((g.offAt.getD 0) + 340 ≤ now) then { g with soft := false } else g

/-- The bit of a supply in SkLeg.low. -/
def lowBit : GateSupply → Nat
  | .vlp => 0 | .vln => 1 | .vbs => 2 | .vhn => 3

/-- A gate supply passes its release level and remains above its lock-out (R230). -/
def Skerry.supplySags (k : Skerry) (i : Leg) (u : GateSupply) (low : Bool) : Skerry :=
  { k with legs := vmod k.legs i fun l =>
      { l with low := if low then l.low ||| 2 ^ lowBit u else if bit l.low (lowBit u) then l.low - 2 ^ lowBit u else l.low } }

/-- A gate supply passes its lock-out, or is released (Table 7.4). -/
def Skerry.supply (k : Skerry) (now : Nat) (i : Leg) (u : GateSupply) (low : Bool) : Skerry :=
  let k := k.supplySags i u low
  let b := if low then 2 ^ i.val else 0
  let k1 := match u with
    | .vlp => { k with uvPos := k.uvPos ||| b }
    | .vln | .vhn => { k with uvNeg := k.uvNeg ||| b }
    | .vbs => { k with bsUv := k.bsUv ||| b }
  k1.modLeg now i fun l => match u with
    | .vlp => { l with vlp := low }
    | .vln => { l with vln := low }
    | .vhn => { l with vhn := low }
    | .vbs => { l with vbs := low }

/-- Any supply lies beyond its release level (R230). -/
def Skerry.supplyLow (k : Skerry) : Bool := k.legs.toList.any fun l => decide (l.low ≠ 0)

/-- CLEAR_TRIP clears the leg latches and PORT_HIZ (R230). -/
def Skerry.clearLatches (k : Skerry) : Skerry :=
  { k with portHiz := false, legs := k.legs.map fun l => let m := { l with latch := 0 }; { m with hizAt := if m.hiz then m.hizAt else none } }

/-! ### Monitor and latch -/

/-- The latch monitor's density over 10 µs: ones of the last frames (R234, R249). -/
def monitorDensity (ones : List Nat) : Rat :=
  let n := 20 * ones.length
  if n = 0 then 0 else (2 * (ones.sum : Rat) - n) / n

/-- DC voltage in V and DC current in A of the latch monitor (R234, R249, R250). -/
def State.monitorDc (s : State) (p : Port) : Rat × Rat :=
  let m := s.sk[linkOf p].monitor
  (monitorDensity (m.map (·.1)) / (8 / 10) * s.parN (PP_V_FS p), monitorDensity (m.map (·.2)) / (8 / 10) * s.parN (PP_I_DC_FS p))

/-- The latch monitor finds all its conditions true (R234). -/
def State.latchClear (s : State) (p : Port) : Bool :=
  let k := s.sk[linkOf p]
  let dc := s.monitorDc p
  !k.gateEn && k.gates.toList.all (fun g => !g.on && !g.soft) && !k.coils[0].fb && !k.coils[1].fb &&
    decide (dc.1 < 60) && decide (ratAbs dc.2 < 1)

/-! ### The filters of the return word (R341) -/

/-- Output of an order-2 CIC filter with D = 32 on its last 63 bits, newest first: 1,024 stands for density 1. -/
def monitorOut (bits : List Bool) : Int :=
  (bits.mapIdx fun i b => let w : Int := min (i + 1) (63 - i); if b then w else -w).sum

/-- The monitors take the streams of one frame, 20 bits each, oldest first (R234, R341). -/
def Skerry.takeStreams (k : Skerry) (bits : Fin 6 → List Bool) : Skerry :=
  let ones := fun (j : Fin 6) => ((bits j).filter id).length
  { k with
    monitor := ((ones 4, ones 5) :: k.monitor).take 10
    taps := Vector.ofFn fun (j : Fin 6) => ((bits j).reverse ++ k.taps[j]).take 63 }

/-! ### Permit (R231, R345, R346) -/

/-- CRC-4 over bits [15:4] of a permit word (R345). -/
def crc4 (v : Nat) : Nat :=
  (List.range 12).foldl (fun r i =>
    let top := bit r 3 != bit v (11 - i)
    let sh := r * 2 % 16
    if top then sh ^^^ 3 else sh) 0

/-- KIND codes of Table 11.4. -/
def kindOf (c : Nat) : Option Kind :=
  if c = 0b1001 then some .run else if c = 0b0110 then some .sgo else if c = 0b1100 then some .unlock else if c = 0b0011 then some .off else none
def Kind.wire : Kind → Nat
  | .run => 0b1001 | .sgo => 0b0110 | .unlock => 0b1100 | .off => 0b0011
/-- What a kind permits: gates, contactor drivers, latch driver (Table 11.4). -/
def kindGrants (c : Option Nat) : Bool × Bool × Bool :=
  match c.bind kindOf with
  | some .run => (true, true, false)
  | some .sgo => (false, true, false)
  | some .unlock => (false, false, true)
  | some .off | none => (false, false, false)

/-- The permit word of a kind (R345). -/
def permitWord (count : Nat) (k : Kind) : Nat :=
  let v := count % 256 * 16 + k.wire
  v * 16 + crc4 v

/-- Both of a channel's last two words grant. [DEDUCED, unsafe: log 70] -/
def PermitChan.grants (c : PermitChan) (f : Bool × Bool × Bool → Bool) : Bool := f (kindGrants c.kinds.1) && f (kindGrants c.kinds.2)

/-- The last words of two channels are valid and of different kinds (R231). -/
def PermitChan.differs (a b : PermitChan) : Bool :=
  match a.kinds.1, b.kinds.1 with
  | some x, some y => decide (x ≠ y)
  | _, _ => false

/-- A permission is withdrawn or granted: forbidden gates go off, drivers need a new transition (R346, R231). -/
def Skerry.setPerms (k : Skerry) (now : Nat) (g c l : Bool) : Skerry :=
  let since := fun (was is : Bool) (t : Option Nat) => if is then none else if was then some now else t
  let k1 := { k with
    permGates := g, permCoils := c, permLatch := l
    coilsLost := since k.permCoils c k.coilsLost, latchLost := since k.permLatch l k.latchLost
    gatesArmed := k.gatesArmed && g
    coils := k.coils.map fun x => { x with armed := x.armed && c }
    latchArmed := k.latchArmed && l }
  if g then k1 else k1.gatesOff now

/-- A permit word on channel A (false) or B (R345, R346). [DEDUCED, unsafe: log 70] -/
def Skerry.permitWord (k : Skerry) (now : Nat) (chan : Bool) (word : Nat) : Skerry :=
  let w := if chan then (word ^^^ 0xFFFF) % 2 ^ 16 else word % 2 ^ 16
  let ci : Fin 2 := if chan then 1 else 0
  let c := k.chans[ci]
  let crcOk := decide (crc4 (w / 16) = w % 16)
  let count := w / 256
  let kind := w / 16 % 16
  let ok := crcOk && (kindOf kind).isSome && (match c.count with
    | some p => decide (count = (p + 1) % 256)
    | none => false)
  let c1 : PermitChan :=
    { count := if crcOk then some count else c.count, kinds := (if ok then some kind else none, c.kinds.1), validAt := if ok then now else c.validAt }
  let chans := vset k.chans ci c1
  let k1 := { k with
    chans := chans, echo := if chan || !crcOk then k.echo else (count, k.echo.1)
    disagreeFrom := if chans[0].differs chans[1] then some (k.disagreeFrom.getD now) else none }
  let g := kindGrants (if ok then some kind else none)
  let both := fun (f : Bool × Bool × Bool → Bool) => k1.chans.toList.all (·.grants f)
  let live := k1.chans.toList.all fun c => c.kinds.1.isSome && c.kinds.2.isSome
  let k2 := { k1 with permit := k.permit || live }
  if ok then
    k2.setPerms now ((k.permGates && g.1) || both (·.1)) ((k.permCoils && g.2.1) || both (·.2.1)) ((k.permLatch && g.2.2) || both (·.2.2))
  else k2

/-- Either channel has carried no valid word for 20 µs, or the two have disagreed for 20 µs (R231). [DEDUCED, unsafe: log 70] -/
def Skerry.permitGone (k : Skerry) (now : Nat) : Bool :=
  k.permit && (k.chans.toList.any (fun c => decide (c.validAt + 8000 ≤ now)) || (match k.disagreeFrom with
    | some t => decide (t + 8000 ≤ now)
    | none => false))

/-- The permit is taken as absent (R231). -/
def Skerry.permitAbsent (k : Skerry) (now : Nat) : Skerry :=
  { k.setPerms now false false false with
    permit := false, permitLost := true, disagreeFrom := none, chans := k.chans.map fun c => { c with kinds := (none, none) } }

/-! ### Downlink frames -/

/-- A frame's CRC of R212 over the port number, SEQ and bytes from 2 on. [DEDUCED, unsafe: log 66] -/
def linkCrc (l : Link) (bytes : List Byte) (len : Nat) : Nat :=
  crc16 (BitVec.ofNat 8 l.val :: BitVec.ofNat 8 (by8 bytes 1) :: (bytes.drop 2).take len)

/-- SOF and CRC right and SEQ as expected (R212). [DEDUCED, unsafe: log 66] -/
def frameGood (sof : Nat) (l : Link) (bytes : List Byte) (len : Nat) (expect : Option Nat) : Bool :=
  decide (by8 bytes 0 = sof) && decide (linkCrc l bytes len = rdBe bytes (len + 2) 2) &&
    (match expect with
     | some e => decide (by8 bytes 1 = e)
     | none => true)

/-- The SEQ that the next slot must carry. [DEDUCED, unsafe: log 65] -/
def nextSeq (good : Bool) (seq : Nat) (expect : Option Nat) : Option Nat :=
  if good then some ((seq + 1) % 256) else expect.map fun e => (e + 1) % 256

/-- An abort of the off-state tests (R238). -/
def Skerry.abortDiag (k : Skerry) : Skerry :=
  if k.diag.state = 1 then { k with diag := { k.diag with state := 3 }, diagAborted := true } else k

/-- A bad downlink frame or a missing one (R212, R213). [DEDUCED, unsafe: log 65, 68] -/
def Skerry.badFrame (k : Skerry) (now : Nat) : Skerry :=
  let run := min 4 (k.dlRun + 1)
  let k1 := { k with
    dlRun := run, dlBad := satInc 16 k.dlBad, dlGood := 0, dlSeq := k.dlSeq.map fun e => (e + 1) % 256
    clockLocal := k.clockLocal || decide (run = 4) }
  if run = 4 then { k1 with dlLoss := true }.gatesOff now else k1

/-- One contactor driver under a new CMD bit (R231, R232). [DEDUCED, unsafe: log 71] -/
def Coil.command (c : Coil) (now : Nat) (cmd perm : Bool) : Coil :=
  let armed := perm && cmd && (c.armed || !c.cmd)
  { c with
    cmd := cmd, cmdAt := if cmd = c.cmd then c.cmdAt else now
    armed := armed, on := armed, pull := armed && (c.pull || !c.on), pullAt := if armed && !c.on then now else c.pullAt }

/-- What a good downlink frame is to every Skerry: the run of good frames, GATE_EN, TRIP, DIAG_GO (R211, R213). -/
def Skerry.heard (k : Skerry) (cmd : Nat) : Skerry :=
  let good := min 16 (k.dlGood + 1)
  { k with
    dlGood := good, dlRun := 0, clockLocal := false
    dlLoss := k.dlLoss && !(decide (good = 16) && !bit cmd 7)
    gateEn := bit cmd 7, trip := bit cmd 6, diagGo := bit cmd 2 }

/-- The CMD byte of a good downlink frame at a port's Skerry (R211, R213, R215, R231, R232); the latch driver's conditions are
judged on the state after it. [DEDUCED, unsafe: log 71] -/
def Skerry.command (k : Skerry) (now cmd : Nat) : Skerry :=
  let en := bit cmd 7
  let latch := bit cmd 3
  let latchArmed := latch && k.permLatch && (k.latchArmed || !k.latchCmd)
  let k1 := { k.heard cmd with
    gatesArmed := en && k.permGates && (k.gatesArmed || !k.gateEn)
    coils := #v[k.coils[0].command now (bit cmd 5) k.permCoils, k.coils[1].command now (bit cmd 4) k.permCoils]
    latchCmd := latch, latchArmed := latchArmed, latchOn := k.latchOn && latchArmed }
  let k2 := if !en || bit cmd 6 then k1.gatesOff now else k1
  if en then k2.abortDiag else k2

/-- The latch driver energises where its command and its monitor allow (R234). -/
def Skerry.energise (k : Skerry) (now : Nat) (clear_ : Bool) : Skerry :=
  if k.latchArmed && !k.latchOn && clear_ then { k with latchOn := true, latchAt := now } else k

/-! ### Off-state tests (R235 to R238) -/

/-- Items of a test: GATE 8, DESAT 8, LEG 4 legs in two polarities, ISO two polarities (Table 7.8). -/
def diagItems (t : Nat) : Nat := if t = 3 then 2 else 8

/-- Put a code into a field of a result word. -/
def putField (w lo width v : Nat) : Nat := w - bitsOf w (lo + width - 1) lo * 2 ^ lo + v % 2 ^ width * 2 ^ lo

/-- The next selected test from t on, started now with a DC voltage in µV; DESAT and LEG are skipped where it exceeds 10 V (R237). -/
def Diag.seek (d : Diag) (now : Nat) (vdc : Int) : Nat → Nat → Diag
  | 0, _ => { d with state := 2 }
  | n + 1, t =>
    if 4 ≤ t then { d with state := 2 }
    else if !bit d.tests t then d.seek now vdc n (t + 1)
    else if (t = 1 ∨ t = 2) ∧ 10000000 < vdc then
      (if t = 1 then { d with desat := 0xAAAA } else { d with leg := 0x3333 }).seek now vdc n (t + 1)
    else { d with test := t, item := 0, itemAt := now, vdc := vdc }

/-- Start the tests (R235). [DEDUCED, unsafe: log 73] -/
def Diag.start (tests now : Nat) (vdc : Int) : Diag := Diag.seek { state := 1, tests := tests } now vdc 5 0

/-- Ticks of the item that runs: 1 ms, 1 ms, 2 ms, ISO_SETTLE in 10 ms (Table 7.8). -/
def Diag.itemTicks (d : Diag) (settle : Nat) : Nat := msTicks (if d.test < 2 then 1 else if d.test = 2 then 2 else 10 * settle)

/-- The judged reading of one item, in µV (Table 7.8). [DEDUCED, unsafe: log 73] -/
def Diag.itemDone (d : Diag) (isoMin now : Nat) (vdc v : Int) : Diag :=
  let d1 :=
    if d.test = 0 then
      { d with gate := putField d.gate (2 * d.item) 2 (if -50000 ≤ v then 1 else if v ≤ -4500000 then 2 else 0) }
    else if d.test = 1 then { d with desat := putField d.desat (2 * d.item) 2 (if 14500000 ≤ v then 1 else 0) }
    else if d.test = 2 then
      let k := d.item / 2
      let code := if 14500000 ≤ v then 2
        else if d.item % 2 = 0 then (if v < d.vdc + 300000 then 1 else 0)
        else if -300000 < v then 1 else 0
      let was := bitsOf d.leg (4 * k + 3) (4 * k)
      { d with leg := putField d.leg (4 * k) 4 (if d.item % 2 = 0 || was = 0 then code else was) }
    else if d.item = 0 then { d with first := v }
    else
      let r := fun (x : Int) => min 500 (x.natAbs / 100000)
      let low := min (r d.first) (r v)
      { d with isoK := low, iso := if isoMin ≤ low then 0 else 1 }
  if d.item + 1 < diagItems d.test then { d1 with item := d.item + 1, itemAt := now } else d1.seek now vdc 5 (d.test + 1)

/-- A run with every test that reports PASS for every item (R237). -/
def Diag.passed (d : Diag) : Bool :=
  decide (d.state = 2) && decide (d.tests = 0xF) && decide (d.gate = 0) && decide (d.desat = 0) && decide (d.leg = 0) && decide (d.iso = 0)

/-! ### Registers (Table 7.10) -/

/-- SKERRY_STATUS. -/
def Skerry.status (k : Skerry) : Nat :=
  wordOf [(31, 1, b2n k.permit), (30, 1, b2n k.gateEn), (29, 1, b2n k.dlLoss), (28, 1, b2n k.portHiz), (27, 1, b2n k.clockLocal),
    (26, 1, b2n (decide (k.diag.state = 1))), (25, 1, b2n k.canBusOff), (24, 1, b2n k.latchOn), (23, 1, b2n k.coils[1].on),
    (22, 1, b2n k.coils[0].on), (21, 1, b2n k.coils[1].fb), (20, 1, b2n k.coils[0].fb), (0, 16, k.legState)]

end Sys2Proof.Machine
end

