-- ==== Sys2Proof/Machine/Breakwater.lean ====
section
/-! DEFINITION. Breakwater: verdicts and latches, permit kinds, inputs and test pulses, faults and lock-out, the deliberate
reset, commissioning, safety messages (11_safety_channel.md). -/
namespace Sys2Proof.Machine

def Breakwater.par (b : Breakwater) (n : Nat) : Nat := (b.params.get n).toNat

/-! ### The safety set -/

/-- CRC-32C of a safety set: each number and value in ascending order (R369). -/
def safetyCrcOf (ps : ParamStore) : Nat := crc32c (safetyNumbers.flatMap fun n => le 2 n ++ le 4 (paramToWire (ps.get n)))

/-- The first two checks of R369: SLC_LIM and SLV_MAX against a functional set. -/
def safetyAgainst (ps conf : ParamStore) : Bool :=
  (List.range 12).all fun p =>
    decide (250 * ((conf.get (PP_I_OC_TRIP p) : Int) : Rat) / (conf.get (PP_I_FS p) : Rat) < (ps.get (P_SLC_LIM p) : Rat) / 10) &&
    decide (1000 * ((conf.get (PP_V_DC_MAX p) : Int) : Rat) / (conf.get (PP_V_FS p) : Rat) < (ps.get (P_SLV_MAX p) : Rat))

/-- The checks of R369. -/
def safetyChecks (ps conf : ParamStore) : Bool :=
  safetyAgainst ps conf &&
    (List.range 8).all fun n =>
      let mode := ps.get (P_SI_MODE n)
      let tp := ps.get (P_SI_TP n)
      (!(decide (mode = 1) || decide (mode = 2)) || (decide (tp % 16 < 4) && decide (tp / 16 % 16 < 4))) &&
        (!decide (mode = 3) || decide (10 ≤ ps.get (P_SI_FILTER n)))

/-! ### Lock-out and faults -/

/-- A module demand or fault locks the Unyar out; an armed reset ends (R360, Table 11.6, R371). -/
def State.lockOut (s : State) (cause : Nat) : State :=
  let s1 := s.modBw fun b =>
    { b with lockout := true, resetArmed := false, lockouts := if b.lockout then b.lockouts else satInc 16 b.lockouts }
  match s.dev with
  | .standby | .boot | .lockout => s1
  | .idle | .ready | .sync | .forming | .tripped | .service => s1.setDev .lockout cause

/-- SAFETY_FAULT with its code; FIRST_CAUSE; an armed reset ends (R359, R373). -/
def State.safetyFault (s : State) (code source : Nat) : State :=
  (s.modBw fun b => { b with resetArmed := false, firstCause := if b.firstCause = 0 then code else b.firstCause }).raise 0x91 source code

/-- A module fault of Table 11.5; all but RESET_STUCK set sdc_mod. -/
def State.moduleFault (s : State) (code source : Nat) : State :=
  let s1 := s.safetyFault code source
  (if code = 7 then s1 else s1.modBw fun b => { b with sdcMod := true }).lockOut 0x91

/-- A module fault of Table 11.5 stands. -/
def Breakwater.moduleFaulty (b : Breakwater) : Bool :=
  b.inputs.toList.any (fun i => i.pulseFault || i.discFault) || b.resetPulseFault || b.tpFault.toList.any id || b.soFault ||
    b.laneFault || b.cfgFault || b.stuckFault

/-- The clearing condition of an input's faults (Table 11.5, codes 0x01 and 0x02). -/
def SafeInput.clearable (i : SafeInput) : Bool :=
  (!i.pulseFault || i.chans.toList.all fun c => decide (2 ≤ c.passed)) && (!i.discFault || i.discOk)

/-- The clearing conditions of a port's faults (Table 11.5). -/
def BwPort.clearable (b : BwPort) (now : Nat) : Bool :=
  (!b.returnLost || heldFor now (msTicks 100) b.validFrom) && (!b.chDisc || heldFor now (msTicks 100) b.agreeFrom) &&
    (!b.sdcFb || (b.fb0Open && b.fb1Open))

/-- The input is used (R353). -/
def Breakwater.used (b : Breakwater) (n : Nat) : Bool := decide (b.par (P_SI_MODE n) ≠ 0)

/-- Every condition under which a deliberate reset may arm or act (R362, R363): no input in demand, every clearing condition of
Table 11.5, no message source demanding or timed out, HL_LOST 0. RESET_STUCK is judged at arming only; an unused input is in no
demand and has nothing to pass. -/
def Breakwater.resettable (b : Breakwater) (now : Nat) (arming : Bool) : Bool :=
  !b.hlLost && ((List.finRange 8).all fun n =>
      !b.used n.val || (b.inputs[n].clearable && b.inputs[n].chans.toList.all fun c => !c.demand)) &&
    (!b.resetPulseFault || decide (2 ≤ b.resetChan.passed)) &&
    ((List.finRange 4).all fun n => !b.tpFault[n] || heldFor now (msTicks 100) b.tpGood[n]) &&
    (!b.laneFault || heldFor now (msTicks 100) b.laneAgree) && !b.cfgFault &&
    (!arming || !b.stuckFault || heldFor now (msTicks 1000) b.releasedAt) &&
    b.ports.toList.all (·.clearable now) &&
    ((List.finRange 4).all fun j => decide (b.par (P_SM_RX_ID j) = 0) || !(b.sources[j].timedOut || b.sources[j].sgo || b.sources[j].sdc))

def Breakwater.anyPortLockout (b : Breakwater) : Bool := b.ports.toList.any (·.portLockout)

/-! ### Verdicts and latches (R341 to R351) -/

/-- Threshold codes of R342; currents in 0.1 mV, voltages in mV. -/
def codeI (tenths : Nat) : Nat := tenths * 1024 / 3125
def codeV (mv : Nat) : Nat := mv * 1024 / 1250

/-- Ticks since which the two verdicts are quiet, differ, agree (R344, R351, R359). -/
def BwPort.noteVerdicts (b : BwPort) (now : Nat) : BwPort :=
  let quiet := fun (j : Fin 3) => !b.own[j] && !b.firm[j]
  let differ := fun (j : Fin 3) => b.own[j] != b.firm[j]
  { b with
    quietFrom := Vector.ofFn fun j => if quiet j then some (b.quietFrom[j].getD now) else none
    differFrom := Vector.ofFn fun j => if differ j then some (b.differFrom[j].getD now) else none
    agreeFrom := if (List.finRange 3).any differ then none else some (b.agreeFrom.getD now) }

/-- Latch the functions that a verdict demands: port trip and SAFETY_LIMIT (R350). -/
def State.latchLimits (s : State) (p : Port) : State :=
  let l := linkOf p
  (List.finRange 3).foldl (fun (s : State) j =>
    let b := s.bw.ports[l]
    if (b.own[j] || b.firm[j]) && !b.latch[j] then
      let s1 := s.modBw fun x => { x with resetArmed := false, ports := vmod x.ports l fun b => { b with latch := vset b.latch j true } }
      (s1.tripPort p .limit).raise 0x92 p.val (j.val + 1) (b2n b.own[j] + 2 * b2n b.firm[j])
    else s) s

/-- CLEAR_REQ clears each latch whose verdicts have both been quiet for 100 ms (R351). -/
def BwPort.clearLatches (b : BwPort) (now : Nat) : BwPort :=
  if b.clearReq then
    { b with latch := Vector.ofFn fun j => b.latch[j] && !heldFor now (msTicks 100) b.quietFrom[j] }
  else b

/-- CRC-7 of a return word over [47:7] (Table 11.3). -/
def crc7 (w : Nat) : Nat :=
  (List.range 41).foldl (fun r i =>
    let top := bit r 6 != bit w (47 - i)
    let sh := r * 2 % 128
    if top then sh ^^^ 9 else sh) 0x7F

/-- The return word that a Skerry forms (R341); of Skerry G only ECHO and CHECK. -/
def Skerry.returnWord (k : Skerry) (isG : Bool) : Nat :=
  let y := fun (j : Fin 6) => monitorOut k.taps[j]
  let imax := min 1023 ((List.finRange 4).foldl (fun m j => max m (y (j.castLE (by omega))).natAbs) 0)
  let fields := if isG then [] else
    [(30, 10, imax), (20, 10, min 1023 (y 4).toNat), (9, 11, toTwos 11 (max (-1024) (min 1023 (y 5)))), (8, 1, b2n !k.coils[0].fb),
      (7, 1, b2n !k.coils[1].fb)]
  let w := wordOf ((40, 8, k.echo.2) :: fields)
  w + crc7 w

/-- A return word with the right CHECK and ECHO (R341). [DEDUCED, unsafe: log 70] -/
def BwPort.validWord (b : BwPort) (w : Nat) : Bool :=
  decide (crc7 w = w % 128) && decide (b.sent[1]? = some (bitsOf w 47 40))

/-- SLD's own verdict: the mean of the last 500 IDC in a direction that SLD_DIR forbids (R350). [DEDUCED, unsafe: log 53] -/
def sldVerdict (dir tol : Nat) (idcs : List Int) : Bool :=
  decide (idcs.length = 500) &&
    ((decide (dir = 1) && decide ((500 * tol : Int) < idcs.sum)) || (decide (dir = 2) && decide (idcs.sum < -(500 * tol : Int))))

/-- A valid return word of a port (R341, R348, R350). -/
def BwPort.word (b : BwPort) (now w slc slv dir tol sclV sclI : Nat) : BwPort :=
  let imax := bitsOf w 39 30
  let vdc := bitsOf w 29 20
  let idc := ofTwos 11 (bitsOf w 19 9)
  let f0 := bit w 8
  let f1 := bit w 7
  let slcRun := if slc < imax then min 5 (b.slcRun + 1) else 0
  let slvRun := if slv < vdc then min 5 (b.slvRun + 1) else 0
  let idcs := (idc :: b.idcs).take 500
  let ok := decide (vdc < sclV) && decide (idc.natAbs < sclI) && f0 && f1
  { b with
    imax := imax, vdc := vdc, idc := idc, fb0Open := f0, fb1Open := f1, slcRun := slcRun, slvRun := slvRun, idcs := idcs
    okRun := if ok then min 5 (b.okRun + 1) else 0
    validFrom := some (b.validFrom.getD now), lastAt := now, lossTold := false
    own := #v[decide (slcRun = 5), sldVerdict dir tol idcs, decide (slvRun = 5)] }.noteVerdicts now

/-! ### Kinds and safe outputs -/

/-- The kind of a link's next permit word (R343, R347, R360, R361). -/
def Breakwater.kindOf (b : Breakwater) (l : Link) : Kind :=
  let q := b.ports[l]
  if !b.started then .off
  else if l = linkG then (if b.sdcMod then .off else .sgo)
  else if b.sdcMod || q.portLockout || q.latch[2] || q.msgSdc then .off
  else if q.unlockReq && decide (q.okRun = 5) && !b.lockout && !b.hlLost then .unlock
  else if b.sgoMod || b.lockout || q.latch[0] || q.latch[1] || q.msgSgo || b.hlLost then .sgo
  else .run

/-- The safe outputs follow their sources unless a module fault stands (R358). -/
def Breakwater.driveOuts (b : Breakwater) : Breakwater :=
  let forbid := (List.range 12).all fun p => decide ((b.ports.toList.getD p {}).kind ≠ .run)
  let on := fun (m : Fin 4) =>
    let src := b.par (P_SO_SRC m)
    let holds :=
      if src = 1 then !b.sgoMod && !b.sdcMod && !b.lockout else if src = 2 then !b.lockout else if src = 3 then forbid else false
    holds && !b.moduleFaulty && !b.outs[m].fault
  { b with outs := Vector.ofFn fun m => { b.outs[m] with on := on m } }

/-! ### The deliberate reset and commissioning -/

/-- The completed deliberate reset (Table 11.6 step 4). -/
def Breakwater.cleared (b : Breakwater) : Breakwater :=
  { b with
    lockout := false, sdcMod := false, sgoMod := false, resetArmed := false, firstCause := 0
    inputs := b.inputs.map fun i => { i with pulseFault := false, discFault := false }
    resetPulseFault := false, tpFault := Vector.replicate 4 false, soFault := false, laneFault := false, stuckFault := false
    outs := b.outs.map fun o => { o with fault := false }
    ports := b.ports.map fun q => { q with returnLost := false, chDisc := false, sdcFb := false } }

/-- SAFETY_RESET_REJECTED (Table 11.6). -/
def State.rejectReset (s : State) (ms : Nat) : State := (s.modBw fun b => { b with resetArmed := false }).raise 0x95 0x30 ms

/-- The pending safety set comes into force (R369). -/
def State.commission (s : State) : State :=
  let crc := safetyCrcOf s.bw.pending
  let s1 := s.modBw fun b => { b with params := b.pending, crc := crc, cfgFault := false, cfgValid := true, commissionWait := false, sdcMod := true }
  (((s1.modBoth fun a => { a with cfg := { a.cfg with safety := some (s.bw.pending, crc) } }).rehash).raise 0x97 0x30 crc).lockOut 0x97

/-! ### Safety inputs (R353, R356) -/

/-- The level of a channel at a voltage in mV: kept from 5 V to 11 V. -/
def SiChan.reads (c : SiChan) (mv : Int) : Bool := if 11000 < mv then true else if mv < 5000 then false else c.level
/-- The inactive level of a channel, A (0) or B, by mode: antivalent inputs have channel B low. [DEDUCED, unsafe: log 84] -/
def inactiveLevel (mode : Nat) (chan : Fin 2) : Bool := !(decide (mode = 2) && decide (chan = 1))
/-- A level has stood for SI_FILTER, in 0.1 ms; a low level of an OSSD for more than the 1 ms of its pulses. [DEDUCED, unsafe: log 84] -/
def filtered (mode filter us : Nat) (demand : Bool) : Bool :=
  decide (100 * filter ≤ us) && !(demand && decide (mode = 3) && decide (us ≤ 1000))

/-- A channel's new state, and the tick since which the two channels differ. -/
def SafeInput.setChan (i : SafeInput) (now : Nat) (chan : Fin 2) (f : SiChan → SiChan) : SafeInput :=
  let ch := vmod i.chans chan f
  { i with chans := ch, differFrom := if ch[0].demand != ch[1].demand then some (i.differFrom.getD now) else none }

/-- Both channels have been in demand together, and then inactive together (R356). -/
def SafeInput.noteBoth (i : SafeInput) : SafeInput :=
  let both := i.bothSeen || i.chans.toList.all (·.demand)
  { i with bothSeen := both, discOk := i.discOk || (both && i.chans.toList.all fun c => !c.demand) }

/-! ### Test pulses -/

/-- The supply that feeds a channel, none where it carries no pulse (R354). -/
def Breakwater.supplyOf (b : Breakwater) (n : Nat) (c : Nat) : Option Nat :=
  let mode := b.par (P_SI_MODE n)
  let tp := b.par (P_SI_TP n) / 16 ^ c % 16
  if (mode = 1 ∨ mode = 2) ∧ tp < 4 then some tp else none

/-- One channel at the end of a pulse of supply tp: low read in the window, and high before and after (R355). -/
def SiChan.pulse (c : SiChan) (feeds tp : Fin 4) (low high : Bool) : SiChan :=
  if feeds = tp then
    if low then { c with missed := 0, passed := min 2 (c.passed + 1) }
    else if high then { c with missed := min 2 (c.missed + 1), passed := 0 }
    else c
  else if low && high then { c with cross := vset c.cross tp (min 2 (c.cross[tp] + 1)), passed := 0 }
  else { c with cross := vset c.cross tp 0 }

/-- SI_NOT_PULSED or SI_CROSS is found on the channel (R355). -/
def SiChan.found (c : SiChan) : Bool := decide (2 ≤ c.missed) || c.cross.toList.any fun n => decide (2 ≤ n)

/-! ### Safety messages (R364 to R367) -/

/-- Which ports the following sources demand for (R366). -/
def Breakwater.applyMessages (b : Breakwater) : Breakwater :=
  let dem := fun (f : MsgSource → Bool) (p : Nat) =>
    (List.finRange 4).any fun j =>
      decide (b.par (P_SM_RX_ID j) ≠ 0) && decide (b.par (P_SM_RX_ACTION j) = 0) && f b.sources[j] && bit b.sources[j].ports p
  { b with ports := Vector.ofFn fun l => { b.ports[l] with msgSgo := dem (·.sgo) l.val, msgSdc := dem (·.sdc) l.val } }

/-- A source's accepted demand (R366); a timeout is one with both bits on every port. -/
def State.messageDemand (s : State) (j : Fin 4) (sgo sdc : Bool) (ports : Nat) (timeout : Bool) : State :=
  let was := s.bw.sources[j].sgo || s.bw.sources[j].sdc
  let s1 := s.modBw fun b =>
    { b with
      sources := vmod b.sources j fun x => { x with sgo := sgo, sdc := sdc, ports := ports, timedOut := timeout, valid := !timeout
                                                    lastAt := if timeout then x.lastAt else s.clk.now } }.applyMessages
  if !(sgo || sdc) then s1
  else
    let s2 := if was && !timeout then s1
      else (s1.modBw fun b => { b with resetArmed := false }).raise 0x90 (0x80 + j.val) (b2n sgo + 2 * b2n sdc) (if timeout then 0xFF else 0)
    if s.bw.par (P_SM_RX_ACTION j) = 1 then
      (s2.modBw fun b => { b with sgoMod := true, sdcMod := b.sdcMod || sdc }).lockOut 0x90
    else s2

/-- The safety message that Breakwater forms (R367, Table 11.9). [DEDUCED, unsafe: log 84] -/
def Breakwater.message (b : Breakwater) (seq : Nat) : List Byte :=
  let body := le 2 1 ++ le 2 (b.par P_SM_OWN_ID) ++ le 4 seq ++ le 1 (b2n b.sgoMod + 2 * b2n b.sdcMod) ++
    le 1 (if b.lockout then 2 else if b.sgoMod || b.sdcMod then 1 else 0) ++ le 2 0x0FFF
  body ++ le 4 (crc32c body)

/-- The source of a message, where the first check of R365 passes. -/
def Breakwater.sourceOf (b : Breakwater) (bytes : List Byte) : Option (Fin 4) :=
  let good := decide (bytes.length = 16) && decide (crc32c (bytes.take 12) = rd bytes 12 4) && decide (rd bytes 0 2 = 1) &&
    decide (by8 bytes 8 < 4) && decide (rd bytes 10 2 < 0x1000)
  if good then (List.finRange 4).find? fun j => decide (b.par (P_SM_RX_ID j) ≠ 0) && decide (b.par (P_SM_RX_ID j) = rd bytes 2 2)
  else none

end Sys2Proof.Machine
end

