-- ==== Sys2Proof/Machine/Meter.lean ====
section
/-! DEFINITION. The Tide gauge: sub-frames, energy, sessions, records, seal and verification (10_metrology_cartridge.md). -/
namespace Sys2Proof.Machine

/-! ### Sub-frames and energy -/

/-- The metrology decimators: order 3, D = 100 (R314). -/
def meterCic : CicPar := { w := 64, n := 3, d := 100, e := 0, shifts := 0 }

/-- MCRC of R311 over port, MSEQ and the stream bytes. [DEDUCED, unsafe: log 66] -/
def mcrc (p : Port) (bytes : List Byte) : Nat :=
  crcRun 16 0x8BB7 false 0xFFFF (BitVec.ofNat 8 p.val :: (bytes.take 2 ++ (bytes.drop 2).take 5))

def Meter.par (m : Meter) (n : Nat) : Int := m.params.get n
def Meter.parQ (m : Meter) (n : Nat) : Rat := m.params.get n

/-- v in V and i in A of one sample (R314). -/
def Meter.volts (m : Meter) (p : Port) (dv : Rat) : Rat :=
  let fs := m.parQ (0xA000 + 0x100 * p)
  (dv / (8 / 10) * fs - m.parQ (0xA004 + 0x100 * p) / 100000 * fs) * (m.parQ (0xA002 + 0x100 * p) / 100000)
def Meter.amps (m : Meter) (p : Port) (di : Rat) : Rat :=
  let fs := m.parQ (0xA001 + 0x100 * p)
  (di / (8 / 10) * fs - m.parQ (0xA005 + 0x100 * p) / 2500000 * fs) * (m.parQ (0xA003 + 0x100 * p) / 100000)

/-- Energy of one 5 µs sample in whole nWh: power in W times 25/18 (R314). [DEDUCED, unsafe: log 82] -/
def Meter.energyOf (m : Meter) (p : Port) (v i : Rat) : Int :=
  if ratAbs i < m.parQ (0xA006 + 0x100 * p) / 10000 * m.parQ (0xA001 + 0x100 * p) then 0 else roundUpHalf (v * i * 25 / 18)

/-- Whole mWh move from the 96-bit accumulator to the register, the rest stays (R314). [DEDUCED, unsafe: log 82] -/
def accumulate (reg acc add : Nat) : Nat × Nat :=
  let t := (acc + add) % 2 ^ 96
  (reg + t / 1000000, t % 1000000)

def Energy.add (e : Energy) (x : Int) : Energy :=
  if 0 < x then let r := accumulate e.exp e.expAcc x.toNat; { e with exp := r.1, expAcc := r.2 }
  else if x < 0 then let r := accumulate e.imp e.impAcc (-x).toNat; { e with imp := r.1, impAcc := r.2 }
  else e

/-- Voltage in 0.1 V, 16 bits. -/
def deciVolts (v : Rat) : Nat := satU 16 (roundUpHalf (v * 10))

def MeterStore.hasOpen (t : MeterStore) (p : Port) : Bool := t.sessions.any fun x => x.opened && x.port == p.val
def MeterStore.modOpen (t : MeterStore) (p : Port) (f : SessionRec → SessionRec) : MeterStore :=
  { t with sessions := t.sessions.map fun x => if x.opened && x.port == p.val then f x else x }

/-- nWh of one pulse of the test output (Table 10.7 step 4). -/
def Meter.pulseEnergy (m : Meter) : Nat := (1000000000 / m.par P_PULSE_CONST).toNat

/-- The pulse output takes a sample's energy (Table 10.7 step 4). -/
def Meter.pulseOut (m : Meter) (p : Port) (e : Int) : Meter :=
  let add := match m.pulse with
    | some (pp, dir) => if pp = p.val ∧ ((dir ∧ 0 < e) ∨ (¬dir ∧ e < 0)) then e.natAbs else 0
    | none => 0
  let acc := m.pulseAcc + add
  { m with pulses := m.pulses + acc / m.pulseEnergy, pulseAcc := acc % m.pulseEnergy }

/-- One valid sample at a tick: energy, ranges, intervals, last valid values (R314, R317, R318, R321). -/
def Meter.sampleOk (m : Meter) (now : Nat) (p : Port) (dv di : Rat) : Meter :=
  let v := m.volts p dv
  let e := m.energyOf p v (m.amps p di)
  let high := decide (8 / 10 < ratAbs dv) || decide (8 / 10 < ratAbs di)
  let on := decide (m.parQ P_SESS_V_ON ≤ v)
  let off := decide (v < m.parQ P_SESS_V_OFF)
  let live1 := { m.live with energy := vmod m.live.energy p (·.add e) }
  let opened := live1.hasOpen p
  let live2 := live1.modOpen p fun x =>
    { x with
      overrange := x.overrange || high
      vMin := if on then min x.vMin (deciVolts v) else x.vMin
      vMax := if on then max x.vMax (deciVolts v) else x.vMax }
  let en := live2.energy[p]
  let q := m.ports[p]
  let start : Interval := ⟨en.imp, en.exp, live2.opSec, deciVolts v, deciVolts v, high, 0, now, decide (m.sealState ≠ 1)⟩
  let opening := if on && !opened then
      some (match q.opening with
        | none => start
        | some x => { x with vMin := min x.vMin (deciVolts v), vMax := max x.vMax (deciVolts v), overrange := x.overrange || high })
    else none
  let closing := if off && opened then some (q.closing.getD start) else none
  { m.pulseOut p e with
    live := live2
    ports := vset m.ports p
      { q with opening := opening, closing := closing, lastValid := some (en.imp, en.exp, live2.opSec), validAt := some now } }

/-- A discarded sample: 5 µs of gap (R314). -/
def Meter.sampleGap (m : Meter) (p : Port) : Meter :=
  { m with
    live := ({ m.live with energy := vmod m.live.energy p fun e => { e with gapTotal := satAdd 32 e.gapTotal 5 } }).modOpen p
      fun x => { x with gapUs := satAdd 32 x.gapUs 5 }
    ports := vmod m.ports p fun q => { q with opening := q.opening.map fun x => { x with gapUs := satAdd 32 x.gapUs 5 } } }

/-- One modulator clock of a port; every hundredth forms a sample (R314). -/
def Meter.clock (m : Meter) (now : Nat) (p : Port) (bv bi bad : Bool) : Meter :=
  let q := m.ports[p]
  let q1 := { q with v := q.v.clockBare meterCic bv bad, i := q.i.clockBare meterCic bi bad, phase := (q.phase + 1) % 100 }
  let m1 := { m with ports := vset m.ports p q1 }
  if q1.phase ≠ 0 || q1.v.restarting meterCic 0 then m1
  else if q1.v.windowOk meterCic 0 then
    m1.sampleOk now p ((q1.v.output meterCic 0 : Rat) / 1000000) ((q1.i.output meterCic 0 : Rat) / 1000000)
  else m1.sampleGap p

/-- A slot's twenty clocks: the streams of a sub-frame, or alternating bits marked lost (R313). -/
def Meter.slot (m : Meter) (now : Nat) (p : Port) (bytes : Option (List Byte)) : Meter :=
  let m1 := (List.range 20).foldl (fun (m : Meter) i =>
    match bytes with
    | some bs =>
      let at_ := fun pos => bit (by8 bs (2 + pos / 8)) (7 - pos % 8)
      m.clock now p (at_ i) (at_ (20 + i)) false
    | none => m.clock now p (decide (i % 2 = 0)) (decide (i % 2 = 0)) true) m
  { m1 with ports := vmod m1.ports p fun q => { q with slotAt := some now } }

/-- Every sealed parameter number, ascending. -/
def sealedNumbers : List Nat := assignedIn 0xA

/-- LEGAL_ID: the CRC-32C of the firmware image, whose running value is the implementation's, followed by the sealed parameters
(R331). -/
def legalIdOf (ps : ParamStore) : Nat :=
  crcOut 32 true 0xFFFFFFFF (crcRun 32 0x1EDC6F41 true (Config.legalImage % 2 ^ 32)
    (sealedNumbers.flatMap fun n => le 2 n ++ le 4 (paramToWire (ps.get n))))

/-- LEGAL_ID in force (R331): the last verification's, before the first one that of the parameters as made. -/
def Meter.legal (m : Meter) : Nat := m.legalId.getD (legalIdOf m.params)

/-! ### Sessions -/

/-- Close the open session of a port with a cause, end values and close time; an interval towards an opening goes on (R317, R318).
[DEDUCED, unsafe: log 81] -/
def Meter.closeSession (m : Meter) (p : Port) (cause imp exp sec : Nat) : Meter :=
  { m with
    live := m.live.modOpen p fun x =>
      { x with opened := false, cause := cause, impEnd := imp, expEnd := exp, closeSec := sec, closePcc := m.pcc, legalId := m.legal }
    ports := vmod m.ports p fun q => { q with closing := none } }

/-- Room for one more record: the oldest closed one goes where all 4,096 are occupied (R319). -/
def MeterStore.makeRoom (t : MeterStore) : MeterStore :=
  if t.sessions.length < 4096 then t
  else match t.sessions.find? (fun x => !x.opened) with
    | none => t
    | some old => { t with sessions := t.sessions.filter (fun x => decide (x.no ≠ old.no)), overwritten := satInc 32 t.overwritten }

/-- Open a session from its interval (R317, R319). [DEDUCED, unsafe: log 81] -/
def Meter.openSession (m : Meter) (p : Port) (iv : Interval) : Meter :=
  let t := m.live.makeRoom
  let no := (t.lastNo + 1) % 2 ^ 32
  let x : SessionRec :=
    { port := p.val, no := no, sealOpen := iv.sealOpen, overrange := iv.overrange, openSec := iv.sec, openPcc := m.pcc
      impStart := iv.imp, expStart := iv.exp, gapUs := iv.gapUs, vMin := iv.vMin, vMax := iv.vMax }
  { m with
    live := { t with sessions := t.sessions ++ [x], lastNo := no }
    ports := vmod m.ports p fun q => { q with opening := none, closing := none } }

/-! ### Records and replies -/

def Meter.keyIdOut (m : Meter) : Nat := if m.key.isSome then m.keyId else 0
/-- HMAC-SHA-256 with the cartridge key, or zeros (R321, R322). -/
def Meter.tag (m : Meter) (bs : List Byte) : List Byte :=
  match m.key with
  | some k => hmacSha256 k bs
  | none => zeros 32

/-- A session record of Table 10.4. -/
def Meter.record (m : Meter) (x : SessionRec) (nonce : Nat) : List Byte :=
  let e := m.live.energy.toList.getD x.port {}
  let flags := x.cause * 16 + 8 * b2n x.sealOpen + 4 * b2n x.overrange + 2 * b2n (decide (x.gapUs ≠ 0)) + b2n x.opened
  let body :=
    le 2 1 ++ le 1 x.port ++ le 1 flags ++ le 4 x.no ++ le 4 Config.cartSerial ++ le 4 x.openSec ++ le 3 x.openPcc ++ le 1 0 ++
    le 4 (if x.opened then m.live.opSec else x.closeSec) ++ le 3 (if x.opened then m.pcc else x.closePcc) ++ le 1 0 ++
    le 8 x.impStart ++ le 8 x.expStart ++ le 8 (if x.opened then e.imp else x.impEnd) ++ le 8 (if x.opened then e.exp else x.expEnd) ++
    le 4 x.gapUs ++ le 2 x.vMin ++ le 2 x.vMax ++ le 4 (if x.opened then m.legal else x.legalId) ++ le 4 m.keyIdOut ++ le 4 nonce
  body ++ m.tag body

/-- One entry of METER_READ (R324). -/
def Meter.readEntry (m : Meter) (p : Port) : List Byte :=
  let e := m.live.energy[p]
  let high := m.live.sessions.any fun x => x.opened && x.port == p.val && x.overrange
  le 1 p.val ++ le 1 (b2n (m.live.hasOpen p) + 2 * b2n high) ++ le 2 0 ++ le 8 e.imp ++ le 8 e.exp

/-- METER_READ's payload up to its tag (R324). -/
def Meter.readPayload (m : Meter) (ports : List Port) (nonce : Nat) : List Byte :=
  let body :=
    le 4 nonce ++ le 4 Config.cartSerial ++ le 4 m.live.opSec ++ le 3 m.pcc ++ le 1 m.sealState ++ le 4 m.legal ++ le 4 m.keyIdOut ++
    le 1 ports.length ++ le 3 0 ++ ports.flatMap m.readEntry
  body ++ m.tag body

def Meter.oldest (m : Meter) : Nat := (m.live.sessions.map (·.no)).min?.getD 0
def Meter.newest (m : Meter) : Nat := (m.live.sessions.map (·.no)).max?.getD 0

/-- SESSION_READ's payload (R325). -/
def Meter.sessionPayload (m : Meter) (port : Option Nat) (first nonce count : Nat) : List Byte :=
  let xs := (m.live.sessions.filter fun x => decide (first ≤ x.no) && (port.all (· == x.port))).take (min 8 count)
  le 1 xs.length ++ le 3 0 ++ le 4 nonce ++ le 4 m.oldest ++ le 4 m.newest ++ xs.flatMap fun x => m.record x nonce

/-- A word of Table 10.9, at an offset. -/
def Meter.word (m : Meter) (off : Nat) : Nat :=
  if off = 0x000 then
    wordOf [(30, 2, m.sealState), (29, 1, b2n m.coverOpen), (28, 1, b2n m.key.isSome),
      (0, 12, maskOf 12 fun p => m.live.sessions.any fun x => x.opened && x.port == p)]
  else if off = 0x004 then Config.cartSerial % 2 ^ 32
  else if off = 0x008 then m.legal
  else if off = 0x00C then m.keyIdOut
  else if off = 0x010 then m.live.opSec
  else if off = 0x014 then m.pcc
  else if off = 0x018 then m.newest
  else if off = 0x01C then m.oldest
  else if off = 0x020 then m.live.overwritten
  else if off = 0x024 then wordOf [(16, 16, m.verifyCount), (0, 16, m.sealBreaks)]
  else if off = 0x028 then m.moduleSerial
  else if off = 0x02C then m.verifyDate
  else if 0x040 ≤ off ∧ off < 0x100 then
    let e := m.live.energy.toList.getD ((off - 0x40) / 16) {}
    let v := if off % 16 / 4 < 2 then e.imp else e.exp
    if off % 16 / 4 % 2 = 0 then v % 2 ^ 32 else v / 2 ^ 32 % 2 ^ 32
  else if 0x100 ≤ off ∧ off < 0x130 then (m.live.energy.toList.getD ((off - 0x100) / 4) {}).gapTotal
  else 0

/-! ### Seal and verification -/

/-- Values of Table 10.8 with SESS_V_OFF at least 20 V below SESS_V_ON (R335). -/
def sealedOk (old : ParamStore) (vs : List (Nat × Int)) : Bool :=
  let new := vs.foldl (fun ps x => ps.set x.1 x.2) old
  vs.all (fun x => decide (x.1 / 0x1000 = 0xA) && paramAdmits x.1 x.2) && decide (new.get P_SESS_V_OFF ≤ new.get P_SESS_V_ON - 20)

/-- Step 5 of Table 10.7. -/
def Meter.verify (m : Meter) (v : Verification) : Meter :=
  let ps := v.params.foldl (fun ps x => ps.set x.1 x.2) m.params
  let closed := (List.finRange 12).foldl (fun (m : Meter) p =>
    let e := m.live.energy[p]
    m.closeSession p 4 e.imp e.exp m.live.opSec) m
  { closed with
    params := ps, legalId := some (legalIdOf ps), verified := true, verifyCount := satInc 16 m.verifyCount
    key := v.key.or m.key, keyId := if v.key.isSome then v.keyId else m.keyId
    moduleSerial := v.moduleSerial, verifyDate := v.date, toolId := v.toolId
    live := { closed.live with energy := closed.live.energy.map fun e => { e with gapTotal := 0 } } }

/-- The firmware reads SEAL_STATE: METER_SEAL_OPEN at the first reading of OPEN (R332). -/
def State.noteSeal (s : State) : State :=
  let is := decide (s.meter.sealState = 2)
  let s1 := s.modMeter fun m => { m with openSeen := is }
  if is && !s.meter.openSeen then s1.raise 0xA2 0x40 else s1

/-- MODULE_SERIAL is compared once after each power-up (R333). -/
def State.compareSerial (s : State) : State :=
  if s.meter.compared then s
  else
    let s1 := s.modMeter fun m => { m with compared := true }
    let own := Config.moduleSerial % 2 ^ 32
    if s.meter.moduleSerial = own then s1 else s1.raise 0xA3 0x40 s.meter.moduleSerial own

/-! ### Commands -/

/-- A sub-frame at the Tide gauge (R313): accepted with its MCRC and the MSEQ that follows, after a mismatch of MSEQ from the second of
two that follow each other; any other leaves its slot lost. -/
def Meter.subframe (m : Meter) (now : Nat) (p : Port) (bytes : List Byte) : Meter :=
  let q := m.ports[p]
  let mseq := rdBe bytes 0 2
  if mcrc p bytes ≠ rdBe bytes 7 2 then
    { m with ports := vset m.ports p { q with resync := q.resync.map fun _ => none } }.slot now p none
  else
    let follows := match q.resync, q.mseq with
      | some last, _ => last.any fun e => decide (mseq = (e + 1) % 65536)
      | none, some e => decide (mseq = (e + 1) % 65536)
      | none, none => true
    if follows then { m with ports := vset m.ports p { q with mseq := some mseq, resync := none } }.slot now p (some bytes)
    else { m with ports := vset m.ports p { q with resync := some (some mseq) } }.slot now p none

/-- METROLOGY_SUBFRAME (R311 to R313): the sub-frame that the port's Shoal has forwarded reaches a cartridge with power, with what the
path has changed of it. -/
def execMetrologySubframe (p : Port) (noise : List Byte) (s : State) : Res :=
  .next (match s.ul[linkOf p].msub with
    | none => s
    | some sent =>
      let s1 := s.modUl (linkOf p) fun u => { u with msub := none }
      s1.modMeter fun m => if m.powered then m.subframe s.clk.now p (noisy sent noise) else m)

/-- METROLOGY_SLOT_LOST (R313): no sub-frame of the port has arrived since its last slot, nor is one on its way. -/
def execMetrologySlotLost (p : Port) (s : State) : Res :=
  let due := s.meter.ports[p].slotAt.all fun t => decide (t + usTicks 1 ≤ s.clk.now)
  .next (s.modMeter fun m => if m.powered && due && s.ul[linkOf p].msub.isNone then m.slot s.clk.now p none else m)

/-- SESS_T in ticks (Table 10.8). -/
def Meter.sessTicks (m : Meter) : Nat := msTicks (100 * (m.par P_SESS_T).toNat)

/-- SESSION_OPEN (R317, R319): the interval of SESS_T has run. -/
def execSessionOpen (p : Port) (s : State) : Res :=
  .next (s.modMeter fun m =>
    match m.ports[p].opening with
    | some iv => if m.powered && !m.live.hasOpen p && decide (iv.startedAt + m.sessTicks ≤ s.clk.now) then m.openSession p iv else m
    | none => m)

/-- SESSION_CLOSE (R317): the interval of SESS_T has run. -/
def execSessionClose (p : Port) (s : State) : Res :=
  .next (s.modMeter fun m =>
    match m.ports[p].closing with
    | some iv =>
      if m.powered && decide (iv.startedAt + m.sessTicks ≤ s.clk.now) then m.closeSession p 1 iv.imp iv.exp iv.sec else m
    | none => m)

/-- SESSION_GAP_CLOSE (R318): no valid sample for 1 s; at the last valid one. -/
def execSessionGapClose (p : Port) (s : State) : Res :=
  .next (s.modMeter fun m =>
    match m.ports[p].lastValid with
    | some (imp, exp, sec) =>
      if m.powered && heldFor s.clk.now (msTicks 1000) m.ports[p].validAt then m.closeSession p 3 imp exp sec else m
    | none => m)

/-- METER_MRAM_WRITE (R316, R320): every second of power. [DEDUCED, unsafe: log 81] -/
def execMeterMramWrite (s : State) : Res :=
  .next (s.modMeter fun m =>
    if m.powered && m.secAt.all (fun t => decide (t + msTicks 1000 ≤ s.clk.now)) then
      let live := { m.live with opSec := (m.live.opSec + 1) % 2 ^ 32 }
      { m with live := live, mram := live, secAt := some s.clk.now }
    else m)

/-- METER_FINAL_WRITE (R316): the last write before the supply ends. -/
def execMeterFinalWrite (s : State) : Res :=
  .next (s.modMeter fun m => if m.powered then { m with mram := m.live, powered := false } else m)

/-- The supply of an unpowered cartridge returns: MRAM is loaded, open sessions close with cause POWER, PCC counts. -/
def Meter.powerUp (m : Meter) : Meter :=
  let m1 := (List.finRange 12).foldl (fun (m : Meter) p =>
    let e := m.live.energy[p]
    m.closeSession p 2 e.imp e.exp m.live.opSec) { m with live := m.mram }
  { m1 with
    powered := true, mram := m1.live, pcc := (m.pcc + 1) % 2 ^ 24, ports := Vector.replicate 12 {}, compared := false
    auth := false, toolRefused := false }

/-- CARTRIDGE_POWER_UP (R318, R320, R333): beside a module that runs, MODULE_SERIAL is compared; BOOT_END does it otherwise. -/
def execCartridgePowerUp (s : State) : Res :=
  .next (if s.meter.powered then s
    else
      let s1 := s.modMeter fun m => { m.powerUp with secAt := some s.clk.now }
      if s.awake && !s.meter.absent then s1.compareSerial else s1)

/-- CARTRIDGE_READ_REQUEST (R32, R34, R308, R328, R332): a read is answered with its word, a write with SEALED, a request with a wrong
CRC-32C with a refusal; nothing else in the cartridge changes. [DEDUCED, unsafe: log 83] -/
def execCartridgeReadRequest (write : Bool) (addr : Nat) (crcOk : Bool) (s : State) : Res :=
  let off := addr % 0x10000
  let m := s.meter
  let answer :=
    if !m.powered then none
    else if !crcOk then some LinkAnswer.readRefused
    else if write then some .isSealed
    else some (.word addr (m.word off))
  let s1 := s.modMeter fun m => { m with linkReply := answer }
  .next (if m.powered && crcOk && !write && decide (off = 0) && s.awake && !m.absent then s1.noteSeal else s1)

/-- Every open session is marked SEAL_OPEN (R329). [DEDUCED, unsafe: log 81] -/
def MeterStore.markOpen (t : MeterStore) : MeterStore :=
  { t with sessions := t.sessions.map fun x => if x.opened then { x with sealOpen := true } else x }

/-- COVER_OPEN (R329): latched in MRAM, so that an unpowered cartridge finds it at its next power-up. [DEDUCED, unsafe: log 81] -/
def execCoverOpen (s : State) : Res :=
  .next (s.modMeter fun m =>
    if m.coverOpen then m
    else
      { m with
        coverOpen := true, sealState := 2, sealBreaks := satInc 16 m.sealBreaks, verified := false, auth := false
        live := m.live.markOpen, ports := m.ports.map fun (q : MeterPort) => { q with opening := q.opening.map fun x => { x with sealOpen := true } }
        mram := if m.powered then m.mram else m.mram.markOpen })

/-- COVER_CLOSE (R329). -/
def execCoverClose (s : State) : Res :=
  .next (s.modMeter fun m =>
    if m.coverOpen then
      { m with coverOpen := false, sealState := if m.verified then 1 else m.sealState, verified := false, auth := false, pulse := none }
    else m)

/-- TOOL_AUTHENTICATE (Table 10.7 step 2); the third failure in a row starts the hour. -/
def execToolAuthenticate (ok : Bool) (s : State) : Res :=
  .next (s.modMeter fun m =>
    if !m.coverOpen || !m.powered || decide (3 ≤ m.authFails) then m
    else if ok then { m with auth := true, authFails := 0, toolRefused := false }
    else
      { m with
        auth := false, authFails := m.authFails + 1, toolRefused := true
        lockAt := if m.authFails = 2 then some s.clk.now else m.lockAt })

/-- TOOL_READ (Table 10.7 step 3). -/
def execToolRead (s : State) : Res :=
  .next (s.modMeter fun m =>
    if m.powered && m.auth then
      { m with toolReply := m.legal :: Config.cartSerial :: sealedNumbers.map fun n => paramToWire (m.params.get n) }
    else m)

/-- TOOL_PULSE_SELECT (Table 10.7 step 4). -/
def execToolPulseSelect (p : Port) (isExport : Bool) (s : State) : Res :=
  .next (s.modMeter fun m => if m.powered && m.auth then { m with pulse := some (p.val, isExport), pulseAcc := 0 } else m)

/-- VERIFY_COMMIT (Table 10.7 step 5, R331, R335). -/
def execVerifyCommit (v : Verification) (s : State) : Res :=
  .next (s.modMeter fun m => if m.powered && m.auth && m.coverOpen && sealedOk m.params v.params then m.verify v else m)

/-- TOOL_LOCKOUT_END (Table 10.7 step 2): an hour after the third failure. -/
def execToolLockoutEnd (s : State) : Res :=
  .next (s.modMeter fun m =>
    if heldFor s.clk.now (msTicks 3600000) m.lockAt then { m with authFails := 0, toolRefused := false, lockAt := none } else m)

/-- METER_ABSENT (R332). -/
def execMeterAbsent (s : State) : Res :=
  if s.dev = .standby ∨ s.meter.absent then .next s
  else .next ((s.modMeter fun m => { m with absent := true }).raise 0xA0 0x40)

/-- METER_PRESENT (R332, R333): a cartridge with power answers again. -/
def execMeterPresent (s : State) : Res :=
  if s.dev = .standby ∨ !s.meter.absent ∨ !s.meter.powered then .next s
  else .next ((((s.modMeter fun m => { m with absent := false }).raise 0xA1 0x40).compareSerial).noteSeal)

end Sys2Proof.Machine
end

