-- ==== Sys2Proof/Machine/ParamCmds.lean ====
section
/-! DEFINITION. The parameter group: READ_PARAM, WRITE_PARAM, COMMIT_PARAMS, envelopes and BMS maps (14_zwisoif_packets.md R445 to
R449, 04_ride_through_and_limits.md R143 to R145, 09_battery_ports.md R291 to R293). -/
namespace Sys2Proof.Machine

/-! ### READ_PARAM and WRITE_PARAM -/

/-- The value that READ_PARAM returns: P.9xxx and P.Axxx in force under either SOURCE (R447). [DEDUCED, unsafe: log 99] -/
def State.readParam (s : State) (pendingSet : Bool) (n : Nat) : Int :=
  let c := s.act.cfg
  if n / 0x1000 = 9 then s.bw.params.get n
  else if n / 0x1000 = 0xA then s.meter.params.get n
  else if pendingSet then c.pendingSet.params.get n
  else c.committed.params.get n

def readParamAns (b : List Byte) (s : State) : Ans :=
  let count := by8 b 0
  let ns := (List.range count).map fun i => rd b (4 + 2 * i) 2
  s.check
    [(decide (b.length ≠ 4 + 2 * count), ST_BAD_LENGTH),
     (decide (count = 0 ∨ by8 b 2 ≠ 0 ∨ by8 b 3 ≠ 0 ∨ 1 < by8 b 1) || ns.any (fun n => (paramRow n).isNone), ST_BAD_PARAMETER),
     (decide (64 < count), ST_OUT_OF_RANGE),
     (s.meter.absent && ns.any (fun n => decide (n / 0x1000 = 0xA)), ST_STATE_FORBIDS)]
    fun s => s.ok (ns.flatMap fun n => le 2 n ++ le 2 0 ++ le 4 (paramToWire (s.readParam (decide (by8 b 1 = 1)) n)))

/-- The refusal of one entry of WRITE_PARAM, the status nearest the top of R446's list; `before` are the numbers written earlier.
[DEDUCED, unsafe: log 12] -/
def entryRefusal (before : List Nat) (n mid w : Nat) : Option Nat :=
  let v := paramOfWire n w
  let plaus := decide (n / 0x1000 = 3 ∧ n % 0x100 = 0x49 ∧ w = 0)
  let adc := decide (0x5100 ≤ n ∧ n < 0x5120) && adcSeqReserved v
  if (paramRow n).isNone || decide (mid ≠ 0) || before.contains n || plaus || adc then some ST_BAD_PARAMETER
  else if !paramAdmits n v then some ST_OUT_OF_RANGE
  else if n / 0x1000 = 9 ∨ n / 0x1000 = 0xA then some ST_SEALED
  else none

/-- Entries of 8 bytes: number, 0, value. -/
def paramEntries (b : List Byte) (count : Nat) : List (Nat × Nat × Nat) :=
  (List.range count).map fun i => (rd b (4 + 8 * i) 2, rd b (6 + 8 * i) 2, rd b (8 + 8 * i) 4)

/-- The first failing entry: its index and status. [DEDUCED, unsafe: log 12] -/
def firstFailing (i : Nat) (before : List Nat) : List (Nat × Nat × Nat) → Option (Nat × Nat)
  | [] => none
  | (n, z, w) :: rest =>
    match entryRefusal before n z w with
    | some st => some (i, st)
    | none => firstFailing (i + 1) (n :: before) rest

/-- A value as the sets hold it: a delay P.3p50 to P.3p53 rounded to the nearest delay-line step, in ps (R206, R445, R588).
[DEDUCED, unsafe: log 99] -/
def heldValue (n : Nat) (v : Int) : Int :=
  if n / 0x1000 = 3 ∧ 0x50 ≤ n % 0x100 ∧ n % 0x100 ≤ 0x53 then ((delaySteps v.toNat * 625 + 8) / 16 : Nat) else v

def ParamStore.setAll (st : ParamStore) (es : List (Nat × Nat × Nat)) : ParamStore :=
  es.foldl (fun ps e => ps.set e.1 (heldValue e.1 (paramOfWire e.1 e.2.2))) st

/-- WRITE_PARAM, whose refusals carry one byte (R446). [DEDUCED, unsafe: log 12] -/
def writeParamAns (target : Nat) (b : List Byte) (s : State) : Ans :=
  let count := by8 b 0
  let refuse := fun (idx st : Nat) => { s.err st with payload := le 1 idx }
  match targetRefusal .device target with
  | some st => refuse 0xFF st
  | none =>
    if b.length ≠ 4 + 8 * count then refuse 0xFF ST_BAD_LENGTH
    else if count = 0 ∨ rd b 1 3 ≠ 0 then refuse 0xFF ST_BAD_PARAMETER
    else if 64 < count then refuse 0xFF ST_OUT_OF_RANGE
    else
      let es := paramEntries b count
      match firstFailing 0 [] es with
      | some (i, st) => refuse i st
      | none =>
        (s.modCfg fun c => { c with pendingSet := { c.pendingSet with params := c.pendingSet.params.setAll es } }).okAck

/-! ### COMMIT_PARAMS -/

/-- A parameter of the pending set, as the wire gives it. -/
def Conf.n (c : Conf) (k : Nat) : Nat := (c.params.get k).toNat
def Conf.q (c : Conf) (k : Nat) : Rat := c.params.get k

/-- Something marked "Commit, not FORMING" differs (R25, R143, R291). -/
def Conf.lockedDiffers (old new : Conf) : Bool :=
  decide (old.env ≠ new.env) || decide (old.maps ≠ new.maps) ||
    ((old.params.map (·.1)) ++ (new.params.map (·.1))).any fun n =>
      decide ((paramRow n).map (·.takes) = some Takes.notForming) && decide (old.params.get n ≠ new.params.get n)

/-- Shortest carrier period in s (R175). -/
def Conf.tMin (c : Conf) : Rat := 10 / (11 * c.q P_CARRIER_N * c.q P_F_NOM)
/-- Effective delay in delay-line steps (R191). [DEDUCED, unsafe: log 99] -/
def effDelay (ps : Nat) : Nat := max 2048 (delaySteps ps)
/-- The four delays of a port, as held: in delay-line steps (R588). -/
def Conf.delays (c : Conf) (p : Port) : List Nat :=
  [PP_DLY_R_PH p, PP_DLY_F_PH p, PP_DLY_R_N p, PP_DLY_F_N p].map fun k => delaySteps (c.n k)
/-- Some delay of the port is below 80 ns, 2,048 steps (R191). [DEDUCED, unsafe: log 99] -/
def Conf.stretched (c : Conf) (p : Port) : Bool := (c.delays p).any fun d => decide (d < 2048)
/-- A port whose recomputes do not fit (R175). [DEDUCED, unsafe: log 59] -/
def Conf.tight (c : Conf) (p : Port) : Bool :=
  decide (c.n (PP_SPEC_EN p) = 1) && decide (c.tMin - 6 / 10000000 < groupDelayOf c.params p / 20000000 + 1975 / 1000000000)

/-- Two of the listed inputs or outputs are the same; 0xFF names none. -/
def sameName (xs : List Nat) : Bool :=
  let ys := xs.filter fun x => decide (x ≠ 0xFF)
  decide (ys.eraseDups.length ≠ ys.length)

/-- A privileged group of R281: exponent outside 6 to 40, or a shift beyond stage 2N. -/
def Conf.badGroup (c : Conf) (cic a b w : Nat) : Bool :=
  let word := c.n cic
  let sh := shiftWord (c.n a) (c.n b) (c.n w)
  let n := word / 256
  let total := ((List.range 10).map fun j => sh / 16 ^ j % 16).sum
  let e : Int := (n * (word % 256) : Nat) - (total : Nat)
  decide (e < 6 ∨ 40 < e) || decide (sh / 16 ^ (2 * n) ≠ 0)

/-- BAD_PARAMETER conditions of one port: R118, R150, R175, R206, R245, R281, R306. -/
def Conf.badPort (c : Conf) (p : Port) : Bool :=
  let tau := groupDelayOf c.params p / 20000000
  let room := c.tMin - 6 / 10000000
  let mp : Rat := 64 * c.q P_MIN_PULSE
  let legs := fun (r f : Nat) =>
    decide (c.tMin * 400000000 * 64 / 4 < mp + (effDelay (c.n r) : Rat) + 2 * (mp + (effDelay (c.n f) : Rat)))
  decide (c.q (PP_T_DER_END p) < c.q (PP_T_DER_START p) + 5) ||
    decide (c.q (PP_SOC_MAX p) < c.q (PP_SOC_MIN p) + 2 * c.q (PP_SOC_BAND p)) ||
    decide (100 * c.q (PP_I_OC_TRIP p) < 105 * c.q (PP_I_PH_MAX p)) ||
    decide (98 * c.q (PP_I_FS p) < 100 * c.q (PP_I_OC_TRIP p)) ||
    decide (c.q (PP_V_DC_HI p) ≤ c.q (PP_V_DC_MIN p)) || decide (c.q (PP_V_DC_MAX p) ≤ c.q (PP_V_DC_HI p)) ||
    decide (room < tau + 165 / 100000000) ||
    (decide (c.n (PP_SPEC_EN p) = 0) && decide (room < tau + 1975 / 1000000000)) ||
    decide (10 * c.q (PP_PLAUS_I p) < 2 * c.q (PP_SPEC_WIN_I p)) || decide (10 * c.q (PP_PLAUS_DC p) < 2 * c.q (PP_SPEC_WIN_DC p)) ||
    legs (PP_DLY_R_PH p) (PP_DLY_F_PH p) || legs (PP_DLY_R_N p) (PP_DLY_F_N p) ||
    decide (c.q (PP_COIL_PULL_T p) < c.q (PP_COIL_FB_T p)) ||
    decide (98 * c.q (PP_V_FS p) < 100 * c.q (PP_V_DC_MAX p)) ||
    decide (10 * c.q (PP_PRECHG_T p) ≤ c.q (PP_PRECHG_MIN_T p))

/-- The BAD_PARAMETER conditions of a commit (R448 step 3). -/
def State.commitBad (s : State) (old c : Conf) : Bool :=
  let ports := List.finRange 12
  let brk := c.n P_BRK_CLOSE_OUT
  decide (c.q P_SYNC_DF < c.q P_SYNC_SLIP) ||
    ports.any (fun p => decide (brk ≠ 0xFF) && decide (c.n (PP_SLOT_OUT p) = brk)) ||
    sameName [c.n P_BRK_FB_IN, c.n P_PCC_FB_IN] ||
    decide (c.q P_UV_EXIT < c.q P_UV_ENTRY + 2) || decide (c.q P_OV_ENTRY < c.q P_OV_EXIT + 2) ||
    decide (c.q P_V_INST_TRIP ≤ c.q P_OV_ENTRY) || decide (c.q P_I_LIM_MOD < c.q P_TVI_START) ||
    decide (40 * c.n P_BS_PULSE_T < c.n P_MIN_PULSE) || ports.any c.badPort ||
    c.badGroup P_CIC_G_INV P_SHIFT_INV_A P_SHIFT_INV_B P_SHIFT_INV_C ||
    c.badGroup P_CIC_G_GRID P_SHIFT_GRID_A P_SHIFT_GRID_B P_SHIFT_GRID_C ||
    decide ((98 / 100 * c.q P_V_G_FS) ^ 2 < 2 * (c.q P_V_NOM / 10 * (c.q P_V_INST_TRIP / 100)) ^ 2) ||
    sameName (ports.map fun p => c.n (PP_BTN_IN p)) || sameName (ports.map fun p => c.n (PP_SLOT_OUT p)) ||
    ports.any (fun p =>
      decide (c.n (PP_BTN_IN p) ≠ 0xFF) && decide (c.n (PP_BTN_IN p) = c.n P_BRK_FB_IN ∨ c.n (PP_BTN_IN p) = c.n P_PCC_FB_IN)) ||
    !safetyAgainst s.bw.params c.params ||
    decide (c.q P_PTP_UNLOCK_WIN < 2 * c.q P_PTP_LOCK_WIN) ||
    (decide (c.n P_PTP_PROFILE = 2) && decide (c.n P_IPV4_A = 0) && decide (c.n P_IPV4_B = 0)) ||
    (decide (s.dev = .forming) &&
      (decide (c.n P_PHY_ROLE_A ≠ old.n P_PHY_ROLE_A) || decide (c.n P_PHY_ROLE_B ≠ old.n P_PHY_ROLE_B)))

/-- The refusal of a commit (R448). -/
def State.commitRefusal (s : State) (old c : Conf) : Option Nat :=
  let rate := c.n P_CARRIER_N * c.n P_F_NOM
  if s.dev = .forming ∧ old.lockedDiffers c then some ST_STATE_FORBIDS
  else if rate < 2000 ∨ 100000 < rate then some ST_OUT_OF_RANGE
  else if s.commitBad old c then some ST_BAD_PARAMETER
  else none

/-- The converter's parameters, which wait for it to be idle (R280). -/
def adcNumber (n : Nat) : Bool := decide (0x5100 ≤ n ∧ n < 0x51A0)
def Conf.adcDiffers (old new : Conf) : Bool :=
  ((old.params.map (·.1)) ++ (new.params.map (·.1))).any fun n => adcNumber n && decide (old.params.get n ≠ new.params.get n)

/-- Signals that a new map no longer carries are forgotten. [DEDUCED, unsafe: log 104] -/
def PortLife.remap (l : PortLife) (m : List MapEntry) : PortLife :=
  { l with signals := Vector.ofFn fun i => if m.any (fun e => decide (e.signal = i.val)) then l.signals[i] else {} }

/-- A set comes into force: dies take their values, each at the instant its chapter states (R191, R205, R280, R448, R525).
[DEDUCED, unsafe: log 104] -/
def State.putInForce (s : State) (old new : Conf) : State :=
  let s1 := s.modAct fun a =>
    { a with
      cfg := { a.cfg with committed := new, pendingSet := new, hash := some 0, commitNo := a.cfg.commitNo + 1 }
      adc := if old.adcDiffers new && !a.adc.idle then { a.adc with inForce := some (a.adc.inForce.getD old.params) } else a.adc }
  let s2 := s1.rehash.applyDec
  let s3 := s2.modFirm fun m =>
    { m with
      steps := Vector.ofFn fun p => { m.steps[p] with tight := new.tight p }
      life := Vector.ofFn fun p => if old.maps[p] = new.maps[p] then m.life[p] else m.life[p].remap new.maps[p] }
  let s4 := if old.n P_HOST_TIMEOUT = new.n P_HOST_TIMEOUT then s3 else s3.modShore fun h => { h with hostAt := s.clk.now }
  (s4.ptpSelect id).eachPort fun t p =>
    if decide (old.delays p ≠ new.delays p) && new.stretched p then (t.modPwm p fun w => { w with dtStretch := true }).raise 0x4E p.val else t

/-- COMMIT_PARAMS: commit or discard by byte 0 (R448). -/
def commitAns (b : List Byte) (s : State) : Ans :=
  let c := s.act.cfg
  s.check [(decide (b.length ≠ 1), ST_BAD_LENGTH), (decide (1 < by8 b 0), ST_BAD_PARAMETER)] fun s =>
    if by8 b 0 = 1 then (s.modCfg fun c => { c with pendingSet := c.committed }).okAck
    else if c.pendingSet = c.committed then s.ok (le 4 s.act.pair.hashSelf)
    else match s.commitRefusal c.committed c.pendingSet with
      | some st => s.err st
      | none =>
        let s1 := s.putInForce c.committed c.pendingSet
        s1.okAck (le 4 s1.act.pair.hashSelf)

/-! ### Envelopes and maps -/

/-- Values that envelope n takes (Table 4.5). -/
def envelopeValueOk (n : Nat) (v : Int) : Bool := if n < 2 then decide (0 ≤ v ∧ v ≤ 30000) else decide (-6000 ≤ v ∧ v ≤ 6000)

def envelopeLoadAns (b : List Byte) (s : State) : Ans :=
  let n := by8 b 0
  let count := by8 b 2
  let vs := verticesOf b count
  s.check
    [(decide (3 < n ∨ 64 < count), ST_OUT_OF_RANGE), (decide (b.length ≠ 4 + 8 * count), ST_BAD_LENGTH),
     (decide (count < 2 ∨ by8 b 3 = 0 ∨ 16 < by8 b 3), ST_BAD_PARAMETER), (!timesOk (vs.map (·.1)), ST_BAD_PARAMETER),
     (decide (4 ≤ by8 b 1), ST_BAD_PARAMETER), (vs.any (fun v => !envelopeValueOk n v.2), ST_OUT_OF_RANGE)]
    fun s =>
      (s.modCfg fun c =>
        let e : Envelope := { enable := by8 b 1, confirm := by8 b 3, vertices := vs }
        { c with pendingSet := { c.pendingSet with env := vset c.pendingSet.env ⟨n % 4, by omega⟩ e } }).okAck

def envelopeReadAns (b : List Byte) (s : State) : Ans :=
  let n := by8 b 0
  s.check
    [(decide (b.length ≠ 2), ST_BAD_LENGTH), (decide (3 < n), ST_OUT_OF_RANGE), (decide (1 < by8 b 1), ST_BAD_PARAMETER)]
    fun s =>
      let c := if by8 b 1 = 1 then s.act.cfg.pendingSet else s.act.cfg.committed
      let i : Fin 4 := ⟨n % 4, by omega⟩
      s.ok (c.env[i].bytes n)

/-- end_byte of R292. -/
def MapEntry.reach (m : MapEntry) : Nat := m.start / 8 + ceilDiv (m.length - m.start % 8 - 1) 8
def MapEntry.bigEndian (m : MapEntry) : Bool := bit m.flags 0

/-- Conditions of Table 9.5 on the entries, in its order. -/
def mapReserved (b : List Byte) (count : Nat) (m : List MapEntry) : Bool :=
  decide (rd b 1 3 ≠ 0) || (List.range count).any (fun i => decide (by8 b (4 + 20 * i + 5) ≠ 0)) ||
    m.any fun e => decide (8 ≤ e.flags ∨ 2 ^ 29 ≤ e.id)
def MapEntry.outOfRange (e : MapEntry) : Bool :=
  decide (7 < e.signal ∨ 511 < e.start ∨ e.length = 0 ∨ 32 < e.length ∨ (0 < e.timeout ∧ e.timeout < 10) ∨ 10000 < e.timeout)
def MapEntry.tooFar (e : MapEntry) : Bool := if e.bigEndian then decide (63 < e.reach) else decide (512 < e.start + e.length)

def bmsMapLoadAns (target : Nat) (b : List Byte) (s : State) : Ans :=
  let count := by8 b 0
  let m := (List.range count).map fun i => mapEntryOf ((b.drop (4 + 20 * i)).take 20)
  s.check
    (portTargets target ++
     [(decide (b.length ≠ 4 + 20 * count), ST_BAD_LENGTH), (decide (count = 0) || mapReserved b count m, ST_BAD_PARAMETER),
      (decide (8 < count) || m.any (·.outOfRange), ST_OUT_OF_RANGE),
      (decide ((m.map (·.signal)).eraseDups.length ≠ count) || m.any (fun e => decide (e.timeout = 0 ∧ e.signal ≤ 4)), ST_BAD_PARAMETER),
      (m.any (·.tooFar), ST_BAD_PARAMETER)])
    fun s =>
      (s.modCfg fun c =>
        let p : Port := ⟨target % 12, by omega⟩
        { c with pendingSet := { c.pendingSet with maps := vset c.pendingSet.maps p m } }).okAck

def bmsMapReadAns (p : Port) (b : List Byte) (s : State) : Ans :=
  s.check [(decide (b.length ≠ 1), ST_BAD_LENGTH), (decide (1 < by8 b 0), ST_BAD_PARAMETER)] fun s =>
    let c := if by8 b 0 = 1 then s.act.cfg.pendingSet else s.act.cfg.committed
    s.ok (mapBytes c.maps[p])

/-! ### Commands -/

def execReadParam (r : Req) (s : State) : Res := .next (s.host 0x10 r .device (readParamAns r.payload))
def execWriteParam (r : Req) (s : State) : Res := .next (s.host 0x11 r .any (writeParamAns r.target r.payload))
/-- COMMIT_PARAMS with byte 0 at 0: the commit (R448). [DEDUCED, safe: log 5] -/
def execCommitParams (r : Req) (s : State) : Res := .next (s.host 0x12 r .device (commitAns r.payload))
/-- COMMIT_PARAMS with byte 0 at 1: the discard (R448). [DEDUCED, safe: log 5] -/
def execParamDiscard (r : Req) (s : State) : Res := .next (s.host 0x12 r .device (commitAns r.payload))
def execEnvelopeLoad (r : Req) (s : State) : Res := .next (s.host 0x48 r .device (envelopeLoadAns r.payload))
def execEnvelopeRead (r : Req) (s : State) : Res := .next (s.host 0x49 r .device (envelopeReadAns r.payload))
def execBmsMapLoad (r : Req) (s : State) : Res := .next (s.host 0x3A r .any (bmsMapLoadAns r.target r.payload))
def execBmsMapRead (r : Req) (s : State) : Res := .next (s.host 0x3B r .port (bmsMapReadAns (reqPort r) r.payload))

end Sys2Proof.Machine
end

