-- ==== Sys2Proof/Machine/Regs.lean ====
section
/-! DEFINITION. The device address map: every register word, snapshots on read, what a write of one clears
(00_scope.md R18 to R22, R587, 14_zwisoif_packets.md R450 to R453). -/
namespace Sys2Proof.Machine

/-! ### Small formats -/

/-- A signed field. -/
def sf (bits : Nat) (i : Int) : Nat := toTwos bits (satS bits i)
/-- µHz. -/
def microHz (f : Rat) : Nat := satU 32 (roundUpHalf (f * 1000000))
/-- u0.16; 1 reads 0xFFFF. -/
def u16frac (x : Rat) : Nat := satU 16 (roundUpHalf (x * 65536))
/-- A weight of R119 from its Q15 code: the largest code stands for 1, which reads 0xFFFF. [DESIGN CHOICE, unsafe: log 19] -/
def weightFrac (x : Rat) : Nat := if 32767 / 32768 ≤ x then 0xFFFF else u16frac x
/-! ### Headland block -/

/-- The fixed set as a Headland holds it: the token holder's committed one, or the standby's copy. [DEDUCED, unsafe: log 97] -/
def State.firmOf (s : State) (h : Hd) : Firm := if h = s.hd then s.firm else s.mirrored

/-- Host interface (Table 14.8); the standby reports its two hashes only (R453). PENDING_HASH stands at its reset value until the
Headland has formed the hash of its set. [DEDUCED, unsafe: log 109] -/
def State.hostWord (s : State) (h : Hd) (off : Nat) : Nat :=
  let a := s.hl[h]
  let x := a.host
  if off = 0x0100 then a.pair.hashSelf
  else if off = 0x0104 then (if a.pair.hashSelf = 0 then 0 else a.cfg.pendingSet.hash s.bw.crc)
  else if h ≠ s.hd then 0
  else if off = 0x0108 then
    wordOf [(31, 1, b2n (decide (a.cfg.pendingSet ≠ a.cfg.committed))), (30, 1, b2n s.attn0), (29, 1, b2n s.attn1),
      (23, 6, x.spi0.length + x.spiN.length), (19, 4, x.udp.length)]
  else if off = 0x010C then x.badCrcs
  else if off = 0x0110 then x.lenExceeded
  else if off = 0x0114 then wordOf [(16, 16, x.spiAborts), (0, 16, x.spiOverruns)]
  else if off = 0x0118 then wordOf [(16, 16, x.udpDiscarded), (0, 16, x.replays)]
  else if off = 0x011C then wordOf [(16, 16, x.queueFulls), (0, 16, x.class0Unbound)]
  else if off = 0x0120 then x.class0Worst
  else 0

/-- Grid-forming status (Table 3.11): 0 before the first bus step. [DEDUCED, unsafe: log 109] -/
def State.formWord (s : State) (m : Firm) (off : Nat) : Nat :=
  let r := m.rotor
  let q := m.seq
  if off = 0x0300 then
    wordOf [(10, 2, m.sub.code), (9, 1, b2n q.armed), (8, 1, b2n q.bsPending),
      (7, 1, b2n (decide (m.sub = .islanded) && decide (0 < m.applied.get P_T_RESTORE))),
      (6, 1, b2n (decide (s.par P_PCC_FB_IN = 0xFF ∧ s.dev ≠ .boot))), (5, 1, b2n m.flags.harmSkipped), (3, 1, b2n q.missed),
      (2, 1, b2n m.flags.noCapacity), (1, 1, b2n m.flags.shareClamped), (0, 1, b2n m.flags.overmod)]
  else if m.busAt = 0 then 0
  else if off = 0x0304 then sf 32 (s.watts r.pe)
  else if off = 0x0308 then sf 32 (s.watts r.qe)
  else if off = 0x030C then wordOf [(16, 16, pct16 r.e), (0, 16, pct16 r.vPos)]
  else if off = 0x0310 then microHz (r.w * s.fNom)
  else if off = 0x0314 then microHz r.fGrid
  else if off = 0x0318 then wordOf [(16, 16, sf 16 (roundUpHalf (r.rf * 100000))), (0, 16, sf 16 (roundUpHalf (r.rv * 100000)))]
  else if 0x0320 ≤ off ∧ off < 0x0350 then
    let x := Vector.at_ m.shares ((off - 0x0320) / 4) {}
    wordOf [(16, 16, weightFrac x.w), (0, 16, weightFrac x.h)]
  else if 0x0350 ≤ off ∧ off < 0x0380 then weightFrac (Vector.at_ m.shares ((off - 0x0350) / 4) {}).q
  else 0

/-- Elapsed time of the open voltage event, µs (Table 4.11). -/
def State.elapsed (s : State) (m : Firm) : Nat := if m.ride.fault then min (2 ^ 32 - 1) ((s.clk.now - m.ride.origin) / 400) else 0

/-- Ride-through status (Table 4.11). -/
def State.rideWord (s : State) (m : Firm) (off : Nat) : Nat :=
  let r := m.ride
  if off = 0x0380 then
    wordOf [(15, 1, b2n r.fault), (14, 1, b2n r.freq), (13, 1, b2n r.limitActive), (12, 1, b2n r.recovering.isSome),
      (11, 1, b2n r.held.isSome), (10, 1, b2n r.realign.isSome), (6, 4, m.flags.envExit), (5, 1, b2n m.flags.repeatTrip),
      (4, 1, b2n m.flags.vinstTrip), (3, 1, b2n m.flags.phaseJump), (2, 1, b2n m.flags.rocofHigh), (1, 1, b2n (decide (1 / 1000 < r.dx)))]
  else if off = 0x0384 then min 0xFF (s.recentOrigins m).length
  else if off = 0x0388 then s.elapsed m
  else if off = 0x038C then r.rmsWord
  else if off = 0x0390 then microHz r.fMeas
  else if off = 0x0394 then sf 32 (roundUpHalf (r.rocof * 1000))
  else if off = 0x0398 then wordOf [(16, 16, sf 16 (roundUpHalf (r.pjLast * 36000))), (0, 16, satU 16 (roundUpHalf (r.dx * 1000)))]
  else if off = 0x039C then wordOf [(16, 16, pct16 (ratAbs r.idLim)), (0, 16, pct16 (ratAbs r.iqLim))]
  else if off = 0x03A0 then vmask m.shares (·.limited)
  else if off = 0x03A4 then vmask m.shares fun x => decide (x.gov < 1)
  else 0

/-- Engine status and step counters (Tables 5.9 to 5.11). [DEDUCED, unsafe: log 60] -/
def State.engineWord (s : State) (h : Hd) (m : Firm) (off : Nat) : Nat :=
  let e := s.hl[h].engine
  if off = 0x0400 then
    wordOf [(7, 1, b2n e.run), (6, 1, b2n m.flags.capacityShort), (5, 1, b2n m.flags.sat), (4, 1, b2n m.flags.accWrap)]
  else if off = 0x0404 then wordOf [(8, 8, e.peak), (0, 8, e.average s.clk.now)]
  else if hp : 0x0408 ≤ off ∧ off < 0x0438 then
    let p : Port := ⟨(off - 0x0408) / 4, by omega⟩
    let x := m.steps[p]
    wordOf [(30, 2, x.lateRun), (23, 7, x.plausRun), (22, 1, b2n (m.life[p].gateEn && decide (m.applied.get (PP_SPEC_EN p) = 1))),
      (21, 1, b2n x.tight), (20, 1, b2n x.cold), (8, 4, x.missLoops), (2, 1, b2n x.implausTrip), (1, 1, b2n x.lateTrip), (0, 1, b2n x.specLate)]
  else if 0x0440 ≤ off ∧ off < 0x0500 then
    Vector.at_ (Vector.at_ m.steps ((off - 0x0440) / 16) {}).counters (off % 16 / 4) 0
  else 0

def TraceState.code : TraceState → Nat
  | .idle => 0 | .armed => 1 | .triggered => 2 | .done => 3

/-- Auxiliary converter (Table 8.10), NEW included. -/
def Adc.word (a : Adc) (off : Nat) : Nat :=
  if off = 0x0600 then
    wordOf [(24, 8, a.seqCount), (16, 3, a.urgent.length), (15, 1, b2n a.running), (14, 1, b2n a.scheduled.isSome),
      (13, 1, b2n (a.resuming && !a.between)), (8, 5, a.entry), (2, 1, b2n a.ovrSeen), (1, 1, b2n a.shiftSeen), (0, 1, b2n a.trigOverrun)]
  else if off = 0x0604 then a.overruns
  else if 0x0610 ≤ off ∧ off < 0x06A0 then
    let i := (off - 0x0610) / 4
    Vector.at_ a.results i 0 + (if Vector.at_ a.fresh i false then 2 ^ 31 else 0)
  else 0

/-- A stored signal, 0 when unmapped or never stored. -/
def PortLife.signal (l : PortLife) (i : Nat) : Int := ((Vector.at_ l.signals i {}).val).getD 0

/-- Port life-cycle registers (Table 9.11). -/
def State.lifeWord (s : State) (m : Firm) (off : Nat) : Nat :=
  if hp : 0x0700 ≤ off ∧ off < 0x0760 then
    let p : Port := ⟨(off - 0x0700) / 8, by omega⟩
    let l := m.life[p]
    if off % 8 = 0 then
      let map := s.act.cfg.committed.maps[p]
      wordOf [(28, 4, l.life.code), (24, 4, l.cause), (23, 1, b2n l.admitPending), (22, 1, b2n l.testsValid), (20, 2, l.loop),
        (19, 1, b2n l.latch), (18, 1, b2n l.btnSeen), (17, 1, b2n l.bmsRange), (8, 8, vmask l.signals (·.fresh)),
        (0, 8, maskOf 8 fun i => map.any fun e => decide (e.signal = i))]
    else wordOf [(16, 16, u16frac l.kRel)]
  else if 0x0780 ≤ off ∧ off < 0x0840 then
    let l := Vector.at_ m.life ((off - 0x0780) / 16) {}
    let k := off % 16 / 4
    if k = 0 then toTwos 32 (l.signal 5)
    else if k = 1 then toTwos 32 (l.signal 6)
    else if k = 2 then wordOf [(16, 16, (l.signal 0).toNat), (0, 16, (l.signal 1).toNat)]
    else wordOf [(16, 16, (l.signal 2).toNat), (0, 16, (l.signal 4).toNat)]
  else 0

/-- Slots of a mirror period, and the length of one in ticks (R377). -/
def State.mirrorSlots (s : State) : Nat := max 1 (ceilDiv (1000000 * 10) (9 * s.parN P_CARRIER_N * s.fNom * 10))
def State.slotTicks (s : State) : Rat := (4000000000 : Rat) / (9 * s.parN P_CARRIER_N * s.fNom) / s.mirrorSlots

/-- PAIR (Table 12.5). -/
def State.pairWord (s : State) (h : Hd) (off : Nat) : Nat :=
  let x := s.hl[h].pair
  if off = 0x0900 then
    let ok := match x.peerSeen with
      | some t => decide (((s.clk.now - t : Nat) : Rat) ≤ 2 * s.slotTicks)
      | none => false
    wordOf [(28, 4, x.role.code), (27, 1, b2n (decide (s.bw.token = some h))), (26, 1, b2n ok), (25, 1, b2n x.eligible),
      (24, 1, b2n x.handover), (8, 5, x.inelig), (0, 2, x.missRun)]
  else if off = 0x0904 then x.hashSelf
  else if off = 0x0908 then x.hashPeer
  else if off = 0x090C then x.takeovers
  else if off = 0x0910 then wordOf [(16, 16, x.mirrorBad), (0, 16, x.mirrorDrops)]
  else if off = 0x0914 then wordOf [(24, 8, x.lastCause)]
  else 0

/-- Offset as a register, 0 when none. -/
def offsetWord (o : Option Int) : Nat := sf 32 (o.getD 0)
/-- RATE_PPB: oscillator correction plus ADJ frequency part (Table 13.8). -/
def Ptp.rate (p : Ptp) : Int := p.corr + p.freqPpb

/-- Time and network registers (Table 13.8). -/
def State.netWord (s : State) (h : Hd) (off : Nat) : Nat :=
  let a := s.hl[h]
  let t := a.ptp
  let gm := be 8 (gmIdOf a)
  if off = 0x0A00 then t.sec
  else if off = 0x0A04 then wordOf [(31, 1, b2n t.valid), (0, 30, t.subNs)]
  else if off = 0x0A08 then offsetWord t.ports[t.sel].offset
  else if off = 0x0A0C then t.ports[t.sel].meanDelay
  else if off = 0x0A10 then
    wordOf [(28, 4, t.state.code), (27, 1, t.sel.val), (26, 1, b2n (decide (s.par P_SYNT_EN = 1) && decide (t.state = .locked))),
      (25, 1, b2n t.syntRange), (24, 1, b2n t.stepped), (23, 1, b2n t.netDiff), (8, 8, t.ports[0].portState), (0, 8, t.ports[1].portState)]
  else if off = 0x0A14 then sf 32 t.rate
  else if off = 0x0A18 then
    let o := t.ports[otherNet t.sel]
    if o.portState = psPassive then offsetWord o.offset else 0
  else if off = 0x0A1C then rd gm 0 4
  else if off = 0x0A20 then rd gm 4 4
  else if 0x0A40 ≤ off ∧ off < 0x0A80 then
    let n := Vector.at_ a.net.ports ((off - 0x0A40) / 0x20) {}
    let k := off % 0x20
    if k = 0x00 then wordOf [(31, 1, b2n n.link), (0, 16, n.linkDowns)]
    else if k = 0x04 then n.rxFrames
    else if k = 0x08 then n.txFrames
    else if k = 0x0C then n.rxFcsErr
    else if k = 0x10 then n.dups
    else if k = 0x14 then n.rxDropped
    else if k = 0x18 then wordOf [(16, 16, n.looped), (0, 16, n.foreignSite)]
    else wordOf [(16, 16, n.txLate), (0, 16, n.rxUnclaimed)]
  else if 0x0B00 ≤ off ∧ off < 0x0D00 then
    let u := (off - 0x0B00) / 16
    let p := if u + 1 = s.parN P_UNIT_ID then {} else Vector.at_ a.net.peers u {}
    let k := off % 16 / 4
    if !p.known && !p.diff[3] then 0
    else if k = 0 then
      wordOf [(31, 1, b2n p.known), (30, 1, b2n p.lost), (29, 1, b2n p.diff[0]), (28, 1, b2n p.diff[1]), (27, 1, b2n p.diff[2]),
        (26, 1, b2n p.diff[3]), (25, 1, b2n p.diff[4]), (24, 1, b2n p.ptpValid), (16, 8, p.state), (8, 8, p.romMajor), (0, 8, p.romMinor)]
    else if k = 1 then p.hash
    else if k = 2 then p.offsetWord
    else wordOf [(16, 16, min 65535 ((s.clk.now - p.usedAt) / 400000)), (0, 16, p.seq)]
  else 0

/-- Oldest record number held; 1 where none has been written. -/
def Log.oldest (l : Log) : Nat := (l.records.head?.map (·.number)).getD 1

/-- Recorder registers (Table 16.7). -/
def State.recWord (s : State) (h : Hd) (off : Nat) : Nat :=
  let x := s.hl[h].cap
  let l := s.hl[h].log
  if off = 0x0D00 then
    wordOf [(28, 4, x.state.code), (27, 1, b2n x.overflow), (26, 1, b2n x.maskStop), (25, 1, b2n x.forced), (24, 1, b2n x.eccDiscard),
      (16, 8, x.maskHit)]
  else if off = 0x0D04 then x.recordNo
  else if off = 0x0D08 then x.sets.length
  else if off = 0x0D0C then x.trig.1
  else if off = 0x0D10 then wordOf [(31, 1, b2n x.trigValid), (0, 30, x.trig.2.1)]
  else if off = 0x0D14 then wordOf [(16, 16, x.trig.2.2)]
  else if off = 0x0D18 then x.streamSent
  else if off = 0x0D1C then x.streamLost
  else if off = 0x0D40 then l.newest
  else if off = 0x0D44 then l.oldest
  else if off = 0x0D48 then l.cursor
  else if off = 0x0D4C then wordOf [(31, 1, b2n l.frozen), (30, 1, b2n l.unread), (29, 1, b2n l.post.isSome)]
  else if off = 0x0D50 then l.frozenDrops
  else if off = 0x0D54 then l.rateDrops
  else if off = 0x0D58 then l.opSec
  else if off = 0x0D5C then l.pcc
  else 0

/-- A loop word (Table 18.10). -/
def ClockLoop.word (c : ClockLoop) : Nat := wordOf [(30, 2, c.state.code), (29, 1, b2n c.steerLimit), (0, 8, sf 8 c.phaseErr)]
/-- BYPASS of Tables 18.10 and 15.10. -/
def Clocks.bypass (c : Clocks) : Nat := vmask c.hd (·.bypass) + 4 * vmask c.shoal (·.bypass)

/-- Clock registers (Table 18.10). -/
def State.clockWord (s : State) (h : Hd) (off : Nat) : Nat :=
  let x := s.clocks
  if off = 0x0E00 then wordOf [(7, 1, b2n x.refLost), (6, 1, b2n (x.stop.toList.any id)), (0, 6, x.bypass)]
  else if off = 0x0E04 then x.unlocks
  else if off = 0x0E08 then x.hd[h].word
  else if off = 0x0E0C then x.lastUnlock
  else 0

/-- CRC unit registers (Table 18.12). -/
def CrcUnit.word (u : CrcUnit) (k : Nat) : Nat :=
  if k = 0 then wordOf [(24, 8, u.width), (16, 8, u.flags), (8, 8, u.snoop)]
  else if k = 1 then u.poly
  else if k = 2 then u.init
  else if k = 3 then u.xorout
  else if k = 4 then u.reg
  else if k = 5 then u.result
  else if k = 6 then u.frames
  else u.mismatches

/-- A word of a Headland's block, as it stands. -/
def State.headWord (s : State) (h : Hd) (off : Nat) : Nat :=
  let a := s.hl[h]
  let m := s.firmOf h
  if off < 0x0200 then s.hostWord h off
  else if off = 0x0240 then a.replica.atTime.1
  else if off = 0x0244 then wordOf [(31, 1, b2n a.replica.atTime.2.2), (0, 30, a.replica.atTime.2.1)]
  else if off = 0x0248 then a.replica.atTheta
  else if off = 0x024C then a.replica.atInc
  else if off < 0x0300 then 0
  else if off < 0x0380 then s.formWord m off
  else if off < 0x0400 then s.rideWord m off
  else if off < 0x0500 then s.engineWord h m off
  else if off = 0x0500 then wordOf [(14, 2, a.trace.state.code), (0, 14, a.trace.words.length)]
  else if off = 0x0504 then a.trace.trigStep
  else if off < 0x0600 then 0
  else if off < 0x0700 then a.adc.word off
  else if off < 0x0900 then s.lifeWord m off
  else if off < 0x0A00 then s.pairWord h off
  else if off < 0x0D00 then s.netWord h off
  else if off < 0x0E00 then s.recWord h off
  else if off < 0x0F00 then s.clockWord h off
  else if off < 0x1000 then (Vector.at_ a.crc ((off - 0x0F00) / 0x20) {}).word (off % 0x20 / 4)
  else 0

/-! ### Shoal, Skerry, Breakwater, Shore, Lookout, Heartwood -/

/-- Port pulse registers (Table 6.9). -/
def Pwm.word (w : Pwm) (ps off : Nat) : Nat :=
  if off = 0x00 then
    wordOf [(24, 8, w.idx), (22, 2, ps), (21, 1, b2n w.empty), (20, 1, b2n w.gatesEn), (19, 1, b2n w.held), (18, 1, b2n w.safe),
      (17, 1, b2n w.trip), (7, 1, b2n w.dtStretch), (6, 1, b2n w.dutyRange), (5, 1, b2n w.staleDuty), (4, 1, b2n w.shortPeriod),
      (3, 1, b2n w.bsRefresh), (2, 1, b2n w.minDrop)]
  else if off = 0x04 then w.tPred
  else if off < 0x18 then (Vector.at_ w.legs ((off - 0x08) / 4) {}).duty
  else if off < 0x28 then toTwos 32 (Vector.at_ w.legs ((off - 0x18) / 4) {}).carry
  else if off < 0x38 then Vector.at_ w.counters ((off - 0x28) / 4) 0
  else 0

/-- The link of local index j at Shoal k; j = 3 is Skerry G, of Shoal 0 only. -/
def shoalLink (k : Shoal) (j : Nat) : Option Link :=
  if h : j < 3 then some (linkOf (portOf k ⟨j, h⟩)) else if k = 0 then some linkG else none

/-- Decimator status of a link (Table 8.9). -/
def DecLink.status (d : DecLink) (isG : Bool) : Nat :=
  wordOf [(24, 7, d.stuckSeen), (23, 1, b2n (d.restarting isG)), (16, 7, d.stuck), (15, 1, b2n d.ntcFault), (8, 7, d.chSat), (0, 7, d.lost)]

/-- The four words of a tide entry (Table 2.6). -/
def TideEntry.words (e : TideEntry) : List Nat :=
  [e.angle,
   wordOf [(31, 1, b2n e.enable), (30, 1, b2n e.periodic), (29, 1, b2n e.gated), (28, 1, b2n e.armed), (24, 4, e.action), (20, 4, e.ref),
     (16, 4, e.port), (8, 8, e.arg), (0, 8, e.fireCount)],
   e.gateSec, e.gateNs]

/-- A word of a Shoal's block, as it stands. -/
def State.shoalWord (s : State) (k : Shoal) (off : Nat) : Nat :=
  let h := s.shoals[k]
  if off = 0x000 then thetaOf h.acc
  else if off = 0x004 then h.acc % 2 ^ 16
  else if off = 0x008 then h.inc
  else if off = 0x00C then h.tick
  else if off = 0x010 then
    wordOf [(16, 16, sf 16 h.lastDelta), (5, 1, b2n s.clocks.shoal[k].bypass), (4, 1, b2n h.holding), (3, 1, b2n h.lateApply),
      (2, 1, b2n h.incClamped), (1, 1, b2n h.slip), (0, 1, b2n h.reanchored)]
  else if off = 0x014 then s.incMin
  else if off = 0x018 then s.incMax
  else if hp : 0x100 ≤ off ∧ off < 0x1C0 then
    s.pwm[portOf k ⟨(off - 0x100) / 0x40, by omega⟩].word (prescale (s.parN P_CARRIER_N) s.fNom) (off % 0x40)
  else if off = 0x1C0 then wordOf [(3, 1, b2n h.dlLock), (2, 1, b2n h.dlUnlocked), (1, 1, b2n h.safeRegion)]
  else if off = 0x1C4 then h.dlCode
  else if off = 0x1C8 then wordOf [(8, 1, b2n h.safeHold), (4, 4, h.holdLimit), (0, 4, h.holdCount)]
  else if off = 0x1CC then h.otherFrames
  else if 0x1D0 ≤ off ∧ off < 0x1E0 then
    match shoalLink k ((off - 0x1D0) / 4) with
    | some l => wordOf [(16, 16, s.ul[l].bad), (3, 1, b2n s.ul[l].loss), (0, 3, s.ul[l].run)]
    | none => 0
  else if 0x200 ≤ off ∧ off < 0x210 then
    match shoalLink k ((off - 0x200) / 4) with
    | some l => s.dec[l].status (decide (l = linkG))
    | none => 0
  else if 0x220 ≤ off ∧ off < 0x240 then
    match shoalLink k ((off - 0x220) / 8) with
    | some l =>
      let cs := s.dec[l].cfg
      if off % 8 = 0 then wordOf [(16, 16, cs[0]), (0, 16, cs[1])]
      else if l = linkG then 0 else wordOf [(16, 16, cs[2]), (0, 16, cs[3])]
    | none => 0
  else if 0x400 ≤ off ∧ off < 0x600 then (Vector.at_ h.tides ((off - 0x400) / 16) {}).words.getD (off % 16 / 4) 0
  else if k ≠ 0 then (if off = 0x300 then s.clocks.shoal[k].word else 0)
  else if off = 0x240 then s.dec[linkG].shifts.1 % 2 ^ 32
  else if off = 0x244 then s.dec[linkG].shifts.1 / 2 ^ 32
  else if off = 0x248 then s.dec[linkG].shifts.2 % 2 ^ 32
  else if off = 0x24C then s.dec[linkG].shifts.2 / 2 ^ 32
  else if off = 0x300 then s.clocks.shoal[k].word
  else 0

/-- A word of a Skerry's block (Table 7.10); a supply reading is a free value, counted by fresh, of a Skerry with power. Skerry G
has only SKERRY_STATUS [31:26] and the word at + 0x00C. [DESIGN CHOICE, safe: log 23] -/
def Skerry.word (k : Skerry) (isG : Bool) (fresh off : Nat) : Nat :=
  if isG && decide (off ≠ 0x000) && decide (off ≠ 0x00C) then 0
  else if off = 0x000 then (if isG then k.status / 2 ^ 26 * 2 ^ 26 else k.status)
  else if off = 0x004 then
    wordOf [(24, 8, k.fastShort), (16, 8, k.desat), (12, 4, k.uvPos), (8, 4, k.uvNeg), (4, 4, k.bsUv), (3, 1, b2n k.interlockHold),
      (2, 1, b2n k.bothOn), (1, 1, b2n k.latchBlocked), (0, 1, b2n k.latchTimeout)]
  else if off = 0x008 then
    wordOf [(7, 1, b2n k.coils[1].weld), (6, 1, b2n k.coils[0].weld), (5, 1, b2n k.coils[1].fail), (4, 1, b2n k.coils[0].fail),
      (3, 1, b2n k.packBusOff), (2, 1, b2n k.permitLost), (1, 1, b2n k.diagAborted)]
  else if off = 0x00C then wordOf [(16, 16, k.dlBad), (0, 3, k.dlRun)]
  else if 0x010 ≤ off ∧ off < 0x030 then (if k.good then Config.freeValue fresh % 2 ^ 32 else 0)
  else if off = 0x030 then wordOf [(30, 2, k.diag.state)]
  else if off = 0x034 then wordOf [(16, 16, k.diag.desat), (0, 16, k.diag.gate)]
  else if off = 0x038 then k.diag.leg
  else if off = 0x03C then wordOf [(30, 2, k.diag.iso), (0, 16, k.diag.isoK)]
  else 0

/-- A word of Breakwater's block (Table 11.11). -/
def Breakwater.word (b : Breakwater) (off : Nat) : Nat :=
  if off = 0x000 then
    wordOf [(31, 1, b2n b.lockout), (30, 1, b2n b.resetArmed), (29, 1, b2n b.commissionWait), (28, 1, b2n b.hlLost), (27, 1, b2n b.cfgValid),
      (26, 1, b2n b.shoreStuck), (25, 1, b2n b.sdcMod), (24, 1, b2n b.sgoMod), (20, 4, vmask b.outs (·.on)), (16, 4, vmask b.tpFault id),
      (8, 8, vmask b.inputs fun i => i.chans.toList.any (·.demand)), (0, 8, vmask b.inputs fun i => i.pulseFault || i.discFault)]
  else if off = 0x004 then wordOf [(24, 8, b.firstCause), (0, 16, b.lockouts)]
  else if 0x008 ≤ off ∧ off < 0x03C then
    let q := Vector.at_ b.ports ((off - 8) / 4) {}
    wordOf [(30, 2, q.kind.code), (29, 1, b2n q.portLockout), (28, 1, b2n q.latch[0]), (27, 1, b2n q.latch[1]), (26, 1, b2n q.latch[2]),
      (25, 1, b2n q.returnLost), (24, 1, b2n q.chDisc), (23, 1, b2n q.sdcFb), (22, 1, b2n q.unlockReq), (21, 1, b2n (decide (q.okRun = 5))),
      (20, 1, b2n (q.fb0Open && q.fb1Open)), (10, 10, q.vdc), (0, 10, q.imax)]
  else if off = 0x040 then b.crc
  else if off = 0x044 then safetyCrcOf b.pending
  else if 0x048 ≤ off ∧ off < 0x058 then
    let x := Vector.at_ b.sources ((off - 0x48) / 4) {}
    wordOf [(31, 1, b2n x.valid), (30, 1, b2n x.sgo), (29, 1, b2n x.sdc), (28, 1, b2n x.timedOut), (16, 12, x.ports), (8, 8, x.single),
      (0, 8, x.mismatch)]
  else if off = 0x058 then b.txSeq
  else 0

/-- A word of Breakwater's block as it reads: PENDING_CRC is 0 where no pending set stands, that is outside SERVICE (R368).
[DEDUCED, unsafe: log 109] -/
def State.bwWord (s : State) (off : Nat) : Nat := if off = 0x044 ∧ s.dev ≠ .service then 0 else s.bw.word off

/-- A word of Shore's block (Table 17.7). -/
def Shore.word (h : Shore) (off : Nat) : Nat :=
  if off = 0x000 then wordOf [(16, 16, vmask h.ins (·.level)), (0, 16, if h.inValid then 0xFFFF else 0)]
  else if off = 0x004 then wordOf [(16, 16, vmask h.outs (·.demand)), (0, 16, vmask h.outs (·.readback))]
  else if off = 0x008 then wordOf [(16, 16, vmask h.outs (·.stuckOn)), (0, 16, vmask h.outs (·.unexpected))]
  else if off = 0x00C then wordOf [(16, 16, vmask h.outs (·.overload)), (0, 16, vmask h.outs (·.sagLatched))]
  else if off = 0x010 then wordOf [(16, 16, vmask h.outs (·.tested)), (0, 16, vmask h.outs (·.joint))]
  else if off = 0x014 then
    wordOf [(31, 1, b2n h.ok), (30, 1, b2n h.hostSilent), (29, 1, b2n h.silent), (28, 1, b2n h.sagSeen), (27, 1, b2n h.silenceSeen),
      (26, 1, b2n h.abandoned), (0, 16, h.vfield)]
  else if 0x020 ≤ off ∧ off < 0x030 then Vector.at_ h.counts ((off - 0x20) / 4) 0
  else 0

/-- LOOP_CLASS of Table 17.8. -/
def Lookout.loopClass (k : Lookout) : Nat := (List.finRange 12).foldl (fun a p => a + k.loops[p] % 4 * 4 ^ p.val) 0

/-- A word of Lookout's block (Table 17.8). -/
def Lookout.word (k : Lookout) (off : Nat) : Nat :=
  if off = 0x000 then wordOf [(28, 1, b2n k.wakeN), (24, 4, vmask k.pads id), (0, 24, k.loopClass)]
  else if off = 0x004 then wordOf [(24, 8, k.lastWake), (16, 8, k.rules.length), (0, 16, k.fired)]
  else if off = 0x008 then k.wakes
  else if off = 0x00C then k.notes
  else 0

/-- A word of Heartwood's block (Table 18.11). [DEDUCED, unsafe: log 18] -/
def State.heartWord (s : State) (off : Nat) : Nat :=
  let x := s.heart
  if off = 0x000 then
    wordOf [(31, 1, b2n x.derated), (30, 1, b2n x.vsupLow), (29, 1, b2n x.iinLimit), (28, 1, b2n x.baseHot), (27, 1, b2n x.lockoutSeen),
      (0, 13, vmask s.sk (·.good))]
  else if off = 0x004 then wordOf [(16, 16, x.vsup), (0, 16, x.iin)]
  else if off = 0x008 then wordOf [(16, 16, sf 16 x.tBase), (0, 16, x.budget)]
  else if off = 0x00C then x.isoFault
  else 0

/-! ### The address map (Table 14.7) -/

/-- An address with the module window redirected to the token holder's block (R452). -/
def State.canonical (s : State) (a : Nat) : Nat := if a < 0x10000 then a + 0x10000 * (s.hd.val + 1) else a

/-- A word as it stands, at a canonical address; 0 outside every defined register (R21). -/
def State.liveWord (s : State) (a : Nat) : Nat :=
  if a < 0x10000 then 0
  else if a < 0x20000 then s.headWord 0 (a - 0x10000)
  else if a < 0x30000 then s.headWord 1 (a - 0x20000)
  else if hs : 0x100000 ≤ a ∧ a < 0x104000 then s.shoalWord ⟨(a - 0x100000) / 0x1000, by omega⟩ (a % 0x1000)
  else if hk : 0x200000 ≤ a ∧ a < 0x20D000 then s.sk[(a - 0x200000) / 0x1000].word (decide (0x20C000 ≤ a)) s.freeCount (a % 0x1000)
  else if 0x300000 ≤ a ∧ a < 0x310000 then s.bwWord (a - 0x300000)
  else if 0x310000 ≤ a ∧ a < 0x320000 then s.shore.word (a - 0x310000)
  else if 0x320000 ≤ a ∧ a < 0x330000 then s.lookout.word (a - 0x320000)
  else if 0x330000 ≤ a ∧ a < 0x340000 then s.heartWord (a - 0x330000)
  else if 0x400000 ≤ a ∧ a < 0x410000 then s.meter.word (a - 0x400000)
  else 0

/-- Supply readings of a Skerry. [DESIGN CHOICE, safe: log 23] -/
def isFreeWord (a : Nat) : Bool := decide (0x200000 ≤ a ∧ a < 0x20C000 ∧ 0x010 ≤ a % 0x1000 ∧ a % 0x1000 < 0x030)

/-! ### Snapshots (R587) -/

/-- Words from lo to hi, both included. -/
def wordRange (lo hi : Nat) : List Nat := (List.range ((hi - lo) / 4 + 1)).map fun i => lo + 4 * i

/-- Groups of a Headland block: the trigger and every word of the group, the trigger included. -/
def headGroups : List (Nat × List Nat) :=
  [(0x010C, wordRange 0x010C 0x0120), (0x0240, wordRange 0x0240 0x024C), (0x0304, wordRange 0x0300 0x037C),
   (0x0388, wordRange 0x0380 0x03A4), (0x0404, [0x0404]), (0x0604, 0x0604 :: wordRange 0x0610 0x069C),
   (0x090C, wordRange 0x090C 0x0914), (0x0A00, wordRange 0x0A00 0x0A20), (0x0A44, wordRange 0x0A44 0x0A5C),
   (0x0A64, wordRange 0x0A64 0x0A7C), (0x0D04, wordRange 0x0D04 0x0D1C), (0x0D40, wordRange 0x0D40 0x0D5C),
   (0x0E04, wordRange 0x0E04 0x0E0C)] ++
  (List.range 12).map (fun p => (0x0440 + 16 * p, wordRange (0x0440 + 16 * p) (0x044C + 16 * p))) ++
  (List.range 12).map (fun p => (0x0780 + 16 * p, wordRange (0x0780 + 16 * p) (0x078C + 16 * p))) ++
  (List.range 8).map fun u => (0x0F18 + 0x20 * u, wordRange (0x0F18 + 0x20 * u) (0x0F1C + 0x20 * u))

/-- Groups of a Shoal block. -/
def shoalGroups : List (Nat × List Nat) :=
  [(0x000, [0x000, 0x004, 0x00C]), (0x1CC, [0x1CC])] ++
  (List.range 3).map (fun j => (0x128 + 0x40 * j, wordRange (0x128 + 0x40 * j) (0x134 + 0x40 * j))) ++
  (List.range 4).map fun j => (0x1D0 + 4 * j, [0x1D0 + 4 * j])

/-- Groups of the Tide gauge. -/
def meterGroups : List (Nat × List Nat) :=
  (0x010, wordRange 0x010 0x01C) :: (List.range 12).map fun p => (0x040 + 16 * p, wordRange (0x040 + 16 * p) (0x04C + 16 * p))

/-- The snapshot group that holds a canonical address: base of its block, offset of the trigger, offsets of the group.
[DEDUCED, unsafe: log 97] -/
def groupOf (a : Nat) : Option (Nat × Nat × List Nat) :=
  let look := fun (base : Nat) (gs : List (Nat × List Nat)) => (gs.find? fun g => g.2.contains (a - base)).map fun g => (base, g.1, g.2)
  if 0x10000 ≤ a ∧ a < 0x30000 then look (a / 0x10000 * 0x10000) headGroups
  else if 0x100000 ≤ a ∧ a < 0x104000 then look (a / 0x1000 * 0x1000) shoalGroups
  else if 0x200000 ≤ a ∧ a < 0x20D000 then look (a / 0x1000 * 0x1000) [(0x00C, [0x00C])]
  else if 0x400000 ≤ a ∧ a < 0x410000 then look 0x400000 meterGroups
  else none

/-- What a word of a group reads before the first read of its trigger after a reset of its die (R587): the reset value of its
table; for a field that the table gives as MRAM, what the MRAM holds. -/
def State.resetWord (s : State) (base off : Nat) : Nat :=
  if 0x400000 ≤ base then s.meter.word off
  else if 0x30000 ≤ base then 0
  else if off = 0x024C then s.incNom
  else if off = 0x0D44 ∨ off = 0x0D48 then 1
  else if off = 0x0D4C then wordOf [(31, 1, b2n (Vector.at_ s.hl (base / 0x10000 - 1) {}).log.frozen)]
  else if off = 0x0D58 ∨ off = 0x0D5C then s.liveWord (base + off)
  else if off = 0x0E08 then wordOf [(30, 2, LoopState.acquiring.code)]
  else 0

/-- What the taking of a snapshot restarts: the intervals of PEAK_DEMAND, CLASS0_WORST and NEW. -/
def State.restartInterval (s : State) (base trigger : Nat) : State :=
  if base = 0x10000 ∨ base = 0x20000 then
    let h : Hd := if base = 0x10000 then 0 else 1
    if trigger = 0x0404 then s.modHl h fun a => { a with engine := { a.engine with peak := 0 } }
    else if trigger = 0x010C then s.modHl h fun a => { a with host := { a.host with class0Worst := 0 } }
    else if trigger = 0x0604 then s.modHl h fun a => { a with adc := { a.adc with fresh := Vector.replicate 36 false } }
    else s
  else s

/-- A read of one word (R450, R587): the state, and the value read. [DEDUCED, unsafe: log 18, 97] -/
def State.readWord (s : State) (addr : Nat) : State × Nat :=
  let a := s.canonical addr
  match groupOf a with
  | none => (if isFreeWord a then { s with freeCount := s.freeCount + 1 } else s, s.liveWord a)
  | some (base, trigger, offs) =>
    let snap := (s.rs.find? fun x => x.addr == base + trigger).getD
      { addr := base + trigger, view := offs.map (s.resetWord base), armed := offs.map (s.resetWord base) }
    let pos := offs.idxOf (a - base)
    if a = base + trigger then
      let taken : RsSnap := { addr := a, view := snap.armed, armed := offs.map fun o => s.liveWord (base + o) }
      (({ s with rs := taken :: s.rs.filter fun x => x.addr != a }).restartInterval base trigger, snap.armed.getD pos 0)
    else (s, snap.view.getD pos 0)

/-- Words from an address upwards. [DEDUCED, unsafe: log 97] -/
def State.readWords (s : State) (a : Nat) : Nat → State × List Nat
  | 0 => (s, [])
  | n + 1 =>
    let r := s.readWord a
    let rest := r.1.readWords (a + 4) n
    (rest.1, r.2 :: rest.2)

/-! ### Writes (R19, R20, R451) -/

/-- W1C bits of a Headland block. -/
def State.clearHead (s : State) (off : Nat) (c : Nat → Bool) : State :=
  let keep := fun (i : Nat) (b : Bool) => b && !c i
  if off = 0x0300 then
    s.modFirm fun m =>
      { m with
        flags := { m.flags with
          harmSkipped := keep 5 m.flags.harmSkipped, noCapacity := keep 2 m.flags.noCapacity
          shareClamped := keep 1 m.flags.shareClamped, overmod := keep 0 m.flags.overmod }
        seq := { m.seq with missed := keep 3 m.seq.missed } }
  else if off = 0x0380 then
    s.modFlags fun f =>
      { f with
        envExit := maskOf 4 fun n => keep (6 + n) (bit f.envExit n)
        repeatTrip := keep 5 f.repeatTrip, vinstTrip := keep 4 f.vinstTrip, phaseJump := keep 3 f.phaseJump, rocofHigh := keep 2 f.rocofHigh }
  else if off = 0x0400 then
    s.modFlags fun f => { f with capacityShort := keep 6 f.capacityShort, sat := keep 5 f.sat, accWrap := keep 4 f.accWrap }
  else if hp : 0x0408 ≤ off ∧ off < 0x0438 then
    s.modStep ⟨(off - 0x0408) / 4, by omega⟩ fun x =>
      { x with implausTrip := keep 2 x.implausTrip, lateTrip := keep 1 x.lateTrip, specLate := keep 0 x.specLate }
  else if off = 0x0600 then
    s.modAdc fun a => { a with ovrSeen := keep 2 a.ovrSeen, shiftSeen := keep 1 a.shiftSeen, trigOverrun := keep 0 a.trigOverrun }
  else if hp : 0x0700 ≤ off ∧ off < 0x0760 then
    if off % 8 = 0 then
      s.modLife ⟨(off - 0x0700) / 8, by omega⟩ fun l => { l with btnSeen := keep 18 l.btnSeen, bmsRange := keep 17 l.bmsRange }
    else s
  else if off = 0x0A10 then
    s.modPtp fun p => { p with syntRange := keep 25 p.syntRange, stepped := keep 24 p.stepped, netDiff := keep 23 p.netDiff }
  else if off = 0x0D00 then s.modCap fun x => { x with overflow := keep 27 x.overflow, eccDiscard := keep 24 x.eccDiscard }
  else if off = 0x0E08 then
    s.modClocks fun x => { x with hd := vmod x.hd s.hd fun l => { l with steerLimit := keep 29 l.steerLimit } }
  else s

/-- W1C bits of a Shoal block. -/
def State.clearShoal (s : State) (k : Shoal) (off : Nat) (c : Nat → Bool) : State :=
  let keep := fun (i : Nat) (b : Bool) => b && !c i
  if off = 0x010 then
    s.modShoal k fun h =>
      { h with lateApply := keep 3 h.lateApply, incClamped := keep 2 h.incClamped, slip := keep 1 h.slip, reanchored := keep 0 h.reanchored }
  else if hp : 0x100 ≤ off ∧ off < 0x1C0 then
    if off % 0x40 = 0 then
      s.modPwm (portOf k ⟨(off - 0x100) / 0x40, by omega⟩) fun w =>
        { w with
          dtStretch := keep 7 w.dtStretch, dutyRange := keep 6 w.dutyRange, staleDuty := keep 5 w.staleDuty
          shortPeriod := keep 4 w.shortPeriod, bsRefresh := keep 3 w.bsRefresh, minDrop := keep 2 w.minDrop }
    else s
  else if off = 0x1C0 then s.modShoal k fun h => { h with dlUnlocked := keep 2 h.dlUnlocked }
  else if off = 0x1C8 then s.modShoal k fun h => { h with safeHold := keep 8 h.safeHold }
  else if 0x1D0 ≤ off ∧ off < 0x1E0 then
    match shoalLink k ((off - 0x1D0) / 4) with
    | some l => s.modUl l fun u => { u with loss := keep 3 u.loss }
    | none => s
  else if 0x200 ≤ off ∧ off < 0x210 then
    match shoalLink k ((off - 0x200) / 4) with
    | some l =>
      s.modDec l fun d =>
        { d with
          stuckSeen := maskOf 7 fun i => keep (24 + i) (bit d.stuckSeen i), chSat := maskOf 7 fun i => keep (8 + i) (bit d.chSat i)
          lost := maskOf 7 fun i => keep i (bit d.lost i) }
    | none => s
  else if off = 0x300 then
    s.modClocks fun x => { x with shoal := vmod x.shoal k fun l => { l with steerLimit := keep 29 l.steerLimit } }
  else s

/-- W1C bits of a Skerry block (R246). -/
def Skerry.clear (k : Skerry) (off : Nat) (c : Nat → Bool) : Skerry :=
  let keep := fun (i : Nat) (b : Bool) => b && !c i
  let bits := fun (lo n v : Nat) => maskOf n fun i => keep (lo + i) (bit v i)
  if off = 0x004 then
    { k with
      fastShort := bits 24 8 k.fastShort, desat := bits 16 8 k.desat, uvPos := bits 12 4 k.uvPos, uvNeg := bits 8 4 k.uvNeg
      bsUv := bits 4 4 k.bsUv, interlockHold := keep 3 k.interlockHold, bothOn := keep 2 k.bothOn
      latchBlocked := keep 1 k.latchBlocked, latchTimeout := keep 0 k.latchTimeout }
  else if off = 0x008 then
    { k with
      coils := Vector.ofFn fun n => { k.coils[n] with weld := keep (6 + n.val) k.coils[n].weld, fail := keep (4 + n.val) k.coils[n].fail }
      packBusOff := keep 3 k.packBusOff, permitLost := keep 2 k.permitLost, diagAborted := keep 1 k.diagAborted }
  else k

/-- W1C bits of Shore, Lookout and Heartwood. -/
def Shore.clear (h : Shore) (off : Nat) (c : Nat → Bool) : Shore :=
  if off = 0x00C then { h with outs := Vector.ofFn fun n => { h.outs[n] with overload := h.outs[n].overload && !c (16 + n.val) } }
  else if off = 0x014 then
    { h with sagSeen := h.sagSeen && !c 28, silenceSeen := h.silenceSeen && !c 27, abandoned := h.abandoned && !c 26 }
  else h
def Lookout.clear (k : Lookout) (off : Nat) (c : Nat → Bool) : Lookout :=
  if off = 0x004 then { k with fired := maskOf 16 fun i => bit k.fired i && !c i } else k
def Heartwood.clear (x : Heartwood) (off : Nat) (c : Nat → Bool) : Heartwood :=
  if off = 0x000 then { x with lockoutSeen := x.lockoutSeen && !c 27 }
  else if off = 0x00C then { x with isoFault := maskOf 13 fun i => bit x.isoFault i && !c i }
  else x

/-- The words of the address map that hold W1C bits. -/
def w1cWords (s : State) : List Nat :=
  let range := fun (base step n : Nat) => (List.range n).map fun i => base + step * i
  let block := 0x10000 * (s.hd.val + 1)
  ([0x0300, 0x0380, 0x0400, 0x0600, 0x0A10, 0x0D00, 0x0E08] ++ range 0x0408 4 12 ++ range 0x0700 8 12).map (block + ·) ++
    (range 0x100000 0x1000 4).flatMap (fun b => ([0x010, 0x1C0, 0x1C8, 0x300] ++ range 0x100 0x40 3 ++ range 0x1D0 4 4 ++ range 0x200 4 4).map (b + ·)) ++
    (range 0x200000 0x1000 12).flatMap (fun b => [b + 4, b + 8]) ++ [0x31000C, 0x310014, 0x320004, 0x330000, 0x33000C]

/-- A cycle begins: what its W1C bits hold before anything in it sets one (R20). [DESIGN CHOICE, unsafe: log 1] [DEDUCED, unsafe: log 110] -/
def State.beginCycle (s : State) : State := { s with cycle := some ((w1cWords s).map fun a => (a, s.liveWord a)) }

/-- A bit of a word that stood as the present cycle began: one that was set within the cycle is not cleared in it (R20).
[DEDUCED, unsafe: log 110] -/
def State.stood (s : State) (a i : Nat) : Bool :=
  match s.cycle with
  | none => true
  | some ws => match ws.lookup a with
    | none => true
    | some w => bit w i

/-- A write: each W1C bit with MASK and VALUE both 1 clears, unless it was set in the same cycle (R20); every other bit of these
tables is read-only (R451). [DEDUCED, unsafe: log 110] -/
def State.writeWord (s : State) (addr mask value : Nat) : State :=
  let a := s.canonical addr
  let c := fun i => bit (mask &&& value) i && s.stood a i
  if a < 0x30000 then s.clearHead (a % 0x10000) c
  else if hs : 0x100000 ≤ a ∧ a < 0x104000 then s.clearShoal ⟨(a - 0x100000) / 0x1000, by omega⟩ (a % 0x1000) c
  else if hk : 0x200000 ≤ a ∧ a < 0x20C000 then s.modSk ⟨(a - 0x200000) / 0x1000, by omega⟩ fun k => k.clear (a % 0x1000) c
  else if 0x310000 ≤ a ∧ a < 0x320000 then s.modShore fun h => h.clear (a - 0x310000) c
  else if 0x320000 ≤ a ∧ a < 0x330000 then s.modLookout fun k => k.clear (a - 0x320000) c
  else if 0x330000 ≤ a ∧ a < 0x340000 then s.modHeart fun x => x.clear (a - 0x330000) c
  else s

/-! ### READ_REG and WRITE_REG -/

/-- The address lies in the block of the Headland that does not hold the token. -/
def State.inPeerBlock (s : State) (addr : Nat) : Bool := decide (addr / 0x10000 = (peerOf s.hd).val + 1)

/-- The peer has acknowledged within the last 100 ms (R450, R395). -/
def State.peerAcked (s : State) : Bool :=
  match s.act.pair.lastAck with
  | some t => decide (s.clk.now < t + msTicks 100)
  | none => false

/-- The answer to READ_REG (R450, R328). [DEDUCED, unsafe: log 83] -/
def readRegAns (b : List Byte) (s : State) : Ans :=
  let addr := rd b 0 4
  let count := rd b 4 2
  s.check
    [(decide (b.length ≠ 8), ST_BAD_LENGTH), (decide (addr % 4 ≠ 0), ST_BAD_PARAMETER),
     (decide (count = 0 ∨ rd b 6 2 ≠ 0), ST_BAD_PARAMETER), ((blockOf addr).isNone, ST_OUT_OF_RANGE),
     (s.inPeerBlock addr && !s.peerAcked, ST_NOT_ACTIVE), (decide (0x400000 ≤ addr) && s.meter.absent, ST_STATE_FORBIDS),
     (decide (0x400000 ≤ addr) && !s.meter.powered, ST_INTERNAL_FAULT)]
    fun s =>
      let n := match blockOf addr with
        | some (base, size) => min (min count 1022) ((base + size - addr) / 4)
        | none => 0
      let r := (if addr = 0x400000 then s.noteSeal else s).readWords addr n
      r.1.ok (le 2 n ++ zeros 2 ++ words r.2)

def writeRegAns (b : List Byte) (s : State) : Ans :=
  let addr := rd b 0 4
  s.check
    [(decide (b.length ≠ 12), ST_BAD_LENGTH), (decide (addr % 4 ≠ 0), ST_BAD_PARAMETER), ((blockOf addr).isNone, ST_OUT_OF_RANGE),
     (decide (0x300000 ≤ addr ∧ addr < 0x310000) || decide (0x400000 ≤ addr), ST_SEALED), (s.inPeerBlock addr, ST_NOT_ACTIVE)]
    fun s => (s.writeWord addr (rd b 4 4) (rd b 8 4)).ok

def execReadReg (r : Req) (s : State) : Res := .next (s.host 0x18 r .device (readRegAns r.payload))
def execWriteReg (r : Req) (s : State) : Res := .next (s.host 0x19 r .device (writeRegAns r.payload))

end Sys2Proof.Machine
end

