-- ==== Sys2Proof/Machine/RingLog.lean ====
section
/-! DEFINITION. The Ring log: records, rate limits, freezing, reading
(16_capture_and_history.md R492 to R502). -/
namespace Sys2Proof.Machine

/-! ### Records -/

/-- A record's 64 bytes (Table 16.5). -/
def LogRecord.bytes (r : LogRecord) : List Byte :=
  let e := r.event
  let flags := wordOf [(0, 1, b2n e.ptpValid), (1, 1, r.writer.val), (2, 1, b2n r.suppressed), (3, 1, b2n r.snapshot)]
  let data := (List.range 6).map fun i => e.data.getD i 0
  let body := le 4 r.number ++ le 4 e.opSec ++ le 3 e.pcc ++ le 1 flags ++ le 1 e.code ++ le 1 e.source ++ le 2 r.dropped ++ le 4 e.ptpSec ++
    le 4 e.ptpNs ++ le 4 e.tick ++ le 4 e.arg0 ++ le 4 e.arg1 ++ words data
  body ++ le 4 (crc32c body)

/-- A count by code. -/
def countOf (l : List (Nat × Nat)) (code : Nat) : Nat := ((l.find? fun x => x.1 == code).map (·.2)).getD 0
def setCount (l : List (Nat × Nat)) (code n : Nat) : List (Nat × Nat) := (code, n) :: l.filter fun x => x.1 != code

/-- The log holds 32,768 records: one more displaces the lowest number, and the cursor with it (R496, R500). [DEDUCED, unsafe: log 87] -/
def Log.push (l : Log) (r : LogRecord) : Log :=
  let rs := (l.records ++ [r]).drop (l.records.length + 1 - 32768)
  { l with records := rs, newest := r.number, gap := 0, cursor := max l.cursor ((rs.head?.map (·.number)).getD 1) }

/-- Registers of a snapshot set, live and without arming (R495). -/
def State.snapshot (s : State) (set : Nat) : State × List Nat :=
  (List.range 6).foldl (fun (x : State × List Nat) i =>
    let addr := s.parN (P_LOG_SNAP set i)
    if addr = 0xFFFFFFFF then (x.1, x.2 ++ [0])
    else
      let a := x.1.canonical addr
      (if isFreeWord a then { x.1 with freeCount := x.1.freeCount + 1 } else x.1, x.2 ++ [x.1.liveWord a])) (s, [])

/-- One more record counts towards an automatic freeze (R498). -/
def Log.countPost (l : Log) : Log :=
  match l.post with
  | some n => if n ≤ 1 then { l with post := none, frozen := true } else { l with post := some (n - 1) }
  | none => l

/-- An entry into TRIPPED or LOCKOUT starts the count of LOG_POST (R498). -/
def Log.startPost (l : Log) (n : Nat) : Log :=
  if l.frozen || l.post.isSome then l else if n = 0 then { l with frozen := true } else { l with post := some n }

/-- Write one event's record (R494 to R497). [DEDUCED, unsafe: log 89] -/
def State.writeRecord (s : State) (e : Event) : State :=
  let ctrl := s.parN (P_LOG_CTRL e.code)
  let set := ctrl % 16
  let snap := decide (set ≤ 7)
  let x := if snap then s.snapshot set else (s, e.data)
  let l := x.1.act.log
  let drops := countOf l.dropped e.code
  let r : LogRecord :=
    { number := l.newest + 1 + l.gap, event := { e with data := x.2 }, writer := s.hd, suppressed := decide (drops ≠ 0), snapshot := snap,
      dropped := drops }
  let s1 := x.1.modLog fun l =>
    { (l.push r).countPost with
      written := setCount l.written e.code (countOf l.written e.code + 1), dropped := l.dropped.filter fun y => y.1 != e.code }
  if bit (s.parN P_MIRROR_SEL) 0 then s1.modPair s.hd fun p => p.pushItem (.log r.number) else s1

/-- The oldest event that waits is written, or dropped by the rate of its code (R497); LOG_RESUMED comes first (R498).
[DEDUCED, unsafe: log 87] -/
def State.logWrite (s : State) : State :=
  let l := s.act.log
  if l.resume then
    let s1 := s.writeRecord (s.stamped s.act.replica.tick { code := 0x60, arg0 := l.frozenDrops })
    s1.modLog fun l => { l with resume := false, frozenDrops := 0 }
  else match l.queue with
    | [] => s
    | e :: rest =>
      let s1 := s.modLog fun l => { l with queue := rest }
      let rate := s.parN (P_LOG_CTRL e.code) / 256
      let s2 := if countOf l.written e.code < rate then s1.writeRecord e
        else s1.modLog fun l =>
          { l with dropped := setCount l.dropped e.code (satInc 16 (countOf l.dropped e.code)), rateDrops := satInc 32 l.rateDrops }
      if e.entry then s2.modLog fun l => l.startPost (s.parN P_LOG_POST) else s2

/-- LOG_RECORD_WRITE (R494, R495): the token holder writes. [DEDUCED, unsafe: log 87, 89] -/
def execLogRecordWrite (s : State) : Res := .next (if s.dev = .standby ∨ s.act.pair.role ≠ .active then s else s.logWrite)

/-- OP_SEC_TICK (R493, R497): both Headlands count the seconds while they are powered. -/
def execOpSecTick (s : State) : Res :=
  .next (if s.dev = .standby ∨ s.clk.now < s.act.log.opAt + msTicks 1000 then s
    else s.modBoth fun a => { a with log := { a.log with opSec := (a.log.opSec + 1) % 2 ^ 32, opAt := s.clk.now, written := [] } })

/-! ### Host commands (Table 15.8) -/

def logFreezeAns (b : List Byte) (s : State) : Ans :=
  s.check [(decide (b.length ≠ 0), ST_BAD_LENGTH)] fun s => (s.modLog fun l => { l with frozen := true, post := none }).ok

def logUnfreezeAns (b : List Byte) (s : State) : Ans :=
  s.check [(decide (b.length ≠ 0), ST_BAD_LENGTH)] fun s =>
    (s.modLog fun l => if l.frozen then { l with frozen := false, post := none, resume := true } else l).ok

/-- LOG_WINDOW: the records with the lowest numbers held at or above FIRST. -/
def logWindowAns (b : List Byte) (s : State) : Ans :=
  s.check [(decide (b.length ≠ 6), ST_BAD_LENGTH), (decide (rd b 4 2 = 0), ST_BAD_PARAMETER)] fun s =>
    let l := s.act.log
    let rs := (l.records.filter fun r => decide (rd b 0 4 ≤ r.number)).take (min 16 (rd b 4 2))
    s.ok (le 2 rs.length ++ zeros 2 ++ le 4 l.oldest ++ le 4 l.newest ++ rs.flatMap (·.bytes))

/-- LOG_CURSOR (R500, R382). -/
def logCursorAns (b : List Byte) (s : State) : Ans :=
  let l := s.act.log
  let c := rd b 0 4
  s.check [(decide (b.length ≠ 4), ST_BAD_LENGTH), (decide (l.newest + 1 < c), ST_OUT_OF_RANGE)] fun s =>
    let c1 := max c l.oldest
    (s.modLog fun l => { l with cursor := c1 }).okAck (le 4 c1)

def execLogFreeze (r : Req) (s : State) : Res := .next (s.host 0x60 r .device (logFreezeAns r.payload))
def execLogWindow (r : Req) (s : State) : Res := .next (s.host 0x61 r .device (logWindowAns r.payload))
def execLogCursor (r : Req) (s : State) : Res := .next (s.host 0x62 r .device (logCursorAns r.payload))
def execLogUnfreeze (r : Req) (s : State) : Res := .next (s.host 0x63 r .device (logUnfreezeAns r.payload))

end Sys2Proof.Machine
end

