-- ==== Sys2Proof/Machine/HostCmds.lean ====
section
/-! DEFINITION. Host commands over field I/O, panel, clocks, check-value units, safety, metrology, time and networks, the tide
table (15_command_reference.md and the chapters it names). -/
namespace Sys2Proof.Machine

/-! ### Field I/O and panel (Table 15.9) -/

def fieldStatusAns (b : List Byte) (s : State) : Ans :=
  s.check [(decide (b.length ≠ 0), ST_BAD_LENGTH)] fun s =>
    let h := s.shore
    s.ok (le 2 (vmask h.ins (·.level)) ++ le 2 (if h.inValid then 0xFFFF else 0) ++ le 2 (vmask h.outs (·.demand)) ++
      le 2 (vmask h.outs (·.readback)) ++ le 2 (vmask h.outs (·.stuckOn)) ++ le 2 (vmask h.outs (·.unexpected)) ++ le 2 h.vfield ++
      le 1 (wordOf [(0, 1, b2n h.ok), (1, 1, b2n h.hostSilent), (2, 1, b2n h.silent)]) ++ zeros 1)

/-- FIELD_OUT: the demands of MASK, and the release of their sag latches (R515). -/
def Shore.fieldOut (h : Shore) (mask value : Nat) : Shore :=
  let h1 := (List.finRange 16).foldl (fun (x : Shore) n => if bit mask n.val then x.setHost n (bit value n.val) false else x) h
  { h1 with release := Vector.ofFn fun (n : Fin 16) => h1.release[n] || bit mask n.val }

def fieldOutAns (b : List Byte) (s : State) : Ans :=
  let mask := rd b 0 2
  s.check
    [(decide (b.length ≠ 4), ST_BAD_LENGTH),
     (decide (mask = 0) || (List.range 16).any (fun n => bit mask n && s.owned n), ST_BAD_PARAMETER), (!s.shore.powered, ST_NOT_ACTIVE)]
    fun s => (s.modShore fun h => h.fieldOut mask (rd b 2 2)).ok

def fieldCountAns (b : List Byte) (s : State) : Ans :=
  let clear := by8 b 0
  s.check [(decide (b.length ≠ 1), ST_BAD_LENGTH), (decide (16 ≤ clear), ST_BAD_PARAMETER), (!s.shore.powered, ST_NOT_ACTIVE)] fun s =>
    let counts := s.shore.counts
    (s.modShore fun h => { h with counts := Vector.ofFn fun n => if bit clear n.val then 0 else h.counts[n] }).ok (words counts.toList)

def panelStatusAns (b : List Byte) (s : State) : Ans :=
  s.check [(decide (b.length ≠ 0), ST_BAD_LENGTH)] fun s =>
    let k := s.lookout
    s.ok (le 1 (vmask k.pads id) ++ le 1 k.lastWake ++ zeros 2 ++ le 4 k.wakes)

/-- A wake rule in its 8 bytes, and from them (Table 15.9). -/
def WakeRule.bytes (r : WakeRule) : List Byte := le 1 r.source ++ le 1 r.cond ++ le 2 r.filter ++ le 1 r.action ++ zeros 3
def wakeRuleOf (b : List Byte) : WakeRule := ⟨by8 b 0, by8 b 1, rd b 2 2, by8 b 4⟩

/-- The codes of Table 17.3. -/
def WakeRule.defined (r : WakeRule) : Bool :=
  (if r.source ≤ 0x0C then decide (1 ≤ r.cond ∧ r.cond ≤ 4) else decide (0x10 ≤ r.source ∧ r.source ≤ 0x14 ∧ r.cond = 0x10)) &&
    decide (r.action = 1 ∨ r.action = 2)

def wakeLoadAns (b : List Byte) (s : State) : Ans :=
  let count := by8 b 0
  let entry := fun (i : Nat) => (b.drop (4 + 8 * i)).take 8
  let rules := (List.range count).map fun i => wakeRuleOf (entry i)
  s.check
    [(decide (b.length ≠ 4 + 8 * count), ST_BAD_LENGTH),
     (decide (count = 0 ∨ rd b 1 3 ≠ 0) || rules.any (fun r => !r.defined) || (List.range count).any (fun i => decide (rd (entry i) 5 3 ≠ 0)),
      ST_BAD_PARAMETER),
     (decide (16 < count) || rules.any (fun r => decide (10000 < r.filter)), ST_OUT_OF_RANGE)]
    fun s => (s.modCfg fun c => { c with wake := some rules }).okAck

def wakeReadAns (b : List Byte) (s : State) : Ans :=
  s.check [(decide (b.length ≠ 0), ST_BAD_LENGTH)] fun s =>
    s.ok (le 1 s.lookout.rules.length ++ zeros 3 ++ s.lookout.rules.flatMap (·.bytes))

def execFieldStatus (r : Req) (s : State) : Res := .next (s.host 0x80 r .device (fieldStatusAns r.payload))
def execFieldOut (r : Req) (s : State) : Res := .next (s.host 0x81 r .device (fieldOutAns r.payload))
def execFieldCountRead (r : Req) (s : State) : Res := .next (s.host 0x82 r .device (fieldCountAns r.payload))
def execPanelStatus (r : Req) (s : State) : Res := .next (s.host 0x84 r .device (panelStatusAns r.payload))
def execWakeRulesLoad (r : Req) (s : State) : Res := .next (s.host 0x88 r .device (wakeLoadAns r.payload))
def execWakeRulesRead (r : Req) (s : State) : Res := .next (s.host 0x89 r .device (wakeReadAns r.payload))

/-! ### Clocks and check-value units (Table 15.10) -/

/-- PLL_STATE of CLOCK_STATUS (R550). -/
def Clocks.pllState (c : Clocks) : Nat :=
  if c.refLost then 2 else if allDies.all fun d => decide ((c.get d).state = .locked) then 0 else 1

def clockStatusAns (b : List Byte) (s : State) : Ans :=
  s.check [(decide (b.length ≠ 0), ST_BAD_LENGTH)] fun s =>
    let c := s.clocks
    s.ok (le 1 c.pllState ++ le 1 c.bypass ++ zeros 2 ++ le 4 (sf 32 s.act.ptp.rate) ++ le 4 c.unlocks ++ le 4 c.lastUnlock)

/-- Ports with a CLOCK_STOP trip. -/
def State.clockStopMask (s : State) : Nat := vmask s.firm.life fun l => l.trips.contains .clockStop

/-- PWM_RESUME (R537): the stop ends; an admitted port without another trip is enabled in SYNC and FORMING. -/
def State.pwmResume (s : State) : State :=
  let running := decide (s.dev = .sync ∨ s.dev = .forming)
  let mask := s.clockStopMask
  let s1 := s.eachPort fun t p =>
    if t.clocks.stop[shoalOf p] then
      let l := t.life p
      let rest := l.trips.filter fun x => decide (x ≠ .clockStop)
      let go := running && l.admitted && rest.isEmpty
      let t1 := (t.modLife p fun l => { l with trips := rest, gateEn := go }).modPwm p fun w => { w with safeEnding := w.safe, wantEn := false }
      if go then (t1.modStep p (·.enable)).modShare p fun x => { x with avail := Vector.replicate 5 0 } else t1
    else t
  ((s1.modClocks fun c => { c with stop := Vector.replicate 4 false }).raise 0xC2 0xFF mask).settleTripped

def pwmResumeAns (b : List Byte) (s : State) : Ans :=
  s.check
    [(decide (b.length ≠ 0), ST_BAD_LENGTH), (decide (s.clocks.bypass ≠ 0) || decide (s.clocks.pllState ≠ 0), ST_STATE_FORBIDS)]
    fun s => if s.clocks.stop.toList.any id then s.pwmResume.ok else s.ok

/-- SNOOP_ARG beyond its range (R547, Table 15.10). -/
def snoopOut (snoop arg len : Nat) : Bool :=
  (decide (snoop = 1 ∨ snoop = 2) && decide (0x0C < arg)) || (decide (snoop = 6) && decide (8388608 < arg + len))
/-- A fold flag without a meaning for its source (R546). -/
def foldBad (snoop flags : Nat) : Bool :=
  let addr := bit flags 2
  let sq := bit flags 3
  (decide (snoop = 3) && addr) || (decide (snoop = 4 ∨ snoop = 5) && (addr || sq)) || (decide (snoop = 6) && sq)

/-- The answer to CRC_CONFIG (R543, R547, R548). [DEDUCED, unsafe: log 98] -/
def crcConfigAns (b : List Byte) (s : State) : Ans :=
  let unit := by8 b 0
  let width := by8 b 1
  let flags := by8 b 2
  let snoop := by8 b 3
  let arg := rd b 16 4
  let len := rd b 20 4
  s.check
    [(decide (b.length ≠ 24), ST_BAD_LENGTH), (decide (7 < unit ∨ width < 8 ∨ 32 < width) || snoopOut snoop arg len, ST_OUT_OF_RANGE),
     ([4, 8, 12].any (fun i => decide (2 ^ width ≤ rd b i 4)) || decide (6 < snoop ∨ 16 ≤ flags) || (decide (snoop = 6) && decide (len = 0)) ||
        foldBad snoop flags, ST_BAD_PARAMETER)]
    fun s =>
      (s.modAct fun a =>
        { a with crc := vmod a.crc ⟨unit % 8, by omega⟩ fun u =>
            { u with width := width, flags := flags, snoop := snoop, poly := rd b 4 4, init := rd b 8 4, xorout := rd b 12 4, reg := rd b 8 4
                     arg := arg, len := len, first := none } }).ok

/-- RUNNING and RESULT of a unit. -/
def State.crcReply (s : State) (unit : Nat) : Ans :=
  let u := s.act.crc.toList.getD unit {}
  s.ok (le 4 u.reg ++ le 4 u.out)

/-- The answer to CRC_VALUE (R545). [DEDUCED, unsafe: log 98] -/
def crcValueAns (b : List Byte) (s : State) : Ans :=
  let unit := by8 b 0
  let i : Fin 8 := ⟨unit % 8, by omega⟩
  let write := decide (by8 b 1 = 1)
  s.check
    [(decide (b.length ≠ 6), ST_BAD_LENGTH), (decide (7 < unit), ST_OUT_OF_RANGE), (decide (1 < by8 b 1), ST_BAD_PARAMETER),
     (write && decide (s.act.crc[i].snoop ≠ 0), ST_BUSY)]
    fun s =>
      let s1 := if write then s.modAct fun a => { a with crc := vmod a.crc i fun u => let v := { u with reg := rd b 2 4 % 2 ^ u.width }; { v with result := v.out } }
        else s
      s1.crcReply unit

/-- The answer to CRC_FEED, whose own refusals give BAD_LENGTH its place (R456, Table 15.10). -/
def crcFeedAns (b : List Byte) (s : State) : Ans :=
  let unit := by8 b 0
  let i : Fin 8 := ⟨unit % 8, by omega⟩
  s.check
    [(decide (7 < unit), ST_OUT_OF_RANGE), (decide (b.length < 5), ST_BAD_LENGTH), (decide (rd b 1 3 ≠ 0), ST_BAD_PARAMETER),
     (decide (s.act.crc[i].snoop ≠ 0), ST_BUSY)]
    fun s => (s.modAct fun a => { a with crc := vmod a.crc i fun u => u.feed (b.drop 4) }).crcReply unit

def execClockStatus (r : Req) (s : State) : Res := .next (s.host 0xC0 r .device (clockStatusAns r.payload))
def execPwmResume (r : Req) (s : State) : Res := .next (s.host 0xC1 r .device (pwmResumeAns r.payload))
def execCrcConfig (r : Req) (s : State) : Res := .next (s.host 0xC8 r .device (crcConfigAns r.payload))
/-- CRC_VALUE with OP 0, a read (R545). [DEDUCED, safe: log 5] -/
def execCrcValueRead (r : Req) (s : State) : Res := .next (s.host 0xC9 r .device (crcValueAns r.payload))
/-- CRC_VALUE with OP 1, a write (R545). [DEDUCED, safe: log 5] -/
def execCrcValueWrite (r : Req) (s : State) : Res := .next (s.host 0xC9 r .device (crcValueAns r.payload))
def execCrcFeed (r : Req) (s : State) : Res := .next (s.host 0xCA r .device (crcFeedAns r.payload))

/-! ### Safety (R362, R368, R369, R373) -/

def safetyStatusAns (b : List Byte) (s : State) : Ans :=
  s.check [(decide (b.length ≠ 0), ST_BAD_LENGTH)] fun s => s.ok (words ((wordRange 0x000 0x058).map s.bwWord))

def safetyArmAns (target : Nat) (b : List Byte) (s : State) : Ans :=
  s.check
    [(!(s.bw.lockout || s.bw.anyPortLockout), ST_STATE_FORBIDS), (!s.bw.resettable s.clk.now true, ST_TRIP_ACTIVE),
     (decide (b.length ≠ 0), ST_BAD_LENGTH), (decide (target ≠ 0xFF), ST_BAD_PARAMETER)]
    fun s => ((s.modBw fun x => { x with resetArmed := true, armedAt := s.clk.now }).raise 0x93 0x30).ok

def safetyWriteAns (b : List Byte) (s : State) : Ans :=
  let count := by8 b 0
  let es := paramEntries b count
  s.check
    [(decide (s.dev ≠ .service), ST_STATE_FORBIDS), (decide (b.length ≠ 4 + 8 * count), ST_BAD_LENGTH),
     (decide (count = 0 ∨ rd b 1 3 ≠ 0) || es.any (fun e => decide (e.2.1 ≠ 0) || !safetyNumbers.contains e.1), ST_BAD_PARAMETER),
     (decide (32 < count) || es.any (fun e => !paramAdmits e.1 (paramOfWire e.1 e.2.2)), ST_OUT_OF_RANGE), (s.bw.commissionWait, ST_BUSY)]
    fun s => (s.modBw fun x => { x with pending := x.pending.setAll es }).ok

def safetyCommissionAns (b : List Byte) (s : State) : Ans :=
  s.check
    [(decide (s.dev ≠ .service), ST_STATE_FORBIDS), (decide (b.length ≠ 4), ST_BAD_LENGTH), (s.bw.commissionWait, ST_BUSY),
     (decide (rd b 0 4 ≠ safetyCrcOf s.bw.pending) || !safetyChecks s.bw.pending s.act.cfg.committed.params, ST_BAD_PARAMETER)]
    fun s => { st := s.modBw fun x => { x with commissionWait := true, commissionAt := s.clk.now }, status := ST_PENDING }

def execSafetyStatus (r : Req) (s : State) : Res := .next (s.host 0x90 r .device (safetyStatusAns r.payload))
def execSafetyResetArm (r : Req) (s : State) : Res := .next (s.host 0x91 r .any (safetyArmAns r.target r.payload))
def execSafetyParamWrite (r : Req) (s : State) : Res := .next (s.host 0x92 r .device (safetyWriteAns r.payload))
def execSafetyCommission (r : Req) (s : State) : Res := .next (s.host 0x93 r .device (safetyCommissionAns r.payload))

/-! ### Metrology (R323 to R327) -/

/-- PTP seconds and nanoseconds at the reply, as the Headland adds them (R324). -/
def State.ptpStamp (s : State) : List Byte := le 4 s.act.ptp.sec ++ le 4 s.act.ptp.subNs

/-- The refusals of Table 10.6 that the metrology commands share, COUNT aside. [DEDUCED, unsafe: log 83] -/
def meterRefusals (s : State) (len : Nat) (info : Bool) (target : Nat) (b : List Byte) : List (Bool × Nat) :=
  [(s.meter.absent, ST_STATE_FORBIDS), (decide (b.length ≠ len), ST_BAD_LENGTH),
   (decide (target = 0x0C) || (info && decide (target ≠ 0xFF)), ST_BAD_PARAMETER),
   (!decide (target ≤ 0x0C ∨ target = 0xFF), ST_OUT_OF_RANGE)]

def meterReadAns (target : Nat) (b : List Byte) (s : State) : Ans :=
  s.check (meterRefusals s 4 false target b ++ [(!s.meter.powered, ST_INTERNAL_FAULT)]) fun s =>
    let ports := if target = 0xFF then List.finRange 12 else [(⟨target % 12, by omega⟩ : Port)]
    s.noteSeal.ok (s.meter.readPayload ports (rd b 0 4) ++ s.ptpStamp)

def sessionReadAns (target : Nat) (b : List Byte) (s : State) : Ans :=
  s.check (meterRefusals s 9 false target b ++ [(decide (by8 b 8 = 0), ST_BAD_PARAMETER), (!s.meter.powered, ST_INTERNAL_FAULT)]) fun s =>
    s.ok (s.meter.sessionPayload (if target = 0xFF then none else some target) (rd b 0 4) (rd b 4 4) (by8 b 8) ++ s.ptpStamp)

def meterInfoAns (target : Nat) (b : List Byte) (s : State) : Ans :=
  s.check (meterRefusals s 0 true target b ++ [(!s.meter.powered, ST_INTERNAL_FAULT)]) fun s =>
    s.noteSeal.ok (words ((wordRange 0x000 0x02C).map s.meter.word))

def execMeterRead (r : Req) (s : State) : Res := .next (s.host 0xA0 r .any (meterReadAns r.target r.payload))
def execSessionRead (r : Req) (s : State) : Res := .next (s.host 0xA1 r .any (sessionReadAns r.target r.payload))
def execMeterInfo (r : Req) (s : State) : Res := .next (s.host 0xA2 r .any (meterInfoAns r.target r.payload))

/-! ### Time, networks and peers (R411 to R414, R423) -/

/-- Words of the token holder's block, as they stand. -/
def State.ownWords (s : State) (offs : List Nat) : List Byte := words (offs.map (s.headWord s.hd))

def timeGetAns (target : Nat) (b : List Byte) (s : State) : Ans :=
  s.check [(decide (b.length ≠ 0), ST_BAD_LENGTH), (decide (target ≠ 0xFF), ST_BAD_PARAMETER)] fun s =>
    s.ok (s.ownWords (wordRange 0x0A00 0x0A20))

def peerReadAns (target : Nat) (b : List Byte) (s : State) : Ans :=
  s.check [(decide (b.length ≠ 0), ST_BAD_LENGTH), (decide (target ≠ 0xFF), ST_BAD_PARAMETER)] fun s =>
    s.ok (s.ownWords (wordRange 0x0B00 0x0CFC))

/-- EtherTypes that NET_SEND refuses (Table 13.5a). -/
def etherRefused (t : Nat) : Bool := decide (t = 0x8100 ∨ t = 0x88A8 ∨ t = 0x88F7 ∨ t = 0x88B5 ∨ t = 0x88B6)

def netSendAns (b : List Byte) (s : State) : Ans :=
  let nets := by8 b 0
  let flags := by8 b 2
  let len := rd b 12 2
  let handle := rd b 14 2
  let held := bit flags 0
  let sec := rd b 4 4
  let ns := rd b 8 4
  let now := s.act.ptp.sec * 1000000000 + s.act.ptp.subNs
  let at_ := sec * 1000000000 + ns
  let named := fun (n : Net) => bit nets n.val
  let full := fun (n : Net) => named n && decide (32 ≤ (s.act.net.tx.filter fun t => decide (t.status[n] = 1)).length)
  s.check
    [(decide (b.length < 16 ∨ b.length ≠ 16 + len), ST_BAD_LENGTH), (decide (len < 14 ∨ 1514 < len), ST_OUT_OF_RANGE),
     (decide (nets = 0 ∨ 3 < nets ∨ 5 < by8 b 1 ∨ 3 < flags ∨ by8 b 3 ≠ 0), ST_BAD_PARAMETER), (etherRefused (rdBe b 28 2), ST_BAD_PARAMETER),
     (held && decide (999999999 < ns), ST_BAD_PARAMETER), (held && !s.act.ptp.valid, ST_STATE_FORBIDS),
     (held && decide (now + 10000000000 < at_), ST_OUT_OF_RANGE), (s.act.net.tx.any (·.isOf handle), ST_BUSY),
     (full 0 || full 1, ST_QUEUE_FULL)]
    fun s =>
      let prp := decide (s.par P_PRP_EN = 1) && decide (nets = 3) && !bit flags 1
      let f : TxFrame :=
        { handle := handle, cls := by8 b 1, launch := if held then some at_ else none, prp := if prp then some s.act.net.prpSeq else none
          bytes := b.drop 16, status := #v[b2n (named 0), b2n (named 1)], started := #v[false, false], late := #v[false, false]
          stamp := #v[(0, 0), (0, 0)] }
      let s1 := s.modNet fun x => { x with tx := x.tx ++ [f], txDone := x.txDone.filter fun t => !t.isOf handle }
      (if prp then s1.prpNext else s1).ok

def netTxStatusAns (b : List Byte) (s : State) : Ans :=
  s.check [(decide (b.length ≠ 2), ST_BAD_LENGTH)] fun s =>
    let h := rd b 0 2
    s.ok (le 2 h ++ match (s.act.net.tx ++ s.act.net.txDone).find? (·.isOf h) with
      | some f => le 1 f.status[0] ++ le 1 f.status[1] ++ words [f.stamp[0].1, f.stamp[0].2, f.stamp[1].1, f.stamp[1].2]
      | none => le 1 6 ++ le 1 6 ++ zeros 16)

def execTimeGet (r : Req) (s : State) : Res := .next (s.host 0x70 r .any (timeGetAns r.target r.payload))
def execPeerRead (r : Req) (s : State) : Res := .next (s.host 0x71 r .any (peerReadAns r.target r.payload))
def execNetSend (r : Req) (s : State) : Res := .next (s.host 0x74 r .device (netSendAns r.payload))
def execNetTxStatus (r : Req) (s : State) : Res := .next (s.host 0x75 r .device (netTxStatusAns r.payload))

/-! ### The tide table (R69, R462, R463) -/

/-- An entry from words 0 to 3. -/
def tideOf (w0 w1 w2 w3 : Nat) : TideEntry :=
  { angle := w0, enable := bit w1 31, periodic := bit w1 30, gated := bit w1 29, armed := bit w1 28, action := bitsOf w1 27 24
    ref := bitsOf w1 23 20, port := bitsOf w1 19 16, arg := bitsOf w1 15 8, fireCount := bitsOf w1 7 0, gateSec := w2, gateNs := w3 }

/-- ARG lies in the range of its action (Table 2.7). -/
def argOk (action arg : Nat) : Bool :=
  if action ≤ 1 then decide (arg = 0) else if action = 2 then decide (arg ≤ 31) else if action = 4 ∨ action = 5 then decide (arg ≤ 15)
  else if action = 7 then true else decide (arg ≤ 7)

/-- A field of the words breaks R69 or R462. -/
def TideEntry.bad (e : TideEntry) (entry : Nat) : Bool :=
  e.armed || decide (e.fireCount ≠ 0) || decide (7 < e.action) || !argOk e.action e.arg || decide (3 < e.ref) || decide (3 < e.port) ||
    decide (e.port = 3 ∧ 32 ≤ entry) || decide (e.port ≠ 0 ∧ e.action ≠ 1) || decide (999999999 < e.gateNs)

/-- The answer to TIDE_SET (R68, R462). [DEDUCED, unsafe: log 32] -/
def tideSetAns (b : List Byte) (s : State) : Ans :=
  let entry := by8 b 0
  let e := tideOf (rd b 4 4) (rd b 8 4) (rd b 12 4) (rd b 16 4)
  s.check
    [(decide (b.length ≠ 20), ST_BAD_LENGTH), (decide (127 < entry), ST_OUT_OF_RANGE), (decide (entry % 32 < 8), ST_BAD_PARAMETER),
     (decide (rd b 1 3 ≠ 0) || e.bad entry, ST_BAD_PARAMETER)]
    fun s =>
      let x : TideEntry := if e.enable then e else {}
      let i : Fin 128 := ⟨entry % 128, by omega⟩
      ((s.modCfg fun c => { c with tides := vset c.tides i x }).modShoal (tideShoal i) fun h =>
        { h with tideWait := h.tideWait ++ [((tideComp i).val, x)] }).okAck

def tideGetAns (b : List Byte) (s : State) : Ans :=
  let entry := by8 b 0
  let i : Fin 128 := ⟨entry % 128, by omega⟩
  s.check [(decide (b.length ≠ 1), ST_BAD_LENGTH), (decide (127 < entry), ST_OUT_OF_RANGE)] fun s =>
    s.ok (words s.shoals[tideShoal i].tides[tideComp i].words)

def execTideSet (r : Req) (s : State) : Res := .next (s.host 0x28 r .device (tideSetAns r.payload))
def execTideGet (r : Req) (s : State) : Res := .next (s.host 0x29 r .device (tideGetAns r.payload))

end Sys2Proof.Machine
end

