-- ==== Sys2Proof/Machine/SafetyEvents.lean ====
section
/-! DEFINITION. Commands at Breakwater (11_safety_channel.md). -/
namespace Sys2Proof.Machine

/-- SAFETY_INPUT_DEMAND (R353, R357): a channel has read a voltage in mV for a time in µs; where that is the opposite of its
inactive level, for SI_FILTER, it is in demand. -/
def execSafetyInputDemand (n : Fin 8) (chan : Fin 2) (mv : Int) (us : Nat) (s : State) : Res :=
  let mode := s.bw.par (P_SI_MODE n)
  let level := s.bw.inputs[n].chans[chan].reads mv
  let set := fun (b : Breakwater) (f : SiChan → SiChan) => { b with inputs := vmod b.inputs n fun i => (i.setChan s.clk.now chan f).noteBoth }
  if mode = 0 ∨ level = inactiveLevel mode chan ∨ !filtered mode (s.bw.par (P_SI_FILTER n)) us true then
    .next (s.modBw fun b => set b fun c => { c with level := level })
  else
    let was := s.bw.inputs[n].chans.toList.any (·.demand)
    let sdc := decide (s.bw.par (P_SI_ACTION n) = 2)
    let s1 := s.modBw fun b =>
      { set b fun c => { c with level := level, demand := true } with sgoMod := true, sdcMod := b.sdcMod || sdc, resetArmed := false }
    let s2 := if was then s1 else s1.raise 0x90 n.val (1 + 2 * b2n sdc) (2 ^ chan.val)
    .next (s2.lockOut 0x90)

/-- SAFETY_INPUT_INACTIVE (R353, R356): a channel has read a voltage in mV for a time in µs; where that is its inactive level, for
SI_FILTER, it is in demand no more. -/
def execSafetyInputInactive (n : Fin 8) (chan : Fin 2) (mv : Int) (us : Nat) (s : State) : Res :=
  let mode := s.bw.par (P_SI_MODE n)
  let level := s.bw.inputs[n].chans[chan].reads mv
  let ends := decide (level = inactiveLevel mode chan) && filtered mode (s.bw.par (P_SI_FILTER n)) us false
  .next (s.modBw fun b =>
    { b with inputs := vmod b.inputs n fun i =>
        (i.setChan s.clk.now chan fun c => { c with level := level, demand := c.demand && !ends }).noteBoth })

/-- SI_DISC (R356): the two channels have differed for SI_DISC_T. -/
def execSiDisc (n : Fin 8) (s : State) : Res :=
  let i := s.bw.inputs[n]
  if s.bw.par (P_SI_MODE n) = 0 || i.discFault || !heldFor s.clk.now (msTicks (s.bw.par (P_SI_DISC_T n))) i.differFrom then .next s
  else
    .next ((s.modBw fun b =>
      { b with inputs := vmod b.inputs n fun i =>
        { i with discFault := true, discOk := false, bothSeen := i.chans.toList.all (·.demand) } }).moduleFault 2 n.val)

/-- SI_TEST_PULSE (R354, R355): the supply, every fed channel of the inputs, and the reset input. -/
def execSiTestPulse (tp : Fin 4) (inLimits : Bool) (reads : List (Bool × Bool)) (s : State) : Res :=
  let at_ := fun i => reads.getD i (false, false)
  let s1 := s.modBw fun b =>
    { b with
      tpGood := vset b.tpGood tp (if inLimits then some (b.tpGood[tp].getD s.clk.now) else none)
      tpFault := vset b.tpFault tp (b.tpFault[tp] || !inLimits)
      inputs := Vector.ofFn fun n =>
        { b.inputs[n] with chans := Vector.ofFn fun c =>
            match b.supplyOf n.val c.val with
            | some f => b.inputs[n].chans[c].pulse (Fin.ofNat 4 f) tp (at_ (2 * n.val + c.val)).1 (at_ (2 * n.val + c.val)).2
            | none => b.inputs[n].chans[c] }
      resetChan := b.resetChan.pulse (Fin.ofNat 4 (b.par P_RESET_TP)) tp (at_ 16).1 (at_ 16).2 }
  let s2 := if inLimits then s1 else if s.bw.tpFault[tp] then s1 else s1.moduleFault 3 0xFF
  let s3 := (List.finRange 8).foldl (fun (t : State) n =>
    let i := t.bw.inputs[n]
    if !i.pulseFault && i.chans.toList.any (·.found) then
      (t.modBw fun b => { b with inputs := vmod b.inputs n fun i => { i with pulseFault := true } }).moduleFault 1 n.val
    else t) s2
  .next (if !s3.bw.resetPulseFault && s3.bw.resetChan.found then
    (s3.modBw fun b => { b with resetPulseFault := true }).moduleFault 1 0xFF else s3)

/-- BW_LANE_COMPARE (R340): every 10 µs; the sixth disagreement in a row has lasted 50 µs. [DEDUCED, unsafe: log 84] -/
def execBwLaneCompare (differ : Bool) (s : State) : Res :=
  if differ then
    let n := min 6 (s.bw.laneDiffer + 1)
    let s1 := s.modBw fun b => { b with laneDiffer := n, laneAgree := none }
    .next (if n = 6 ∧ !s.bw.laneFault then (s1.modBw fun b => { b with laneFault := true }).moduleFault 5 0xFF else s1)
  else .next (s.modBw fun b => { b with laneDiffer := 0, laneAgree := some (b.laneAgree.getD s.clk.now) })

/-- RETURN_WORD (R341, R348, R350): the word that the Skerry forms, with what the line has changed of it; a Skerry without power
sends none. -/
def execReturnWord (l : Link) (noise : Nat) (s : State) : Res :=
  let word := s.sk[l].returnWord (decide (l = linkG)) ^^^ noise % 2 ^ 48
  if !s.sk[l].good then .next s
  else if !s.bw.ports[l].validWord word then .next (s.modBwPort l fun b => { b with validFrom := none })
  else match portOfLink l with
    | none => .next (s.modBwPort l fun b => { b with validFrom := some (b.validFrom.getD s.clk.now), lastAt := s.clk.now, lossTold := false })
    | some p =>
      let g := s.bw.par
      .next ((s.modBwPort l fun b =>
        b.word s.clk.now word (codeI (g (P_SLC_LIM p))) (codeV (g (P_SLV_MAX p))) (g (P_SLD_DIR p)) (codeI (g (P_SLD_TOL p)))
          (codeV (g (P_SCL_V p))) (codeI (g (P_SCL_I p)))).latchLimits p)

/-- RETURN_LOST (R341): no valid return word for 20 µs: a port fault; of Skerry G an event alone, once. -/
def execReturnLost (l : Link) (s : State) : Res :=
  let b := s.bw.ports[l]
  if s.clk.now < b.lastAt + usTicks 20 then .next s
  else
    let s1 := s.modBwPort l fun b => { b with validFrom := none, okRun := 0, lossTold := true }
    match portOfLink l with
    | none => .next (if b.lossTold then s1 else s1.raise 0x99 0x0C)
    | some p =>
      if b.returnLost then .next s1
      else .next ((s1.modBwPort l fun b => { b with returnLost := true }).safetyFault 0x10 p.val)

/-- CH_DISC (R344): the verdicts of a function have differed for SL_DISC_T. -/
def execChDisc (p : Port) (s : State) : Res :=
  let b := s.bw.ports[linkOf p]
  if b.chDisc || !b.differFrom.toList.any (heldFor s.clk.now (msTicks (s.bw.par P_SL_DISC_T))) then .next s
  else .next ((s.modBwPort (linkOf p) fun b => { b with chDisc := true }).safetyFault 0x11 p.val)

/-- SDC_FB (R349): OFF has stood for SDC_FB_T without both feedbacks open. -/
def execSdcFb (p : Port) (s : State) : Res :=
  let b := s.bw.ports[linkOf p]
  if b.sdcFb || decide (b.kind ≠ .off) || !heldFor s.clk.now (msTicks (10 * s.bw.par P_SDC_FB_T)) (some b.offAt) || (b.fb0Open && b.fb1Open) then
    .next s
  else .next ((s.modBwPort (linkOf p) fun b => { b with sdcFb := true }).safetyFault 0x12 p.val)

/-- A port's part of a request word, as the token holder's firmware sends it: its verdicts, UNLOCK_REQ, CLEAR_REQ (R343, R344, R351). -/
def BwPort.request (b : BwPort) (m : Firm) (now : Nat) (p : Port) : BwPort :=
  ({ b with firm := m.verdict[p], unlockReq := m.unlockReq[p], clearReq := m.clearReq[p] }.noteVerdicts now).clearLatches now

/-- REQUEST_WORD (R343, R344, R350, R351): taken only from the Headland that the token line names. RESET_ARM and COMMISSION_GO carry
what SAFETY_RESET_ARM and SAFETY_COMMISSION have set. -/
def execRequestWord (from_ : Hd) (crcOk : Bool) (s : State) : Res :=
  if !crcOk || decide (s.bw.token ≠ some from_) then .next s
  else
    let s1 := s.modBw fun b =>
      { b with
        hlLost := false, requestAt := s.clk.now
        ports := Vector.ofFn fun l => match portOfLink l with
          | none => b.ports[l]
          | some p => b.ports[l].request s.firm s.clk.now p }
    .next (((s1.eachPort State.latchLimits).modPair from_ fun p => { p with tookBw := true }).modFirm fun m =>
      { m with clearReq := Vector.replicate 12 false })

/-- HL_LOST (R343): no valid request word for 2 ms. -/
def execHlLost (s : State) : Res :=
  .next (if s.clk.now < s.bw.requestAt + msTicks 2 then s else s.modBw fun b =>
    { b with hlLost := true, hlLostAt := if b.hlLost then b.hlLostAt else s.clk.now, resetArmed := false })

/-- A link's next permit word leaves on both channels (R345, R347). -/
def BwPort.send (q : BwPort) (now count : Nat) (kind : Kind) : BwPort :=
  { q with
    kind := kind, offAt := if kind = .off ∧ q.kind ≠ .off then now else q.offAt, sent := (count :: q.sent).take 4
    onLine := Vector.replicate 2 true }

/-- PERMIT_PATTERN_WORD (R345, R347, R358): both lanes choose each link's kind and send the next word. -/
def execPermitPatternWord (s : State) : Res :=
  .next (s.modBw fun b =>
    { b with count := (b.count + 1) % 256, ports := Vector.ofFn fun l => b.ports[l].send s.clk.now b.count (b.kindOf l) }.driveOuts)

/-- PERMIT_WORD_RECEIVE (R345, R346): the word on the line, its complement on channel B, with what the line has changed of it. -/
def execPermitWordReceive (l : Link) (chan : Bool) (noise : Nat) (s : State) : Res :=
  let q := s.bw.ports[l]
  let ci : Fin 2 := if chan then 1 else 0
  if !q.onLine[ci] then .next s
  else
    let w := permitWord (q.sent.headD 0) q.kind
    let word := (if chan then w ^^^ 0xFFFF else w) ^^^ noise % 2 ^ 16
    .next ((s.modBwPort l fun b => { b with onLine := vset b.onLine ci false }).modSk l fun k =>
      if k.good then k.permitWord s.clk.now chan word else k)

/-- SO_TEST_PULSE (R358): a switch that does not read off at the end of its pulse, or reads on while the output is off.
[DEDUCED, unsafe: log 84] -/
def execSoTestPulse (m : Fin 4) (_side : Bool) (readOff : Bool) (s : State) : Res :=
  if readOff then .next s
  else
    .next (((s.modBw fun b => { b with soFault := true, outs := vmod b.outs m fun o => { o with on := false, fault := true } }).moduleFault 4 0xFF).modBw
      (·.driveOuts))

/-- RESET_PRESS_BEGIN (R363, R369): a press counts only if it begins after RESET_ARMED or COMMISSION_WAIT was set. -/
def execResetPressBegin (s : State) : Res :=
  .next (s.modBw fun b => { b with press := some (s.clk.now, b.resetArmed || b.commissionWait), releasedAt := none })

/-- RESET_RELEASE (Table 11.6 steps 4 to 4''', R369): the press has lasted from 0.3 s to 3.0 s, or not. -/
def execResetRelease (s : State) : Res :=
  match s.bw.press with
  | none => .next s
  | some (t, counts) =>
    let held := s.clk.now - t
    let s1 := s.modBw fun b => { b with press := none, releasedAt := some s.clk.now }
    let right := decide (msTicks 300 ≤ held) && decide (held ≤ msTicks 3000)
    if !counts then .next s1
    else if s.bw.commissionWait then
      .next (if right && decide (s.clk.now ≤ s.bw.commissionAt + msTicks 30000) then s1.commission else s1)
    else if !s.bw.resetArmed || decide (msTicks 3000 < held) then .next s1
    else if right && s.bw.resettable s.clk.now false then
      let s2 := (s1.modBw (·.cleared)).raise 0x94 0x30 (held / msTicks 1)
      .next (if s.dev = .lockout then s2.setDev .idle 0x94 else s2)
    else .next (s1.rejectReset (held / msTicks 1))

/-- RESET_PRESS_TOO_LONG (Table 11.6 step 4''): the press goes beyond 3.0 s. -/
def execResetPressTooLong (s : State) : Res :=
  match s.bw.press with
  | none => .next s
  | some (t, counts) =>
    if s.clk.now ≤ t + msTicks 3000 then .next s
    else
      let s1 := s.modBw fun b => { b with press := some (t, false) }
      .next (if counts && s.bw.resetArmed then s1.rejectReset 3000 else s1)

/-- RESET_STUCK (Table 11.5 code 0x07): held beyond 10 s. -/
def execResetStuck (s : State) : Res :=
  match s.bw.press with
  | none => .next s
  | some (t, _) =>
    if s.bw.stuckFault || decide (s.clk.now ≤ t + msTicks 10000) then .next s
    else .next ((s.modBw fun b => { b with stuckFault := true, releasedAt := none }).moduleFault 7 0xFF)

/-- RESET_ARM_EXPIRE (Table 11.6 step 5): not while a press that began in the window runs. -/
def execResetArmExpire (s : State) : Res :=
  let pressing := match s.bw.press with
    | some (_, c) => c
    | none => false
  .next (if s.bw.resetArmed && !pressing && decide (s.bw.armedAt + msTicks 30000 ≤ s.clk.now) then
    (s.modBw fun b => { b with resetArmed := false }).raise 0x96 0x30 else s)

/-- COMMISSION_TIMEOUT (R369). -/
def execCommissionTimeout (s : State) : Res :=
  .next (if s.bw.commissionWait && decide (s.bw.commissionAt + msTicks 30000 ≤ s.clk.now) then
    (s.modBw fun b => { b with commissionWait := false }).raise 0x98 0x30 s.bw.crc else s)

/-- SAFETY_MESSAGE (R364, R365): pair, accept or drop a copy that the token holder forwards; without one, nobody does. -/
def execSafetyMessage (net : Net) (bytes : List Byte) (s : State) : Res :=
  if s.bw.token.isNone then .next s else
  match s.bw.sourceOf bytes with
  | none => .next (s.modBw fun b => { b with dropped := satInc 32 b.dropped })
  | some j =>
    let src := s.bw.sources[j]
    let seq := rd bytes 4 4
    let d := (seq + 2 ^ 32 - src.lastSeq) % 2 ^ 32
    let set := fun (f : MsgSource → MsgSource) => s.modBw fun b => { b with sources := vmod b.sources j f }
    if d = 0 ∨ 2 ^ 31 < d then .next s
    else match src.pending with
      | some c =>
        if c.net ≠ net ∧ c.seq = seq then
          if c.bytes = bytes ∧ s.clk.now - c.at_ ≤ msTicks 10 then
            .next ((set fun x => { x with pending := none, lastSeq := seq }).messageDemand j (bit (by8 bytes 8) 0) (bit (by8 bytes 8) 1) (rd bytes 10 2) false)
          else .next (set fun x => { x with pending := none, mismatch := satInc 8 x.mismatch })
        else .next (set fun x => { x with pending := some ⟨net, seq, bytes, s.clk.now⟩, single := satInc 8 x.single })
      | none => .next (set fun x => { x with pending := some ⟨net, seq, bytes, s.clk.now⟩ })

/-- SAFETY_MSG_PENDING_EXPIRE (R365): the copy is older than 10 ms. -/
def execSafetyMsgPendingExpire (j : Fin 4) (s : State) : Res :=
  match s.bw.sources[j].pending with
  | none => .next s
  | some c =>
    .next (if s.clk.now ≤ c.at_ + msTicks 10 then s
      else s.modBw fun b => { b with sources := vmod b.sources j fun x => { x with pending := none, single := satInc 8 x.single } })

/-- SAFETY_MSG_TIMEOUT (R366): a configured source has had no accepted message for SM_RX_TIMEOUT. -/
def execSafetyMsgTimeout (j : Fin 4) (s : State) : Res :=
  let x := s.bw.sources[j]
  .next (if s.bw.par (P_SM_RX_ID j) = 0 || x.timedOut || decide (s.clk.now < x.lastAt + msTicks (s.bw.par (P_SM_RX_TIMEOUT j))) then s
    else s.messageDemand j true true 0x0FFF true)

/-- SAFETY_MSG_SEND (R367): every SM_TX_PERIOD, the identical frame on both networks. -/
def execSafetyMsgSend (s : State) : Res :=
  if s.bw.par P_SM_OWN_ID = 0 || s.bw.token.isNone || decide (s.clk.now < s.bw.txAt + msTicks (s.bw.par P_SM_TX_PERIOD)) then .next s
  else
    let seq := (s.bw.txSeq + 1) % 2 ^ 32
    let bs := s.bw.message seq
    .next (((s.modBw fun b => { b with txSeq := seq, txAt := s.clk.now }).send 0 (.safety 0 bs)).send 1 (.safety 1 bs))

/-- The times that run from the start of the safety channel (R341, R343, R349, R366). -/
def Breakwater.startTimes (b : Breakwater) (now : Nat) : Breakwater :=
  { b with
    started := true, startAt := now, requestAt := now, txAt := now
    ports := b.ports.map fun q => { q with lastAt := now, offAt := now }
    sources := b.sources.map fun x => { x with lastAt := now } }

/-- BW_SELFTEST_END (R361, R370, R556): the set of the active Headland's MRAM is loaded and checked. -/
def execBwSelftestEnd (ok : Bool) (s : State) : Res :=
  if s.dev ≠ .boot ∨ s.bw.started then .next s
  else
    let stored := s.act.cfg.safety
    let ps := (stored.map (·.1)).getD []
    let crc := safetyCrcOf ps
    let good := (match stored with
      | some (_, c) => decide (c = crc)
      | none => true) && safetyChecks ps s.act.cfg.committed.params
    let s1 := s.modBw fun b =>
      { b.startTimes s.clk.now with params := ps, pending := ps, crc := crc, cfgValid := good, cfgFault := !good, laneFault := b.laneFault || !ok }
    let s2 := if ok then s1.rehash else s1.rehash.moduleFault 5 0xFF
    .next (if good then s2 else s2.moduleFault 6 0xFF)

end Sys2Proof.Machine
end

