-- ==== Sys2Proof/Machine/Skerries.lean ====
section
/-! DEFINITION. Commands at a Skerry: downlink frames, gates, supplies, permit, drivers, CAN FD (07_port_islands_and_gate_drive.md). -/
namespace Sys2Proof.Machine

/-- Act on a Skerry whose island is powered (R209). -/
def State.onSk (s : State) (l : Link) (f : Skerry → Skerry) : State := s.modSk l fun k => if k.good then f k else k

/-- EDGE_CHANNEL_TRANSITION (R216 to R218). -/
def execEdgeChannelTransition (p : Port) (g : Gate) (on : Bool) (s : State) : Res :=
  .next (s.modSk (linkOf p) fun k => if on then k.chanOn s.clk.now g else k.chanOff s.clk.now g)

/-- INTERLOCK_HOLD_END (R218). -/
def execInterlockHoldEnd (p : Port) (g : Gate) (s : State) : Res := .next (s.modSk (linkOf p) (·.holdEnd s.clk.now g))

/-- GATE_SUPPLY_LOCKOUT (R223, R230): the supply passes its release level and, where it locks out, its lock-out. -/
def execGateSupplyLockout (p : Port) (k : Leg) (supply : GateSupply) (locks : Bool) (s : State) : Res :=
  .next (s.onSk (linkOf p) fun x => if locks then x.supply s.clk.now k supply true else x.supplySags k supply true)

/-- GATE_SUPPLY_RELEASE (R223). -/
def execGateSupplyRelease (p : Port) (k : Leg) (supply : GateSupply) (s : State) : Res :=
  .next (s.onSk (linkOf p) (·.supply s.clk.now k supply false))

/-- The number of leg k of a port. -/
def legNo (p : Port) (k : Leg) : Fin 48 := ⟨4 * p.val + k.val, by omega⟩

/-- A third desaturation or fast short of a leg within 60 s trips its port (R229). -/
def State.legRepeat (s : State) (p : Port) (k : Leg) : State :=
  let recent := s.clk.now :: s.firm.legFaults[legNo p k].filter fun t => decide (s.clk.now - t < msTicks 60000)
  let s1 := s.modFirm fun m => { m with legFaults := vset m.legFaults (legNo p k) recent }
  if 3 ≤ recent.length then
    ((s1.tripPort p .legRepeat).modLife p fun l => { l with retest := true, testsValid := false }).raise 0x45 (legNo p k).val
  else s1

/-- A confirmed desaturation or fast short of gate g: the Skerry's reaction; where the leg latches by it, the event with the leg
number and the count of R229 (R224 to R229). -/
def State.shorted (s : State) (p : Port) (g : Gate) (fast : Bool) (mask : Nat) : State :=
  let i := legOfGate g
  let s1 := s.modSk (linkOf p) (·.shorted s.clk.now g fast mask)
  if s.awake && decide (s.sk[linkOf p].legs[i].latch = 0) && decide (s1.sk[linkOf p].legs[i].latch ≠ 0) then
    (s1.raise (if fast then 0x41 else 0x40) (legNo p i).val (g.val % 2)).legRepeat p i
  else s1

/-- DESAT_CONFIRM (R224, R226, R227). -/
def execDesatConfirm (p : Port) (g : Gate) (s : State) : Res := .next (s.shorted p g false (desatMask (s.parN (PP_DESAT_BLANK p))))

/-- FAST_SHORT_CONFIRM (R225, R226, R227). -/
def execFastShortConfirm (p : Port) (g : Gate) (s : State) : Res := .next (s.shorted p g true fastMask)

/-- SOFT_TURN_OFF_END (R226). -/
def execSoftTurnOffEnd (p : Port) (g : Gate) (s : State) : Res :=
  .next (s.modSk (linkOf p) fun k => { k with gates := vmod k.gates g (·.softEnd s.clk.now) })

/-- PERMIT_ABSENT (R231). -/
def execPermitAbsent (l : Link) (s : State) : Res :=
  .next (s.onSk l fun k => if k.permitGone s.clk.now then k.permitAbsent s.clk.now else k)

/-- COIL_PULL_END (R232): COIL_PULL_T after the pull-in. -/
def execCoilPullEnd (p : Port) (n : Fin 2) (s : State) : Res :=
  .next (s.modSk (linkOf p) fun k =>
    if k.coils[n].pullAt + msTicks (10 * s.parN (PP_COIL_PULL_T p)) ≤ s.clk.now then
      { k with coils := vmod k.coils n fun c => { c with pull := false } } else k)

/-- LATCH_BLOCKED (R234): a condition of the monitor fails. -/
def execLatchBlocked (p : Port) (s : State) : Res :=
  .next (s.modSk (linkOf p) fun k =>
    if k.latchOn && !s.latchClear p then { k with latchOn := false, latchArmed := false, latchBlocked := true } else k)

/-- LATCH_TIMEOUT (R234): 10 s energised. -/
def execLatchTimeout (p : Port) (s : State) : Res :=
  .next (s.modSk (linkOf p) fun k =>
    if k.latchOn && decide (k.latchAt + msTicks 10000 ≤ s.clk.now) then { k with latchOn := false, latchArmed := false, latchTimeout := true }
    else k)

/-- CAN_FRAME_TRANSMIT (R242): the oldest queued frame leaves, once the controller holds it whole. -/
def execCanFrameTransmit (p : Port) (s : State) : Res :=
  .next (s.modSk (linkOf p) fun k =>
    if k.canBusOff || !k.good || decide (k.canWhole = 0) then k else { k with canTx := k.canTx.tail, canWhole := k.canWhole - 1 })

/-- CAN_BUS_OFF (R243). -/
def execCanBusOff (p : Port) (s : State) : Res :=
  let k := s.sk[linkOf p]
  if k.good && !k.canBusOff then
    let times := s.clk.now :: k.busOffs.filter fun t => decide (s.clk.now - t < msTicks 60000)
    .next ((s.modSk (linkOf p) fun k => { k with canBusOff := true, packBusOff := true, busOffs := times }).raise 0x38 p.val times.length)
  else .next s

/-- The controller stays off until CLEAR_TRIP (R243). -/
def Skerry.busOffHeld (k : Skerry) : Bool := k.canBusOff && decide (4 ≤ k.busOffs.length)

/-- CAN_BUS_OFF_RECOVERY (R243). -/
def execCanBusOffRecovery (p : Port) (s : State) : Res :=
  .next (s.modSk (linkOf p) fun k => if k.busOffHeld then k else { k with canBusOff := false })

end Sys2Proof.Machine
end

