-- ==== Sys2Proof/Machine/Ports.lean ====
section
/-! DEFINITION. Battery ports: life cycle, pack faults, admission, release, BMS signals, the release button and the slot
indication (09_battery_ports.md). -/
namespace Sys2Proof.Machine

/-! ### What the firmware sees of a port -/

/-- Feedback FBn of a port reads closed. [DEDUCED, unsafe: log 72] -/
def State.fbClosed (s : State) (p : Port) (n : Fin 2) : Bool := s.sk[linkOf p].coils[n].fb
/-- One of the feedbacks of a port reads closed. [DEDUCED, unsafe: log 72] -/
def State.anyClosed (s : State) (p : Port) : Bool := s.fbClosed p 0 || s.fbClosed p 1
/-- The gates of the port are off at its Shoal. -/
def State.gatesAreOff (s : State) (p : Port) : Bool := !s.pwm[p].gatesEn || s.pwm[p].trip
/-- The DC voltage in V and the DC current in A of the last samples. -/
def State.vdcVolts (s : State) (p : Port) : Rat := s.firm.meas[p].vdc * s.lawN (PP_V_FS p)
def State.idcAmps (s : State) (p : Port) : Rat := s.firm.meas[p].idc
/-- A voltage in 0.1 V for an event argument. -/
def tenths (x : Rat) : Nat := sArg (roundAway (10 * x))

/-- The map in force of a port. -/
def State.bmsMap (s : State) (p : Port) : List MapEntry := s.act.cfg.committed.maps[p]
def State.mapped (s : State) (p : Port) (sig : Nat) : Bool := (s.bmsMap p).any fun e => e.signal == sig
def PortLife.val (l : PortLife) (sig : Fin 8) : Int := l.signals[sig].val.getD 0
/-- The required signals of Table 9.4. -/
def requiredSignals : List (Fin 8) := [0, 1, 2, 4, 5]
/-- A required signal is in no map entry. -/
def State.requiredUnmapped (s : State) (p : Port) : Bool := requiredSignals.any fun x => !s.mapped p x.val
/-- Every required signal is fresh. -/
def State.requiredFresh (s : State) (p : Port) : Bool := requiredSignals.all fun x => s.mapped p x.val && (s.life p).signals[x].fresh
/-- PACK_ID_LO and PACK_ID_HI; 0 where unmapped. -/
def State.packIdNow (s : State) (p : Port) : Int × Int := ((s.life p).val 5, if s.mapped p 6 then (s.life p).val 6 else 0)
/-- The pack's voltage in V. -/
def State.packV (s : State) (p : Port) : Rat := ((s.life p).val 4 : Rat) / 10

/-! ### Admission, release, faults -/

/-- A pending admission ends (R295). -/
def State.admitFail (s : State) (p : Port) (cause : Nat) : State :=
  if (s.life p).admitPending then (s.modLife p fun l => { l with admitPending := false }).raise 0x31 p.val cause else s

/-- The port leaves RELEASED: LATCH and the unlock request clear (R300, R348). -/
def State.latchOff (s : State) (p : Port) : State :=
  (s.modLife p fun l => { l with latch := false, relatch := false }).modFirm fun m => { m with unlockReq := vset m.unlockReq p false }

/-- The contactor commands clear, CK1 and then CK0 (R302). -/
def State.openContactors (s : State) (p : Port) : State := s.modLife p fun l => { l with ck0 := false, ck1 := false }

/-- What trips a port with a cause of Table 9.8 (R302); none for the causes that open at zero and for LOOP_FAULT. [DEDUCED, unsafe: log 75] -/
def faultTrip (cause : Nat) : Option Trip :=
  if cause = 7 then some .contactor else if cause = 8 then some .permit
  else if cause = 2 ∨ cause = 0xA ∨ cause = 1 then none else some .pack
/-- The causes marked "at zero" in Table 9.8. -/
def atZeroCause (cause : Nat) : Bool := decide (cause = 2 ∨ cause = 0xA)

/-- A pack fault of Table 9.8 (R302): FAULTED with its cause, the events, the trip or the opening. [DEDUCED, unsafe: log 75] -/
def State.portFault (s : State) (p : Port) (cause : Nat) : State :=
  let s1 := ((s.modLife p fun l => { l with life := .faulted, cause := cause, kRel := 1, gatesDone := false, relReq := false,
                                            atZero := none }).raise 0x36 p.val cause).admitFail p cause
  let s2 := match faultTrip cause with
    | some t => s1.tripPort p t
    | none => s1
  if atZeroCause cause && !s2.gatesAreOff p then s2.modLife p fun l => { l with atZero := some (cause, s.clk.now) }
  else (s2.modLife p fun l => { l with gateEn := false }).openContactors p

/-- FAULTED or EMPTY, once no at-zero opening waits and the gates are off: the contactors open (R302). -/
def State.openWhenOff (s : State) (p : Port) : State :=
  if (s.life p).atZero.isNone && s.gatesAreOff p then s.openContactors p else s

/-- An at-zero opening ends: the gates go off at the next boundary (R302). -/
def State.zeroDone (s : State) (p : Port) : State :=
  if (s.life p).atZero.isSome then s.modLife p fun l => { l with atZero := none, gateEn := false } else s

/-- Gates follow an ADMITTED port without a trip in SYNC and FORMING, its first step cold, its availabilities at 0
(R296, R465). -/
def State.enablePort (s : State) (p : Port) : State :=
  let s1 := s.modShare p fun x => { x with avail := Vector.replicate 5 0 }
  if decide (s.dev = .sync ∨ s.dev = .forming) && (s.life p).admitted && (s.life p).trips.isEmpty then
    (s1.modLife p fun l => { l with gateEn := true }).modStep p (·.enable)
  else s1

/-- Entry into ADMITTED (R296). -/
def State.admitPort (s : State) (p : Port) : State :=
  (((s.modLife p fun l => { l with life := .admitted, admitPending := false, kRel := 1 }).modShare
    p fun x => { x with gov := 1 }).raise 0x30 p.val).enablePort p

/-- Entry into PLUGGED: a stored SOH is forgotten (R87). -/
def State.toPlugged (s : State) (p : Port) : State :=
  s.modLife p fun l => { l with life := .plugged, signals := vset l.signals 3 {} }

/-- Entry into EMPTY (R287, R300). -/
def State.toEmpty (s : State) (p : Port) (cause : Nat) : State :=
  ((s.admitFail p cause).latchOff p).modLife p fun l =>
    { l with life := .empty, kRel := 1, gatesDone := false, relReq := false, gateEn := false, fb0At := none,
             atZero := none }

/-- A release request (R297): taken at the next bus step. -/
def State.requestRelease (s : State) (p : Port) : State := s.modLife p fun l => { l with relReq := true }

/-- LATCH makes a transition from 0 to 1 where the solenoid is off (R298, R300). -/
def State.relatch (s : State) (p : Port) : State :=
  if s.sk[linkOf p].latchOn then s
  else s.modLife p fun l => if l.latch then { l with latch := false, relatch := true } else { l with latch := true }

/-- The last ADMITTED port not tripped, in SYNC or FORMING (R298). -/
def State.lastAble (s : State) (p : Port) : Bool :=
  let live := fun (q : Port) => (s.life q).admitted && (s.life q).trips.isEmpty
  decide (s.dev = .sync ∨ s.dev = .forming) && live p && (List.finRange 12).all fun q => decide (q = p) || !live q

/-! ### The bus step of a port (Table 9.2) -/

/-- The pack fault of Table 9.8 whose condition the bus step finds, in the table's order. -/
def State.packFault (s : State) (p : Port) : Option Nat :=
  let l := s.life p
  if l.life ≠ .releasing ∧ s.sk[linkOf p].busOffHeld then some 2
  else if s.packIdNow p ≠ l.packId then some 3
  else if s.mapped p 7 ∧ l.val 7 ≠ 0 then some 0xA
  else none

/-- PACK_V and v_dc are within PRECHG_DV in PRECHARGING, CK1 still off: the ticks since FB0 closed (R294). -/
def State.prechargedAfter (s : State) (p : Port) : Option Nat :=
  let l := s.life p
  if decide (l.life ≠ .precharging) || l.ck1 || !s.firm.meas[p].valid ||
      decide ((s.lawN (PP_PRECHG_DV p) : Rat) < ratAbs (s.packV p - s.vdcVolts p)) then none
  else l.fb0At.map (s.clk.now - ·)

/-- PRECHG_FAST or LOW_PACK_V as the bus step finds it (R294). -/
def State.prechargeFault (s : State) (p : Port) : Option Nat :=
  let vp := s.firm.rotor.vPos
  match s.prechargedAfter p with
  | none => none
  | some t =>
    if t < msTicks (s.lawN (PP_PRECHG_MIN_T p)) then some 5
    else if (1 / 10 : Rat) ≤ vp ∧ s.vdcVolts p < 105 / 1000 * constSqrt 6 * s.lawN P_V_NOM * vp then some 6
    else none

/-- Pre-charge is complete: CK1 (R294). -/
def State.precharge (s : State) (p : Port) : State :=
  if (s.prechargedAfter p).isSome then s.modLife p fun l => { l with ck1 := true } else s

/-- Entry into DISCHARGING: the contactor commands and the gates are off (R286, R299). -/
def State.toDischarging (s : State) (p : Port) : State :=
  (s.openContactors p).modLife p fun l =>
    { l with life := .discharging, kRel := 1, gatesDone := false, gateEn := false, dischargeAt := s.clk.now }

/-- RELEASING in one bus step of dt seconds (R287, R299): the port partakes until its boundary has disabled its gates.
[DEDUCED, unsafe: log 52] -/
def State.releasing (s : State) (p : Port) (dt : Rat) : State :=
  let l := s.life p
  let k := if l.trips.isEmpty then ratMax 0 (l.kRel - dt * 1000 / (s.lawN (PP_REL_RAMP_T p) * 10 : Nat)) else 0
  let s1 := s.modLife p fun l => { l with kRel := k }
  if !s.anyClosed p then s1.toDischarging p
  else if 0 < k then s1
  else
    let s2 := s1.modLife p fun l => { l with gateEn := false }
    if !s2.gatesAreOff p then s2
    else
      let s3 := s2.modLife p fun l => { l with gatesDone := true, ck1 := false }
      if s3.fbClosed p 1 then s3 else s3.modLife p fun l => { l with ck0 := false }

/-- The DC voltage that a Skerry's monitor reads, in µV (R234, R237). -/
def State.diagVolts (s : State) (p : Port) : Int := (1000000 * (s.monitorDc p).1).floor

/-- The run of tests has ended: DIAG_GO ends, GATE_DIAG_DONE, TESTS_VALID on a full pass (R235, R287). -/
def State.diagDone (s : State) (p : Port) : State :=
  let d := s.sk[linkOf p].diag
  let s1 := s.modFirm fun m => { m with diagGo := vset m.diagGo p false }
  (if d.passed then s1.modLife p fun x => { x with testsValid := true, retest := false } else s1).raise 0x4D p.val d.state d.isoK

/-- Start the off-state tests of a port (R235, R237); a run whose every test is skipped ends at once. [DEDUCED, unsafe: log 73] -/
def State.startDiag (s : State) (p : Port) (tests : Nat) : State :=
  let s1 := (s.modSk (linkOf p) fun k => { k with diag := Diag.start tests s.clk.now (s.diagVolts p) }).modFirm
    fun m => { m with diagGo := vset m.diagGo p true }
  if s1.sk[linkOf p].diag.state = 1 then s1 else s1.diagDone p

/-- The release row of Table 9.2, in a bus step of dt seconds; RELEASING goes on. [DEDUCED, unsafe: log 74] -/
def State.takeRelease (s : State) (p : Port) (dt : Rat) : State :=
  let s1 := (s.modLife p fun l => { l with relReq := false }).admitFail p 0xC
  match (s.life p).life with
  | .empty | .discharging | .released => s1
  | .releasing => s1.releasing p dt
  | _ =>
    let s2 := s1.modLife p fun l => { l with atZero := none, gatesDone := false, kRel := 1 }
    if s.anyClosed p then s2.modLife p fun l => { l with life := .releasing } else s2.toDischarging p

/-- The rows of Table 9.2 below the release row. [DEDUCED, unsafe: log 74] -/
def State.lifeRow (s : State) (p : Port) (dt : Rat) : State :=
  let l := s.life p
  match l.life with
  | .plugged =>
    if !s.requiredFresh p then s
    else if l.testsValid then s.modLife p fun l => { l with life := .waiting }
    else
      let s1 := s.modLife p fun l => { l with life := .checking, packId := s.packIdNow p }
      if s.sk[linkOf p].diag.state = 1 then s1 else s1.startDiag p 0xF
  | .checking =>
    if l.testsValid then s.modLife p fun l => { l with life := .waiting }
    else if s.sk[linkOf p].diag.state = 1 then s else s.portFault p 0xB
  | .waiting =>
    if l.admitPending || decide (s.law (PP_PRECHG_AUTO p) = 1) then
      s.modLife p fun l => { l with life := .precharging, ck0 := true, fb0At := if s.fbClosed p 0 then some s.clk.now else none }
    else s
  | .precharging =>
    if l.ck1 && s.fbClosed p 1 then
      (if l.admitPending then s.admitPort p else s.modLife p fun l => { l with life := .charged })
    else s.precharge p
  | .releasing => s.releasing p dt
  | .discharging =>
    if s.firm.meas[p].valid && decide (s.vdcVolts p < 60) then
      ((s.modLife p fun l => { l with life := .released, latch := true }).modFirm fun m => { m with unlockReq := vset m.unlockReq p true }).raise
        0x33 p.val
    else s
  | .faulted => s.openWhenOff p
  | .empty | .charged | .admitted | .released => s

/-- Whether the life is one of the four states with the pack connected (Table 9.2). -/
def Life.connected (l : Life) : Bool :=
  match l with
  | .precharging | .charged | .admitted | .releasing => true
  | _ => false

/-- One port in a bus step of dt seconds: the transition nearest the top of Table 9.2, the at-zero opening, the relatch.
[DEDUCED, unsafe: log 40, 74] -/
def State.portService (s : State) (p : Port) (dt : Rat) : State :=
  let s0 := s.modLife p fun l => if l.relatch then { l with relatch := false, latch := decide (l.life = .released) } else l
  let s0 := if s0.firm.diagGo[p] && decide (s0.sk[linkOf p].diag.state ≠ 1) then s0.modFirm fun m => { m with diagGo := vset m.diagGo p false } else s0
  let s1 := if (s0.life p).atZero.isSome && decide (ratAbs (s0.idcAmps p) < 1) then s0.zeroDone p else s0
  let l := s1.life p
  if l.life = .empty then s1.openWhenOff p
  else if l.loop = 0 then (s1.toEmpty p 9).openWhenOff p
  else if l.life = .released then s1.modLife p fun l => { l with relReq := false }
  else if l.loop = 2 ∧ (l.life = .plugged ∨ l.life = .checking ∨ l.life = .waiting) then s1.toEmpty p 1
  else
    let fault := if l.life.connected then (s1.packFault p).or (s1.prechargeFault p) else none
    match fault with
    | some c => s1.portFault p c
    | none => if l.relReq then s1.takeRelease p dt else s1.lifeRow p dt

/-! ### Loops, signals and timers -/

/-- The states that a loop in FAULT keeps out of (R290). -/
def Life.beforePack (l : Life) : Bool :=
  match l with
  | .empty | .plugged | .checking | .waiting => true
  | _ => false

/-- The firmware takes a new class of a loop: 0 OPEN, 1 CLOSED, 2 FAULT (R289, R290, Table 9.8). A contactor that is closed under an
OPEN loop is PULLED at once. -/
def State.takeLoop (s : State) (p : Port) (code : Nat) : State :=
  if (s.life p).loop = code then s
  else
    let s1 := s.modLife p fun l => { l with loop := code, loopAt := s.clk.now, testsValid := l.testsValid && decide (code ≠ 0) }
    match code with
    | 0 => if (s.life p).life ≠ .empty ∧ s.anyClosed p then s1.portFault p 9 else s1
    | 1 => s1
    | _ => ((s1.raise 0x37 p.val).raise 0x36 p.val 1).modLife p fun l => { l with cause := if l.life.beforePack then 1 else l.cause }

/-- LOOP_CLASS_REPORT (R289, R290, R520): the firmware acts from IDLE onwards. [DEDUCED, unsafe: log 75] -/
def execLoopClassReport (p : Port) (cls : LoopClass) (s : State) : Res :=
  let s1 := if s.lookout.loops[p] = cls.code then s
    else s.modLookout fun k =>
      { k with loops := vset k.loops p cls.code, loopAt := vset k.loopAt p (if s.dev = DevState.standby then some s.clk.now else none) }.lapseLoop p.val
  .next (if s.awake then s1.takeLoop p cls.code else s1)

/-- PLUG_DEBOUNCE_END (R287, R289): the loop has read CLOSED for PLUG_DEBOUNCE. -/
def execPlugDebounceEnd (p : Port) (s : State) : Res :=
  let l := s.life p
  .next (if s.awake && decide (l.life = .empty ∧ l.loop = 1 ∧ l.loopAt + msTicks (10 * s.parN (PP_PLUG_DEBOUNCE p)) ≤ s.clk.now) then
    s.toPlugged p else s)

/-- A signal goes stale at a tick; one that is stale stays so (R292). -/
def Signal.expire (x : Signal) (now : Nat) : Signal := if x.fresh then { x with fresh := false, staleAt := now } else x

/-- BMS_SIGNAL_STALE (R292, R303): TIMEOUT after the last stored update; a signal without TIMEOUT never goes stale. -/
def execBmsSignalStale (p : Port) (sig : Fin 16) (s : State) : Res :=
  if h : sig.val < 8 then
    let at_ := (s.life p).signals[(⟨sig.val, h⟩ : Fin 8)].storedAt
    .next (if (s.bmsMap p).any fun e => decide (e.signal = sig.val ∧ e.timeout ≠ 0 ∧ at_ + msTicks e.timeout ≤ s.clk.now) then
      s.modLife p fun l => { l with signals := vmod l.signals ⟨sig.val, h⟩ (·.expire s.clk.now) } else s)
  else .next s

/-- A required signal is unmapped, or has been stale for BMS_LOST_T (R302). -/
def State.signalsLost (s : State) (p : Port) : Bool :=
  requiredSignals.any fun x =>
    let y := (s.life p).signals[x]
    !s.mapped p x.val || (!y.fresh && decide (y.staleAt + msTicks (10 * s.parN (PP_BMS_LOST_T p)) ≤ s.clk.now))

/-- BMS_LOST (R302): a required signal has been stale for BMS_LOST_T. -/
def execBmsLost (p : Port) (s : State) : Res :=
  let l := (s.life p).life
  .next (if s.awake && decide (l = .precharging ∨ l = .charged ∨ l = .admitted) && s.signalsLost p then s.portFault p 2 else s)

/-- PRECHG_TIMEOUT (R294): PRECHG_T after FB0 first read closed. -/
def execPrechgTimeout (p : Port) (s : State) : Res :=
  let l := s.life p
  let due := heldFor s.clk.now (msTicks (10 * s.parN (PP_PRECHG_T p))) l.fb0At
  .next (if s.awake && decide (l.life = .precharging) && due && !l.ck1 then s.portFault p 4 else s)

/-- AT_ZERO_TIMEOUT (R302): 100 ms after the cause. -/
def execAtZeroTimeout (p : Port) (s : State) : Res :=
  .next (if s.awake && heldFor s.clk.now (msTicks 100) ((s.life p).atZero.map (·.2)) then s.zeroDone p else s)

/-- RELEASE_DISCHARGE_FAIL (R299): DISCHARGE_T after the entry into DISCHARGING. -/
def execReleaseDischargeFail (p : Port) (s : State) : Res :=
  let l := s.life p
  .next (if s.awake && decide (l.life = .discharging ∧ l.dischargeAt + msTicks (1000 * s.parN (PP_DISCHARGE_T p)) ≤ s.clk.now) then
    s.raise 0x35 p.val (tenths (s.vdcVolts p)) else s)

/-! ### Contactors and tests -/

/-- CONTACTOR_FB_CHANGE (R232, R238, R294): a closing contactor aborts the tests; FB0 starts the pre-charge times. -/
def execContactorFbChange (p : Port) (n : Fin 2) (closed : Bool) (s : State) : Res :=
  let l := linkOf p
  if !s.sk[l].good then .next s
  else
    let s1 := s.modSk l fun k =>
      let k1 := { k with coils := vmod k.coils n fun c => { c with fb := closed } }
      if closed then k1.abortDiag else k1
    .next (if closed && decide (n = 0) && decide ((s.life p).life = .precharging) && (s.life p).fb0At.isNone then
      s1.modLife p fun x => { x with fb0At := some s.clk.now } else s1)

/-- CONTACTOR_FAULT (R233, R302): FBn differs from CKn COIL_FB_T after CKn changed: WELD or FAIL, the event, the trip, FAULTED from
the connected states. [DEDUCED, unsafe: log 75] -/
def execContactorFault (p : Port) (n : Fin 2) (s : State) : Res :=
  let c := s.sk[linkOf p].coils[n]
  if !s.sk[linkOf p].good || decide (c.fb = c.cmd) || decide (s.clk.now < c.cmdAt + msTicks (10 * s.parN (PP_COIL_FB_T p))) then .next s
  else
    let weld := c.fb
    let s1 := s.modSk (linkOf p) fun k =>
      { k with coils := vmod k.coils n fun x => { x with weld := x.weld || weld, fail := x.fail || !weld } }
    let s2 := (s1.raise 0x4C p.val (2 ^ n.val + 16 * b2n weld)).tripPort p .contactor
    .next (if (s.life p).life.connected then s2.portFault p 7 else s2)

/-- The hardware path drops the drivers whose permission went 50 µs ago or more (R231, R346). -/
def Skerry.hwDrop (k : Skerry) (now : Nat) : Skerry :=
  { k with
    coils := if heldFor now (usTicks 50) k.coilsLost then k.coils.map fun c => { c with on := false, pull := false } else k.coils
    latchOn := k.latchOn && !heldFor now (usTicks 50) k.latchLost }

/-- COIL_HW_DROP (R231, R346, Table 9.8): the drivers that the permit forbids; a connected port with a closed contactor has
the fault PERMIT. -/
def execCoilHwDrop (p : Port) (s : State) : Res :=
  let l := linkOf p
  let lost := heldFor s.clk.now (usTicks 50) s.sk[l].coilsLost
  let s1 := s.modSk l (·.hwDrop s.clk.now)
  .next (if s.awake && lost && s.anyClosed p && (s.life p).life.connected then s1.portFault p 8 else s1)

/-- DIAG_ITEM_DONE (R235 to R237, R287): the item's time has run and its reading is judged; the last item ends the run. -/
def execDiagItemDone (p : Port) (reading : Int) (s : State) : Res :=
  let l := linkOf p
  let d := s.sk[l].diag
  if d.state ≠ 1 ∨ s.clk.now < d.itemAt + d.itemTicks (s.parN (PP_ISO_SETTLE p)) then .next s
  else
    let s1 := s.modSk l fun k => { k with diag := d.itemDone (10 * s.parN (PP_ISO_MIN p)) s.clk.now (s.diagVolts p) reading }
    .next (if s1.sk[l].diag.state = 1 then s1 else s1.diagDone p)

/-! ### CAN FD (R240 to R242, R292) -/

/-- Data bit n of a frame. -/
def dataBit (data : List Byte) (n : Nat) : Bool := bit (by8 data (n / 8)) (n % 8)

/-- The last byte that a big-endian field reaches (R292). -/
def endByte (start length : Nat) : Nat := start / 8 + ceilDiv (length - start % 8 - 1) 8

/-- The bit positions of a big-endian field, most significant first. -/
def beBits : Nat → Nat → List Nat
  | _, 0 => []
  | b, n + 1 => b :: beBits (if b % 8 = 0 then b + 15 else b - 1) n

/-- raw of R292; none where the frame is too short. -/
def MapEntry.raw (e : MapEntry) (data : List Byte) : Option Nat :=
  if bit e.flags 0 then
    if data.length ≤ endByte e.start e.length then none
    else some ((beBits e.start e.length).foldl (fun a b => 2 * a + b2n (dataBit data b)) 0)
  else if 8 * data.length < e.start + e.length then none
  else some (maskOf e.length fun i => dataBit data (e.start + i))

/-- val of R292. -/
def MapEntry.value (e : MapEntry) (raw : Nat) : Int :=
  let r : Int := if bit e.flags 1 then ofTwos e.length raw else raw
  r * e.scale / 65536 + e.offset

/-- The valid range of Table 9.4. -/
def signalOk (sig : Nat) (v : Int) : Bool :=
  if sig ≤ 1 then decide (0 ≤ v ∧ v ≤ 25000) else if sig ≤ 3 then decide (0 ≤ v ∧ v ≤ 10000)
  else if sig = 4 then decide (3000 ≤ v ∧ v ≤ 11000) else true

/-- One map entry takes a frame (R292). -/
def PortLife.takeSignal (l : PortLife) (now : Nat) (e : MapEntry) (f : CanFrame) : PortLife :=
  if e.id % 2 ^ 29 ≠ f.id % 2 ^ 29 ∨ bit e.flags 2 ≠ f.ide then l
  else match e.raw f.data with
    | none => { l with bmsRange := true }
    | some raw =>
      let v := e.value raw
      if !signalOk e.signal v then { l with bmsRange := true }
      else if h : e.signal < 8 then { l with signals := vset l.signals ⟨e.signal, h⟩ { val := some v, fresh := true, storedAt := now } }
      else l

/-- A frame enters a relay ring of 64 (R240). -/
def Relay.push (r : Relay) (sec ns : Nat) (f : CanFrame) : Relay :=
  let ring := r.ring ++ [⟨r.next, sec, ns, f⟩]
  if ring.length ≤ 64 then { r with ring := ring, next := r.next + 1 }
  else { r with ring := ring.tail, next := r.next + 1, lost := satInc 16 r.lost }

/-- The identifier word of R241. -/
def canWord (f : CanFrame) : Nat := wordOf [(31, 1, b2n f.ide), (30, 1, b2n f.fdf), (29, 1, b2n f.brs), (0, 29, f.id)]

/-- A frame as the link chunks carry it: identifier word, length, data. -/
def canImage (f : CanFrame) : List Byte := le 4 (canWord f) ++ le 1 f.data.length ++ f.data

/-- The chunks of a received frame, 8 bytes each (R210). [DEDUCED, unsafe: log 123] -/
def canChunks (f : CanFrame) : List (Bool × Bool × List Byte) :=
  let im := canImage f
  let n := ceilDiv im.length 8
  (List.range n).map fun i => (decide (i = 0), decide (i + 1 = n), (im.drop (8 * i)).take 8)

/-- CAN_FRAME_RECEIVE (R240, R292, R381). -/
def execCanFrameReceive (p : Port) (f : CanFrame) (s : State) : Res :=
  if !s.awake || !s.sk[linkOf p].good || s.sk[linkOf p].canBusOff then .next s
  else
    let s1 := s.modLife p fun l => (s.bmsMap p).foldl (fun (l : PortLife) e => l.takeSignal s.clk.now e f) l
    let ptp := s.act.ptp
    let seq := s.act.relays[p].next
    let s2 := (s1.modAct fun a => { a with relays := vmod a.relays p fun r => r.push ptp.sec ptp.subNs f }).modSk (linkOf p)
      fun k => { k with canUp := k.canUp ++ canChunks f }
    .next (if bit (s.parN P_MIRROR_SEL) 1 then s2.modPair s.hd (·.pushItem (.can p.val seq)) else s2)

/-- The 80-byte record of R241. -/
def RelayRec.bytes (r : RelayRec) : List Byte :=
  let d := r.frame.data.take 64
  le 4 r.sec ++ le 4 r.ns ++ le 4 (canWord r.frame) ++ le 1 d.length ++ zeros 3 ++ d ++ zeros (64 - d.length)

/-- Lengths of CAN and CAN FD frames (R242). -/
def canLengthOk (fdf : Bool) (n : Nat) : Bool := decide (n ≤ 8) || (fdf && [12, 16, 20, 24, 32, 48, 64].contains n)

def packCanSendAns (p : Port) (b : List Byte) (s : State) : Ans :=
  let id := rd b 0 4
  let len := by8 b 4
  let k := s.sk[linkOf p]
  s.check
    [(decide (b.length ≠ 5 + len), ST_BAD_LENGTH), (!canLengthOk (bit id 30) len, ST_BAD_PARAMETER),
     (decide (8 ≤ k.canTx.length), ST_QUEUE_FULL), (k.busOffHeld, ST_STATE_FORBIDS)]
    fun s =>
      (s.modSk (linkOf p) fun k =>
        { k with canTx := k.canTx ++ [{ ide := bit id 31, fdf := bit id 30, brs := bit id 29, id := id % 2 ^ 29, data := b.drop 5 }] }).ok

def packCanReadAns (p : Port) (b : List Byte) (s : State) : Ans :=
  let n := min 16 (by8 b 0)
  s.check [(decide (b.length ≠ 1), ST_BAD_LENGTH), (decide (by8 b 0 = 0), ST_BAD_PARAMETER)] fun s =>
    let r := s.act.relays[p]
    let rs := r.ring.take n
    (s.modAct fun a => { a with relays := vmod a.relays p fun r => { r with ring := r.ring.drop n, lost := 0 } }).ok
      (le 1 rs.length ++ le 2 r.lost ++ rs.flatMap (·.bytes))

def execPackCanSend (r : Req) (s : State) : Res := .next (s.host 0x38 r .port (packCanSendAns (reqPort r) r.payload))
def execPackCanRead (r : Req) (s : State) : Res := .next (s.host 0x39 r .port (packCanReadAns (reqPort r) r.payload))

/-! ### Admission, release, tests: the host's commands -/

def portAdmitAns (target : Nat) (b : List Byte) (s : State) : Ans :=
  let p : Port := ⟨target % 12, by omega⟩
  let l := s.life p
  s.check
    ([(decide (s.dev = .service ∨ s.dev = .boot), ST_STATE_FORBIDS), (decide (s.dev = .tripped), ST_TRIP_ACTIVE),
      (decide (s.dev = .lockout), ST_LOCKED_OUT), (decide (b.length ≠ 0), ST_BAD_LENGTH)] ++ portTargets target ++
     [(decide (l.life = .empty ∨ l.life = .faulted), ST_STATE_FORBIDS),
      (decide (l.life = .releasing ∨ l.life = .discharging ∨ l.life = .released) || l.relReq, ST_BUSY),
      (s.requiredUnmapped p, ST_BAD_PARAMETER)])
    fun s =>
      match l.life with
      | .admitted => s.ok
      | .charged => (s.admitPort p).ok
      | _ => { st := s.modLife p fun l => { l with admitPending := true }, status := ST_PENDING }

def portReleaseAns (target : Nat) (b : List Byte) (s : State) : Ans :=
  let p : Port := ⟨target % 12, by omega⟩
  let l := s.life p
  s.check
    ((decide (b.length ≠ 0), ST_BAD_LENGTH) :: portTargets target ++
     [(decide (l.life = .empty), ST_STATE_FORBIDS), (decide (s.dev = .lockout), ST_LOCKED_OUT), (decide (s.dev = .boot), ST_STATE_FORBIDS),
      (s.lastAble p, ST_STATE_FORBIDS)])
    fun s =>
      match l.life with
      | .discharging => s.ok
      | .released => (s.relatch p).ok
      | _ => (s.requestRelease p).ok

/-- The answer to GATE_DIAG (R235). [DEDUCED, unsafe: log 73] -/
def gateDiagAns (target : Nat) (b : List Byte) (s : State) : Ans :=
  let p : Port := ⟨target % 12, by omega⟩
  let k := s.sk[linkOf p]
  let tests := by8 b 0
  s.check
    ((decide (s.dev = .boot), ST_STATE_FORBIDS) :: portTargets target ++
     [(decide (b.length ≠ 1), ST_BAD_LENGTH), ((s.life p).admitted || k.gateEn || s.anyClosed p, ST_STATE_FORBIDS),
      (decide (tests = 0 ∨ 15 < tests), ST_BAD_PARAMETER), (decide (k.diag.state = 1), ST_BUSY)])
    fun s => { st := s.startDiag p tests, status := ST_PENDING }

def execPortAdmit (r : Req) (s : State) : Res := .next (s.host 0x30 r .any (portAdmitAns r.target r.payload))
def execPortRelease (r : Req) (s : State) : Res := .next (s.host 0x31 r .any (portReleaseAns r.target r.payload))
def execGateDiag (r : Req) (s : State) : Res := .next (s.host 0x44 r .any (gateDiagAns r.target r.payload))

/-! ### The release button and the slot (R297, R301) -/

/-- The button's filtered level at a slot: a press is high for 100 ms, then low (R297). -/
def State.button (s : State) (p : Port) (level : Bool) : State :=
  if level then s.modLife p fun l => { l with btnAt := some s.clk.now }
  else
    let l := s.life p
    let s1 := s.modLife p fun l => { l with btnAt := none }
    if !heldFor s.clk.now (msTicks 100) l.btnAt then s1
    else
      let s2 := (s1.modLife p fun l => { l with btnSeen := true }).raise 0x32 p.val
      match l.life with
      | .empty | .discharging => s2
      | .released => s2.relatch p
      | _ =>
        if (l.life = .admitted ∨ l.life = .charged) ∧ s.par (PP_BTN_MODE p) = 0 then s2
        else if s.lastAble p then (s2.modLife p fun l => { l with refusedAt := some s.clk.now }).raise 0x34 p.val
        else s2.requestRelease p

/-- The demand of Table 9.9 on a slot's output. -/
def State.slotLight (s : State) (p : Port) : Bool :=
  let l := s.life p
  let half := fun (ms : Nat) => decide (s.clk.now / msTicks ms % 2 = 0)
  let refused := match l.refusedAt with
    | some t => decide (s.clk.now < t + msTicks 5000)
    | none => false
  match l.life with
  | .released => if s.sk[linkOf p].latchOn then true else half 500
  | .releasing | .discharging => half 500
  | .faulted => half 125
  | _ => refused && half 125

end Sys2Proof.Machine
end

