-- ==== Sys2Proof/Machine/Detect.lean ====
section
/-! DEFINITION. What a bus step measures (03_forming_the_grid.md) and detects (04_ride_through_and_limits.md). -/
namespace Sys2Proof.Machine

/-! ### Arithmetic of the laws -/

/-- A first-order filter's step of dt seconds with time constant T. [DEDUCED, unsafe: log 20] -/
def lag (x y dt T : Rat) : Rat := if T ≤ dt then y else x + dt / T * (y - x)
/-- Clarke's transform and its inverse, as R128 takes them. -/
def clarke (v : Vector Rat 3) : Rat × Rat := (2 / 3 * (v[0] - (v[1] + v[2]) / 2), (v[1] - v[2]) / constSqrt 3)
def invClarke (a : Rat × Rat) : Vector Rat 3 :=
  let h := constSqrt 3 / 2 * a.2
  #v[a.1, -a.1 / 2 + h, -a.1 / 2 - h]
/-- Positive and negative sequence in αβ, from in-phase and lagged outputs (R128). -/
def sequences (f : Vector Filt 3) : (Rat × Rat) × (Rat × Rat) :=
  let a := clarke (f.map (·.1))
  let l := clarke (f.map (·.2))
  (((a.1 - l.2) / 2, (a.2 + l.1) / 2), ((a.1 + l.2) / 2, (a.2 - l.1) / 2))
/-- A root at the scale of 2 pu. -/
def root (x : Rat) : Rat := 2 * engSqrt (x / 4)
def mag (a : Rat × Rat) : Rat := root (a.1 * a.1 + a.2 * a.2)
/-- An angle in turns within half a turn of 0. -/
def wrapTurn (x : Rat) : Rat := x - (x + 1 / 2).floor

/-! ### Bases (R74) and frequency -/

/-- V_NOM in V; its peak; the current base in A; S_RATED in VA. -/
def State.vNom (s : State) : Rat := (s.lawN P_V_NOM : Rat) / 10
def State.vBase (s : State) : Rat := constSqrt 2 * s.vNom
def State.sBase (s : State) : Rat := (s.lawN P_S_RATED * 1000 : Nat)
def State.iBase (s : State) : Rat := constSqrt 2 * s.sBase / (3 * s.vNom)
/-- f_v in Hz (R48) and θv (R47). -/
def State.fv (s : State) : Rat := (s.act.replica.inc : Rat) * 400000000 / 2 ^ 48
def State.thetaV (s : State) : Nat := thetaOf s.act.replica.acc
def State.lawF (s : State) : Rat := s.lawN P_F_NOM

/-- A port whose currents count (R87). -/
def State.partakes (s : State) (p : Port) : Bool :=
  let l := s.life p
  l.admitted || (decide (l.life = .releasing) && !l.gatesDone)

/-! ### Measurement (R76, R77, R108, R265) -/

/-- The sample set of Skerry G that its tide entry asked for, once it has arrived; at a bus step also one that has not.
[DEDUCED, unsafe: log 41] -/
def State.takeGrid (s : State) (late : Bool) : State :=
  let d := s.dec[linkG]
  let arrived := match d.sampleAt, d.head with
    | some t, some h => decide ((h + 2 ^ 32 - t) % 2 ^ 32 < 2 ^ 31)
    | _, _ => false
  if d.sampleAt.isSome && (late || arrived) then
    let d1 := d.takeSamples true
    let raw := fun (c : Fin 7) => (d1.samples[c].q : Rat) / 32768 * convK (s.lawN P_V_G_FS / s.vBase)
    let pu := fun (c : Fin 7) => q15m (raw c)
    let inv := d1.samples[0].valid && d1.samples[1].valid && d1.samples[2].valid
    let grid := d1.samples[4].valid && d1.samples[5].valid && d1.samples[6].valid
    let stored := (if inv then [raw 0, raw 1, raw 2] else []) ++ (if grid then [raw 4, raw 5, raw 6] else [])
    ((s.modDec linkG fun _ => d1).modFirm fun m =>
      { m with grid :=
        { v := if inv then #v[pu 0, pu 1, pu 2] else m.grid.v, vg := if grid then #v[pu 4, pu 5, pu 6] else m.grid.vg
          invValid := inv, gridValid := grid, taken := true } }).noteStores (stored.map (· / 2)) []
  else s

/-- i_bus[x]: the currents of the ports that take part, in module per unit. -/
def State.busCurrent (s : State) (x : Fin 3) : Rat :=
  ratSum ((List.finRange 12).map fun p => if s.partakes p then s.firm.meas[p].ip[x.val] * convK (s.lawN (PP_I_FS p) / s.iBase) else 0)

/-- Voltage histories reach back 12 ms. [DEDUCED, unsafe: log 42] -/
def keepHistory (now : Nat) (h : List (Nat × Vector Rat 3)) : List (Nat × Vector Rat 3) :=
  h.takeWhile fun x => decide (now < x.1 + msTicks 12)

/-- A bus step's quantities, from the last sample set. [DEDUCED, unsafe: log 44] -/
def State.measure (s : State) (dt : Rat) : State :=
  let s0 := s.takeGrid true
  let fv := s0.fv
  let now := s0.clk.now
  let ib0 : Vector Rat 3 := Vector.ofFn s0.busCurrent
  let ib := ib0.map q15m
  let tp : Rat := (s0.lawN P_T_PE : Rat) / 10000
  let tq : Rat := (s0.lawN P_T_QE : Rat) / 1000
  let dead : Rat := (s0.lawN P_BS_DEAD_V : Rat) / 100
  let s1 := s0.modFirm fun m =>
    let g := { m.grid with invValid := m.grid.invValid && m.grid.taken, gridValid := m.grid.gridValid && m.grid.taken, taken := false }
    let r := m.rotor
    let sv : Vector Filt 3 := Vector.ofFn fun x => Config.sogi fv dt g.v[x] r.sogiV[x]
    let sg : Vector Filt 3 := Vector.ofFn fun x => Config.sogi fv dt g.vg[x] r.sogiG[x]
    let si : Vector Filt 3 := Vector.ofFn fun x => Config.sogi fv dt ib[x] r.sogiI[x]
    let np := Config.notch (2 * fv) dt (2 / 3 * (g.v[0] * ib[0] + g.v[1] * ib[1] + g.v[2] * ib[2])) r.notch[0]
    let nq := Config.notch (2 * fv) dt (2 / 3 * (sv[0].2 * ib[0] + sv[1].2 * ib[1] + sv[2].2 * ib[2])) r.notch[1]
    let vg := q15m (mag (sequences sg).1)
    let fg := Config.fll dt g.vg[0] g.vg[1] g.vg[2] r.fllG
    { m with
      grid := g
      rotor := { r with
        ibus := ib, sogiV := sv, sogiG := sg, sogiI := si, notch := #v[np, nq], pe := q15m (lag r.pe np.1 dt tp)
        qe := q15m (lag r.qe nq.1 dt tq), vPos := q15m (mag (sequences sv).1), vgPos := vg, fllG := fg, fGrid := if vg < dead then 0 else fg.1 }
      ride := { m.ride with vHist := (now, g.v) :: keepHistory now m.ride.vHist, gHist := (now, g.vg) :: keepHistory now m.ride.gHist } }
  let r := s0.firm.rotor
  let r1 := s1.firm.rotor
  s1.noteStores ((ib0.toList ++ [lag r.pe r1.notch[0].1 dt tp, lag r.qe r1.notch[1].1 dt tq, mag (sequences r1.sogiV).1,
    mag (sequences r1.sogiG).1]).map (· / 2)) []

/-- Sliding rms of phase x over the half period of f that ends now, per unit of V_NOM (R104, R120).
 [DEDUCED, unsafe: log 42] [DESIGN CHOICE, unsafe: log 43] -/
def halfRms (hist : List (Nat × Vector Rat 3)) (now : Nat) (f : Rat) (x : Fin 3) : Rat :=
  let span : Nat := (200000000 / f).floor.toNat
  let vs := (hist.takeWhile fun e => decide (now < e.1 + span)).map fun e => e.2[x]
  if vs.isEmpty then 0 else root (2 * ratSum (vs.map fun v => v * v) / (vs.length : Nat))
def minOf3 (f : Fin 3 → Rat) : Rat := ratMin (f 0) (ratMin (f 1) (f 2))
def maxOf3 (f : Fin 3 → Rat) : Rat := ratMax (f 0) (ratMax (f 1) (f 2))

/-! ### Grid sense faults (R265) -/

/-- Any port has its gates enabled. -/
def State.anyGates (s : State) : Bool := s.pwm.toList.any (·.gatesEn)

/-- GRID_SENSE_FAULT: every admitted port trips. -/
def State.gridTrip (s : State) (cause : Nat) : State :=
  let mask := s.admittedMask
  if mask = 0 then s else (s.raise 0x56 0x0C cause mask).tripAdmitted .gridFault

/-- The count of R265 and the trip of a STUCK channel. -/
def State.gridSense (s : State) : State :=
  let run := if s.anyGates && !s.firm.grid.invValid then s.firm.gridInvalid + 1 else 0
  let s1 := s.modFirm fun m => { m with gridInvalid := if 8 ≤ run then 0 else run }
  let s2 := if 8 ≤ run then s1.gridTrip 1 else s1
  if s.anyGates && decide (s.dec[linkG].stuck % 8 ≠ 0) then s2.gridTrip 2 else s2

/-! ### Detectors (R120 to R122, R142) -/

/-- The angle of the bus voltage relative to θv, in turns. -/
def State.busAngle (s : State) (v : Vector Rat 3) : Rat :=
  let a := clarke v
  wrapTurn (Config.atan2 a.1 (-a.2) - (s.thetaV : Rat) / 2 ^ 32)

/-- The detection quantities of a bus step (R120). [DESIGN CHOICE, unsafe: log 43, 118] -/
def State.quantities (s : State) (dt : Rat) : State :=
  let now := s.clk.now
  let fv := s.fv
  let v := s.firm.grid.v
  let winMs := s.lawN P_ROCOF_WIN
  let count := (s.firm.ride.origins).filter fun t => decide (now < t + msTicks (1000 * s.lawN P_RT_REPEAT_WIN))
  s.modRide fun r =>
    let fll := Config.fll dt v[0] v[1] v[2] r.fll
    let parts := ((now, fll.1) :: r.fHist).span fun e => decide (now < e.1 + msTicks winMs)
    { r with
      vab := mag (clarke v), fll := fll, fMeas := fll.1, fHist := parts.1 ++ parts.2.take 1, origins := count
      vMin := minOf3 (halfRms r.vHist now fv), vMax := maxOf3 (halfRms r.vHist now fv)
      rocof := match parts.2.head? with
        | some e => (fll.1 - e.2) * 1000 / (winMs : Nat)
        | none => 0 }

/-- A voltage event begins (R121, R122, R142). [DEDUCED, unsafe: log 46] -/
def State.beginFault (s : State) (origin : Nat) : State :=
  let s1 := s.modRide fun r => { r with fault := true, origin := origin, voltIn := none, held := some s.firm.rotor.w, origins := r.origins ++ [origin] }
  let r := s1.firm.ride
  let s2 := s1.raise 0x25 0xFF r.rmsWord
  if s.dev = .forming ∧ s.lawN P_RT_MAX_FAULTS < r.origins.length then
    ((s2.modFlags fun f => { f with repeatTrip := true }).raise 0x28 0xFF r.origins.length).moduleTrip .module 0x28
  else s2

/-- Onset and limits of the voltage event. [DEDUCED, unsafe: log 46] -/
def State.voltEvent (s : State) : State :=
  let now := s.clk.now
  let pu := fun (n : Nat) => (s.lawN n : Rat) / 100
  let s1 := s.modRide fun r =>
    { r with
      uvRun := if r.vab < pu P_UV_ENTRY then (r.uvRun.1 + 1, if r.uvRun.1 = 0 then now else r.uvRun.2) else (0, 0)
      voltIn := if pu P_UV_EXIT ≤ r.vMin ∧ r.vMax ≤ pu P_OV_EXIT then r.voltIn.or (some now) else none }
  let r := s1.firm.ride
  let fast := decide (2 ≤ r.uvRun.1)
  if r.fault then s1
  else if fast || decide (r.vMin < pu P_UV_ENTRY) || decide (pu P_OV_ENTRY < r.vMax) then s1.beginFault (if fast then r.uvRun.2 else now)
  else s1

/-- The frequency event. -/
def State.freqEvent (s : State) : State :=
  let now := s.clk.now
  s.modRide fun r =>
    if (s.lawN P_FREQ_BAND : Rat) < 1000 * ratAbs (r.fMeas - s.lawF) then
      { r with freq := true, freqOrigin := if r.freq then r.freqOrigin else now, freqIn := none }
    else
      let since := r.freqIn.getD now
      if r.freq && decide (since + msTicks (s.lawN P_FAULT_CLEAR_T) ≤ now) then { r with freq := false, freqIn := none }
      else { r with freqIn := some since }

/-- ROCOF_HIGH: one event per excursion. -/
def State.rocofCheck (s : State) : State :=
  let r := s.firm.ride
  let high := decide ((s.lawN P_ROCOF_WARN : Rat) < 10 * ratAbs r.rocof)
  let s1 := s.modRide fun r => { r with rocofHigh := high }
  if high && !r.rocofHigh then
    (s1.modFlags fun f => { f with rocofHigh := true }).raise 0x2A 0xFF (sArg (satS 32 (roundUpHalf (r.rocof * 1000))))
  else s1

/-- The phase jump of R121 and the realignment of R124. -/
def State.phaseJump (s : State) : State :=
  let r := s.firm.ride
  let delta : Option Rat := if r.vab < 1 / 10 then none else some (s.busAngle s.firm.grid.v)
  let s1 := s.modRide fun r => { r with delta := delta }
  match r.delta, delta with
  | some d0, some d1 =>
    let jump := wrapTurn (d1 - d0)
    if (s.lawN P_PJ_THRESH : Rat) / 3600 < ratAbs jump then
      let s2 := ((s1.modRide fun r => { r with pjLast := jump }).modFlags fun f => { f with phaseJump := true }).raise
        0x2B 0xFF (sArg (roundUpHalf (jump * 36000)))
      if s.law P_PJ_MODE = 1 then
        let left := jump + (r.realign.map (·.1)).getD 0
        let ms := s.lawN P_PJ_REALIGN_T
        s2.modRide fun r => { r with realign := some (left, left * 1000 / (ms : Nat), s.clk.now + msTicks ms) }
      else s2
    else s1
  | _, _ => s1

/-- The instantaneous overvoltage trip. -/
def State.instCheck (s : State) : State :=
  let v := s.firm.grid.v
  let lim : Rat := (s.lawN P_V_INST_TRIP : Rat) / 100
  let above := (List.finRange 3).find? fun x => decide (lim < ratAbs v[x])
  match above with
  | some x =>
    if !s.anyGates then s.modRide fun r => { r with instRun := 0 }
    else if s.firm.ride.instRun = 0 then s.modRide fun r => { r with instRun := 1 }
    else
      (((s.modRide fun r => { r with instRun := 0 }).modFlags fun f => { f with vinstTrip := true }).raise
        0x29 x.val (pct16 (ratAbs v[x]))).moduleTrip .module 0x29
  | none => s.modRide fun r => { r with instRun := 0 }

/-- RECOVERING begins, or ends on a new fall (R146); old is the state before the bus step. [DEDUCED, unsafe: log 45] -/
def State.recovery (s old : State) : State :=
  let r := s.firm.ride
  let o := old.firm.ride
  let exit : Rat := (s.lawN P_UV_EXIT : Rat) / 100
  match r.recovering with
  | some _ => if r.vab < (s.lawN P_UV_ENTRY : Rat) / 100 then s.modRide fun r => { r with recovering := none } else s
  | none =>
    if r.fault && o.idReduced && decide (exit ≤ r.vab) && (!o.fault || decide (o.vab < exit)) then
      s.modRide fun r => { r with recovering := some (old.firm.rotor.vPos * ratAbs o.idLim, s.clk.now) }
    else s

/-! ### Envelopes (R138 to R141) -/

/-- Envelope n is evaluated: its event is open, the sub-mode is one of its ENABLE bits. -/
def State.envActive (s : State) (n : Fin 4) : Bool :=
  let e := s.act.cfg.committed.env[n]
  let r := s.firm.ride
  decide (s.dev = .forming) && (if n.val < 2 then r.fault else r.freq) &&
    ((bit e.enable 0 && decide (s.firm.sub = .gridParallel)) || (bit e.enable 1 && decide (s.firm.sub = .islanded)))

/-- µs since the origin of the event of envelope n. -/
def State.envElapsed (s : State) (n : Fin 4) : Rat :=
  let r := s.firm.ride
  ((s.clk.now - (if n.val < 2 then r.origin else r.freqOrigin) : Nat) : Rat) / 400

/-- One envelope in a bus step: the violation's trip on the confirming step. -/
def State.envStep (s : State) (n : Fin 4) : State :=
  let e := s.act.cfg.committed.env[n]
  let t := s.envElapsed n
  let v : Rat := s.envQuantity n
  let bad := s.envActive n && decide (if n.val % 2 = 0 then v < boundAt t e.vertices else boundAt t e.vertices < v)
  let run := if bad then s.firm.ride.envRun[n] + 1 else 0
  let s1 := s.modRide fun r => { r with envRun := vset r.envRun n run }
  if bad && decide (e.confirm ≤ run) then
    (((s1.modFlags fun f => { f with envExit := f.envExit ||| 2 ^ n.val }).raise 0x27 n.val (satU 32 t.floor)).modCap fun c =>
      (c.envelope n.val).condition 2 (4 + n.val) s.ptpNow).moduleTrip .module 0x27
  else s1

/-- A part of the detectors acts only while the Unyar is still in SYNC or FORMING (R120). -/
def State.whileLive (s : State) (f : State → State) : State := if s.dev.runs then f s else s

/-- The detectors of a bus step in SYNC or FORMING; old is the state before the bus step. A trip ends them. -/
def State.detect (s old : State) (dt : Rat) : State :=
  let s1 := (s.quantities dt).voltEvent
  let s2 := s1.whileLive fun t => (((t.freqEvent).rocofCheck).phaseJump).recovery old
  let s3 := s2.whileLive State.instCheck
  (List.finRange 4).foldl (fun t n => t.whileLive fun u => u.envStep n) s3

end Sys2Proof.Machine
end

