-- ==== Sys2Proof/Machine/Form.lean ====
section
/-! DEFINITION. The module laws of a bus step in SYNC and FORMING: dispatch ramps, rotor, EMF, virtual impedance, voltage loop,
current budget (03_forming_the_grid.md, 04_ride_through_and_limits.md). -/
namespace Sys2Proof.Machine

/-! ### Ramps -/

/-- x moves towards y by at most d. -/
def toward (x y d : Rat) : Rat := if y < x - d then x - d else if x + d < y then x + d else y

/-- A falling ramp of STOP_RAMP_T runs. -/
def Ramp.falling (r : Ramp) : Bool :=
  match r with
  | .none | .bsUp => false
  | .bsDown | .stopIslanded | .stopParallel | .gridLost => true

/-- The fraction of a falling ramp that is done (R114). [DEDUCED, unsafe: log 55] -/
def State.rampK (s : State) : Rat := ratMin 1 ((s.firm.seq.rampDone : Rat) / msTicks (s.lawN P_STOP_RAMP_T))

/-- A ramp begins (R106, R107, R113, R114). [DEDUCED, unsafe: log 55] -/
def State.startRamp (s : State) (r : Ramp) : State :=
  let m := s.firm
  s.modSeq fun q =>
    { q with ramp := r, rampAt := s.clk.now, rampDone := 0, rampFrom := (m.rotor.e, m.dispatch.pR, m.dispatch.qR, m.rotor.wSet) }

/-- Ticks of ramp done: a rising one pauses until 10 ms without limitation (R106). [DEDUCED, unsafe: log 55] -/
def State.advanceRamp (s : State) : State :=
  let now := s.clk.now
  let q := s.firm.seq
  let step := min (now - s.firm.busAt) (now - q.rampAt)
  let paused := match q.lastLimited with
    | some t => decide (now < t + msTicks 10)
    | none => false
  match q.ramp with
  | .none => s
  | .bsUp =>
    if paused || q.rampEnded then s
    else
      let done := q.rampDone + step
      s.modSeq fun q => { q with rampDone := done, rampEnded := decide (msTicks (s.lawN P_BS_RAMP_T) ≤ done) }
  | .bsDown | .stopIslanded | .stopParallel | .gridLost => s.modSeq fun q => { q with rampDone := q.rampDone + step }

/-- Accepted targets take effect (R98). -/
def Dispatch.take (d : Dispatch) (t : Option Int × Option Int × Option Int × Option Int × Nat) : Dispatch :=
  { d with
    pSet := t.1.getD d.pSet, rateP := if t.1.isSome then t.2.2.2.2 else d.rateP
    qSet := t.2.1.getD d.qSet, rateQ := if t.2.1.isSome then t.2.2.2.2 else d.rateQ
    fOff := t.2.2.1.getD d.fOff, vOff := t.2.2.2.1.getD d.vOff }

/-- The ramped dispatch values (R98, R99, R114). -/
def State.rampDispatch (s : State) (dt : Rat) : State :=
  let m := s.firm
  let q := m.seq
  s.modFirm fun m =>
    { m with dispatch :=
      let d := m.dispatch
      if s.dev = .sync then { d with pR := 0, qR := 0 }
      else
        let rate := fun (own : Nat) (n : Nat) => ((if own = 0 then s.lawN n else own : Nat) : Rat) / 1000 * dt
        let k := s.rampK
        let stop := decide (q.ramp = .stopParallel)
        { d with
          pR := if stop then q.rampFrom.2.1 * (1 - k) else toward d.pR (d.pSet / s.sBase) (rate d.rateP P_RAMP_P)
          qR := if stop then q.rampFrom.2.2.1 * (1 - k) else toward d.qR (d.qSet / s.sBase) (rate d.rateQ P_RAMP_Q)
          fR := toward d.fR ((d.fOff : Rat) / 1000) ((s.lawN P_RAMP_F : Rat) / 1000 * dt)
          vR := if m.sub = .blackStart then d.vR else toward d.vR ((d.vOff : Rat) / 10000) ((s.lawN P_RAMP_V : Rat) / 1000 * dt) } }

/-! ### Rotor (R80, R82, R123 to R125) -/

/-- The grid is at or above 0.8 pu, with valid samples (R113). -/
def State.gridUp (s : State) : Bool := s.firm.grid.gridValid && decide ((8 / 10 : Rat) ≤ s.firm.rotor.vgPos)

/-- w_set of the bus step (R80, R108, R113, R114). -/
def State.nextWSet (s : State) : Rat :=
  let m := s.firm
  let r := m.rotor
  if s.dev = .sync then
    if m.seq.ramp = .gridLost ∨ !s.gridUp then r.wSet else (r.fGrid + (s.lawN P_SYNC_SLIP : Rat) / 100) / s.lawF
  else
    let base := 1 + m.dispatch.fR / s.lawF + r.rf
    if m.seq.ramp = .stopParallel then (1 - s.rampK) * m.seq.rampFrom.2.2.2 + s.rampK * r.wf else base

/-- The rotor of a bus step: w, w_f, w_set and the angle (R79, R80, R125). [DESIGN CHOICE, unsafe: log 19] [DEDUCED, unsafe: log 20, 47, 48] -/
def State.rotorStep (s : State) (dt : Rat) : State :=
  let m := s.firm
  let r := m.rotor
  let ride := m.ride
  let wSet := q31m s.nextWSet
  let pm := m.dispatch.pR + (wSet - r.w) * 10000 / s.law P_M_P
  let h : Rat := (s.lawN P_H_INERTIA : Rat) / 100
  let d : Rat := (s.lawN P_D_DAMP : Rat) / 10
  let free := r.w + dt / (2 * h) * (pm - q15m r.pe - d * (r.w - r.wf))
  let bound : Rat := (s.lawN P_ROCOF_LIM : Rat) / 10 * dt / s.lawF
  let mode := s.law P_FRT_ANGLE
  let holding := ride.held.isSome && decide (mode = 1)
  let w1 := match ride.held with
    | some w0 =>
      if holding then w0 else ratClamp (if mode = 2 then ride.fMeas / s.lawF else free) (r.w - bound) (r.w + bound)
    | none => ratClamp free (r.w - bound) (r.w + bound)
  let clamped := s.shoals.toList.any (·.incClamped)
  let w2 := if clamped then ratClamp w1 (9 / 10) (11 / 10) else w1
  let w := q31m w2
  let wf0 := lag r.wf w dt ((s.lawN P_T_DAMP : Rat) / 1000)
  let wf := if holding then w else q31m wf0
  (s.noteStores [] ([s.nextWSet, w2] ++ if holding then [] else [wf0])).modFirm fun m =>
    { m with
      rotor := { m.rotor with wSet := wSet, pm := pm, w := w, wf := wf }
      ride := { m.ride with realign := m.ride.realign.map fun a => (a.1 - a.2.1 * dt, a.2.1, a.2.2) } }

/-! ### The angle fields of the bus step (R51, R80, R124) -/

/-- Fields go to the four Shoals in the next frames, and the token holder's replica awaits them (R50, R51); the last eight are kept.
A bus step's fields replace those of an earlier step that no frame has carried. -/
def State.sendFields (s : State) (f : AngleFields) (step : Bool) : State :=
  (s.modFirm fun m => { m with angleOut := f, launch := m.launch.map fun fs => if step then [f] else fs ++ [f] }).modAct fun a =>
    { a with replica := { a.replica with fields := (a.replica.fields ++ [f]).drop (a.replica.fields.length + 1 - 8) } }

/-- INC_NEW from w and the realignment, taken up where θv will then stand. -/
def State.sendAngle (s : State) : State :=
  let m := s.firm
  let inc := incOf (m.rotor.w * s.lawF + (m.ride.realign.map (·.2.1)).getD 0)
  let t := (s.act.replica.tick + 800) % 2 ^ 32
  s.sendFields ⟨inc, t, s.predictAcc t, m.tune⟩ true

/-! ### EMF (R83, R106 to R108, R113, R114) -/

/-- The EMF magnitude of a bus step (R83, R125). [DESIGN CHOICE, unsafe: log 19] -/
def State.emfStep (s : State) (dt : Rat) : State :=
  let m := s.firm
  let r := m.rotor
  let q := m.seq
  let d := m.dispatch
  let k := s.rampK
  let nq : Rat := (s.lawN P_N_Q : Rat) / 10000
  let mp : Rat := (s.lawN P_M_P : Rat) / 10000
  let e83 := 1 + d.vR + r.rv - nq * (q15m r.qe - d.qR)
  let e :=
    if q.ramp = .gridLost ∨ q.ramp = .bsDown ∨ q.ramp = .stopIslanded then q.rampFrom.1 * (1 - k)
    else if s.dev = .sync then (if s.gridUp then r.vgPos else r.e)
    else if m.sub = .blackStart then (1 + d.vR) * ratMin 1 ((q.rampDone : Rat) / msTicks (s.lawN P_BS_RAMP_T))
    else if q.ramp = .stopParallel then (1 - k) * e83 + k * r.vPos
    else e83
  let tr : Rat := s.lawN P_T_RESTORE
  let f := ratMin 1 (dt / tr)
  let rf := if m.sub = .blackStart then 0
    else if m.ride.fault then r.rf
    else if tr = 0 then 0
    else if m.sub = .islanded then ratClamp (r.rf + f * (1 + d.fR / s.lawF - r.wf)) (-mp) mp else r.rf * (1 - f)
  let rv := if m.sub = .blackStart then 0
    else if m.ride.fault then r.rv
    else if tr = 0 then 0
    else if m.sub = .islanded then ratClamp (r.rv + f * (1 + d.vR - r.vPos)) (-nq) nq else r.rv * (1 - f)
  (s.noteStores [e / 2] [rf, rv]).modFirm fun m => { m with rotor := { m.rotor with e := q15m e, rf := q31m rf, rv := q31m rv } }

/-! ### Threshold virtual impedance and voltage loop (R85, R86, R127) -/

/-- dx of R127; the quadrature of i_bus holds i90 with its sign reversed. [DEDUCED, unsafe: log 20] -/
def State.tviStep (s : State) (dt : Rat) : State :=
  let r := s.firm.rotor
  let amp := maxOf3 fun x => root (r.ibus[x] * r.ibus[x] + r.sogiI[x].2 * r.sogiI[x].2)
  let start : Rat := (s.lawN P_TVI_START : Rat) / 100
  let dxT := if start < amp then ratMin ((s.lawN P_K_TVI : Rat) / 100 * (amp - start)) 1 else 0
  s.modRide fun x => { x with dx := if x.dx < dxT then dxT else lag x.dx dxT dt ((s.lawN P_TVI_DECAY : Rat) / 1000) }

/-- u[x] and ud[x] (R85, R128). -/
def State.unitU (s : State) (x : Fin 3) : Rat := engSin (turns ((s.thetaV : Rat) / 2 ^ 32 - (x.val : Rat) / 3))
def State.unitD (s : State) (x : Fin 3) : Rat := -engCos (turns ((s.thetaV : Rat) / 2 ^ 32 - (x.val : Rat) / 3))

/-- Harmonics of the resonators, and M of R78. -/
def harmonicOf (i : Fin 4) : Nat := 2 * i.val + 1
def busDivisor (carrierN fNom : Nat) : Nat := max 1 (ceilDiv (carrierN * fNom) 25000)
/-- Resonator i is enabled; its centre lies above one fifth of the bus step rate. -/
def State.resEnabled (s : State) (i : Fin 4) : Bool := decide (i = 0) || bit (s.lawN P_HARM_EN) (i.val - 1)
def State.resTooHigh (s : State) (i : Fin 4) : Bool :=
  decide (s.lawN P_CARRIER_N < 5 * harmonicOf i * busDivisor (s.lawN P_CARRIER_N) (s.lawN P_F_NOM))

/-- What the voltage loop yields: iref[x] before it is stored, and the resonators' next states. -/
def State.voltageLoop (s : State) (dt : Rat) : Vector Rat 3 × Vector (Vector Filt 3) 4 :=
  let r := s.firm.rotor
  let g := s.firm.grid
  let dx := s.firm.ride.dx
  let vr : Rat := (s.lawN P_VIRT_R : Rat) / 1000 + dx * 10 / s.lawN P_TVI_XR
  let vx : Rat := (s.lawN P_VIRT_X : Rat) / 1000 + dx
  let ev : Vector Rat 3 := Vector.ofFn fun x => r.e * s.unitU x - vr * r.ibus[x] + vx * r.w * r.sogiI[x].2 - g.v[x]
  let res : Vector (Vector Filt 3) 4 := Vector.ofFn fun i =>
    if s.resEnabled i && !s.resTooHigh i then
      Vector.ofFn fun x =>
        Config.res (harmonicOf i) (s.lawN (if i = 0 then P_K_RV else P_K_RH)) (harmonicOf i * s.thetaV % 2 ^ 32) dt ev[x] r.res[i][x]
    else Vector.replicate 3 (0, 0)
  (Vector.ofFn fun x => (s.lawN P_K_PV : Rat) / 100 * ev[x] + ratSum (res.toList.map fun f => f[x].1), res)

/-! ### Module budget (R128, R129, R146) -/

/-- One part of the demand after the budget that is left: its factor. -/
def partScale (dem b : Rat) : Rat := if dem ≤ ratMax b 0 then 1 else if b ≤ 0 then 0 else b / dem

/-- i_d and i_q within the budget b by FRT_PRIO, |i_d| capped at dcap. -/
def prioritise (prio : Int) (b dcap idDem iqDem : Rat) : Rat × Rat :=
  let rest := fun (x : Rat) => root (ratMax 0 (b * b - x * x))
  if prio = 0 then
    let iq := ratClamp iqDem (-b) b
    let c := ratMin dcap (rest iq)
    (ratClamp idDem (-c) c, iq)
  else if prio = 1 then
    let c := ratMin dcap b
    let id := ratClamp idDem (-c) c
    (id, ratClamp iqDem (-(rest id)) (rest id))
  else
    let m := mag (idDem, iqDem)
    let k := if m ≤ b then 1 else b / m
    (ratClamp (k * idDem) (-dcap) dcap, k * iqDem)

/-- What the budget leaves of iref: references, i_d, i_q, and whether a part, i_d, and i_d by the cap alone were reduced. -/
structure Budget where
  iref : Vector Rat 3
  id : Rat
  iq : Rat
  /-- What the budget stored, per unit. -/
  stores : List Rat
  limited : Bool
  idReduced : Bool
  capBinds : Bool

/-- R128 on the parts of iref, whose quadratures are sr. -/
def State.budget (s : State) (iref : Vector Rat 3) (sr : Vector Filt 3) : Budget :=
  let ride := s.firm.ride
  let r := s.firm.rotor
  let b : Rat := (s.lawN P_I_LIM_MOD : Rat) / 100
  let pn := sequences sr
  let i0f := (sr[0].1 + sr[1].1 + sr[2].1) / 3
  let i0q := (sr[0].2 + sr[1].2 + sr[2].2) / 3
  let sn := engSin s.thetaV
  let cs := engCos s.thetaV
  let idDem := pn.1.1 * sn - pn.1.2 * cs
  let iqDem := -pn.1.1 * cs - pn.1.2 * sn
  let mode := if ride.fault then s.law P_NEG_SEQ_MODE else 0
  let vn := (sequences r.sogiV).2
  let kn : Rat := (s.lawN P_K_NEG : Rat) / 10
  let neg : Rat × Rat := if mode = 1 then (0, 0) else if mode = 2 then (-kn * vn.2, kn * vn.1) else pn.2
  let ipos := invClarke pn.1
  let ineg0 := invClarke pn.2
  let ih : Vector Rat 3 := Vector.ofFn fun x => iref[x] - ipos[x] - ineg0[x] - i0f
  let dcap : Rat := match ride.recovering with
    | some (p0, t) => (p0 + (s.lawN P_RECOV_RATE : Rat) / 100 * (((s.clk.now - t : Nat) : Rat) / 400000000)) / ratMax r.vPos (1 / 10)
    | none => b
  let dq := prioritise (s.law P_FRT_PRIO) b dcap idDem iqDem
  let free := prioritise (s.law P_FRT_PRIO) b b idDem iqDem
  let b1 := b - mag dq
  let mn := mag neg
  let kneg := partScale mn b1
  let b2 := b1 - kneg * mn
  let m0 := mag (i0f, i0q)
  let k0 := partScale m0 b2
  let b3 := b2 - k0 * m0
  let mh := maxOf3 fun x => ratAbs ih[x]
  let kh := partScale mh b3
  let limited := decide (dq.1 ≠ idDem) || decide (dq.2 ≠ iqDem) || decide (kneg < 1) || decide (k0 < 1) || decide (kh < 1)
  let ineg := invClarke neg
  let whole := !limited && decide (mode = 0)
  let raw : Vector Rat 3 := Vector.ofFn fun x => dq.1 * s.unitU x + dq.2 * s.unitD x + kneg * ineg[x] + k0 * i0f + kh * ih[x]
  { iref := if whole then iref else raw.map q15m
    id := q15m dq.1, iq := q15m dq.2, stores := [dq.1, dq.2] ++ (if whole then [] else raw.toList), limited := limited
    idReduced := decide (ratAbs dq.1 < ratAbs idDem), capBinds := decide (ratAbs dq.1 < ratAbs free.1) }

/-- The voltage loop and the budget of a bus step; resonators stay on a step that limits (R128). -/
def State.currentStep (s : State) (dt : Rat) : State :=
  let out := s.voltageLoop dt
  let iref := out.1.map q15m
  let sr : Vector Filt 3 := Vector.ofFn fun x => Config.sogi s.fv dt iref[x] s.firm.rotor.sogiR[x]
  let b := s.budget iref sr
  let skipped := (List.finRange 4).any fun i => s.resEnabled i && s.resTooHigh i
  (s.noteStores ((out.1.toList ++ b.stores).map (· / 2)) []).modFirm fun m =>
    { m with
      rotor := { m.rotor with iref := b.iref, sogiR := sr, res := if b.limited then m.rotor.res else out.2 }
      ride := { m.ride with
        limitActive := b.limited, idReduced := b.idReduced, idLim := b.id, iqLim := b.iq
        recovering := if b.capBinds then m.ride.recovering else none }
      flags := { m.flags with harmSkipped := m.flags.harmSkipped || skipped } }

/-- HOLD and TRACK end once the event and RECOVERING are over (R125). -/
def State.releaseAngle (s : State) : State :=
  s.modRide fun r => if !r.fault && r.recovering.isNone then { r with held := none } else r

/-- The laws of a bus step of dt seconds, in SYNC and FORMING. -/
def State.laws (s : State) (dt : Rat) : State :=
  ((((((((s.advanceRamp).rampDispatch dt).releaseAngle).rotorStep dt).sendAngle).emfStep dt).tviStep dt).currentStep dt).releaseAngle

end Sys2Proof.Machine
end

