-- ==== Sys2Proof/Machine/Sharing.lean ====
section
/-! DEFINITION. Sharing among the ports in a bus step: availabilities, DC governor, weights, the split and the port limits
(03_forming_the_grid.md, 04_ride_through_and_limits.md). -/
namespace Sys2Proof.Machine

/-- A sum over the ports. -/
def sumPorts (f : Port → Rat) : Rat := ratSum ((List.finRange 12).map f)
/-- x within 0 and 1. -/
def unit01 (x : Rat) : Rat := ratClamp x 0 1

/-! ### Availabilities (R87, R88, R136, R137) -/

/-- SOC and SOH as fractions; SOH_DEFAULT where no value is stored. -/
def State.socOf (s : State) (p : Port) : Rat := ((s.life p).val 2 : Rat) / 10000
def State.sohOf (s : State) (p : Port) : Rat :=
  match (s.life p).signals[3].val with
  | some v => if s.mapped p 3 then (v : Rat) / 10000 else (s.lawN (PP_SOH_DEFAULT p) : Rat) / 100
  | none => (s.lawN (PP_SOH_DEFAULT p) : Rat) / 100
/-- The permitted discharge and charge currents in A; 0 while the signal is stale (R303). -/
def State.bmsCurrent (s : State) (p : Port) (sig : Fin 8) : Rat := if (s.life p).signals[sig].fresh then ((s.life p).val sig : Rat) / 10 else 0
def State.iDisBms (s : State) (p : Port) : Rat := s.bmsCurrent p 0
def State.iChgBms (s : State) (p : Port) : Rat := s.bmsCurrent p 1

/-- A port that takes part and neither trips nor stops. -/
def State.carries (s : State) (p : Port) : Bool := s.partakes p && (s.life p).trips.isEmpty

/-- The BMS limit in the direction of i_dc. -/
def State.dcLimit (s : State) (p : Port) : Rat := if 0 ≤ s.idcAmps p then s.iDisBms p else s.iChgBms p

/-- The DC governor of R137. -/
def State.govNext (s : State) (p : Port) (dt : Rat) : Rat :=
  let g := s.firm.shares[p].gov
  let i := ratAbs (s.idcAmps p)
  let lim := s.dcLimit p
  if lim < i then g * lim / i else ratMin 1 (g + ratMin 1 (dt * 1000 / s.lawN P_T_W) * (1 - g))

/-- The availabilities of R87 before the filter, with k_vhi of R136, the governor and the direction that the safety set
allows (R352). -/
def State.rawAvail (s : State) (p : Port) (gov : Rat) : Vector Rat 5 :=
  let n := fun (k : Nat) => (s.lawN k : Rat)
  let tEnd := n (PP_T_DER_END p)
  let kt := unit01 ((tEnd - s.firm.meas[p].tpm) / (tEnd - n (PP_T_DER_START p)))
  let soc := s.socOf p
  let lo := n (PP_SOC_MIN p) / 100
  let hi := n (PP_SOC_MAX p) / 100
  let band := n (PP_SOC_BAND p) / 100
  let kd := unit01 ((soc - lo) / band)
  let kc := unit01 ((hi - soc) / band)
  let v := s.vdcVolts p
  let floor := 2449490 / 1000000 * s.vNom * s.firm.rotor.e
  let khr := if 0 < floor then unit01 ((v - floor) / (5 / 100 * floor)) else if 0 < v then 1 else 0
  let vMax := n (PP_V_DC_MAX p)
  let kvhi := unit01 ((vMax - v) / (vMax - n (PP_V_DC_HI p)))
  let pMax := n (PP_P_PORT_MAX p) * 1000
  let eNom := n (PP_E_NOM p) / 10 * s.sohOf p
  let dir := s.bw.par (P_SLD_DIR p)
  let kdis : Rat := if dir = 1 then 0 else gov
  let kchg : Rat := if dir = 2 then 0 else gov
  if s.carries p then
    #v[kdis * ratMin pMax (s.iDisBms p * v) * kt * kd * khr, kchg * kvhi * ratMin pMax (s.iChgBms p * v) * kt * kc * khr,
       pMax * kt * khr, eNom * ratMax (soc - lo) 0 * kt * khr, eNom * ratMax (hi - soc) 0 * kt * khr]
  else Vector.replicate 5 0

/-- The one-sided filter of R88. -/
def oneSided (x y dt T : Rat) : Rat := if y ≤ x then y else lag x y dt T

/-- Availabilities and governor of every port in a bus step. -/
def State.availStep (s : State) (dt : Rat) : State :=
  let tw : Rat := (s.lawN P_T_W : Rat) / 1000
  s.modFirm fun m =>
    { m with shares := Vector.ofFn fun p =>
        let x := m.shares[p]
        let g := if s.partakes p then s.govNext p dt else x.gov
        let raw := s.rawAvail p g
        { x with gov := g, avail := Vector.ofFn fun i => oneSided x.avail[i] raw[i] dt tw } }

/-- The filtered availability i of port p, times its release factor k_rel (R299). [DEDUCED, unsafe: log 52] -/
def State.effAvail (s : State) (p : Port) (i : Fin 5) : Rat := (s.life p).kRel * s.firm.shares[p].avail[i]

/-! ### Weights (R89) -/

/-- x over its sum, 0 where the sum is 0. -/
def normalise (x : Vector Rat 12) : Vector Rat 12 :=
  let t := ratSum x.toList
  x.map fun a => if t = 0 then 0 else a / t

/-- Weights, inertia shares and capacity shares. [DEDUCED, unsafe: log 52] -/
def State.weightStep (s : State) : State :=
  let m := s.firm
  let dis := decide (0 ≤ m.rotor.pm)
  let sgn : Rat := if dis then 1 else -1
  let wt := fun (p : Port) => if s.partakes p then (s.lawN (PP_E_NOM p) : Rat) * s.sohOf p else 0
  let tot := sumPorts wt
  let avg := if tot = 0 then 0 else sumPorts (fun p => wt p * s.socOf p) / tot
  let bal := fun (p : Port) => ratClamp (1 + (s.lawN P_G_BAL : Rat) / 100 * sgn * (s.socOf p - avg)) 0 2
  let a : Vector Rat 12 := Vector.ofFn fun p => s.effAvail p (if dis then 0 else 1) * bal p
  let en : Vector Rat 12 := Vector.ofFn fun p => s.effAvail p (if dis then 3 else 4)
  let aq : Vector Rat 12 := Vector.ofFn fun p => s.effAvail p 2
  let none_ := decide (ratSum a.toList = 0 ∨ ratSum en.toList = 0 ∨ ratSum aq.toList = 0)
  let w := normalise a
  let h := normalise en
  let q := normalise aq
  s.modFirm fun m =>
    { m with
      shares := Vector.ofFn fun p => { m.shares[p] with w := q15w w[p], h := q15w h[p], q := q15w q[p] }
      flags := { m.flags with noCapacity := m.flags.noCapacity || none_ } }

/-! ### The split (R90, R91) -/

/-- Give an amount to the ports in proportion to the room that each has left; what remains. -/
def spread (x room : Vector Rat 12) (amount : Rat) : Vector Rat 12 × Rat :=
  let t := ratSum room.toList
  if t = 0 then (x, amount)
  else
    let f := ratClamp (amount / t) 0 1
    (Vector.ofFn fun p => x[p] + f * room[p], amount - f * t)

/-- id[p], clamped to the availabilities with one redistribution; whether a remainder was dropped. [DESIGN CHOICE, unsafe: log 114] -/
def State.activeSplit (s : State) (iD : Rat) : Vector Rat 12 × Bool :=
  let m := s.firm
  let vp := ratMax m.rotor.vPos (1 / 10)
  let iM := m.rotor.pm / vp
  let raw : Vector Rat 12 := Vector.ofFn fun p => m.shares[p].w * iM + m.shares[p].h * (iD - iM)
  let hi : Vector Rat 12 := Vector.ofFn fun p => s.effAvail p 0 / (s.sBase * vp)
  let lo : Vector Rat 12 := Vector.ofFn fun p => -s.effAvail p 1 / (s.sBase * vp)
  let x : Vector Rat 12 := Vector.ofFn fun p => ratClamp raw[p] lo[p] hi[p]
  let up := sumPorts fun p => ratMax 0 (raw[p] - x[p])
  let down := sumPorts fun p => ratMin 0 (raw[p] - x[p])
  let a := spread x (Vector.ofFn fun p => hi[p] - x[p]) up
  let b := spread a.1 (Vector.ofFn fun p => lo[p] - a.1[p]) down
  (b.1, decide (a.2 ≠ 0) || decide (b.2 ≠ 0))

/-! ### Port limits, layer 4 (R131, R132, R134) -/

/-- LEG_STATE of leg k of port p reports high impedance. -/
def State.legOff (s : State) (p : Port) (k : Fin 4) : Bool := decide (s.firm.legCode[4 * p.val + k.val] ≠ 0)
def State.hizOf (s : State) (p : Port) : Vector Bool 4 := Vector.ofFn (s.legOff p)
/-- The zero-sequence reference of the port is held at 0. -/
def State.threeWire (s : State) (p : Port) : Bool := s.legOff p 3 || s.firm.shares[p].neutralHold

/-- What layer 4 makes of one port's references, in A: the references, what it took away per phase, whether it clamped (R130), and
whether the neutral leg is at its bound. -/
structure Layer4 where
  refs : Vector Rat 3 := Vector.replicate 3 0
  away : Vector Rat 3 := Vector.replicate 3 0
  clamped : Bool := false
  atNeutral : Bool := false

/-- Live references within ±iph, taken down evenly until their sum lies within ±sum; a phase that meets its bound leaves the rest to the
others in proportion to their room. -/
def zeroClamp (live : Vector Bool 3) (b : Vector Rat 3) (iph sum : Rat) : Vector Rat 3 :=
  let total := b[0] + b[1] + b[2]
  let goal := ratClamp total (-sum) sum
  let n := live.toList.countP id
  let y : Vector Rat 3 := Vector.ofFn fun x => if live[x] then ratClamp (b[x] - (total - goal) / (n : Nat)) (-iph) iph else 0
  let surplus := y[0] + y[1] + y[2] - goal
  let room : Vector Rat 3 := Vector.ofFn fun x => if live[x] then (if 0 < surplus then y[x] + iph else iph - y[x]) else 0
  let t := room[0] + room[1] + room[2]
  if surplus = 0 ∨ t = 0 then y else Vector.ofFn fun x => y[x] - surplus * room[x] / t

/-- Layer 4 on one port: a phase in high impedance, the phase bound, the bound of the neutral leg (R131, R132, R134).
 [DEDUCED, unsafe: log 51] [DESIGN CHOICE, unsafe: log 119] -/
def State.layer4 (s : State) (p : Port) (ref active : Vector Rat 3) : Layer4 :=
  let off : Vector Bool 3 := Vector.ofFn fun x => s.legOff p (x.castLE (by omega))
  let anyOff := off.toList.any id
  let a : Vector Rat 3 := Vector.ofFn fun x => if off[x] then 0 else if anyOff then ref[x] + active[x] / 2 else ref[x]
  let iph : Rat := s.lawN (PP_I_PH_MAX p)
  let sum : Rat := if s.threeWire p then 0 else s.lawN (PP_I_N_MAX p)
  let b := a.map fun x => ratClamp x (-iph) iph
  let y := zeroClamp (off.map (!·)) b iph sum
  { refs := y, away := Vector.ofFn fun x => if off[x] then ref[x] else a[x] - y[x]
    clamped := decide (b ≠ a) || (decide (y ≠ b) && !s.threeWire p), atNeutral := decide (y ≠ b) }

/-- Give a phase's deficit to the ports not at their bound, in proportion to q[p]; what remains. [DEDUCED, unsafe: log 51] -/
def State.giveDeficit (s : State) (x : Fin 3) (refs : Vector Rat 12) (atNeutral : Vector Bool 12) (d : Rat) : Vector Rat 12 × Rat :=
  let takes := fun (p : Port) =>
    let iph : Rat := s.lawN (PP_I_PH_MAX p)
    s.carries p && (s.life p).admitted && !atNeutral[p] && !s.threeWire p && !s.legOff p (x.castLE (by omega)) &&
      (if 0 < d then decide (refs[p] < iph) else decide (-iph < refs[p]))
  let qs := sumPorts fun p => if takes p then s.firm.shares[p].q else 0
  if d = 0 ∨ qs = 0 then (refs, d)
  else
    let give := fun (p : Port) =>
      let iph : Rat := s.lawN (PP_I_PH_MAX p)
      if takes p then ratClamp (d * s.firm.shares[p].q / qs) (-iph - refs[p]) (iph - refs[p]) else 0
    (Vector.ofFn fun p => refs[p] + give p, d - sumPorts give)

/-- The module demand divided among the ports (R90 to R92, R130, R131, R134). -/
def State.splitStep (s : State) : State :=
  let r := s.firm.rotor
  let u : Vector Rat 3 := Vector.ofFn s.unitU
  let iD := 2 / 3 * (r.iref[0] * u[0] + r.iref[1] * u[1] + r.iref[2] * u[2])
  let act := s.activeSplit iD
  let base := s.iBase
  let l4 : Vector Layer4 12 := Vector.ofFn fun p =>
    if s.carries p then
      let active : Vector Rat 3 := Vector.ofFn fun x => base * act.1[p] * u[x]
      s.layer4 p (Vector.ofFn fun x => active[x] + base * s.firm.shares[p].q * (r.iref[x] - iD * u[x])) active
    else {}
  let given : Vector (Vector Rat 12 × Rat) 3 := Vector.ofFn fun x =>
    s.giveDeficit x (l4.map fun a => a.refs[x]) (l4.map (·.atNeutral)) (sumPorts fun p => l4[p].away[x])
  let dropped := given.toList.any fun g => decide (g.2 ≠ 0)
  let code : Port → Vector Rat 3 := fun p => Vector.ofFn fun x => given[x].1[p] / s.lawN (PP_I_FS p)
  let lim : Port → Bool := fun p => (s.life p).admitted && (l4[p].clamped || s.firm.ride.limitActive)
  let anyLim := (List.finRange 12).any lim
  (s.noteStores ((List.finRange 12).flatMap fun p => (code p).toList) []).modFirm fun m =>
    { m with
      shares := Vector.ofFn fun p => { m.shares[p] with iref := (code p).map q15, limited := lim p }
      seq := { m.seq with lastLimited := if anyLim then some s.clk.now else m.seq.lastLimited }
      flags := { m.flags with shareClamped := m.flags.shareClamped || act.2 || dropped } }

/-! ### DC checks and firmware verdicts (R136, R344) -/

/-- PORT_DC_OV: above V_DC_MAX on two consecutive bus steps. [DEDUCED, unsafe: log 54] -/
def State.dcOvStep (s : State) (p : Port) : State :=
  let above := s.firm.meas[p].valid && decide ((s.lawN (PP_V_DC_MAX p) : Rat) < s.vdcVolts p)
  let run := if above then min 2 (s.firm.shares[p].ovRun + 1) else 0
  let s1 := s.modShare p fun x => { x with ovRun := run }
  if run = 2 ∧ !(s.life p).trips.contains .dcOv then (s1.raise 0x47 p.val (tenths (s.vdcVolts p))).tripPort p .dcOv else s1

/-- v_dc is below V_DC_MIN while the contactors are closed (R136). -/
def State.dcLow (s : State) (p : Port) : Bool :=
  s.fbClosed p 0 && s.fbClosed p 1 && decide (s.vdcVolts p < s.lawN (PP_V_DC_MIN p))

/-- i_dc exceeds the BMS limit of its direction by more than BMS_MARGIN (R137). -/
def State.overLimit (s : State) (p : Port) : Bool :=
  s.partakes p && decide (s.dcLimit p * (1 + (s.lawN (PP_BMS_MARGIN p) : Rat) / 100) < ratAbs (s.idcAmps p))

/-- Since when the two have held at every bus step. -/
def State.dcTimes (s : State) (p : Port) : State :=
  s.modShare p fun x =>
    { x with
      lowFrom := if s.dcLow p then x.lowFrom.or (some s.clk.now) else none
      overFrom := if s.overLimit p then x.overFrom.or (some s.clk.now) else none }

/-- The verdicts that the firmware forms on its own samples: SLC, SLD, SLV. [DEDUCED, unsafe: log 53] -/
def State.verdictStep (s : State) (p : Port) : State :=
  let now := s.clk.now
  let m := s.firm.meas[p]
  let safe := fun (n : Nat) => s.bw.params.get n
  let hist := ((now, m.idc) :: s.firm.idcHist[p]).takeWhile fun x => decide (now < x.1 + msTicks 1)
  let mean := 2500 * ratSum (hist.map (·.2)) / ((hist.length : Nat) * s.lawN (PP_I_DC_FS p) : Rat)
  let dir := safe (P_SLD_DIR p)
  let tol : Rat := safe (P_SLD_TOL p)
  let on := (s.life p).admitted && m.valid
  let slc := on && m.ip.toList.any fun i => decide ((safe (P_SLC_LIM p) : Rat) < 2500 * ratAbs i)
  let sld := on && (if dir = 1 then decide (tol < mean) else if dir = 2 then decide (mean < -tol) else false)
  let slv := on && decide ((safe (P_SLV_MAX p) : Rat) < 1000 * m.vdc)
  s.modFirm fun f => { f with verdict := vset f.verdict p #v[slc, sld, slv], idcHist := vset f.idcHist p hist }

/-- The port part of a bus step outside the laws. -/
def State.portChecks (s : State) : State := s.eachPort fun t p => (((t.ntcStep p).dcOvStep p).dcTimes p).verdictStep p

end Sys2Proof.Machine
end

