-- ==== Sys2Proof/Machine/Steps.lean ====
section
/-! DEFINITION. The port steps of the engine and the trace buffers (05_control_engine.md). -/
namespace Sys2Proof.Machine

/-! ### Trace buffers (R177 to R182) -/

def selOn (w : Nat) : Bool := bit w 15
def selPort (w : Nat) : Nat := bitsOf w 14 11
def selIndex (w : Nat) : Nat := bitsOf w 10 8
def selNode (w : Nat) : Nat := bitsOf w 7 0

/-- INDEX values of a node; none for a reserved one (Table 5.13). -/
def nodeRange (node : Nat) : Option Nat :=
  if node = 0x01 ∨ node = 0x06 ∨ node = 0x10 then some 4
  else if (0x02 ≤ node ∧ node ≤ 0x05) ∨ node = 0x11 ∨ node = 0x12 ∨ node = 0x27 ∨ node = 0x28 then some 3
  else if node = 0x07 ∨ node = 0x08 ∨ (0x20 ≤ node ∧ node ≤ 0x26) ∨ node = 0x29 then some 1
  else none

/-- A 16-bit code of a quantity at a scale of 1 pu and of 2 pu. -/
def code1 (x : Rat) : Nat := toTwos 16 (q15Code x)
def code2 (x : Rat) : Nat := toTwos 16 (q15Code (x / 2))
/-- Duty[16:1]. -/
def codeDuty (d : Nat) : Nat := d / 2 % 2 ^ 16

/-- The value of a port node (Table 5.13). -/
def Firm.portNode (m : Firm) (p : Port) (node i : Nat) : Nat :=
  let x := m.steps[p]
  if node = 0x01 then code1 (Vector.at_ m.meas[p].ip i 0)
  else if node = 0x02 then code1 (Vector.at_ x.lastPred.1 i 0)
  else if node = 0x03 then code1 (Vector.at_ m.shares[p].iref i 0)
  else if node = 0x04 then code1 (Vector.at_ x.ei i 0)
  else if node = 0x05 then code1 (Vector.at_ x.integ i 0)
  else if node = 0x06 then codeDuty (Vector.at_ x.duty i 0)
  else if node = 0x07 then code1 m.meas[p].vdc
  else if node = 0x08 then code1 x.lastPred.2
  else if node = 0x10 then codeDuty (Vector.at_ x.lastSpec.1 i 0)
  else if node = 0x11 then code1 (Vector.at_ x.lastSpec.2.1 i 0)
  else code1 (Vector.at_ x.lastSpec.2.2 i 0)

/-- The value of a module node. -/
def Firm.moduleNode (m : Firm) (node i : Nat) : Nat :=
  let r := m.rotor
  if node = 0x20 then toTwos 32 (satS 32 (roundUpHalf (r.w * 2 ^ 30))) / 2 ^ 16
  else if node = 0x21 then code2 r.e
  else if node = 0x22 then code2 r.vPos
  else if node = 0x23 then code2 r.pe
  else if node = 0x24 then code2 r.qe
  else if node = 0x25 then code2 m.ride.idLim
  else if node = 0x26 then code2 m.ride.iqLim
  else if node = 0x27 then code2 (Vector.at_ r.iref i 0)
  else if node = 0x28 then code2 (Vector.at_ ((m.ride.vHist.head?.map (·.2)).getD (Vector.replicate 3 0)) i 0)
  else code2 m.ride.dx

/-- The trace word of a selector at a pacing step (Table 5.12); 0 for a channel that is off. -/
def Firm.traceWord (m : Firm) (step sel : Nat) : Nat :=
  if !selOn sel then 0
  else if h : selPort sel < 12 then
    let p : Port := ⟨selPort sel, h⟩
    let node := selNode sel
    wordOf [(31, 1, b2n (decide (0x10 ≤ node))), (30, 1, b2n m.steps[p].recomp), (29, 1, b2n m.steps[p].held), (16, 13, step),
      (0, 16, m.portNode p node (selIndex sel))]
  else wordOf [(16, 13, step), (0, 16, m.moduleNode (selNode sel) (selIndex sel))]

/-- The buffer with one more word: the trigger word at index PRE, DONE at 8,192 words. -/
def Trace.record (t : Trace) (w : List Nat) : Trace :=
  if t.fire then
    let ws := t.words.drop (t.words.length - t.pre) ++ [w]
    { t with words := ws, fire := false, state := if 8192 ≤ ws.length then .done else .triggered }
  else match t.state with
    | .idle | .done => t
    | .armed => { t with words := (t.words ++ [w]).drop (t.words.length + 1 - t.pre) }
    | .triggered =>
      let ws := t.words ++ [w]
      { t with words := ws, state := if 8192 ≤ ws.length then .done else .triggered }

/-- The trigger (R181): the trace is TRIGGERED at pacing step n, and the next word recorded is the trigger word. -/
def Trace.trigger (t : Trace) (n : Nat) : Trace := { t with state := .triggered, trigStep := n % 2 ^ 32, fire := true, hit := false }

/-- One pacing step: every DIV-th is recorded (R177, R179). Source 0 triggers as soon as PRE words are held. [DESIGN CHOICE, unsafe: log 121] -/
def Trace.pacing (t : Trace) (m : Firm) : Trace :=
  let n := (t.steps + 1) % 2 ^ 32
  let t1 := { t with steps := n }
  if n % t.div ≠ 0 then t1
  else
    let w := t.sel.map fun x => m.traceWord n x
    let t2 := if t.state = .armed ∧ t.trig = 0 ∧ t.pre ≤ t.words.length then t1.trigger n else t1
    t2.record w

/-- A pacing step of a source: bus steps, or the port steps of a port. -/
def State.tracePort (s : State) (p : Port) : State :=
  s.modTrace fun t => if t.pace = 0 ∧ t.pacePort = p.val then t.pacing s.firm else t
def State.traceBus (s : State) : State := s.modTrace fun t => if t.pace = 1 then t.pacing s.firm else t

/-- TRACE_TRIGGER (R181, Table 5.15): the source that TRIG and TRIG_ARG name has occurred since PRE words were held. -/
def execTraceTrigger (s : State) : Res :=
  .next (s.modTrace fun t =>
    if t.state = .armed ∧ t.trig ≠ 0 ∧ t.hit then t.trigger (t.steps + 1) else t)

/-- A selector is well formed (Table 5.16). -/
def traceSelOk (w : Nat) : Bool :=
  !selOn w || match nodeRange (selNode w) with
    | some n => decide (selIndex w < n) && (if selNode w < 0x20 then decide (selPort w ≤ 0xB) else decide (selPort w = 0xF))
    | none => false

/-- The answer to TRACE_CONFIG (R178, R179). [DESIGN CHOICE, unsafe: log 121] -/
def traceConfigAns (b : List Byte) (s : State) : Ans :=
  let t := s.act.trace
  let sel := (List.range 16).map fun c => rd b (8 + 2 * c) 2
  let pace := by8 b 0
  let div := rd b 2 2
  let trig := by8 b 6
  let arg := by8 b 7
  let argMax := if trig = 1 ∨ trig = 5 then 7 else if trig = 0 then 255 else 11
  s.check
    [(decide (s.dev = .boot), ST_STATE_FORBIDS), (decide (t.state = .armed ∨ t.state = .triggered), ST_BUSY),
     (decide (b.length ≠ 40), ST_BAD_LENGTH), (decide (div = 0 ∨ 1 < pace ∨ 5 < trig) || !sel.all traceSelOk, ST_BAD_PARAMETER),
     (decide (256 < div ∨ 8191 < rd b 4 2 ∨ (pace = 0 ∧ 0xB < by8 b 1) ∨ argMax < arg), ST_OUT_OF_RANGE)]
    fun s => (s.modTrace fun _ =>
      { pace := pace, pacePort := by8 b 1, div := div, pre := rd b 4 2, trig := trig, trigArg := arg, sel := sel }).ok

def traceArmAns (b : List Byte) (s : State) : Ans :=
  s.check [(decide (b.length ≠ 0), ST_BAD_LENGTH), (!s.act.trace.sel.any selOn, ST_BAD_PARAMETER)]
    fun s => (s.modTrace fun t => { t with state := .armed, words := [], fire := false, hit := false }).ok

def traceReadAns (b : List Byte) (s : State) : Ans :=
  let t := s.act.trace
  let ch := by8 b 0
  let start := rd b 1 2
  let count := rd b 3 2
  s.check
    [(decide (b.length ≠ 5), ST_BAD_LENGTH), (decide (count = 0 ∨ ch ≤ 15) && (decide (count = 0) || !selOn (t.sel.getD ch 0)), ST_BAD_PARAMETER),
     (decide (15 < ch ∨ 8191 < start), ST_OUT_OF_RANGE), (decide (t.state ≠ .done), ST_BUSY)]
    fun s =>
      let n := min (min count 1022) (8192 - start)
      s.ok (le 2 n ++ le 2 t.pre ++ le 4 t.trigStep ++ ((t.words.drop start).take n).flatMap fun w => le 4 (w.getD ch 0))

def execTraceConfig (r : Req) (s : State) : Res := .next (s.host 0xCC r .device (traceConfigAns r.payload))
def execTraceArm (r : Req) (s : State) : Res := .next (s.host 0xCD r .device (traceArmAns r.payload))
def execTraceRead (r : Req) (s : State) : Res := .next (s.host 0xCE r .device (traceReadAns r.payload))

/-! ### A port's step (R162 to R172) -/

/-- A percentage of full scale as its Q15 code (R174). -/
def window (perMille : Nat) : Rat := ((roundUpHalf ((perMille : Rat) * 32768 / 1000) : Int) : Rat) / 32768

/-- The scaled parameters of a port. -/
def State.portPar (s : State) (p : Port) : PortPar :=
  { iFs := s.lawN (PP_I_FS p), vFs := s.lawN (PP_V_FS p), lF := (s.lawN (PP_L_F p) : Rat) / 1000000
    rF := (s.lawN (PP_R_F p) : Rat) / 1000, kpc := (s.lawN (PP_K_PC p) : Rat) / 1000, kic := s.lawN (PP_K_IC p)
    winI := window (s.lawN (PP_SPEC_WIN_I p)), winV := window (s.lawN (PP_SPEC_WIN_V p)), winDc := window (s.lawN (PP_SPEC_WIN_DC p))
    plausI := window (10 * s.lawN (PP_PLAUS_I p)), plausSum := window (10 * s.lawN (PP_PLAUS_SUM p))
    plausDc := window (10 * s.lawN (PP_PLAUS_DC p)), plausK := s.lawN (PP_PLAUS_K p), specEn := decide (s.law (PP_SPEC_EN p) = 1) }

/-- t_c of the running carrier (R56). -/
def State.carrierPeriod (s : State) : Rat := 1 / (s.lawN P_CARRIER_N * s.fv)
/-- The port runs steps: it takes part with its gates enabled and the engine runs. -/
def State.stepping (s : State) (p : Port) : Bool := s.awake && s.act.engine.run && s.partakes p && (s.life p).gateEn

/-- Lane-cycles of Table 5.3. -/
def State.spend (s : State) (cycles : Nat) : State := s.modAct fun a => { a with engine := a.engine.spend s.clk.now cycles }

/-- Port work that waits (R160, R165): a recompute, or the speculative step of a prediction. -/
def State.workOf (s : State) (p : Port) : Option Bool :=
  let x := s.firm.steps[p]
  if !s.stepping p || x.dropped then none
  else if x.recompute then some true
  else if x.pred.isSome && x.spec.isNone && (s.portPar p).specEn && (x.inside || !x.arrived) then some false
  else none

/-- Ticks from now to the commit deadline of the port's step (R162): 240 before the boundary that ends its period. -/
def State.toDeadline (s : State) (p : Port) : Int :=
  (s.ticksToBoundary p + (if s.firm.steps[p].passed then 0 else (400000000 * s.carrierPeriod).floor.toNat) : Nat) - 240

/-- p's work goes before q's: by LATE_RUN, then by deadline, then by port (R160). [DEDUCED, unsafe: log 59] -/
def State.before (s : State) (p q : Port) : Bool :=
  let a := s.firm.steps[p].lateRun
  let b := s.firm.steps[q].lateRun
  decide (b < a) || (decide (a = b) && (decide (s.toDeadline p < s.toDeadline q) || (decide (s.toDeadline p = s.toDeadline q) && decide (p.val < q.val))))

/-- The first piece of port work in the order of R160. -/
def State.firstWork (s : State) : Option Port :=
  (List.finRange 12).foldl (fun best p =>
    if (s.workOf p).isNone then best
    else match best with
      | none => some p
      | some q => if s.before p q then some p else best) none

/-- The engine takes up port work (R160): a piece that cannot end before its deadline is not started, nor a recompute on a port with
SPEC_TIGHT (R175); one for which the bus step leaves no lane-cycles waits. The first argument bounds the pieces looked at.
[DEDUCED, unsafe: log 59] -/
def State.engineStart : Nat → State → State
  | 0, s => s
  | n + 1, s =>
    if s.act.engine.running.isSome then s
    else match s.firstWork with
      | none => s
      | some p =>
        let again := s.workOf p = some true
        if s.toDeadline p < 150 ∨ (again ∧ s.firm.steps[p].tight) then
          State.engineStart n ((s.modStep p fun x => { x with dropped := true }).modFlags fun f => { f with capacityShort := true })
        else if s.act.engine.room < 2400 then s
        else (s.spend 2400).modAct fun a => { a with engine := { a.engine with running := some (p, decide again, s.clk.now + 150) } }

/-- The piece of port work that runs has ended by now. -/
def State.workDone (s : State) (p : Port) (recompute : Bool) : Bool :=
  match s.act.engine.running with
  | some (q, r, t) => decide (q = p ∧ r = recompute ∧ t ≤ s.clk.now)
  | none => false

/-- The port's work stops, and the engine takes up the next piece. -/
def State.engineNext (s : State) (p : Port) : State := (s.modAct fun a => { a with engine := a.engine.stop p.val }).engineStart 12

/-- High time of a leg of the running period, as it will have been (R163), in delay-line steps. -/
def State.runningHigh (s : State) (p : Port) : Vector Nat 4 :=
  let w := s.pwm[p]
  w.legs.map fun g => if w.safe then 0 else g.wApp - g.cut

/-- The duties that apply in the running period (R163). [DEDUCED, unsafe: log 58] -/
def State.runningDuty (s : State) (p : Port) : Vector Rat 4 :=
  let t := s.pwm[p].tPred
  (s.runningHigh p).map fun (h : Nat) => if t = 0 then (0 : Rat) else (h : Rat) / (t : Nat)

/-- A leg other than one in high impedance has both gates held off in the period. -/
def State.gatesHeldOff (s : State) (p : Port) : Bool :=
  (List.finRange 4).any fun k => s.pwm[p].legs[k].offInPeriod && !s.legOff p k

/-- What R163 predicts on given duties, before it is stored. -/
def State.predictOn (s : State) (p : Port) (duty : Vector Rat 4) : Vector Rat 3 × Vector Rat 3 :=
  let x := s.firm.steps[p]
  predictRaw (s.portPar p) s.carrierPeriod s.fv s.firm.meas[p] x.vff x.vff90 duty (s.hizOf p)

/-- The next step of a port begins with its prediction, or cold (R163, R167). -/
def State.nextStep (s : State) (p : Port) (arrived : Bool) : State :=
  let x := s.firm.steps[p]
  let m := s.firm.meas[p]
  let raw := s.predictOn p (s.runningDuty p)
  let formed := arrived && m.valid && !s.gatesHeldOff p && !x.rejoined
  let s1 := if formed then s.noteStores (raw.1.toList ++ raw.2.toList) [] else s
  ((s1.modStep p fun x => x.next (if formed then some (predictSamples raw m.vdc) else none) (s.runningHigh p)).tracePort p).engineNext p

/-- The committed duties go to the Shoal in the next command-link frame, for the period that the next boundary begins (R162, R186). -/
def State.launchDuty (s : State) (p : Port) : State :=
  s.modFirm fun m => { m with dutyOut := vset m.dutyOut p (some (m.steps[p].duty, (s.pwm[p].idx + 1) % 256)) }

/-- The speculative commit (R165, R166). -/
def State.commitSpec (s : State) (p : Port) : State :=
  let x := s.firm.steps[p]
  match x.spec with
  | none => s
  | some (_, clip, _, _) =>
    let errors := (List.finRange 3).map fun i => s.firm.shares[p].iref[i] - s.firm.meas[p].ip[i.val]
    ((((((s.modStep p fun y =>
      y.commitSpec (s.portPar p) s.carrierPeriod s.firm.shares[p].iref s.firm.meas[p] (s.hizOf p)).modFlags fun f =>
        { f with overmod := f.overmod || clip }).noteStores (x.specStores ++ errors) []).spend 160).launchDuty p).nextStep p true)

/-- A port trip of the engine. -/
def State.implausTrip (s : State) (p : Port) (check : Nat) : State :=
  (((s.modStep p fun x => { x with implausTrip := true }).modLife p fun l => { l with retest := true, testsValid := false }).raise
    0x52 p.val check).tripPort p .implausible

/-- The neutral limit of R132 on the samples of one carrier period. -/
def State.neutralStep (s : State) (p : Port) : State :=
  let i := ratAbs s.firm.meas[p].ip[3] * s.lawN (PP_I_FS p)
  let lim : Rat := s.lawN (PP_I_N_MAX p)
  s.modShare p fun x =>
    let run := if 11 / 10 * lim < i then min 4 (x.neutralRun + 1) else 0
    { x with neutralRun := run, neutralHold := if x.neutralHold then decide (lim ≤ i) else decide (4 ≤ run) }

/-- Samples m_k of a port, as the Headland holds them (R93, R94, R137, R162, R264): each valid leg sample counts for R132, R133; the
step takes the set where all of it is valid. [DEDUCED, unsafe: log 41] -/
def State.takePort (s : State) (p : Port) : State :=
  let l := linkOf p
  let d := s.dec[l].takeSamples false
  let q := fun (c : Fin 7) => (d.samples[c].q : Rat) / 32768
  let ok := (d.samples.toList.take 5).all (·.valid)
  let s1 := ((s.takeGrid false).modDec l fun _ => d)
  let v := s1.firm.grid.v
  let sv := s1.firm.rotor.sogiV
  let scale := convK (s1.vBase / s1.lawN (PP_V_FS p))
  ((s1.modFirm fun m =>
    { m with meas := vmod m.meas p fun x =>
        { x with
          valid := ok
          ip := Vector.ofFn fun (k : Fin 4) => if d.samples[k.val].valid then q (k.castLE (by omega)) else x.ip[k]
          vdc := if d.samples[4].valid then q 4 else x.vdc
          idc := if d.samples[5].valid then q 5 * s1.lawN (PP_I_DC_FS p) else x.idc } }).noteStores
      (v.toList.map (· * scale) ++ sv.toList.map fun f => f.2 * scale) []).modStep p fun y =>
    { y with vff := Vector.ofFn fun x => q15 (v[x] * scale), vff90 := Vector.ofFn fun x => q15 (sv[x].2 * scale) }

/-- The first leg whose valid sample is above I_OC_TRIP (R133). [DESIGN CHOICE, unsafe: log 120] -/
def State.ocLeg (s : State) (p : Port) : Option (Nat × Int) :=
  let d := s.dec[linkOf p]
  ((List.finRange 4).find? fun k =>
    d.samples[k.val].valid && decide ((s.lawN (PP_I_OC_TRIP p) : Rat) < ratAbs s.firm.meas[p].ip[k] * s.lawN (PP_I_FS p))).map
    fun k => (k.val, q15Code s.firm.meas[p].ip[k])

/-- The samples of the neutral leg of this set are valid (R132). -/
def State.neutralValid (s : State) (p : Port) : Bool := s.dec[linkOf p].samples[3].valid

/-- m_k has arrived, valid, and the step waits for it (R165, R171, R172): the verdicts, then a commit or a recompute. -/
def State.arriveStep (s : State) (p : Port) : State :=
  let x := s.firm.steps[p]
  let m := s.firm.meas[p]
  let par := s.portPar p
  let hiz := s.hizOf p
  let s1 := s.modStep p fun x => { x with arrived := true }
  match x.pred with
  | none => (s1.modStep p fun x => { x with recompute := true }).engineNext p
  | some pred =>
    let check := implausible par m pred hiz
    let s2 := s1.modStep p fun x => x.judge check.isSome
    let s3 := match check with
      | some c => if par.plausK ≤ s2.firm.steps[p].plausRun then s2.implausTrip p c else s2
      | none => s2
    let miss := missMask par m x.vff pred hiz
    if !par.specEn then (s3.modStep p fun x => { x with recompute := true }).engineNext p
    else if miss = 0 then (s3.modStep p fun x => { x with inside := true, missLoops := 0 }).commitSpec p
    else (s3.modStep p fun x => { x with spec := none, missLoops := miss, recompute := true }).engineNext p

/-- SAMPLES_ARRIVE (R132, R133, R162 to R172). Samples that arrive before B_k are not m_k. -/
def execSamplesArrive (p : Port) (s : State) : Res :=
  if !s.awake || !s.act.engine.run then .next s
  else
    let s1 := s.takePort p
    let s2 := s1.modStep p fun x => { x with oc := x.oc.or (s1.ocLeg p) }
    let s3 := if s1.neutralValid p then s2.neutralStep p else s2
    let x := s3.firm.steps[p]
    .next (if !s3.firm.meas[p].valid || !s3.stepping p || x.arrived || !x.passed then s3 else s3.arriveStep p)

/-- SPEC_STEP_COMPLETE (R163, R165, R168): the step on predicted samples has run; it commits where m_k lies inside. -/
def execSpecStepComplete (p : Port) (s : State) : Res :=
  let x := s.firm.steps[p]
  let par := s.portPar p
  match x.pred with
  | none => .next s
  | some (iHat, vHat, dcHat) =>
    if !s.workDone p false || (s.workOf p).isNone then .next s
    else
      let o := portLoops par s.carrierPeriod s.firm.shares[p].iref iHat vHat x.integ dcHat (s.hizOf p)
      let s1 := s.modStep p fun y =>
        { y with spec := some (o.duty, o.overmod, o.ei, o.vc), specStores := o.stores, lastSpec := (o.duty, o.ei, o.vc) }
      .next (if x.inside then s1.commitSpec p else s1.engineNext p)

/-- RECOMPUTE_COMPLETE (R165, R167, R175): the recompute that runs has ended. [DEDUCED, unsafe: log 59] -/
def execRecomputeComplete (p : Port) (s : State) : Res :=
  let x := s.firm.steps[p]
  let m := s.firm.meas[p]
  if !s.workDone p true || s.workOf p ≠ some true then .next s
  else
    let ip : Vector Rat 3 := #v[m.ip[0], m.ip[1], m.ip[2]]
    let o := portLoops (s.portPar p) s.carrierPeriod s.firm.shares[p].iref ip x.vff x.integ m.vdc (s.hizOf p)
    let s1 := (((s.modStep p fun y => y.commitRecompute o).modFlags fun f =>
      { f with overmod := f.overmod || o.overmod }).noteStores o.stores []).spend 160
    .next (((s1.traceSource 2 p.val).launchDuty p).nextStep p true)

/-- COMMIT_DEADLINE (R160, R162, R170): at the deadline a step that has not committed is late, and its work is abandoned.
[DEDUCED, unsafe: log 59] -/
def execCommitDeadline (p : Port) (s : State) : Res :=
  let x := s.firm.steps[p]
  if !s.stepping p || x.committed || !x.passed || 240 < s.ticksToBoundary p then .next s
  else
    let short := (s.workOf p).isSome && !s.act.engine.running.any fun r => r.1 = p
    let s1 := ((s.modStep p (·.late)).modFlags fun f => { f with capacityShort := f.capacityShort || short }).raise
      0x50 p.val (min 3 (x.lateRun + 1))
    let s2 := if 3 ≤ x.lateRun + 1 then (s1.raise 0x51 p.val 3).tripPort p .late else s1
    .next ((s2.traceSource 3 p.val).nextStep p x.arrived)

/-- PORT_OC_TRIP (R133): at the end of the carrier period of the sample. -/
def execPortOcTrip (p : Port) (s : State) : Res :=
  match s.firm.steps[p].oc with
  | none => .next s
  | some (leg, code) =>
    .next (((s.modStep p fun x => { x with oc := none }).raise 0x46 p.val leg (sArg code)).tripPort p .oc)

/-! ### The carrier boundary -/

/-- B_k has come (R162, R163): a prediction made on other high times than the period had is formed again on those that applied, or the step
is cold where a leg was held off. [DEDUCED, unsafe: log 58] -/
def State.boundaryStep (s : State) (p : Port) (high : Vector Nat 4) : State :=
  let x := s.firm.steps[p]
  let s1 := s.modStep p fun x => { x with passed := true, committed := false }
  let heldOff := (List.finRange 4).any fun k => s.pwm[p].appliedOff[k] && !s.legOff p k
  if x.pred.isNone || x.arrived then s1
  else if heldOff then (s1.modStep p fun x => x.reform none high).engineNext p
  else if high = x.usedHigh then s1
  else
    let raw := s1.predictOn p s1.pwm[p].applied
    ((s1.noteStores (raw.1.toList ++ raw.2.toList) []).modStep p fun x =>
      x.reform (some (predictSamples raw s.firm.meas[p].vdc)) high).engineNext p

/-- φc of a port crosses 0 on this tick (R56). -/
def State.carrierWraps (s : State) (p : Port) : Bool :=
  let h := s.shoals[shoalOf p]
  crosses 0 (s.carrierPhase p (thetaOf h.accPrev)) (s.carrierPhase p (thetaOf h.acc))

/-- CARRIER_BOUNDARY (R56, R163, R186 to R193, R203, R387): on the tick on which φc wraps, unless blocked, the port's generator and step,
and at port 0 the hold count of every Shoal. [DEDUCED, unsafe: log 38] -/
def execCarrierBoundary (p : Port) (s : State) : Res :=
  let k := shoalOf p
  let h := s.shoals[k]
  if !s.awake || s.pwm[p].block.isSome || !s.carrierWraps p then .next s
  else
    let tripped := (s.life p).trips.any (·.forces)
    let w0 := s.pwm[p]
    let high : Vector Nat 4 := w0.legs.map fun g => g.appliedHigh ((s.clk.now - w0.boundaryAt) * 64) w0.safe
    let s1 := s.modPwm p fun w =>
      (s.pwmParams p { w with wantEn := w.wantEn && !tripped }).boundary s.clk.now h.inc (s.parN P_CARRIER_N) h.dlLock
    let s2 := if s1.pwm[p].gatesEn && (!w0.gatesEn || w0.trip) then s1.modStep p (·.enable) else s1
    let s3 := (s2.safeRegionOver k).boundaryStep p high
    .next (if p = 0 then (List.finRange 4).foldl State.holdBoundary s3 else s3)

end Sys2Proof.Machine
end

