-- ==== Sys2Proof/Machine/Grid.lean ====
section
/-! DEFINITION. The bus step, dispatch, black start, synchronising and closing, leaving FORMING (03_forming_the_grid.md,
04_ride_through_and_limits.md). -/
namespace Sys2Proof.Machine

/-! ### Feedback inputs and sub-modes (R100, R101) -/

/-- The level of a Shore input as the firmware last saw it; low where no input is named (R505, R506). -/
def State.inputSeen (s : State) (n : Nat) : Bool := (Vector.at_ s.shore.ins n {}).seen
/-- BRK_FB_IN reports the breaker closed (R109, R112). [DEDUCED, unsafe: log 63] -/
def State.brkClosed (s : State) : Bool := decide (s.parN P_BRK_FB_IN ≠ 0xFF) && s.inputSeen (s.parN P_BRK_FB_IN)

/-- A MODE_HINT's sub-mode. [DEDUCED, unsafe: log 57] -/
def hintMode (hint : Nat) (other : SubMode) : SubMode := if hint = 1 then .islanded else if hint = 2 then .gridParallel else other

/-- The sub-mode on entry: PCC_FB_IN where configured, else the stored hint, else the default. [DEDUCED, unsafe: log 57, 63] -/
def State.entryMode (s : State) (other : SubMode) : SubMode :=
  if s.parN P_PCC_FB_IN = 0xFF then hintMode s.firm.dispatch.hint other
  else if s.inputSeen (s.parN P_PCC_FB_IN) then .gridParallel else .islanded

/-- Set the sub-mode and use the hint up. -/
def State.setMode (s : State) (m : SubMode) : State :=
  s.modFirm fun f => { f with sub := m, dispatch := { f.dispatch with hint := 0 } }

/-- The sub-mode at a bus step in ISLANDED or GRID_PARALLEL. [DEDUCED, unsafe: log 57] -/
def State.modeStep (s : State) : State :=
  if s.dev = .forming ∧ (s.firm.sub = .islanded ∨ s.firm.sub = .gridParallel) then s.setMode (s.entryMode s.firm.sub) else s

/-! ### Gates and entries -/

/-- The gates of every port go off at its next boundary (R102). -/
def State.allGatesOff (s : State) : State := s.modFirm fun m => { m with life := m.life.map fun l => { l with gateEn := false } }
def State.enableAll (s : State) : State := s.eachPort State.enablePort

/-- FORMING from SYNC (R99, R109, R112). [DEDUCED, unsafe: log 49] -/
def State.enterForming (s : State) : State :=
  ((s.setMode (s.entryMode .gridParallel)).modFirm fun m => { m with dispatch := { m.dispatch with pR := 0, qR := 0 } }).setDev .forming 0

/-! ### Firmware tide entries (R61, R71, R110) -/

/-- Write an entry of a Shoal's own comparators. [DEDUCED, unsafe: log 32] -/
def State.putTide (s : State) (k : Shoal) (c : Fin 32) (f : TideEntry → TideEntry) : State :=
  s.modShoal k fun h => { h with tides := vmod h.tides c f }

/-- The SAMPLE entries of a region's ports, τ_g after each boundary; that of Skerry G follows port 0.
 [DEDUCED, unsafe: log 32, 41] [DESIGN CHOICE, unsafe: log 112] -/
def State.sampleEntries (s : State) : State :=
  let fc := s.lawN P_CARRIER_N * s.fv
  let ang := fun (p : Port) => (roundUpHalf (s.groupDelay p / 20000000 * fc * 2 ^ 32)).toNat % 2 ^ 32
  let put := fun (t : State) (k : Shoal) (c : Fin 32) (p : Port) (ref port : Nat) => t.putTide k c fun e =>
    { e with angle := ang p, enable := true, periodic := true, armed := true, action := 1, ref := ref, port := port, arg := 0 }
  let s1 := (List.finRange 12).foldl (fun (t : State) p => put t (shoalOf p) ⟨p.val % 3, by omega⟩ p (p.val % 3 + 1) (p.val % 3)) s
  put s1 0 3 0 1 3

/-- The entry of the engine's step start (R60): every boundary of port 0's carrier, on which bus steps begin (R78).
 [DEDUCED, unsafe: log 32] [DESIGN CHOICE, unsafe: log 112] -/
def State.stepEntry (s : State) : State :=
  s.putTide 0 6 fun e => { e with angle := 0, enable := true, periodic := true, armed := true, action := 0, ref := 1, port := 0, arg := 0 }

/-- The entry that drives BRK_CLOSE_OUT, in force or not. [DEDUCED, unsafe: log 32] [DESIGN CHOICE, unsafe: log 112] -/
def State.closeEntry (s : State) (on : Bool) (angle : Nat) : State :=
  s.putTide 0 7 fun e =>
    { e with angle := angle, enable := on, periodic := false, armed := on, action := 4, ref := 0, port := 0, arg := s.parN P_BRK_CLOSE_OUT }

/-! ### Black start (R104 to R107, R421) -/

/-- A covered channel exceeds BS_DEAD_V. -/
def State.busLive (s : State) : Bool :=
  let lim : Rat := (s.lawN P_BS_DEAD_V : Rat) / 100
  let r := s.firm.ride
  let above := fun (h : List (Nat × Vector Rat 3)) => decide (lim < maxOf3 (halfRms h s.clk.now s.lawF))
  above r.vHist || ((decide (s.parN P_BRK_FB_IN = 0xFF) || s.brkClosed) && above r.gHist)

/-- A peer disagrees on the release or the time, or clashes (R421). [DEDUCED, unsafe: log 105] -/
def State.peerForbids (s : State) : Bool :=
  s.act.net.peers.toList.any fun p => (p.known && (p.diff[1] || p.diff[2])) || p.diff[3]

/-- A pending black start at a bus step. -/
def State.blackStartStep (s : State) : State :=
  let q := s.firm.seq
  let early := match q.bsGate with
    | some g => decide (s.act.ptp.ns < g)
    | none => false
  if !q.bsPending then s
  else if early && s.peerForbids then s.abortBlackStart 4
  else if !q.bsPassed && s.busLive then s.abortBlackStart 1
  else s

/-- How long |v_pos - e| has held within 5 % after the ramp (R107). -/
def State.bsHoldStep (s : State) : State :=
  let r := s.firm.rotor
  let q := s.firm.seq
  if s.firm.sub = .blackStart ∧ q.ramp = .bsUp then
    s.modSeq fun q =>
      { q with holdSince := if q.rampEnded && decide (ratAbs (r.vPos - r.e) ≤ 5 / 100 * r.e) then q.holdSince.or (some s.clk.now) else none }
  else s

/-! ### Synchronising (R109 to R113) -/

/-- Seconds from now until the output would set for the next coincidence (R110). [DEDUCED, unsafe: log 61] -/
def nextOutput (dTheta dF closeT : Rat) : Option Rat :=
  if dF = 0 then none
  else
    let x := if 0 < dF then -dTheta else dTheta
    let base := (x - x.floor) / ratAbs dF
    let period := 1 / ratAbs dF
    let n : Int := if base < closeT then ((closeT - base) / period).ceil else 0
    some (base + n * period - closeT)

/-- The three windows of R111, with the grid present and no fault (R113, R147, R265). [DEDUCED, unsafe: log 61] -/
def State.windowsOk (s : State) : Bool :=
  let q := s.firm.seq
  let r := s.firm.rotor
  let closeT : Rat := (s.lawN P_BRK_CLOSE_T : Rat) / 10000
  s.gridUp && !s.firm.ride.fault && decide (ratAbs q.dF ≤ (s.lawN P_SYNC_DF : Rat) / 100) &&
    decide (ratAbs (r.vPos - r.vgPos) ≤ (s.lawN P_SYNC_DV : Rat) / 1000) &&
    decide (ratAbs (wrapTurn (q.dTheta + q.dF * closeT)) ≤ (s.lawN P_SYNC_DTHETA : Rat) / 3600)

/-- The prediction of an armed close in a bus step of dt seconds. [DEDUCED, unsafe: log 61] -/
def State.closeStep (s : State) (dt : Rat) : State :=
  let q := s.firm.seq
  if !q.armed || q.closeAt.isSome then s
  else match nextOutput q.dTheta q.dF ((s.lawN P_BRK_CLOSE_T : Rat) / 10000) with
    | none => s
    | some t =>
      let at_ := turns ((s.thetaV : Rat) / 2 ^ 32 + s.fv * t)
      if t < dt then
        (if s.windowsOk then s.closeEntry true at_ else (s.closeEntry false at_).modSeq fun q => { q with missed := true })
      else s.closeEntry (decide (t * s.fv < 1)) at_

/-- SYNC in a bus step: phase and frequency difference, the grid's amplitude, an armed close. -/
def State.syncStep (s : State) (dt : Rat) : State :=
  if s.dev ≠ .sync then s
  else
    let dTheta := wrapTurn (-(s.busAngle s.firm.grid.vg))
    let dF := s.fv - s.firm.rotor.fGrid
    let up := s.gridUp
    (s.modSeq fun q =>
      { q with dTheta := dTheta, dF := dF, gridLow := if up then none else q.gridLow.or (some s.clk.now) }).closeStep dt

/-- A live entry completes (R109): gates on with zero references, FORMING. [DEDUCED, unsafe: log 49] -/
def State.liveStep (s : State) : State :=
  let s1 := (s.enableAll.modFirm fun m => { m with shares := m.shares.map fun x => { x with iref := Vector.replicate 3 0 } }).modSeq fun q =>
    { q with liveEntry := false }
  s1.enterForming

/-- Disarm a close; its output clears if it has set (R112). -/
def State.disarm (s : State) : State :=
  (s.closeEntry false 0).modSeq fun q => { q with armed := false, closeAt := none, brkOut := q.brkOut && q.closeAt.isNone }

/-- Arguments of events 0x22 to 0x24: Δθ in 0.01°, Δf in mHz. -/
def State.raiseSync (s : State) (code : Nat) : State :=
  let q := s.firm.seq
  s.raise code 0xFF (sArg (roundUpHalf (q.dTheta * 36000))) (sArg (roundUpHalf (q.dF * 1000)))

/-- The breaker feedback reports closed (R112): a pending close is confirmed. [DEDUCED, unsafe: log 105] -/
def State.breakerSeen (s : State) (closed : Bool) : State :=
  if closed && decide (s.dev = .sync) && s.firm.seq.closeAt.isSome then
    ((s.modSeq fun q => { q with armed := false, closeAt := none }).enterForming).raiseSync 0x22
  else s

/-! ### Tide event frames (R62, R64) -/

/-- The Headland action of an event frame; a breaker that already reads closed confirms the close (R112). -/
def State.tideEvent (s : State) (ev : TideEvent) : State :=
  let age := (s.act.replica.tick + 2 ^ 32 - ev.tick) % 2 ^ 32
  let at_ := s.clk.now - age
  if ev.action = 2 then s.modAdc fun a => a.trigger 0 (ev.arg % 32) (at_ + 480 + s.adcDelay)
  else if ev.action = 3 then (s.modCap fun c => c.condition 1 ev.arg ev.ptp).traceSource 5 ev.arg
  else if ev.action = 4 ∧ ev.entry % 32 < 8 ∧ ev.arg = s.parN P_BRK_CLOSE_OUT ∧ s.firm.seq.armed then
    (s.modSeq fun q => { q with brkOut := true, closeAt := q.closeAt.or (some s.clk.now) }).breakerSeen s.brkClosed
  else if ev.action = 4 then s.tideField ev.arg true at_ ev.entry
  else if ev.action = 5 then s.tideField ev.arg false at_ ev.entry
  else if ev.action = 6 then s.modFirm fun m => { m with flagWait := m.flagWait ++ [(ev.arg, at_)] }
  else if ev.action = 7 then s.raiseTick ev.tick { code := 0x14, source := ev.arg, arg0 := ev.theta, arg1 := ev.entry }
  else s

/-- EVENT_FRAME (R62): the token holder executes the oldest event of a Shoal. -/
def execEventFrame (k : Shoal) (s : State) : Res :=
  .next (match s.shoals[k].events with
    | [] => s
    | ev :: rest =>
      let s1 := s.modShoal k fun h => { h with events := rest }
      if s.awake then s1.tideEvent ev else s1)

/-! ### The bus step (R78) -/

/-- Engine flags of the step that begins: crossings at least 2 µs old (R62); each is a trigger source of the trace (Table 5.15).
[DEDUCED, unsafe: log 105] -/
def State.flagStep (s : State) : State :=
  let now := s.clk.now
  let flags := maskOf 8 fun i => s.firm.flagWait.any fun x => decide (x.1 % 8 = i ∧ x.2 + 800 ≤ now)
  let s1 := s.modFirm fun m => { m with engineFlags := flags, flagWait := m.flagWait.filter fun x => decide (now < x.2 + 800) }
  (List.range 8).foldl (fun (t : State) i => if bit flags i then t.traceSource 1 i else t) s1

/-- CLOCK_STOP trips of the admitted ports of stopped regions (R536). [DEDUCED, unsafe: log 39] -/
def State.clockTrips (s : State) : State :=
  s.eachPort fun t p =>
    if t.clocks.stop[shoalOf p] && (t.life p).admitted && !(t.life p).trips.contains .clockStop then t.tripPort p .clockStop else t

/-- x moves towards a goal by at most d. -/
def towardInt (x goal d : Int) : Int := max (x - d) (min (x + d) goal)

/-- CLOCK_TRIM moves by steps of at most 200 ppm, and with the correction of R409 the FCW of the next frames does (R531, R532). -/
def State.trimStep (s : State) : State :=
  let trim := towardInt s.clocks.trim (s.par P_CLOCK_TRIM) 20000
  (s.modClocks fun c => { c with trim := trim }).modFirm fun m => { m with tune := towardInt m.tune (10 * trim + s.act.ptp.corr) 200000 }

/-- Carrier periods of the bus step that begins (R78): M, fewer at the end of a turn. -/
def State.stepPeriods (s : State) : Nat :=
  let n := s.lawN P_CARRIER_N
  min (busDivisor n (s.lawN P_F_NOM)) (max 1 (n - n * s.thetaV / 2 ^ 32))

/-- The bus work takes its reservation, and the rest of the step's lane-cycles, 16 a tick, are open to port work (R160). -/
def State.reserve (s : State) : State :=
  let cost := 34000 + 2000 * ((List.range 3).countP fun i => bit (s.lawN P_HARM_EN) i)
  let ticks := (400000000 * s.carrierPeriod * s.stepPeriods).floor.toNat
  ((s.spend cost).modAct fun a => { a with engine := { a.engine with room := 16 * ticks - cost } }).engineStart 12

/-- What the step starts from: the parameters in force and the targets accepted (R25, R98). [DEDUCED, unsafe: log 40, 104] -/
def State.beginStep (s : State) : State :=
  let held := s.commitWaits
  s.modFirm fun m =>
    { m with
      applied := if held then m.applied else s.act.cfg.committed.params
      dispatch := { m.dispatch.next.foldl Dispatch.take m.dispatch with next := [] } }

/-- The laws, where they run. [DEDUCED, unsafe: log 64] -/
def State.lawStep (s : State) (dt : Rat) : State :=
  if !s.dev.runs then s.sendFields s.steadyFields true
  else if s.firm.seq.liveEntry then s.liveStep
  else (((s.laws dt).weightStep).splitStep).bsHoldStep

/-- BUS_STEP: every part of the bus step, in its order. [DEDUCED, unsafe: log 40, 64] [DESIGN CHOICE, unsafe: log 113] -/
def State.busStep (s : State) : State :=
  let now := s.clk.now
  let dt : Rat := ((now - s.firm.busAt : Nat) : Rat) / 400000000
  let s1 := ((((s.beginStep.flagStep).measure dt).gridSense).portChecks).modeStep
  let s2 := (if s1.dev.runs then s1.detect s dt else s1).availStep dt
  let s3 := (((s2.lawStep dt).syncStep dt).blackStartStep).clockTrips
  let s4 := s3.eachPort fun t p => t.portService p dt
  (((((s4.settle.sampleEntries).stepEntry).trimStep).reserve).modFirm fun m => { m with busAt := now }).traceBus

/-- BUS_STEP (R78): nothing where the engine stands or the accumulators do not run. [DESIGN CHOICE, unsafe: log 2] [DEDUCED, unsafe: log 40] -/
def execBusStep (s : State) : Res := .next (if s.awake && s.act.engine.run then s.busStep else s)

/-! ### Ends of events -/

/-- RT_FAULT_OFF (R121, R125): the voltage has been within its exits for FAULT_CLEAR_T. -/
def execRtFaultOff (s : State) : Res :=
  .next (if heldFor s.clk.now (msTicks (s.lawN P_FAULT_CLEAR_T)) s.firm.ride.voltIn then s.endFault else s)

/-- PJ_REALIGN_END (R124): PJ_REALIGN_T after the jump. -/
def execPjRealignEnd (s : State) : Res :=
  .next (if heldFor s.clk.now 0 (s.firm.ride.realign.map (·.2.2)) then s.modRide fun r => { r with realign := none } else s)

/-- PORT_DC_UV (R136): 10 ms below V_DC_MIN with the contactors closed. [DEDUCED, unsafe: log 54] -/
def execPortDcUv (p : Port) (s : State) : Res :=
  .next (if s.awake && s.dcLow p && heldFor s.clk.now (msTicks 10) s.firm.shares[p].lowFrom then
    (s.raise 0x48 p.val (tenths (s.vdcVolts p))).tripPort p .dcUv else s)

/-- BMS_OVERCURRENT (R137): BMS_OVER_T beyond the limit and its margin. -/
def execBmsOvercurrent (p : Port) (s : State) : Res :=
  .next (if s.awake && s.overLimit p && heldFor s.clk.now (msTicks (s.lawN (PP_BMS_OVER_T p))) s.firm.shares[p].overFrom then
    (s.raise 0x39 p.val (tenths (s.idcAmps p)) (tenths (s.dcLimit p))).tripPort p .bmsOver else s)

/-! ### Dispatch (R96 to R100) -/

def setDispatchAns (b : List Byte) (s : State) : Ans :=
  let apply := by8 b 14
  let hint := by8 b 15
  let lim : Int := 1000 * s.parN P_S_RATED
  let p := ofTwos 32 (rd b 0 4)
  let q := ofTwos 32 (rd b 4 4)
  let f := ofTwos 16 (rd b 8 2)
  let v := ofTwos 16 (rd b 10 2)
  let ramp := rd b 12 2
  let out := fun (i : Nat) (x m : Int) => bit apply i && decide (x < -m ∨ m < x)
  s.check
    [(!s.dev.live, ST_STATE_FORBIDS), (decide (b.length ≠ 16), ST_BAD_LENGTH),
     (out 0 p lim || out 1 q lim || out 2 f 500 || out 3 v 1000 || decide (10000 < ramp), ST_OUT_OF_RANGE),
     (decide (16 ≤ apply ∨ 2 < hint), ST_BAD_PARAMETER), (decide (hint ≠ 0 ∧ s.parN P_PCC_FB_IN ≠ 0xFF), ST_BAD_PARAMETER)]
    fun s =>
      let on := fun (i : Nat) (x : Int) => if bit apply i then some x else none
      (s.modFirm fun m =>
        { m with dispatch := { m.dispatch with
            next := m.dispatch.next ++ [(on 0 p, on 1 q, on 2 f, on 3 v, ramp)], hint := if hint = 0 then m.dispatch.hint else hint } }).ok

def execSetDispatch (r : Req) (s : State) : Res := .next (s.host 0x20 r .device (setDispatchAns r.payload))

/-! ### Black start: commands and events -/

/-- The Skerry G uplink is in loss or has not yet had 16 good frames since (R568). -/
def State.gridLinkDown (s : State) : Bool := s.ul[linkG].out

/-- The answer to BLACK_START (R103, Table 3.7). [DEDUCED, unsafe: log 62] -/
def blackStartAns (b : List Byte) (s : State) : Ans :=
  let coord := decide (b.length = 8)
  let ns := rd b 4 4
  s.check
    [(decide (s.dev ≠ .ready), ST_STATE_FORBIDS), (s.gridLinkDown, ST_STATE_FORBIDS),
     (decide (b.length ≠ 0) && !coord, ST_BAD_LENGTH), (coord && decide (999999999 < ns), ST_BAD_PARAMETER),
     (coord && !s.act.ptp.valid, ST_STATE_FORBIDS),
     (coord && s.act.net.peers.toList.any fun p => p.known && (p.diff[1] || p.diff[2]), ST_STATE_FORBIDS),
     (s.firm.seq.bsPending, ST_BUSY)]
    fun s =>
      (s.modSeq fun q =>
        { q with
          bsPending := true, bsGate := if coord then some (rd b 0 4 * 1000000000 + ns) else none, bsFrom := s.clk.now
          bsPassed := false, bsAnchored := false }).ok

def execBlackStart (r : Req) (s : State) : Res := .next (s.host 0x24 r .device (blackStartAns r.payload))

/-- BS_DEAD_CHECK_PASS (R104): no judgement has ended the black start for BS_DEAD_T. -/
def execBsDeadCheckPass (s : State) : Res :=
  let q := s.firm.seq
  .next (if q.bsPending && decide (q.bsFrom + msTicks (s.lawN P_BS_DEAD_T) ≤ s.clk.now) then s.modSeq fun q => { q with bsPassed := true } else s)

/-- BS_ANCHOR_LAUNCH (R105): the anchor of a coordinated start, or GATE_MISSED. [DEDUCED, unsafe: log 49, 50, 62] -/
def execBsAnchorLaunch (s : State) : Res :=
  let q := s.firm.seq
  match q.bsGate with
  | none => .next s
  | some g =>
    if !q.bsPending || q.bsAnchored then .next s
    else if !s.act.ptp.valid || !q.bsPassed then .next (s.abortBlackStart 2)
    else
      let p := s.act.ptp
      let ahead := (roundUpHalf (((g * 2 ^ 32 : Int) - p.clock : Int) / ((10737418240 + p.adj : Int) : Rat))).toNat
      if ahead < 800 ∨ 2 ^ 31 ≤ ahead then .next s
      else
        .next (((s.modSeq fun q => { q with bsAnchored := true }).modFirm fun m => { m with rotor := { m.rotor with w := 1, wf := 1 } }).sendFields
          ⟨incOf s.lawF, (s.act.replica.tick + ahead) % 2 ^ 32, 0, s.firm.tune⟩ false)

/-- The instant of the gate enable has come (R105): the gate time of a coordinated start; for a local one θv rises through 0. -/
def State.bsEnableDue (s : State) : Bool :=
  match s.firm.seq.bsGate with
  | some g => decide ((g : Rat) ≤ (s.act.ptp.clock : Rat) / 2 ^ 32 + 5 / 4)
  | none => crosses 0 (thetaOf s.shoals[(0 : Shoal)].accPrev) (thetaOf s.shoals[(0 : Shoal)].acc)

/-- BS_GATE_ENABLE (R99, R105, R106): the gates, FORMING in BLACK_START, the ramp from 0; a coordinated start whose dead check has not
passed or whose anchor has not left has missed its gate. -/
def execBsGateEnable (s : State) : Res :=
  let q := s.firm.seq
  if !q.bsPending || s.dev ≠ .ready || !s.bsEnableDue then .next s
  else if !q.bsPassed || (q.bsGate.isSome && !q.bsAnchored) then .next (if q.bsGate.isSome then s.abortBlackStart 2 else s)
  else
    let s1 := s.modFirm fun m =>
      { m with
        sub := .blackStart
        rotor := { m.rotor with e := 0, rf := 0, rv := 0 }
        dispatch := { m.dispatch with pR := 0, qR := 0 } }
    let s2 := (s1.startRamp .bsUp).modSeq fun q =>
      { q with
        bsPending := false, bsGate := none, bsPassed := false, bsAnchored := false, bsEnableAt := s.clk.now, rampEnded := false
        holdSince := none, lastLimited := none }
    .next ((s2.setDev .forming 0).enableAll)

/-- BS_DONE (R101, R107): 100 ms of |v_pos - e| within 5 % of e after the ramp. -/
def execBsDone (s : State) : Res :=
  let q := s.firm.seq
  .next (if s.dev = .forming ∧ s.firm.sub = .blackStart ∧ q.ramp = .bsUp ∧ heldFor s.clk.now (msTicks 100) q.holdSince then
      (((s.setMode (s.entryMode .islanded)).modSeq fun q => { q with ramp := .none, holdSince := none }).raise
        0x20 0xFF ((s.clk.now - q.bsEnableAt) / 400000))
    else s)

/-- BS_RAMP_TIMEOUT (R107): 3 × BS_RAMP_T after gate enable. -/
def execBsRampTimeout (s : State) : Res :=
  let due := decide (s.firm.seq.bsEnableAt + 3 * msTicks (s.lawN P_BS_RAMP_T) ≤ s.clk.now)
  .next (if s.dev = .forming ∧ s.firm.sub = .blackStart ∧ s.firm.seq.ramp = .bsUp ∧ due then s.startRamp .bsDown else s)

/-! ### Synchronising and closing: commands and events -/

def syncCloseAns (b : List Byte) (s : State) : Ans :=
  s.check
    [(decide (b.length ≠ 0), ST_BAD_LENGTH), (decide (s.dev ≠ .sync), ST_STATE_FORBIDS),
     (decide (s.parN P_BRK_CLOSE_OUT = 0xFF ∨ s.parN P_BRK_FB_IN = 0xFF), ST_STATE_FORBIDS), (s.firm.seq.armed, ST_BUSY)]
    fun s => (s.modSeq fun q => { q with armed := true, armedAt := s.clk.now, closeAt := none }).ok

def execSyncClose (r : Req) (s : State) : Res := .next (s.host 0x25 r .device (syncCloseAns r.payload))

/-- SYNC_TIMEOUT (R111): no output has set within SYNC_TIMEOUT of the command. [DESIGN CHOICE, unsafe: log 2] -/
def execSyncTimeout (s : State) : Res :=
  let q := s.firm.seq
  .next (if q.armed && q.closeAt.isNone && decide (q.armedAt + msTicks (1000 * s.lawN P_SYNC_TIMEOUT) ≤ s.clk.now) then s.disarm.raiseSync 0x23
    else s)

/-- SYNC_CLOSE_FAIL (R112): no confirmation within BRK_FB_TIMEOUT of the output. -/
def execSyncCloseFail (s : State) : Res :=
  .next (if s.dev = .sync ∧ heldFor s.clk.now (msTicks (s.lawN P_BRK_FB_TIMEOUT)) s.firm.seq.closeAt then s.disarm.raiseSync 0x24 else s)

/-- SYNC_GRID_LOST (R113): 100 ms below 0.8 pu; the close is disarmed and e begins to fall. -/
def execSyncGridLost (s : State) : Res :=
  let q := s.firm.seq
  .next (if s.dev = .sync ∧ heldFor s.clk.now (msTicks 100) q.gridLow ∧ q.ramp = .none then
      ((s.disarm).startRamp .gridLost).modSeq fun x => { x with brkWas := q.brkOut, brkOut := false }
    else s)

/-- STOP_RAMP_END (R102, R107, R113, R114): STOP_RAMP_T after its beginning. -/
def execStopRampEnd (s : State) : Res :=
  let q := s.firm.seq
  if !q.ramp.falling || !s.dev.runs || s.clk.now < q.rampAt + msTicks (s.lawN P_STOP_RAMP_T) then .next s
  else
    let s1 := s.allGatesOff.modSeq fun x => { x with ramp := .none, brkOut := x.brkOut && decide (q.ramp ≠ .stopParallel) }
    let s2 := s1.setDev .ready 0
    .next (match q.ramp with
      | .bsDown => s2.raise 0x21 0xFF 3
      | .gridLost => s2.raise 0x2C 0xFF (pct16 s.firm.rotor.vgPos) (b2n q.brkWas)
      | .none | .bsUp | .stopIslanded | .stopParallel => s2)

/-! ### SET_STATE (R460, Table 15.5) -/

/-- SET_STATE naming READY, from SYNC or FORMING. -/
def State.toReady (s : State) : State :=
  if s.dev = .sync then ((s.disarm).allGatesOff.modSeq fun q => { q with ramp := .none, liveEntry := false }).setDev .ready 0
  else if s.firm.seq.ramp.falling then s
  else s.startRamp (if s.firm.sub = .gridParallel then .stopParallel else .stopIslanded)

/-- SET_STATE naming SYNC: the gates, or the live entry's anchor at the grid-side angle (R108, R109). -/
def State.toSync (s : State) : State :=
  let s1 := (s.setDev .sync 0).modSeq fun q => { q with ramp := .none, gridLow := none, armed := false, closeAt := none }
  if s.brkClosed then
    let f := s.firm.rotor.fGrid
    let ahead : Rat := ((s.clk.now - s.firm.busAt + 800 : Nat) : Rat) / 400000000
    let a := clarke s.firm.grid.vg
    let x := Config.atan2 a.1 (-a.2) + f * ahead
    let anchor := ((x - x.floor) * 2 ^ 48).floor.toNat
    ((s1.modSeq fun q => { q with liveEntry := true }).modFirm fun m =>
      { m with rotor := { m.rotor with w := q31m (f / s.lawF), wf := q31m (f / s.lawF) } }).sendFields
      ⟨incOf f, (s.act.replica.tick + 800) % 2 ^ 32, anchor, s.firm.tune⟩ false
  else s1.enableAll

/-- Any port's FB0 or FB1 reads closed. -/
def State.anyContactor (s : State) : Bool := (List.finRange 12).any s.anyClosed

/-- The named state is present and can be named; or Table 15.5 accepts it. [DEDUCED, unsafe: log 116] -/
def State.setStateOk (s : State) (named : Nat) : Bool :=
  decide (named = s.dev.code) ||
    (if named = 0 then decide (s.dev = .idle) && !s.anyContactor
     else if named = 2 then decide (s.dev = .service)
     else if named = 3 then s.dev.runs
     else if named = 4 then decide (s.dev = .ready) && s.gridUp && !s.gridLinkDown
     else if named = 8 then decide (s.dev = .idle) && !s.anyContactor
     else false)

/-- The effect of an accepted SET_STATE. -/
def State.setStateEffect (s : State) (named : Nat) : State :=
  if named = s.dev.code then s
  else if named = 0 then s.modHost fun h => { h with after := some .standby }
  else if named = 2 then (s.setDev .idle 0).modBw fun b => { b with pending := b.params }
  else if named = 3 then s.toReady
  else if named = 4 then s.toSync
  else s.setDev .service 0

/-- The answer to SET_STATE (R460). [DEDUCED, safe: log 5] -/
def setStateAns (b : List Byte) (s : State) : Ans :=
  let n := by8 b 0
  s.check
    [(decide (b.length ≠ 1), ST_BAD_LENGTH), (decide (8 < n ∨ n = 1 ∨ n = 6 ∨ n = 7), ST_BAD_PARAMETER), (decide (n = 5), ST_STATE_FORBIDS),
     (decide (s.dev = .lockout), ST_LOCKED_OUT), (decide (s.dev = .tripped), ST_TRIP_ACTIVE),
     (decide (s.dev = .service ∧ n = 2) && s.bw.commissionWait, ST_BUSY), (!s.setStateOk n, ST_STATE_FORBIDS)]
    fun s => (s.setStateEffect n).ok

def execSetStateStandby (r : Req) (s : State) : Res := .next (s.host 0x03 r .device (setStateAns r.payload))
def execSetStateIdle (r : Req) (s : State) : Res := .next (s.host 0x03 r .device (setStateAns r.payload))
def execSetStateReady (r : Req) (s : State) : Res := .next (s.host 0x03 r .device (setStateAns r.payload))
def execSetStateSync (r : Req) (s : State) : Res := .next (s.host 0x03 r .device (setStateAns r.payload))
def execSetStateService (r : Req) (s : State) : Res := .next (s.host 0x03 r .device (setStateAns r.payload))

end Sys2Proof.Machine
end

