-- ==== Sys2Proof/Machine/Device.lean ====
section
/-! DEFINITION. Identity, status, resets and trips by command (15_command_reference.md R457 to R466). -/
namespace Sys2Proof.Machine

/-! ### Identity and status -/

/-- NOP (R457): the reply repeats the payload. -/
def execNop (r : Req) (s : State) : Res := .next (s.host 0x00 r .any fun s => s.ok r.payload)

/-- The reply of IDENTIFY (Table 15.3). -/
def State.identity (s : State) : List Byte :=
  [0x55, 0x59, 0x34, 0x38, 0x31, 0x32, 0, 0, 0x43, 3, 2] ++ le 1 s.hd.val ++ le 4 Config.moduleSerial ++ be 6 (Config.mac 0) ++
    be 6 (Config.mac 1) ++ le 1 (b2n !s.meter.absent) ++ le 1 s.stateByte ++ zeros 2

def identifyAns (b : List Byte) (s : State) : Ans := s.check [(decide (b.length ≠ 0), ST_BAD_LENGTH)] fun s => s.ok s.identity

def execIdentify (r : Req) (s : State) : Res := .next (s.host 0x01 r .device (identifyAns r.payload))

/-- FLAGS of GET_STATUS. -/
def State.statusFlags (s : State) : Nat :=
  let a := s.act
  wordOf [(0, 1, b2n a.ptp.valid), (1, 1, b2n (decide (s.hd = 1))), (2, 1, b2n a.pair.peerEligible),
    (3, 1, b2n (decide (a.cfg.pendingSet ≠ a.cfg.committed))), (4, 1, b2n s.heart.derated), (5, 1, b2n (decide (s.clocks.bypass ≠ 0))),
    (6, 1, b2n !s.meter.absent), (7, 1, b2n a.log.unread)]

/-- LOCKED: a port lock-out or a limit latch. -/
def State.lockedMask (s : State) : Nat :=
  maskOf 12 fun i => let b := Vector.at_ s.bw.ports i {}; b.portLockout || b.latched

/-- PORT_STATE: two codes a byte. -/
def State.portStates (s : State) : List Byte :=
  (List.range 6).flatMap fun i =>
    le 1 ((Vector.at_ s.firm.life (2 * i) {}).life.code + 16 * (Vector.at_ s.firm.life (2 * i + 1) {}).life.code)

/-- The reply of GET_STATUS (Table 15.4); in BOOT every field but STATE reads 0. -/
def State.statusReply (s : State) : List Byte :=
  if s.dev = .boot then le 1 s.stateByte ++ zeros 39
  else
    let m := s.firm
    le 1 s.stateByte ++ le 1 s.statusFlags ++ le 2 s.admittedMask ++ le 2 (vmask m.life fun l => !l.trips.isEmpty) ++ le 2 s.lockedMask ++
      le 2 (vmask m.shares (·.limited)) ++ le 2 (vmask s.pwm (·.safe)) ++ le 4 s.act.pair.hashSelf ++ le 4 (s.formWord m 0x0310) ++
      le 4 (s.formWord m 0x0304) ++ le 4 (s.formWord m 0x0308) ++ s.portStates ++ zeros 2 ++ le 4 s.act.log.opSec

def getStatusAns (b : List Byte) (s : State) : Ans :=
  s.check [(decide (b.length ≠ 0), ST_BAD_LENGTH)] fun s => (s.modHost fun h => { h with attnSeen := true }).ok s.statusReply

def execGetStatus (r : Req) (s : State) : Res := .next (s.host 0x02 r .device (getStatusAns r.payload))

/-! ### RESET (R461) -/

def resetAns (b : List Byte) (s : State) : Ans :=
  let kind := by8 b 0
  s.check
    [(decide (b.length ≠ 2), ST_BAD_LENGTH), (decide ((kind ≠ 1 ∧ kind ≠ 2) ∨ by8 b 1 ≠ kind ^^^ 0xFF), ST_BAD_PARAMETER),
     (decide (kind = 1) && (s.dev.runs || s.anyContactor), ST_STATE_FORBIDS), (decide (kind = 2) && s.act.pair.handover, ST_BUSY)]
    fun s => (s.modHost fun h => { h with after := some (if kind = 1 then .moduleReset else .peerReset) }).ok

/-- RESET of the module (R461). [DEDUCED, safe: log 5] -/
def execModuleReset (r : Req) (s : State) : Res := .next (s.host 0x0E r .device (resetAns r.payload))
/-- RESET of the other Headland (R461). [DEDUCED, safe: log 5] -/
def execHeadlandReset (r : Req) (s : State) : Res := .next (s.host 0x0E r .device (resetAns r.payload))

/-! ### TRIP (R464) -/

/-- The ports that a TARGET names. -/
def namedPorts (target : Nat) : List Port := if target = 0xFF then List.finRange 12 else [⟨target % 12, by omega⟩]

/-- TARGET rows of TRIP and CLEAR_TRIP beyond 0x0C, under R441. -/
def tripTarget (target : Nat) : List (Bool × Nat) :=
  [(!targetKnown target, ST_OUT_OF_RANGE), (!Targets.portOrAll.takes target, ST_BAD_PARAMETER)]

/-- TRIP_FORCE on the named ports, HOST_TRIP, and TRIPPED for 0xFF. -/
def State.hostTrip (s : State) (target : Nat) : State :=
  let fresh := (namedPorts target).filter fun p => !(s.life p).trips.contains .host
  let s1 := fresh.foldl (fun (t : State) p => t.tripPort p .host) s
  let s2 := if fresh.isEmpty then s1 else s1.raise 0x03 0xFF (fresh.map fun p => 2 ^ p.val).sum
  if target = 0xFF ∧ s.dev.live then s2.setDev .tripped (if fresh.isEmpty then 0 else 0x03) else s2

/-- The answer to TRIP (R464). [DEDUCED, unsafe: log 13] -/
def tripAns (target : Nat) (b : List Byte) (s : State) : Ans :=
  s.check ([(decide (b.length ≠ 0), ST_BAD_LENGTH), (decide (target = 0x0C), ST_BAD_PARAMETER)] ++ tripTarget target) fun s =>
    (s.hostTrip target).ok

def execTrip (r : Req) (s : State) : Res := .next (s.host 0x40 r .any (tripAns r.target r.payload))

/-! ### CLEAR_TRIP (R465, R466) -/

/-- The limit latches of a port clear under CLEAR_REQ, which reaches Breakwater (R343, R351). [DEDUCED, unsafe: log 76] -/
def State.limitsQuiet (s : State) (p : Port) : Bool :=
  let b := s.bw.ports[linkOf p]
  (List.finRange 3).all fun j => !b.latch[j] || (!s.bw.hlLost && heldFor s.clk.now (msTicks 100) b.quietFrom[j])

/-- The cause of a trip still stands (Table 19.6). [DEDUCED, unsafe: log 76] -/
def State.tripStands (s : State) (p : Port) (t : Trip) : Bool :=
  let k := s.sk[linkOf p]
  let m := s.firm.meas[p]
  match t with
  | .host | .legRepeat | .doubleFault | .hizSecond | .late | .pack | .slip | .shoalEcc | .regionHold | .module | .lateTakeover
  | .permit => false
  | .downlink => k.dlLoss
  | .uplink => s.ul[linkOf p].out
  | .gridLoss => s.gridLinkDown
  | .gridFault => s.anyGates && (!s.firm.grid.invValid || decide (s.dec[linkG].stuck % 8 ≠ 0))
  | .oc => m.valid && m.ip.toList.any fun i => decide ((s.lawN (PP_I_OC_TRIP p) : Rat) / s.lawN (PP_I_FS p) < ratAbs i)
  | .dcOv => m.valid && decide ((s.lawN (PP_V_DC_MAX p) : Rat) < s.vdcVolts p)
  | .dcUv => m.valid && s.fbClosed p 0 && s.fbClosed p 1 && decide (s.vdcVolts p < s.lawN (PP_V_DC_MIN p))
  | .bmsOver => m.valid && decide (s.dcLimit p * (1 + (s.lawN (PP_BMS_MARGIN p) : Rat) / 100) < ratAbs (s.idcAmps p))
  | .implausible => !s.gatesAreOff p
  | .contactor => k.coils.toList.any fun c => c.weld && c.fb
  | .limit => !s.limitsQuiet p
  | .clockStop => s.clocks.stop[shoalOf p]

/-- The cause of a FAULTED port persists (R304, Table 9.8). [DEDUCED, unsafe: log 76] -/
def State.faultStands (s : State) (p : Port) : Bool :=
  let l := s.life p
  let k := s.sk[linkOf p]
  decide (l.life = .faulted) &&
    (if l.cause = 2 then !s.requiredFresh p
     else if l.cause = 3 then decide (s.packIdNow p ≠ l.packId)
     else if l.cause = 7 then k.coils.toList.any fun c => c.weld && c.fb
     else if l.cause = 8 then !k.permCoils
     else if l.cause = 9 then decide (l.loop = 0)
     else if l.cause = 0xA then s.mapped p 7 && decide (l.val 7 ≠ 0)
     else false)

/-- Any cause of the port stands (R230, R351, R465, R567). [DEDUCED, unsafe: log 76] -/
def State.causeStands (s : State) (p : Port) : Bool :=
  let k := s.sk[linkOf p]
  k.supplyLow || k.dlLoss || (s.life p).trips.any (s.tripStands p) || !s.limitsQuiet p || s.faultStands p

/-- There is something to clear. -/
def State.clearable (s : State) (p : Port) : Bool :=
  let k := s.sk[linkOf p]
  !(s.life p).trips.isEmpty || decide ((s.life p).life = .faulted) || s.bw.ports[linkOf p].latched || k.portHiz ||
    k.legs.toList.any fun g => decide (g.latch ≠ 0)

/-- A port that passes the off-state tests before it carries current again moves to PLUGGED, its contactors open (R304).
[DEDUCED, unsafe: log 107] -/
def State.retestPort (s : State) (p : Port) : State :=
  let l := s.life p
  let back := match l.life with
    | .waiting | .precharging | .charged | .admitted | .releasing => true
    | .empty | .plugged | .checking | .discharging | .released | .faulted => false
  if l.retest && back then
    ((s.modLife p fun l => { l with gateEn := false, testsValid := false, atZero := none, kRel := 1, gatesDone := false }).openContactors
      p).toPlugged p
  else s

/-- FAULTED moves to PLUGGED (R304). [DEDUCED, unsafe: log 107] -/
def State.unfault (s : State) (p : Port) : State :=
  if (s.life p).life = .faulted then (((s.modLife p fun l => { l with atZero := none, gateEn := false }).openContactors p).toPlugged p) else s

/-- CLEAR_TRIP ends a held bus-off (R243). -/
def Skerry.endBusOff (k : Skerry) : Skerry := if k.busOffHeld then { k with canBusOff := false, busOffs := [] } else k

/-- Clear every trip and latch of a port. [DEDUCED, unsafe: log 77] -/
def State.clearPort (s : State) (p : Port) : State :=
  let l := linkOf p
  let held := (s.life p).trips.contains .regionHold
  let s1 := (s.modSk l fun k => k.clearLatches.endBusOff).modBwPort l fun b => { b with latch := Vector.replicate 3 false }
  let s2 := if held then s1.modPwm p fun w => { w with safeEnding := w.safe, wantEn := false, empty := true } else s1
  let s3 := ((s2.modLife p fun x => { x with trips := [] }).unfault p).retestPort p
  if s.dev.runs && (s3.life p).admitted && !(s.life p).trips.isEmpty then s3.enablePort p else s3

/-- CLEAR_TRIP names a port whatever it clears: running tests abort (R238), and the firmware sets CLEAR_REQ (R351) unless R230 has
the command clear nothing. [DEDUCED, unsafe: log 76] -/
def State.touchPort (s : State) (p : Port) : State :=
  let k := s.sk[linkOf p]
  let s1 := s.modSk (linkOf p) (·.abortDiag)
  if s.bw.ports[linkOf p].latched && !k.supplyLow && !k.dlLoss then s1.modFirm fun m => { m with clearReq := vset m.clearReq p true } else s1

/-- One port of a CLEAR_TRIP: the state, cleared, standing. [DEDUCED, unsafe: log 76] -/
def State.clearOne (s : State) (p : Port) : State × Bool × Bool :=
  let s1 := s.touchPort p
  if s.causeStands p then (s1, false, !(s.life p).trips.isEmpty || decide ((s.life p).life = .faulted))
  else (s1.clearPort p, s.clearable p, false)

/-- The answer to CLEAR_TRIP (R465). [DEDUCED, unsafe: log 13, 77] -/
def clearTripAns (target : Nat) (b : List Byte) (s : State) : Ans :=
  s.check
    ((if target = 0x0C then [] else tripTarget target) ++
      [(decide (b.length ≠ 0), ST_BAD_LENGTH), (decide (target = 0x0C), ST_BAD_PARAMETER), (decide (s.dev = .lockout), ST_LOCKED_OUT)])
    fun s =>
      if target = 0xFF then
        let r := (List.finRange 12).foldl (fun (a : State × Nat × Nat) p =>
          let x := a.1.clearOne p
          (x.1, a.2.1 + 2 ^ p.val * b2n x.2.1, a.2.2 + 2 ^ p.val * b2n x.2.2)) (s, 0, 0)
        if r.2.1 = 0 ∧ r.2.2 ≠ 0 then r.1.err ST_TRIP_ACTIVE else r.1.settleTripped.ok (le 2 r.2.1 ++ le 2 r.2.2)
      else
        let p : Port := ⟨target % 12, by omega⟩
        let t := (s.clearOne p).1
        if s.causeStands p then t.err ST_TRIP_ACTIVE else t.settleTripped.ok

def execClearTrip (r : Req) (s : State) : Res := .next (s.host 0x41 r .any (clearTripAns r.target r.payload))

end Sys2Proof.Machine
end

