-- ==== Sys2Proof/Machine/Links.lean ====
section
/-! DEFINITION. Frames that reach a Shoal and Shore: uplink frames and what the firmware does on them, missing frames, the refresh
of the field side (07_port_islands_and_gate_drive.md, 17_field_io_panel_and_sentinel.md). -/
namespace Sys2Proof.Machine

/-! ### Leg states (R133 to R135, R201, R227 to R229) -/

/-- The first other leg that was in high impedance when leg k entered it, more than 1 µs earlier (R135). [DEDUCED, unsafe: log 69] -/
def State.firstHiz (s : State) (p : Port) (k : Leg) (codes : Leg → Nat) : Option Leg :=
  let legs := s.sk[linkOf p].legs
  (List.finRange 4).find? fun j =>
    decide (j ≠ k) && decide (codes j ≠ 0) && (decide (s.firm.legCode[legNo p j] ≠ 0) ||
      (match legs[j].hizAt, legs[k].hizAt with
        | some a, some b => decide (a + 400 < b)
        | _, _ => false))

/-- The firmware on a new LEG_STATE code of a leg: the event of a supply's lock-out and LEG_HIZ_SECOND. [DEDUCED, unsafe: log 69] -/
def State.legEvent (s : State) (p : Port) (k : Leg) (codes : Leg → Nat) : State :=
  let n := (legNo p k).val
  let code := codes k
  let old := s.firm.legCode[legNo p k]
  let s1 := if 5 ≤ code ∧ code ≤ 7 then s.raise 0x42 n code else s
  if old ≠ 0 ∨ code = 0 ∨ code = 8 then s1
  else match s.firstHiz p k codes with
    | some j => (s1.raise 0x44 p.val n (legNo p j).val).tripPort p .hizSecond
    | none => s1

/-- The generator and the port's step on a leg that enters or leaves high impedance (R134, R167, R201). -/
def State.legHiz (s : State) (p : Port) (k : Leg) (code : Nat) : State :=
  let old := s.firm.legCode[legNo p k]
  let zero_ := fun (x : PortStep) => if h : k.val < 3 then { x with integ := x.integ.set k.val 0 h } else x
  if code ≠ 0 then
    let s1 := s.modPwm p fun w => if w.legs[k].hiz && !w.legs[k].hizEnding then w else w.legHiz s.clk.now k
    if old = 0 then s1.modStep p zero_ else s1
  else
    let s1 := s.modPwm p fun w => { w with legs := vmod w.legs k fun g => { g with hizEnding := g.hiz } }
    if old = 0 then s1 else s1.modStep p fun x => (zero_ x).rejoin

/-- PORT_HIZ trips the port, once (R228). -/
def State.portHizSeen (s : State) (p : Port) (state : Nat) : State :=
  if state % 16 = 8 ∧ s.firm.legCode[legNo p 0] ≠ 8 then (s.raise 0x43 p.val state).tripPort p .doubleFault else s

/-- LEG_STATE of a good frame from a port. -/
def State.legStates (s : State) (p : Port) (state : Nat) : State :=
  let codes := fun (k : Leg) => bitsOf state (4 * k.val + 3) (4 * k.val)
  let s1 := (List.finRange 4).foldl (fun (t : State) k => t.legHiz p k (codes k)) s
  if !s.awake then s1
  else
    let s2 := (List.finRange 4).foldl (fun (t : State) k => if codes k = s.firm.legCode[legNo p k] then t else t.legEvent p k codes) s1
    (s2.portHizSeen p state).modFirm fun m =>
      { m with legCode := (List.finRange 4).foldl (fun v k => vset v (legNo p k) (codes k)) m.legCode }

/-- DL_LOSS as a frame reports it trips the port, once (R213). -/
def State.dlLossSeen (s : State) (p : Port) (loss : Bool) : State :=
  if loss && s.awake && !(s.life p).trips.contains .downlink then (s.raise 0x49 p.val).tripPort p .downlink else s

/-! ### Uplink frames (R210, R212, R214, R247, R311, R312) -/

/-- MSUB of a Skerry's next frame (R311, Table 7.1): MSEQ, the metrology streams, MCRC; of Skerry G the spare stream alone. -/
def Skerry.msub (k : Skerry) (l : Link) (streams : List Byte) : List Byte :=
  match portOfLink l with
  | some p => let body := be 2 k.mseq ++ (streams.drop 18).take 5; body ++ be 2 (mcrc p body)
  | none => zeros 2 ++ (streams.drop 18).take 3 ++ zeros 4

/-- CAN_TAG and CAN_DATA (Table 7.1). -/
def Skerry.canSlot (k : Skerry) : List Byte :=
  match k.canUp with
  | [] => zeros 9
  | (first, last, d) :: _ => le 1 (128 * b2n first + 64 * b2n last + d.length) ++ d ++ zeros (8 - d.length)

/-- The uplink frame that a Skerry forms (Table 7.1), from the 20 bits of its seven streams in 18 bytes, its metrology or spare
streams in 5, and RD_DATA. [DEDUCED, unsafe: log 66, 123] -/
def Skerry.uplink (k : Skerry) (l : Link) (streams : List Byte) (data : Nat) : List Byte :=
  let isG := decide (l = linkG)
  let st := k.status
  let body := le 1 0xD5 ++ le 1 k.ulSeq ++ streams.take 17 ++ le 1 (by8 streams 17 / 16 * 16) ++ k.msub l streams ++
    le 2 (if isG then 0 else k.legState) ++ le 2 (if isG then st / 2 ^ 26 * 2 ^ 6 else st / 2 ^ 20) ++ le 4 data ++ k.canSlot
  body ++ be 2 (linkCrc l body 44)

/-- The Skerry's side of a sent frame: its counts move on, the chunk has left. -/
def Skerry.sentFrame (k : Skerry) : Skerry := { k with ulSeq := (k.ulSeq + 1) % 256, mseq := (k.mseq + 1) % 2 ^ 16, canUp := k.canUp.tail }

/-- The fourth bad frame in a row: the trip (R214). -/
def State.uplinkLost (s : State) (l : Link) : State :=
  if !s.awake then s
  else match portOfLink l with
    | some p => (s.raise 0x4A p.val).tripPort p .uplink
    | none => (s.raise 0x4B 0x0C s.admittedMask).tripAdmitted .gridLoss

/-- A bad or missing uplink frame at the register of its link. -/
def UlLink.badFrame (u : UlLink) : UlLink :=
  { u with
    bad := satInc 16 u.bad, run := min 4 (u.run + 1), good := 0, loss := u.loss || decide (u.run = 3), out := u.out || decide (u.run = 3)
    seq := u.seq.map fun e => (e + 1) % 256 }

/-- A good one (R212, R214, R247); a port's MSUB goes on to the Tide gauge (R312). -/
def UlLink.goodFrame (u : UlLink) (isG : Bool) (bytes : List Byte) : UlLink :=
  let good := min 16 (u.good + 1)
  { u with
    run := 0, good := good, out := u.out && decide (good ≠ 16), seq := some ((by8 bytes 1 + 1) % 256)
    msub := if isG then none else some ((bytes.drop 20).take 9) }

/-- A bad or missing uplink frame. [DEDUCED, unsafe: log 65, 67] -/
def State.uplinkBad (s : State) (l : Link) : State :=
  let s1 := (s.modUl l (·.badFrame)).feedLink l none fun _ => true
  if s.ul[l].run = 3 then s1.uplinkLost l else s1

/-- A good uplink frame: the streams to the decimators, MSUB to the Tide gauge, LEG_STATE and FLAGS to the firmware. -/
def State.uplinkGood (s : State) (l : Link) (bytes : List Byte) : State :=
  let flags := rd bytes 31 2
  let lost := fun (c : Fin 7) => bit flags 7 || (decide (c = 4) && bit flags 6 && decide (l ≠ linkG))
  let s1 := (s.modUl l (·.goodFrame (decide (l = linkG)) bytes)).feedLink l (some bytes) lost
  match portOfLink l with
  | none => s1
  | some p => (s1.legStates p (rd bytes 29 2)).dlLossSeen p (bit flags 9)

/-- RD_DATA of the next uplink frame: the word that the downlink frame before the last asked for (R210). [DEDUCED, unsafe: log 123] -/
def State.rdData (s : State) (l : Link) : Nat :=
  let k := s.sk[l]
  match k.reads.2 with
  | some a => k.word (decide (l = linkG)) s.freeCount (4 * a)
  | none => 0

/-- UPLINK_FRAME (R210, R212, R214, R234, R341): a Skerry with power forms its frame from its state and from what its modulators have
put out, and its own monitors take the streams; the Shoal receives the frame with what the line has changed of it. [DEDUCED, unsafe: log 67] -/
def execUplinkFrame (l : Link) (streams noise : List Byte) (s : State) : Res :=
  let k := s.sk[l]
  if s.dev = .standby ∨ k.good = false then .next s
  else
    let sent := k.uplink l streams (s.rdData l)
    let took := if l = linkG then k else k.takeStreams fun j => (List.range 20).map fun i => streamBit sent j.val i
    let s1 := { s.modSk l fun _ => took.sentFrame with freeCount := s.freeCount + b2n k.reads.2.isSome }
    let bytes := noisy sent noise
    .next (if frameGood 0xD5 l bytes 44 s.ul[l].seq then s1.uplinkGood l bytes else s1.uplinkBad l)

/-! ### Downlink frames (R211 to R215, R231, R232, R234) -/

/-- The CMD byte that a Shoal sends (Table 7.2): GATE_EN while the gates are enabled or about to be, TRIP while TRIP_FORCE is 1 (R215),
the lines as the token holder's last frame gave them. Skerry G has nothing to command. [DEDUCED, unsafe: log 39] -/
def Pwm.cmdByte (w : Pwm) : Nat :=
  wordOf [(7, 1, b2n (w.gatesEn || w.wantEn)), (6, 1, b2n (w.trip || w.lines.trip)), (5, 1, b2n w.lines.ck0), (4, 1, b2n w.lines.ck1),
    (3, 1, b2n w.lines.latch), (2, 1, b2n w.lines.diagGo)]
def State.cmdByte (s : State) (l : Link) : Nat :=
  match portOfLink l with
  | some p => s.pwm[p].cmdByte
  | none => 0

/-- The next chunk of the transmit queue towards the controller: its tag and at most 5 bytes (Table 7.2). [DEDUCED, unsafe: log 123] -/
def Skerry.nextChunk (k : Skerry) : Option (Nat × List Byte) :=
  match k.canTx[k.canWhole]? with
  | none => none
  | some f =>
    let im := canImage f
    let d := (im.drop k.canBytes).take 5
    some (128 * b2n (decide (k.canBytes = 0)) + 64 * b2n (decide (im.length ≤ k.canBytes + 5)) + d.length, d)

/-- SLOT and SLOT_DATA (Table 7.2). [DEDUCED, unsafe: log 123] -/
def slotBytes (slot : DownSlot) (k : Skerry) : List Byte :=
  match slot with
  | .none => zeros 7
  | .write addr data => le 1 1 ++ le 2 addr ++ le 4 data
  | .read addr => le 1 2 ++ le 2 addr ++ zeros 4
  | .can => match k.nextChunk with
    | some (tag, d) => le 1 3 ++ le 1 tag ++ d ++ zeros (5 - d.length)
    | none => zeros 7

/-- The downlink frame that a Shoal forms (Table 7.2). [DEDUCED, unsafe: log 66, 123] -/
def State.downlink (s : State) (l : Link) (slot : DownSlot) : List Byte :=
  let body := le 1 0xB3 ++ le 1 s.ul[l].txSeq ++ le 1 (s.cmdByte l) ++ slotBytes slot s.sk[l]
  body ++ be 2 (linkCrc l body 8)

/-- What a good frame's slot does at the Skerry (R211): a write, a read request, a chunk of a CAN frame. [DEDUCED, unsafe: log 123] -/
def Skerry.takeSlot (k : Skerry) (isG : Bool) (bytes : List Byte) : Skerry :=
  let kind := by8 bytes 3
  let a := rd bytes 4 2 % 1024
  let k1 := { k with reads := (if kind = 2 then some a else none, k.reads.1) }
  if kind = 1 then (if isG then k1 else k1.clear (4 * a) (bit (rd bytes 6 4)))
  else if kind = 3 then
    (if bit (by8 bytes 4) 6 then { k1 with canWhole := min k.canTx.length (k.canWhole + 1), canBytes := 0 }
     else { k1 with canBytes := k.canBytes + by8 bytes 4 % 16 })
  else k1

/-- A good downlink frame at a Skerry; Skerry G only keeps its link's state (R28). -/
def Skerry.goodFrame (k : Skerry) (isG : Bool) (now : Nat) (bytes : List Byte) : Skerry :=
  let k1 := if isG then k.heard (by8 bytes 2) else k.command now (by8 bytes 2)
  { k1.takeSlot isG bytes with dlSeq := nextSeq true (by8 bytes 1) k.dlSeq }

/-- The latch driver after a frame, judged on the state that the frame leaves (R234). -/
def State.driveLatch (s : State) (l : Link) : State :=
  match portOfLink l with
  | some p => s.modSk l fun k => k.energise s.clk.now (s.latchClear p)
  | none => s

/-- DOWNLINK_FRAME (R211 to R215, R231, R232, R234): the Shoal forms the frame; a Skerry with power receives it with what the line has
changed of it. [DEDUCED, unsafe: log 68] -/
def execDownlinkFrame (l : Link) (slot : DownSlot) (noise : List Byte) (s : State) : Res :=
  let k := s.sk[l]
  let bytes := noisy (s.downlink l slot) noise
  let s1 := s.modUl l fun u => { u with txSeq := (u.txSeq + 1) % 256 }
  .next (if s.dev = .standby then s
    else if k.good = false then s1
    else if frameGood 0xB3 l bytes 8 k.dlSeq then (s1.modSk l fun _ => k.goodFrame (decide (l = linkG)) s.clk.now bytes).driveLatch l
    else s1.modSk l fun _ => { k.badFrame s.clk.now with reads := (none, k.reads.1) })

/-- LINK_FRAME_TIMEOUT (R212): a missing uplink or downlink frame counts as a bad one; its SEQ has been used. -/
def execLinkFrameTimeout (l : Link) (up : Bool) (s : State) : Res :=
  if s.dev = .standby then .next s
  else .next (if up then (s.modSk l fun k => if k.good then k.sentFrame else k).uplinkBad l
    else (s.modUl l fun u => { u with txSeq := (u.txSeq + 1) % 256 }).modSk l fun k => if k.good then k.badFrame s.clk.now else k)

/-! ### The refresh of the field side (R503, R505, R506, R509, R515 to R517) -/

/-- The demand of an output (R509): its owner's, or the host's and the tide actions'. -/
def State.outDemand (s : State) (n : Fin 16) : Bool :=
  if s.parN P_BRK_CLOSE_OUT = n.val then s.firm.seq.brkOut
  else match s.slotOf n.val with
    | some p => s.slotLight p
    | none => s.shore.hostDemand[n]

/-- One output takes its demand; latches that end with it do. -/
def State.refreshOut (s : State) (n : Fin 16) : ShoreOut :=
  let o := s.shore.outs[n]
  let d := s.outDemand n
  let rise := d && !o.demand
  let ends := if s.owned n.val then rise else s.shore.release[n]
  { o with demand := d, overLatch := o.overLatch && !rise, sagLatched := o.sagLatched && !ends }

/-- The firmware takes a new valid level of an input: a button, the breaker feedback (R112, R297). -/
def State.takeInput (s : State) (n : Fin 16) : State :=
  let i := s.shore.ins[n]
  if !s.shore.inValid || i.level = i.seen then s
  else
    let s1 := s.modShore fun h => { h with ins := vmod h.ins n fun x => { x with seen := x.level } }
    let s2 := s1.eachPort fun t p => if t.parN (PP_BTN_IN p) = n.val then t.button p i.level else t
    if s.parN P_BRK_FB_IN = n.val then s2.breakerSeen i.level else s2

/-- A valid refresh frame: the silence ends, the demands apply, the reply carries the inputs. -/
def State.refresh (s : State) : State :=
  let h := s.shore
  let outs : Vector ShoreOut 16 := Vector.ofFn s.refreshOut
  let s1 := s.modShore fun h =>
    { h with
      outs := outs, silent := false, ran := true, toReport := false, lastFrame := s.clk.now
      release := Vector.replicate 16 false, tideSet := Vector.replicate 16 false }.drive s.clk.now
  let s1 := s1.modPair s.hd fun p => { p with tookShore := true }
  let s2 := if h.toReport then s1.raise 0x85 0x31 ((s.clk.now - h.lastFrame) / 400) else s1
  (List.finRange 16).foldl State.takeInput s2

/-- SHORE_REFRESH (R33, R503, R516): applied from the Headland that the token line names, with its CRC right; a frame of the other
Headland is counted. -/
def execShoreRefresh (from_ : Hd) (crcOk : Bool) (s : State) : Res :=
  .next (if !(s.awake && s.shore.powered && crcOk) then s
    else if s.bw.token = some from_ then s.refresh
    else s.modShore fun h => { h with otherFrames := satInc 32 h.otherFrames })

end Sys2Proof.Machine
end

