-- ==== Sys2Proof/Machine/Pair.lean ====
section
/-! DEFINITION. The pair of Headlands: mirror link, acknowledgements, silence, token, takeover, resynchronisation, handover
(12_headland_fail_over.md). -/
namespace Sys2Proof.Machine

/-- The Headland that does not hold the token. -/
def State.peer (s : State) : Hd := otherHd s.hd
/-- The token holder drives its links (R374). -/
def State.active (s : State) : Bool := s.bw.token.isSome && decide (s.act.pair.role = .active)

/-- SAFETY_CRC of the safety set that a Headland holds (R369, R390). [DESIGN CHOICE, unsafe: log 17] -/
def Headland.safetyCrc (a : Headland) : Nat := safetyCrcOf ((a.cfg.safety.map (·.1)).getD [])

/-! ### Launching (R377, R378, R380 to R382, R391, R410, R491) -/

/-- Selectable items that a frame carries: at most one, its record or CAN frame as held. [DEDUCED, unsafe: log 90] -/
def Headland.carry (a : Headland) : List LogRecord × List (Port × RelayRec) :=
  match a.pair.items.head? with
  | some (.log n) => (a.log.records.filter fun r => decide (r.number = n), [])
  | some (.can p q) =>
    let port : Port := ⟨p % 12, by omega⟩
    ([], (a.relays[port].ring.filter fun r => decide (r.seq = q)).map fun r => (port, r))
  | none => ([], [])

/-- A port's step without its speculative values (R168, Table 5.5). -/
def PortStep.committedOnly (x : PortStep) : PortStep :=
  { x with
    pred := none, spec := none, specStores := [], lastPred := (Vector.replicate 3 0, 0)
    lastSpec := (Vector.replicate 4 0, Vector.replicate 3 0, Vector.replicate 3 0) }

/-- The fixed set (R380): committed values only. -/
def Firm.fixedSet (m : Firm) : Firm := { m with steps := m.steps.map PortStep.committedOnly }

/-- The frame that the token holder would launch now. [DEDUCED, unsafe: log 90] -/
def State.mirrorFrame (s : State) (full changes handover : Bool) : MirrorFrame :=
  let a := s.act
  let items := if full || changes then ([], []) else a.carry
  { full := full, seq := a.pair.seq, hash := a.pair.hashSelf, safetyCrc := s.bw.crc, handover := handover
    angle := s.firm.angleOut
    firm := if full then some s.firm.fixedSet else none
    adj := a.ptp.adj, delays := a.ptp.ports.map (·.meanDelay)
    cfg := if changes then some a.cfg else none
    cap := if changes then some (a.cap.cfg, a.cap.masks, a.cap.stream) else none
    cursor := a.log.cursor, frozen := a.log.frozen, items := items.1, relays := items.2 }

/-- Launch a frame: SEQ, the changes and items that it carries leave their queues. [DEDUCED, unsafe: log 90] -/
def State.launch (s : State) (full handover : Bool) : State :=
  let p := s.act.pair
  let waiting := s.act.host.awaiting.any fun w => w.carried.isNone
  let changes := p.transfer || (!full && waiting)
  let f := s.mirrorFrame full changes handover
  let s1 := s.modPair s.hd fun p =>
    { p with
      seq := (p.seq + 1) % 2 ^ 32, launched := (p.seq :: p.launched).take 2
      items := if full || changes then p.items else p.items.tail }
  let s2 := if changes then s1.modHost fun h => { h with awaiting := h.awaiting.map fun w => { w with carried := w.carried.or (some p.seq) } } else s1
  { s2 with mirror := some f }

/-- MIRROR_SLOT_LAUNCH (R377): a full frame in slot 0, a beat frame in the others, the resync frame with either. [DEDUCED, unsafe: log 90] -/
def execMirrorSlotLaunch (s : State) : Res :=
  if !s.awake || !s.active || !s.act.pair.alive then .next s
  else
    let slot := s.act.pair.slot
    .next ((s.launch (decide (slot = 0)) false).modPair s.hd fun p => { p with slot := (slot + 1) % s.mirrorSlots })

/-! ### At the standby (R379, R383, R390) -/

/-- A role that listens to the mirror link. -/
def Role.listens (r : Role) : Bool :=
  match r with
  | .standby | .resync => true
  | .boot | .active | .resetting => false

/-- INELIG bits that a frame decides: HASH and SAFETY_CRC on full frames, MIRROR_ERR on every frame, SELFTEST once the loop has
been locked for 100 ms (R390, R536). [DEDUCED, unsafe: log 91] -/
def Pair.judge (p : Pair) (now : Nat) (full : Bool) (hash own crc : Nat) (locked : Bool) : Pair :=
  let quiet := match p.lastBad with
    | some t => decide (t + msTicks 100 ≤ now)
    | none => true
  { p with
    ineligHash := if full then decide (hash ≠ p.hashSelf) else p.ineligHash
    ineligSafety := if full then decide (crc ≠ own) else p.ineligSafety
    ineligMirror := !(decide (256 ≤ p.validRun) && quiet), ineligSelftest := p.ineligSelftest && !locked }

/-- The loop of a Headland has been LOCKED for 100 ms after a bypass (R536). [DEDUCED, unsafe: log 95] -/
def State.lockedLong (s : State) (h : Hd) : Bool :=
  let l := s.clocks.hd[h]
  decide (l.state = .locked) && heldFor s.clk.now (msTicks 100) l.lockedAt

/-- What a valid frame stores at the standby (R380 to R382, R410, R491, R494). -/
def Headland.takeFrame (a : Headland) (f : MirrorFrame) : Headland :=
  let a1 := match f.cfg with
    | some c => { a with cfg := c, log := { a.log with cursor := f.cursor, frozen := f.frozen }, pair := { a.pair with appliedSeq := f.seq } }
    | none => a
  let a2 := match f.cap with
    | some (c, ms, st) => { a1 with cap := { a1.cap with cfg := c, masks := ms, stream := st } }
    | none => a1
  let a3 := f.items.foldl (fun (a : Headland) r => { a with log := a.log.push r }) a2
  let a4 := f.relays.foldl (fun (a : Headland) r =>
    { a with relays := vmod a.relays r.1 fun x => { x with ring := (x.ring ++ [r.2]).drop (x.ring.length + 1 - 64), next := r.2.seq + 1 } }) a3
  if f.full then
    { a4 with ptp := { a4.ptp with adj := f.adj, ports := Vector.ofFn fun n => { a4.ptp.ports[n] with meanDelay := f.delays[n] } } }
  else a4

/-- A valid frame at the standby: stored, judged, acknowledged; its small step is applied and its anchor awaits the replica (R384,
R532); HANDOVER is answered with a claim. [DEDUCED, unsafe: log 65] -/
def State.takeMirror (s : State) (h : Hd) (f : MirrorFrame) : State :=
  let now := s.clk.now
  let lead := s.act.replica
  let s0 := s.modClocks fun c => { c with hd := vmod c.hd h fun l => l.retune f.angle.tune }
  let s1 := s0.modHl h fun a =>
    let b := a.takeFrame f
    let own := b.safetyCrc
    let hash := if f.cfg.isSome then b.cfg.committed.hash own else b.pair.hashSelf
    let p := { b.pair with
      hashSelf := hash, hashPeer := f.hash, safetyPeer := f.safetyCrc, peerSeen := some now, lastSeq := some f.seq, missRun := 0
      slotGot := true, validRun := min 256 (b.pair.validRun + 1) }
    { b with
      pair := p.judge now f.full f.hash own f.safetyCrc (s.lockedLong h)
      replica := { (if b.pair.role = .resync then lead else b.replica) with fields := [f.angle] } }
  let s2 := match f.firm with
    | some m => { s1 with mirrored := m }
    | none => s1
  let p := s2.hl[h].pair
  let answer : MirrorAckFrame :=
    { seq := f.seq, appliedSeq := p.appliedSeq, eligible := p.eligible, inelig := p.inelig, hash := p.hashSelf
      words := [0x900, 0x904, 0x908, 0x90C, 0x910, 0x914].map (s2.pairWord h) }
  let s3 := { s2 with ack := some answer }
  if f.handover && p.eligible then s3.modPair h fun p => { p with claim := true, handoverClaim := true, claimCause := 2 } else s3

/-- A bad mirror frame (R390, R397). -/
def Pair.badFrame (p : Pair) (now : Nat) : Pair :=
  { p with mirrorBad := satInc 16 p.mirrorBad, validRun := 0, lastBad := some now, ineligMirror := true }

/-- MIRROR_FRAME (R379, R383): the frame on its way arrives whole, or bad. -/
def execMirrorFrame (good : Bool) (s : State) : Res :=
  match s.mirror with
  | none => .next s
  | some f =>
    let h := s.peer
    let s1 := { s with mirror := none }
    let p := s.hl[h].pair
    let follows := match p.lastSeq with
      | some q => decide (f.seq = (q + 1) % 2 ^ 32)
      | none => true
    .next (if !p.role.listens then s1 else if good && follows then s1.takeMirror h f else s1.modPair h (·.badFrame s.clk.now))

/-- Silence (R383): the claim of an eligible standby, or PAIR_NO_STANDBY. -/
def State.silence (s : State) (h : Hd) : State :=
  let p := s.hl[h].pair
  if p.eligible then s.modPair h fun p => { p with claim := true, claimCause := 1 } else s.raise 0xB2 (0x20 + h.val) p.inelig

/-- MIRROR_SLOT_END (R383): a slot of the standby ends; one without a valid frame is missed. -/
def execMirrorSlotEnd (s : State) : Res :=
  let h := s.peer
  let p := s.hl[h].pair
  if !s.awake || !p.role.listens then .next s
  else if p.slotGot then .next (s.modPair h fun p => { p with slotGot := false })
  else
    let s1 := s.modPair h fun p => { p with missRun := min 2 (p.missRun + 1), lastSeq := p.lastSeq.map fun q => (q + 1) % 2 ^ 32 }
    .next (if p.missRun = 1 then s1.silence h else s1)

/-! ### Configuration changes (R382) -/

/-- The Shoal has confirmed a TIDE_SET (R68, R462). [DEDUCED, unsafe: log 7] -/
def State.tideConfirmed (s : State) (w : AwaitAck) : Bool :=
  let e : Fin 128 := ⟨by8 w.item.req.payload 0 % 128, by omega⟩
  let h := s.shoals[tideShoal e]
  decide (w.item.op ≠ 0x28) || !((h.tideWait ++ h.fields.flatMap (·.tides)).any fun x => decide (x.1 = (tideComp e).val))

/-- A change has completed: its reply, and the wake table passes to Lookout (R68, R382, R523). -/
def State.release (s : State) (w : AwaitAck) : State :=
  let s1 := (s.reply w.item w.status w.payload).noteLatency w.item
  if w.item.op = 0x88 then s1.modLookout fun k => { k with rules := s1.act.cfg.wake.getD defaultWakeRules } else s1

/-- Reply to every change that the standby has, and the Shoal where it must, confirmed. [DEDUCED, unsafe: log 7] -/
def State.releaseAcked (s : State) : State :=
  let done := fun (w : AwaitAck) => w.acked && s.tideConfirmed w
  let out := s.act.host.awaiting.filter done
  out.foldl State.release (s.modHost fun h => { h with awaiting := h.awaiting.filter fun w => !done w })

/-- a is at or beyond b, modulo 2^32 (R379). -/
def seqReached (a b : Nat) : Bool := decide ((a + 2 ^ 32 - b % 2 ^ 32) % 2 ^ 32 < 2 ^ 31)

/-- MIRROR_ACK (R379, R382, R395): the acknowledgement on its way arrives whole, or is lost. [DEDUCED, unsafe: log 7] -/
def execMirrorAck (good : Bool) (s : State) : Res :=
  match s.ack with
  | none => .next s
  | some a =>
    let s1 := { s with ack := none }
    if !good || !s.active || !s.act.pair.launched.contains a.seq then .next s1
    else
      let s2 := s1.modPair s.hd fun p =>
        { p with
          lastAck := some s.clk.now, peerSeen := some s.clk.now, peerEligible := a.eligible, peerWords := a.words, hashPeer := a.hash
          transfer := p.transfer && decide (a.words.headD 0 / 2 ^ 28 ≠ Role.standby.code) }
      .next ((s2.modHost fun h => { h with awaiting := h.awaiting.map fun w =>
        { w with acked := w.acked || (w.carried.map (seqReached a.appliedSeq)).getD false } }).releaseAcked)

/-- A Headland returns to RESYNC (R391). -/
def Pair.toResync (p : Pair) (now : Nat) : Pair :=
  { p with role := .resync, resyncAt := now, ineligResync := true, lastSeq := none, missRun := 0, validRun := 0, slotGot := false, ineligMirror := true
           handover := false, handoverClaim := false, claim := false }

/-- CONFIG_ACK_TIMEOUT (R382): 10 ms after its acceptance the oldest change replies as if acknowledged; the standby resynchronises with cause HASH.
[DEDUCED, unsafe: log 7] -/
def execConfigAckTimeout (s : State) : Res :=
  match s.act.host.awaiting.find? fun w => !w.acked && decide (w.since + msTicks 10 ≤ s.clk.now) with
  | none => .next s
  | some w =>
    let s1 := s.modHost fun h => { h with awaiting := h.awaiting.map fun x => if x = w then { x with acked := true } else x }
    let s2 := s1.modPair s.peer fun p => if p.role = .standby then { p.toResync s.clk.now with ineligHash := true } else p
    .next ((s2.modPair s.hd fun p => { p with transfer := true }).releaseAcked)

/-- APPLY_TICK (R49, R52, R53, R68, R73); the confirmation of a TIDE_SET releases its reply (R462). -/
def execApplyTick (k : Shoal) (s : State) : Res := .next (s.applyTick k).releaseAcked

/-! ### Token and takeover (R375, R376, R384 to R386, R393) -/

/-- Trips that a Shoal decides on its own and that a new holder finds there (R52, R214, R31). [DEDUCED, unsafe: log 93] -/
def Trip.ofShoal (t : Trip) : Bool := decide (t = .uplink ∨ t = .slip ∨ t = .shoalEcc)

/-- The fixed set after a takeover (Table 12.2): the last full frame's, its timers restarted, every step cold. [DEDUCED, unsafe: log 93] -/
def Firm.taken (m was : Firm) (now : Nat) : Firm :=
  let q := m.seq
  { m with
    dev := if m.dev = .boot ∨ m.dev = .standby then was.dev else m.dev
    seq := { q with armed := false, missed := q.missed || q.armed, closeAt := q.closeAt.map fun _ => now, bsPassed := false
                    bsFrom := if q.bsPending then now else q.bsFrom }
    steps := m.steps.map fun x => { x with cold := true, spec := none, pred := none, inside := false, arrived := false, recompute := false }
    life := Vector.ofFn fun p =>
      let l := m.life[p]
      let own := was.life[p].trips.filter fun t => t.ofShoal && !l.trips.contains t
      { l with
        trips := l.trips ++ own, gateEn := l.gateEn && own.isEmpty, fb0At := l.fb0At.map fun _ => now
        atZero := l.atZero.map fun x => (x.1, now) }
    busAt := was.busAt, dutyOut := Vector.replicate 12 none }

/-- The converter of a Headland that takes over (R267): no sequence runs, the urgent queue is empty. -/
def Adc.granted (a : Adc) : Adc :=
  { a with running := false, scheduled := none, resuming := false, restarted := false, between := false, shifted := false, urgent := [] }

/-- The token moves to a standby: the fixed set as mirrored, angle fields of its replica advanced to the present tick (R384), its own links and check-value
units from now on, CAP_LOST (R385, R491, R494, R518, R543). [DEDUCED, unsafe: log 92, 93] -/
def State.grant (s : State) (h : Hd) : State :=
  let lost := s.hl[h].pair.capLost
  let s1 := { s with
    bw := { s.bw with token := some h }, firm := s.mirrored.taken s.firm s.clk.now, mirror := none, ack := none }
  let s2 := s1.modHl h fun a =>
    { a with
      crc := Vector.replicate 8 {}, host := {}, adc := a.adc.granted, net := { a.net with tx := [], txDone := [] }
      log := { a.log with gap := 1024 }, cap := { a.cap with state := .idle }, engine := { run := !s.clocks.hd[h].bypass }
      pair := { a.pair with claim := false, capLost := none, slot := 0, items := [], transfer := true, peerWords := [], peerEligible := false
                            tookShoals := Vector.replicate 4 false, tookShore := false, tookBw := false } }
  let s3 := (s2.sendFields s2.steadyFields true).modShore fun x => { x with hostAt := s.clk.now }
  match lost with
  | some n => s3.raise 0x5A (0x20 + s.hd.val) n
  | none => s3

/-- The takeover is complete: ACTIVE, counted, PAIR_TAKEOVER the first record (R384, R494); a former holder that handed over
resynchronises (R394). [DEDUCED, unsafe: log 92] -/
def State.takeOver (s : State) (cause : Nat) : State :=
  let h := s.hd
  let s1 := s.raise 0xB0 (0x20 + h.val) cause
  let s2 := s1.modLog fun l => { l with queue := l.queue.drop (l.queue.length - 1) ++ l.queue.take (l.queue.length - 1) }
  let s3 := s2.modPair h fun p =>
    { p with role := .active, takeovers := satInc 32 p.takeovers, lastCause := cause, claimCause := 0, handoverClaim := false, missRun := 0 }
  s3.modPair s.peer fun p => if p.role = .active then p.toResync s.clk.now else p

/-- A Headland resets as the loser of a double claim (R375). -/
def State.refuseClaim (s : State) (h : Hd) : State := (s.failHeadland h).raise 0xB1 (0x20 + h.val)

/-- HEADLAND_FAILURE (R376): the active Headland; on loss of lock only beside an eligible standby; the loser of a double claim. -/
def execHeadlandFailure (cause : FailCause) (s : State) : Res :=
  .next (match cause with
    | .watchdog | .ecc => if s.active then s.failHeadland s.hd else s
    | .lossOfLock => if s.active && s.act.pair.peerEligible then s.failHeadland s.hd else s
    | .doubleClaim => if s.active && s.hl[s.peer].pair.claim then s.refuseClaim s.peer else s)

/-- Load the committed set (R554): the valid copy committed later, for both Headlands; else the defaults, PARAM_SET_LOST.
[DESIGN CHOICE, unsafe: log 17] -/
def State.loadSet (s : State) : State :=
  let a := s.hl[0].cfg
  let b := s.hl[1].cfg
  let best := match a.hash, b.hash with
    | some _, some _ => if a.commitNo < b.commitNo then some b else some a
    | some _, none => some a
    | none, some _ => some b
    | none, none => none
  let put := fun (c : Cfg) (x : Conf) (hash : Option Nat) (n : Nat) => { c with committed := x, pendingSet := x, hash := hash, commitNo := n }
  match best with
  | some c => s.modBoth fun x => { x with cfg := put x.cfg c.committed c.hash c.commitNo }
  | none => (s.modBoth fun x => { x with cfg := put x.cfg {} none x.cfg.commitNo }).raise 0x05 (0x20 + s.hd.val)

/-- The token is granted at power-up (R375, R553): the events so far, the set, the hashes, the wake table. [DESIGN CHOICE, unsafe: log 17] -/
def State.firstGrant (s : State) (h : Hd) : State :=
  let o := otherHd h
  let events := if h = 0 then s.hl[h].log.queue ++ s.hl[o].log.queue else s.hl[o].log.queue ++ s.hl[h].log.queue
  let s0 := { s with bw := { s.bw with token := some h } }.modHl h fun a =>
    { a with pair := { a.pair with role := .active, claim := false }, log := { a.log with queue := events } }
  let s1 := (s0.modHl o fun a => { a with log := { a.log with queue := [] } }).loadSet.rehash
  (s1.modLookout fun k => { k with rules := s1.act.cfg.wake.getD defaultWakeRules }).modShore fun x => { x with hostAt := s.clk.now }

/-- TOKEN_CLAIM (R375): the first claim after power-up, PREFER between two; later a claim while the holder is not alive, or a double
claim. [DEDUCED, unsafe: log 92, 106] -/
def execTokenClaim (h : Hd) (s : State) : Res :=
  if s.dev = .standby ∨ !s.hl[h].pair.claim then .next s
  else match s.bw.token with
    | none =>
      let o := otherHd h
      if s.bootHeld then .next s
      else if s.hl[o].pair.claim then
        let w : Hd := if s.parN P_PREFER = 1 then 1 else 0
        .next ((s.firstGrant w).refuseClaim (otherHd w))
      else .next (s.firstGrant h)
    | some g =>
      if g = h then .next s
      else if s.hl[g].pair.alive then .next (s.refuseClaim h)
      else if s.dev = .boot then .next (s.firstGrant h)
      else .next (s.grant h)

/-- TAKEOVER_COMPLETE (R384): every Shoal, Shore and Breakwater obey the new holder. [DEDUCED, unsafe: log 92] -/
def execTakeoverComplete (s : State) : Res :=
  let p := s.act.pair
  .next (if s.bw.token.isSome && p.role.listens && decide (p.claimCause = 1 ∨ p.claimCause = 2) && p.tookShoals.all id && p.tookShore &&
      p.tookBw then s.takeOver p.claimCause else s)

/-- LATE_CLAIM (R393): granted, every admitted port trips, TRIPPED. [DEDUCED, unsafe: log 92] -/
def execLateClaim (s : State) : Res :=
  let h := s.peer
  let p := s.hl[h].pair
  if !s.awake || s.bw.token.isNone || !p.role.listens || p.eligible || p.missRun ≠ 2 || !s.bw.hlLost ||
      s.clk.now < s.bw.hlLostAt + msTicks 2 || s.act.pair.alive then .next s
  else
    let s1 := ((s.grant h).takeOver 3).tripAdmitted .lateTakeover
    .next (match s1.dev with
      | .idle | .ready | .sync | .forming | .service => s1.setDev .tripped 0xB0
      | .standby | .boot | .tripped | .lockout => s1)

/-! ### Resynchronisation (R391) -/

/-- The values of the resynchronising Headland match the active one's (R391). -/
def Headland.matched (a : Headland) : Bool :=
  a.pair.lastSeq.isSome && decide (a.pair.hashSelf = a.pair.hashPeer) && decide (a.safetyCrc = a.pair.safetyPeer)

/-- RESYNC_COMPLETE (R391): both hashes match, and the Headland becomes STANDBY. [DEDUCED, unsafe: log 91] -/
def execResyncComplete (s : State) : Res :=
  let h := s.peer
  let a := s.hl[h]
  .next (if s.awake && decide (a.pair.role = .resync) && a.matched then
    s.modPair h fun p => { p with role := .standby, ineligResync := false, ineligHash := false, ineligSafety := false }
  else s)

/-- RESYNC_TIMEOUT (R391): 2 s after the transfer began the values still differ. [DEDUCED, unsafe: log 91] -/
def execResyncTimeout (s : State) : Res :=
  let h := s.peer
  if !s.awake || s.hl[h].pair.role ≠ .resync || s.hl[h].matched || !s.act.pair.transfer ||
      s.clk.now < s.hl[h].pair.resyncAt + msTicks 2000 then .next s
  else
    let s1 := (s.modPair h fun p => { p with ineligHash := true }).modPair s.hd fun p => { p with transfer := false }
    .next (s1.raise 0xB3 (0x20 + h.val) s1.hl[h].pair.inelig)

/-- RESYNC_RETRY (R391): 10 s after the last one the transfer repeats. [DEDUCED, unsafe: log 91] -/
def execResyncRetry (s : State) : Res :=
  let due := decide (s.hl[s.peer].pair.role = .resync ∧ s.hl[s.peer].pair.resyncAt + msTicks 10000 ≤ s.clk.now)
  .next (if s.awake && s.active && due then
    (s.modPair s.hd fun p => { p with transfer := true }).modPair s.peer fun p => { p with resyncAt := s.clk.now } else s)

/-! ### Handover and status (R394, R395) -/

def pairHandoverAns (target : Nat) (b : List Byte) (s : State) : Ans :=
  let p := s.act.pair
  s.check
    [(decide (s.dev = .standby ∨ s.dev = .boot) || !p.peerEligible, ST_STATE_FORBIDS), (p.handover, ST_BUSY), (decide (b.length ≠ 0), ST_BAD_LENGTH),
     (decide (target ≠ 0xFF), ST_BAD_PARAMETER)]
    fun s => (s.modPair s.hd fun p => { p with handover := true }).ok

def execPairHandover (r : Req) (s : State) : Res := .next (s.host 0xB1 r .any (pairHandoverAns r.target r.payload))

/-- HANDOVER_BOUNDARY (R394): at a boundary of port 0 the full frame with HANDOVER, then ALIVE and CLAIM end. -/
def execHandoverBoundary (s : State) : Res :=
  if !s.active || !s.act.pair.handover || !s.act.pair.alive || !s.carrierWraps 0 then .next s
  else
    let lost := s.act.cap.liveNo
    .next ((((s.launch true true).modPair s.hd fun p => { p with alive := false, claim := false }).modPair s.peer fun p => { p with capLost := lost }).modAct
      fun a => { a with engine := { a.engine with run := false } })

def pairStatusAns (target : Nat) (b : List Byte) (s : State) : Ans :=
  s.check [(decide (s.dev = .boot), ST_STATE_FORBIDS), (decide (b.length ≠ 0), ST_BAD_LENGTH), (decide (target ≠ 0xFF), ST_BAD_PARAMETER)] fun s =>
    let p := s.act.pair
    let recent := match p.lastAck with
      | some t => decide (s.clk.now < t + msTicks 100)
      | none => false
    s.ok (s.ownWords [0x900, 0x904, 0x908, 0x90C, 0x910, 0x914] ++ if recent then words p.peerWords else zeros 24)

def execPairStatus (r : Req) (s : State) : Res := .next (s.host 0xB0 r .any (pairStatusAns r.target r.payload))

end Sys2Proof.Machine
end

