-- ==== Sys2Proof/Machine/Power.lean ====
section
/-! DEFINITION. Start-up, resets, standby and memory errors (19_startup_resets_and_fault_matrix.md, R31). -/
namespace Sys2Proof.Machine

/-! ### What a reset keeps (R557 to R560, Table 19.3) -/

/-- The events that wait are written before the token holder stops (R495, R540). [DEDUCED, unsafe: log 88] -/
def State.flushLog (s : State) : State :=
  if s.active then
    (List.range (s.act.log.queue.length + 1)).foldl (fun (t : State) _ => if t.act.log.queue.isEmpty then t else t.logWrite) s
  else s

/-- Shore across a reset of its logic side: off until the first valid frame, field side and counters kept (R503, R517). -/
def Shore.logicReset (h : Shore) (now : Nat) : Shore :=
  { h with
    silent := true, ran := false, toReport := false, hostSilent := false, sagSeen := false, silenceSeen := false, abandoned := false
    outs := h.outs.map fun (o : ShoreOut) => { o with overload := false }, hostDemand := Vector.replicate 16 false
    release := Vector.replicate 16 false, tideSet := Vector.replicate 16 false }.drive now

/-- One more entry into BOOT (R493). -/
def Headland.countBoot (a : Headland) : Headland := { a with log := { a.log with pcc := (a.log.pcc + 1) % 2 ^ 24 } }

/-- A Headland that leaves reset: its MRAM, role BOOT (R374). -/
def Headland.booting (a : Headland) : Headland :=
  let b := a.afterReset
  { b with pair := {} }

/-- The reset dies of a PIN or COMMAND reset at their reset values: Headlands, Shoals, Skerries, Shore's logic side; Breakwater keeps
its latches, and the token is granted anew (R375, R558, Table 19.2). [DEDUCED, unsafe: log 108] -/
def State.dieReset (s : State) : State :=
  { s with
    clk := { s.clk with mclk := 0, sub := 0 }, firm := {}, mirrored := {}, hl := s.hl.map Headland.booting, shoals := Vector.replicate 4 {}
    pwm := Vector.replicate 12 {}, sk := Vector.replicate 13 {}, ul := Vector.replicate 13 {}, dec := Vector.replicate 13 {}
    bw := { s.bw with token := none, pending := s.bw.params }, shore := s.shore.logicReset s.clk.now, clocks := Clocks.acquiring s.clk.now
    heart := { s.heart with drive := Vector.replicate 13 false, isoAt := Vector.replicate 13 none, downAt := Vector.replicate 13 s.clk.now }
    rs := s.rs.filter fun x => decide (0x400000 ≤ x.addr), mirror := none, ack := none, bootHeld := false }

/-- A POWER or WAKE reset also takes Breakwater; the cartridge lost its supply after its final write (R316, Table 19.2). -/
def State.powerReset (s : State) : State :=
  { s.dieReset with
    bw := {}, rs := [], meter := if s.meter.powered then { s.meter with mram := s.meter.live, powered := false } else s.meter }

/-! ### Standby and lock-out (R455, R460, R538 to R540) -/

/-- The Unyar powers down: waiting events are written, every die but Lookout and the Heartwood monitor loses its supply. -/
def State.powerDown (s : State) (cause : Nat) : State :=
  let s1 := (s.setDev .standby cause).flushLog.powerReset
  { s1 with
    firm := { s1.firm with dev := .standby }
    lookout := { s1.lookout with fired := 0, latched := 0, waking := false, loopAt := Vector.replicate 12 none } }

/-- ENTER_STANDBY (R460): after the reply. [DEDUCED, safe: log 6] -/
def execEnterStandby (s : State) : Res :=
  .next (if s.act.host.after = some .standby ∧ s.dev = .idle then s.powerDown 0 else s)

/-- VSUP_LOCKOUT (R538, R540): below 5.5 V or above 42.0 V; the event with VSUP is written before the rails fall. -/
def execVsupLockout (vsup : Nat) (s : State) : Res :=
  if !(maybeBelow vsup 550 || maybeAbove vsup 4200) then .next s else
  let s1 := s.modHeart fun h => { h with lockedOut := true, lockoutSeen := true }.noBudget vsup
  .next (if s.dev = .standby then s1 else (s1.raise 0xC5 0x33 vsup).powerDown 0xC5)

/-! ### BOOT (R553 to R556) -/

/-- VSUP in 10 mV allows T0 by its cause (R538, R553): above 5.9 V, and below 41.0 V after an overvoltage lock-out. -/
def State.mayPowerUp (s : State) (cause : PowerCause) (vsup : Nat) : Bool :=
  decide (s.dev = .standby) && match cause with
    | .vsupRise => decide (590 < vsup) && decide (vsup ≤ 4200)
    | .overvoltageEnd => s.heart.lockedOut && decide (590 < vsup) && decide (vsup < 4100)
    | .wake => s.lookout.waking && !s.heart.lockedOut

/-- POWER_UP (R44, R493, R522, R538, R553): into BOOT, from the budget of the VSUP then present. -/
def execPowerUp (cause : PowerCause) (vsup : Nat) (s : State) : Res :=
  let wake := decide (cause = .wake)
  if !s.mayPowerUp cause vsup then .next s
  else
    let s1 := s.powerReset
    let s2 := { s1 with
      hl := s1.hl.map fun (a : Headland) => { a.countBoot with log := { a.countBoot.log with opAt := s.clk.now } }
      firm := {}, resetKind := b2n wake, bootAt := s.clk.now
      heart := { s1.heart with lockedOut := false }
      lookout := { s1.lookout with waking := false, lastWake := if wake then s1.lookout.lastWake else 0 } }
    .next ((s2.seedLoops.raise 0x02 0xFF DevState.boot.code).setBudget vsup s.heart.tBase)

/-- The holder sends the whole fixed set to a Headland beside it that resynchronises (R391). -/
def State.transferFrom (s : State) (h : Hd) : State :=
  if s.dev ≠ .boot ∧ s.bw.token = some (otherHd h) then s.modPair (otherHd h) fun p => { p with transfer := true } else s

/-- HEADLAND_SELFTEST_END (R375, R391, R556): a claim, a place beside the holder, or a failure reported through the peer.
 [DESIGN CHOICE, unsafe: log 94] [DEDUCED, unsafe: log 96] -/
def execHeadlandSelftestEnd (h : Hd) (failed : Option SelftestPart) (s : State) : Res :=
  let p := s.hl[h].pair
  let open_ := decide (p.role = .boot ∨ p.role = .resetting) && p.selfFails < 2 && p.ineligSelftest
  if s.dev = .standby ∨ s.heart.resetN ∨ s.bw.token = some h ∧ p.alive ∨ !open_ then .next s
  else match failed with
    | some part =>
      let n := p.selfFails + 1
      let s1 := s.modPair h fun p => { p with role := .resetting, selfFails := n, alive := false, claim := false }
      let e := s1.stamped s1.act.replica.tick { code := 0x04, source := 0x20 + h.val, arg0 := part.code, arg1 := n }
      .next (s1.modHl (otherHd h) fun a => { a with log := { a.log with queue := a.log.queue ++ [e] } })
    | none =>
      let claims := match s.bw.token with
        | none => true
        | some g => decide (s.dev = .boot) && !s.hl[g].pair.alive
      .next ((s.modPair h fun p =>
        let p1 := { p with ineligSelftest := false, selfFails := 0, alive := true, claim := claims }
        if s.dev = .boot then { p1 with role := .boot } else p1.toResync s.clk.now).transferFrom h)

/-- BOOT has lasted 1,000 ms since CORE was good (R555, R556). [DEDUCED, unsafe: log 106] -/
def State.bootLate (s : State) : Bool := decide (s.bootAt + msTicks 1000 ≤ s.clk.now)

/-- BOOT_CLAIM_TIMEOUT (R556): no Headland has claimed within 1,000 ms; only RESET_N or a power cycle leaves it. [DEDUCED, unsafe: log 106] -/
def execBootClaimTimeout (s : State) : Res :=
  .next (if s.dev = .boot ∧ s.bw.token = none ∧ !s.heart.resetN ∧ s.bootLate then { s with bootHeld := true } else s)

/-- A demand or fault stands at Breakwater (R361). -/
def Breakwater.demanded (b : Breakwater) : Bool :=
  b.moduleFaulty ||
    ((List.finRange 8).any fun n => decide (b.par (P_SI_MODE n) ≠ 0) && b.inputs[n].chans.toList.any (·.demand)) ||
    ((List.finRange 4).any fun j => decide (b.par (P_SM_RX_ID j) ≠ 0) && (b.sources[j].sgo || b.sources[j].sdc || b.sources[j].timedOut))

/-- LOCKOUT at the end of BOOT: START_LOCKED decides after POWER and WAKE, Breakwater's own after PIN and COMMAND (R361, R559). -/
def State.bootLock (s : State) : State :=
  if 2 ≤ s.resetKind ∨ s.bw.par P_START_LOCKED = 1 ∨ s.bw.demanded then s
  else s.modBw fun b => { b with lockout := false, sgoMod := false, sdcMod := false }

/-- The dies start on one tick (R50, R253, R264). -/
def State.startDies (s : State) : State :=
  let inc := s.incNom
  let opSec := max s.hl[0].log.opSec s.hl[1].log.opSec
  let pcc := max s.hl[0].log.pcc s.hl[1].log.pcc
  let s1 := { s with
    clk := { s.clk with mclk := 0, sub := 0 }
    shoals := s.shoals.map fun (h : ShoalSt) => { h with acc := 0, accPrev := 0, inc := inc, tick := 0, fields := [], anchored := false }
    hl := s.hl.map fun (a : Headland) =>
      { a with
        replica := { a.replica with acc := 0, inc := inc, tick := 0, fields := [], atInc := inc }
        log := { a.log with opSec := opSec, pcc := pcc } }
    dec := s.dec.map DecLink.restartAll }
  s1.applyDec

/-- The parameter set comes into force; DT_STRETCH for each port that stretches a delay (R191, R175). -/
def State.startSet (s : State) : State :=
  let c := s.act.cfg.committed
  let s1 := s.modFirm fun m =>
    { m with applied := c.params, busAt := s.clk.now, steps := Vector.ofFn fun p => { m.steps[p] with tight := c.tight p } }
  s1.eachPort fun t p => if c.stretched p then (t.modPwm p fun w => { w with dtStretch := true }).raise 0x4E p.val else t

/-- WAKE and WAKE_NOTES after POWER and WAKE (R522). [DEDUCED, unsafe: log 96] -/
def State.reportWake (s : State) : State :=
  if 2 ≤ s.resetKind then s
  else
    let s1 := s.modLookout fun k => { k with wakes := satInc 32 k.wakes, wakeN := false }
    let s2 := s1.raise 0x88 0x32 s1.lookout.lastWake s1.lookout.wakes
    if s2.lookout.notes = 0 then s2 else (s2.raise 0x89 0x32 s2.lookout.notes s2.lookout.wakes).modLookout fun k => { k with notes := 0 }

/-- The Headland beside the holder enters RESYNC (R391). -/
def State.startPeer (s : State) : State :=
  (s.modPair s.peer fun p => if p.role = .boot ∧ !p.ineligSelftest then p.toResync s.clk.now else p).modPair s.hd fun p => { p with transfer := true }

/-- The loop classes at the end of BOOT come to the ports (R289). -/
def State.startLoops (s : State) : State :=
  s.eachPort fun t p => (t.modLife p fun l => { l with loopAt := s.clk.now }).takeLoop p s.lookout.loops[p]

/-- MODULE_SERIAL after a power-up (R333). -/
def State.startMeter (s : State) : State := if s.meter.powered && !s.meter.absent then s.compareSerial else s

/-- Every island whose supply is good has delivered 16 good frames in a row, or 1,000 ms have passed (R555). [DEDUCED, unsafe: log 96] -/
def State.islandsReady (s : State) : Bool :=
  s.bootLate || (List.finRange 13).all fun l => !s.sk[l].good || decide (16 ≤ s.ul[l].good)

/-- BOOT_END (R50, R289, R333, R361, R555, R559): the holder has its set, Breakwater its self-test, the islands their frames.
[DEDUCED, unsafe: log 96, 106] -/
def execBootEnd (s : State) : Res :=
  if s.dev ≠ .boot ∨ s.bootHeld ∨ !s.active ∨ !s.bw.started ∨ s.heart.resetN ∨ !s.islandsReady then .next s
  else
    let s1 := s.startDies.startSet.bootLock
    let new : DevState := if s1.bw.lockout then .lockout else .idle
    let s2 := (s1.setDev new 0).raise 0x01 (0x20 + s.hd.val) s.resetKind new.code
    let s3 := (s2.reportWake.startLoops.startMeter.startPeer).modAct fun a => { a with engine := { a.engine with run := !s.clocks.hd[s.hd].bypass } }
    .next (s3.modShore fun h => { h with hostAt := s.clk.now })

/-! ### Resets (R461, R558) -/

/-- A PIN or COMMAND reset: gates off, drives stopped, the reset dies through BOOT; the change and the waiting events are written.
[DEDUCED, unsafe: log 95, 96, 108] -/
def State.moduleReset (s : State) (kind : Nat) : State :=
  let s1 := (s.setDev .boot 0).flushLog.dieReset.seedLoops
  { s1 with hl := s1.hl.map Headland.countBoot, resetKind := kind, bootAt := s.clk.now }

/-- MODULE_RESET_BEGIN (R460, R461, R558): after the reply. [DEDUCED, safe: log 6] -/
def execModuleResetBegin (s : State) : Res :=
  .next (if s.act.host.after = some .moduleReset ∧ !s.dev.runs ∧ s.dev ≠ .standby then s.moduleReset 3 else s)

/-- PEER_HEADLAND_RESET (R461, R556, R560): the Headland without the token. [DEDUCED, safe: log 6] -/
def execPeerHeadlandReset (s : State) : Res :=
  .next (if s.act.host.after = some .peerReset then (s.failHeadland s.peer).modHost fun h => { h with after := none } else s)

/-- RESET_N (R558): held low for 10 µs, in every state but STANDBY. -/
def execResetN (s : State) : Res :=
  .next (if s.dev = .standby ∨ s.heart.resetN then s
    else (s.moduleReset 2).modHeart fun h => { h with resetN := true })

/-- RESET_N_RELEASE (R558): 1 ms after RESET_N rises. -/
def execResetNRelease (s : State) : Res :=
  .next (if s.heart.resetN then { s.modHeart fun h => { h with resetN := false } with bootAt := s.clk.now } else s)

/-! ### Memory errors (R31) -/

/-- A corrected error is counted by its die and does nothing else (R30). -/
def State.countCorrected (s : State) (d : SramDie) : State :=
  match d with
  | .headland h => s.modHl h fun a => { a with eccCorrected := satInc 32 a.eccCorrected }
  | .shoal k => s.modShoal k fun h => { h with eccCorrected := satInc 32 h.eccCorrected }
  | .gauge => s.modMeter fun m => { m with eccCorrected := satInc 32 m.eccCorrected }

/-- SRAM_ECC_ERROR (R30, R31, R376, R476): a corrected error is counted; otherwise the active Headland fails, the record is
discarded, or the ports of a region trip. [DEDUCED, unsafe: log 18] -/
def execSramEccError (where_ : EccWhere) (s : State) : Res :=
  .next (match where_ with
    | .corrected d => if s.dev = .standby then s else s.countCorrected d
    | .engineData | .netBuffers => if s.active then s.failHeadland s.hd else s
    | .strandline =>
      if s.awake then
        (s.modCap fun c => { c with state := .idle, eccDiscard := true, sets := [], fire := none, due := none, ended := false }).raise 0x59 (0x20 + s.hd.val)
          s.act.cap.recordNo
      else s
    | .shoal k =>
      if s.awake then
        (s.eachOf k fun t p => t.tripPort p .shoalEcc).raise 0x5B (0x10 + k.val) (maskOf 12 fun i => decide (i / 3 = k.val))
      else s)

end Sys2Proof.Machine
end

