-- ==== Sys2Proof/Machine/Dispatch.lean ====
section
/-! DEFINITION. One arm per command. -/
namespace Sys2Proof.Machine

/-- The effect of a command on everything but the queue. -/
def exec (i : Instr) (s : State) : Host.Outcome State Fault Refusal :=
  match i with
  | .nop r => Sys2Proof.Machine.execNop r s
  | .identify r => Sys2Proof.Machine.execIdentify r s
  | .getStatus r => Sys2Proof.Machine.execGetStatus r s
  | .setStateStandby r => Sys2Proof.Machine.execSetStateStandby r s
  | .setStateIdle r => Sys2Proof.Machine.execSetStateIdle r s
  | .setStateReady r => Sys2Proof.Machine.execSetStateReady r s
  | .setStateSync r => Sys2Proof.Machine.execSetStateSync r s
  | .setStateService r => Sys2Proof.Machine.execSetStateService r s
  | .enterStandby => Sys2Proof.Machine.execEnterStandby s
  | .moduleReset r => Sys2Proof.Machine.execModuleReset r s
  | .moduleResetBegin => Sys2Proof.Machine.execModuleResetBegin s
  | .headlandReset r => Sys2Proof.Machine.execHeadlandReset r s
  | .peerHeadlandReset => Sys2Proof.Machine.execPeerHeadlandReset s
  | .readParam r => Sys2Proof.Machine.execReadParam r s
  | .writeParam r => Sys2Proof.Machine.execWriteParam r s
  | .commitParams r => Sys2Proof.Machine.execCommitParams r s
  | .paramDiscard r => Sys2Proof.Machine.execParamDiscard r s
  | .readReg r => Sys2Proof.Machine.execReadReg r s
  | .writeReg r => Sys2Proof.Machine.execWriteReg r s
  | .setDispatch r => Sys2Proof.Machine.execSetDispatch r s
  | .blackStart r => Sys2Proof.Machine.execBlackStart r s
  | .syncClose r => Sys2Proof.Machine.execSyncClose r s
  | .tideSet r => Sys2Proof.Machine.execTideSet r s
  | .tideGet r => Sys2Proof.Machine.execTideGet r s
  | .portAdmit r => Sys2Proof.Machine.execPortAdmit r s
  | .portRelease r => Sys2Proof.Machine.execPortRelease r s
  | .packCanSend r => Sys2Proof.Machine.execPackCanSend r s
  | .packCanRead r => Sys2Proof.Machine.execPackCanRead r s
  | .bmsMapLoad r => Sys2Proof.Machine.execBmsMapLoad r s
  | .bmsMapRead r => Sys2Proof.Machine.execBmsMapRead r s
  | .trip r => Sys2Proof.Machine.execTrip r s
  | .clearTrip r => Sys2Proof.Machine.execClearTrip r s
  | .gateDiag r => Sys2Proof.Machine.execGateDiag r s
  | .envelopeLoad r => Sys2Proof.Machine.execEnvelopeLoad r s
  | .envelopeRead r => Sys2Proof.Machine.execEnvelopeRead r s
  | .capConfig r => Sys2Proof.Machine.execCapConfig r s
  | .capTrigger r => Sys2Proof.Machine.execCapTrigger r s
  | .capMaskLoad r => Sys2Proof.Machine.execCapMaskLoad r s
  | .capArm r => Sys2Proof.Machine.execCapArm r s
  | .capForce r => Sys2Proof.Machine.execCapForce r s
  | .capStatus r => Sys2Proof.Machine.execCapStatus r s
  | .capRead r => Sys2Proof.Machine.execCapRead r s
  | .capMeasRead r => Sys2Proof.Machine.execCapMeasRead r s
  | .capStream r => Sys2Proof.Machine.execCapStream r s
  | .logFreeze r => Sys2Proof.Machine.execLogFreeze r s
  | .logWindow r => Sys2Proof.Machine.execLogWindow r s
  | .logCursor r => Sys2Proof.Machine.execLogCursor r s
  | .logUnfreeze r => Sys2Proof.Machine.execLogUnfreeze r s
  | .timeGet r => Sys2Proof.Machine.execTimeGet r s
  | .peerRead r => Sys2Proof.Machine.execPeerRead r s
  | .netSend r => Sys2Proof.Machine.execNetSend r s
  | .netTxStatus r => Sys2Proof.Machine.execNetTxStatus r s
  | .fieldStatus r => Sys2Proof.Machine.execFieldStatus r s
  | .fieldOut r => Sys2Proof.Machine.execFieldOut r s
  | .fieldCountRead r => Sys2Proof.Machine.execFieldCountRead r s
  | .panelStatus r => Sys2Proof.Machine.execPanelStatus r s
  | .wakeRulesLoad r => Sys2Proof.Machine.execWakeRulesLoad r s
  | .wakeRulesRead r => Sys2Proof.Machine.execWakeRulesRead r s
  | .safetyStatus r => Sys2Proof.Machine.execSafetyStatus r s
  | .safetyResetArm r => Sys2Proof.Machine.execSafetyResetArm r s
  | .safetyParamWrite r => Sys2Proof.Machine.execSafetyParamWrite r s
  | .safetyCommission r => Sys2Proof.Machine.execSafetyCommission r s
  | .meterRead r => Sys2Proof.Machine.execMeterRead r s
  | .sessionRead r => Sys2Proof.Machine.execSessionRead r s
  | .meterInfo r => Sys2Proof.Machine.execMeterInfo r s
  | .pairStatus r => Sys2Proof.Machine.execPairStatus r s
  | .pairHandover r => Sys2Proof.Machine.execPairHandover r s
  | .clockStatus r => Sys2Proof.Machine.execClockStatus r s
  | .pwmResume r => Sys2Proof.Machine.execPwmResume r s
  | .adcUrgent r => Sys2Proof.Machine.execAdcUrgent r s
  | .adcStart r => Sys2Proof.Machine.execAdcStart r s
  | .crcConfig r => Sys2Proof.Machine.execCrcConfig r s
  | .crcValueRead r => Sys2Proof.Machine.execCrcValueRead r s
  | .crcValueWrite r => Sys2Proof.Machine.execCrcValueWrite r s
  | .crcFeed r => Sys2Proof.Machine.execCrcFeed r s
  | .traceConfig r => Sys2Proof.Machine.execTraceConfig r s
  | .traceArm r => Sys2Proof.Machine.execTraceArm r s
  | .traceRead r => Sys2Proof.Machine.execTraceRead r s
  | .spiCsFall => Sys2Proof.Machine.execSpiCsFall s
  | .spiCsRise clocked unfinished => Sys2Proof.Machine.execSpiCsRise clocked unfinished s
  | .spiRequest bytes => Sys2Proof.Machine.execSpiRequest bytes s
  | .udpDatagram net ip port bytes checksumOk => Sys2Proof.Machine.execUdpDatagram net ip port bytes checksumOk s
  | .ethernetFrameReceive net bytes fcsOk room => Sys2Proof.Machine.execEthernetFrameReceive net bytes fcsOk room s
  | .netLinkUp net => Sys2Proof.Machine.execNetLinkUp net s
  | .netLinkDown net => Sys2Proof.Machine.execNetLinkDown net s
  | .ptpSync net offset meanDelay => Sys2Proof.Machine.execPtpSync net offset meanDelay s
  | .ptpAnnounce net d => Sys2Proof.Machine.execPtpAnnounce net d s
  | .ptpAnnounceTimeout => Sys2Proof.Machine.execPtpAnnounceTimeout s
  | .ptpHoldoverExpire => Sys2Proof.Machine.execPtpHoldoverExpire s
  | .ptpMessageSend net m => Sys2Proof.Machine.execPtpMessageSend net m s
  | .syntStep => Sys2Proof.Machine.execSyntStep s
  | .netLaunch net handle busy => Sys2Proof.Machine.execNetLaunch net handle busy s
  | .netTxComplete net handle => Sys2Proof.Machine.execNetTxComplete net handle s
  | .netLateDrop net handle => Sys2Proof.Machine.execNetLateDrop net handle s
  | .peerAnnounceSend => Sys2Proof.Machine.execPeerAnnounceSend s
  | .peerAnnouncement net payload => Sys2Proof.Machine.execPeerAnnouncement net payload s
  | .peerLost unit => Sys2Proof.Machine.execPeerLost unit s
  | .commandLinkFrame sh who ok => Sys2Proof.Machine.execCommandLinkFrame sh who ok s
  | .applyTick sh => Sys2Proof.Machine.execApplyTick sh s
  | .tideCrossing e => Sys2Proof.Machine.execTideCrossing e s
  | .eventFrame sh => Sys2Proof.Machine.execEventFrame sh s
  | .tideGateArm e => Sys2Proof.Machine.execTideGateArm e s
  | .busStep => Sys2Proof.Machine.execBusStep s
  | .rtFaultOff => Sys2Proof.Machine.execRtFaultOff s
  | .pjRealignEnd => Sys2Proof.Machine.execPjRealignEnd s
  | .portDcUv p => Sys2Proof.Machine.execPortDcUv p s
  | .bmsOvercurrent p => Sys2Proof.Machine.execBmsOvercurrent p s
  | .bsDeadCheckPass => Sys2Proof.Machine.execBsDeadCheckPass s
  | .bsAnchorLaunch => Sys2Proof.Machine.execBsAnchorLaunch s
  | .bsGateEnable => Sys2Proof.Machine.execBsGateEnable s
  | .bsDone => Sys2Proof.Machine.execBsDone s
  | .bsRampTimeout => Sys2Proof.Machine.execBsRampTimeout s
  | .syncTimeout => Sys2Proof.Machine.execSyncTimeout s
  | .syncCloseFail => Sys2Proof.Machine.execSyncCloseFail s
  | .syncGridLost => Sys2Proof.Machine.execSyncGridLost s
  | .stopRampEnd => Sys2Proof.Machine.execStopRampEnd s
  | .carrierBoundary p => Sys2Proof.Machine.execCarrierBoundary p s
  | .pwmEdge p k rise => Sys2Proof.Machine.execPwmEdge p k rise s
  | .gateTurnOnDelay p k high => Sys2Proof.Machine.execGateTurnOnDelay p k high s
  | .bsRefresh p k => Sys2Proof.Machine.execBsRefresh p k s
  | .gateOffDemand p k src => Sys2Proof.Machine.execGateOffDemand p k src s
  | .samplesArrive p => Sys2Proof.Machine.execSamplesArrive p s
  | .specStepComplete p => Sys2Proof.Machine.execSpecStepComplete p s
  | .recomputeComplete p => Sys2Proof.Machine.execRecomputeComplete p s
  | .commitDeadline p => Sys2Proof.Machine.execCommitDeadline p s
  | .portOcTrip p => Sys2Proof.Machine.execPortOcTrip p s
  | .dlUnlock sh => Sys2Proof.Machine.execDlUnlock sh s
  | .dlLock sh code => Sys2Proof.Machine.execDlLock sh code s
  | .islandPowerGood l => Sys2Proof.Machine.execIslandPowerGood l s
  | .uplinkFrame l streams noise => Sys2Proof.Machine.execUplinkFrame l streams noise s
  | .downlinkFrame l slot noise => Sys2Proof.Machine.execDownlinkFrame l slot noise s
  | .linkFrameTimeout l up => Sys2Proof.Machine.execLinkFrameTimeout l up s
  | .edgeChannelTransition p g on => Sys2Proof.Machine.execEdgeChannelTransition p g on s
  | .interlockHoldEnd p g => Sys2Proof.Machine.execInterlockHoldEnd p g s
  | .gateSupplyLockout p k supply locks => Sys2Proof.Machine.execGateSupplyLockout p k supply locks s
  | .gateSupplyRelease p k supply => Sys2Proof.Machine.execGateSupplyRelease p k supply s
  | .desatConfirm p g => Sys2Proof.Machine.execDesatConfirm p g s
  | .fastShortConfirm p g => Sys2Proof.Machine.execFastShortConfirm p g s
  | .softTurnOffEnd p g => Sys2Proof.Machine.execSoftTurnOffEnd p g s
  | .permitWordReceive l chan noise => Sys2Proof.Machine.execPermitWordReceive l chan noise s
  | .permitAbsent l => Sys2Proof.Machine.execPermitAbsent l s
  | .coilHwDrop p => Sys2Proof.Machine.execCoilHwDrop p s
  | .coilPullEnd p n => Sys2Proof.Machine.execCoilPullEnd p n s
  | .contactorFbChange p n closed => Sys2Proof.Machine.execContactorFbChange p n closed s
  | .contactorFault p n => Sys2Proof.Machine.execContactorFault p n s
  | .latchBlocked p => Sys2Proof.Machine.execLatchBlocked p s
  | .latchTimeout p => Sys2Proof.Machine.execLatchTimeout p s
  | .diagItemDone p reading => Sys2Proof.Machine.execDiagItemDone p reading s
  | .canFrameReceive p f => Sys2Proof.Machine.execCanFrameReceive p f s
  | .canFrameTransmit p => Sys2Proof.Machine.execCanFrameTransmit p s
  | .canBusOff p => Sys2Proof.Machine.execCanBusOff p s
  | .canBusOffRecovery p => Sys2Proof.Machine.execCanBusOffRecovery p s
  | .adcTimer => Sys2Proof.Machine.execAdcTimer s
  | .adcSeqStart => Sys2Proof.Machine.execAdcSeqStart s
  | .adcEntryDone codes => Sys2Proof.Machine.execAdcEntryDone codes s
  | .adcUrgentDone codes => Sys2Proof.Machine.execAdcUrgentDone codes s
  | .adcParamApply => Sys2Proof.Machine.execAdcParamApply s
  | .loopClassReport p cls => Sys2Proof.Machine.execLoopClassReport p cls s
  | .plugDebounceEnd p => Sys2Proof.Machine.execPlugDebounceEnd p s
  | .bmsSignalStale p sig => Sys2Proof.Machine.execBmsSignalStale p sig s
  | .bmsLost p => Sys2Proof.Machine.execBmsLost p s
  | .prechgTimeout p => Sys2Proof.Machine.execPrechgTimeout p s
  | .atZeroTimeout p => Sys2Proof.Machine.execAtZeroTimeout p s
  | .releaseDischargeFail p => Sys2Proof.Machine.execReleaseDischargeFail p s
  | .metrologySubframe p noise => Sys2Proof.Machine.execMetrologySubframe p noise s
  | .metrologySlotLost p => Sys2Proof.Machine.execMetrologySlotLost p s
  | .sessionOpen p => Sys2Proof.Machine.execSessionOpen p s
  | .sessionClose p => Sys2Proof.Machine.execSessionClose p s
  | .sessionGapClose p => Sys2Proof.Machine.execSessionGapClose p s
  | .meterMramWrite => Sys2Proof.Machine.execMeterMramWrite s
  | .meterFinalWrite => Sys2Proof.Machine.execMeterFinalWrite s
  | .cartridgePowerUp => Sys2Proof.Machine.execCartridgePowerUp s
  | .cartridgeReadRequest write addr crcOk => Sys2Proof.Machine.execCartridgeReadRequest write addr crcOk s
  | .coverOpen => Sys2Proof.Machine.execCoverOpen s
  | .coverClose => Sys2Proof.Machine.execCoverClose s
  | .toolAuthenticate ok => Sys2Proof.Machine.execToolAuthenticate ok s
  | .toolRead => Sys2Proof.Machine.execToolRead s
  | .toolPulseSelect p isExport => Sys2Proof.Machine.execToolPulseSelect p isExport s
  | .verifyCommit v => Sys2Proof.Machine.execVerifyCommit v s
  | .meterAbsent => Sys2Proof.Machine.execMeterAbsent s
  | .meterPresent => Sys2Proof.Machine.execMeterPresent s
  | .safetyInputDemand n chan mv us => Sys2Proof.Machine.execSafetyInputDemand n chan mv us s
  | .siTestPulse tp inLimits reads => Sys2Proof.Machine.execSiTestPulse tp inLimits reads s
  | .siDisc n => Sys2Proof.Machine.execSiDisc n s
  | .bwLaneCompare differ => Sys2Proof.Machine.execBwLaneCompare differ s
  | .returnWord l noise => Sys2Proof.Machine.execReturnWord l noise s
  | .returnLost l => Sys2Proof.Machine.execReturnLost l s
  | .requestWord from_ crcOk => Sys2Proof.Machine.execRequestWord from_ crcOk s
  | .hlLost => Sys2Proof.Machine.execHlLost s
  | .chDisc p => Sys2Proof.Machine.execChDisc p s
  | .permitPatternWord => Sys2Proof.Machine.execPermitPatternWord s
  | .sdcFb p => Sys2Proof.Machine.execSdcFb p s
  | .soTestPulse m side readOff => Sys2Proof.Machine.execSoTestPulse m side readOff s
  | .resetPressBegin => Sys2Proof.Machine.execResetPressBegin s
  | .resetRelease => Sys2Proof.Machine.execResetRelease s
  | .resetPressTooLong => Sys2Proof.Machine.execResetPressTooLong s
  | .resetStuck => Sys2Proof.Machine.execResetStuck s
  | .resetArmExpire => Sys2Proof.Machine.execResetArmExpire s
  | .commissionTimeout => Sys2Proof.Machine.execCommissionTimeout s
  | .safetyMessage net bytes => Sys2Proof.Machine.execSafetyMessage net bytes s
  | .safetyMsgPendingExpire j => Sys2Proof.Machine.execSafetyMsgPendingExpire j s
  | .safetyMsgTimeout j => Sys2Proof.Machine.execSafetyMsgTimeout j s
  | .safetyMsgSend => Sys2Proof.Machine.execSafetyMsgSend s
  | .bwSelftestEnd ok => Sys2Proof.Machine.execBwSelftestEnd ok s
  | .mirrorSlotLaunch => Sys2Proof.Machine.execMirrorSlotLaunch s
  | .mirrorFrame good => Sys2Proof.Machine.execMirrorFrame good s
  | .mirrorAck good => Sys2Proof.Machine.execMirrorAck good s
  | .mirrorSlotEnd => Sys2Proof.Machine.execMirrorSlotEnd s
  | .configAckTimeout => Sys2Proof.Machine.execConfigAckTimeout s
  | .headlandFailure cause => Sys2Proof.Machine.execHeadlandFailure cause s
  | .tokenClaim h => Sys2Proof.Machine.execTokenClaim h s
  | .takeoverComplete => Sys2Proof.Machine.execTakeoverComplete s
  | .handoverBoundary => Sys2Proof.Machine.execHandoverBoundary s
  | .resyncComplete => Sys2Proof.Machine.execResyncComplete s
  | .resyncRetry => Sys2Proof.Machine.execResyncRetry s
  | .lateClaim => Sys2Proof.Machine.execLateClaim s
  | .shoreRefresh from_ crcOk => Sys2Proof.Machine.execShoreRefresh from_ crcOk s
  | .fieldInputChange n level => Sys2Proof.Machine.execFieldInputChange n level s
  | .fieldOverload n => Sys2Proof.Machine.execFieldOverload n s
  | .fieldTestPulse n readback abandoned => Sys2Proof.Machine.execFieldTestPulse n readback abandoned s
  | .fieldSuspect n => Sys2Proof.Machine.execFieldSuspect n s
  | .fieldStuckOn n => Sys2Proof.Machine.execFieldStuckOn n s
  | .fieldSag vfield => Sys2Proof.Machine.execFieldSag vfield s
  | .fieldRestored vfield => Sys2Proof.Machine.execFieldRestored vfield s
  | .shoreSilence => Sys2Proof.Machine.execShoreSilence s
  | .hostSilence => Sys2Proof.Machine.execHostSilence s
  | .panelTouch k => Sys2Proof.Machine.execPanelTouch k s
  | .padHoldTimeout k => Sys2Proof.Machine.execPadHoldTimeout k s
  | .wakeRuleFire r => Sys2Proof.Machine.execWakeRuleFire r s
  | .wakeNLow => Sys2Proof.Machine.execWakeNLow s
  | .pllLossOfLock die => Sys2Proof.Machine.execPllLossOfLock die s
  | .referenceLoss => Sys2Proof.Machine.execReferenceLoss s
  | .referenceReturn => Sys2Proof.Machine.execReferenceReturn s
  | .pllRelock die phaseErr => Sys2Proof.Machine.execPllRelock die phaseErr s
  | .vsupLockout vsup => Sys2Proof.Machine.execVsupLockout vsup s
  | .vsupLow vsup => Sys2Proof.Machine.execVsupLow vsup s
  | .vsupOk vsup => Sys2Proof.Machine.execVsupOk vsup s
  | .iinLimit iin => Sys2Proof.Machine.execIinLimit iin s
  | .gateBudgetUpdate vsup tbase => Sys2Proof.Machine.execGateBudgetUpdate vsup tbase s
  | .islandSupplyFault l => Sys2Proof.Machine.execIslandSupplyFault l s
  | .islandSupplyRetry l => Sys2Proof.Machine.execIslandSupplyRetry l s
  | .crcSnoopFrame u bytes => Sys2Proof.Machine.execCrcSnoopFrame u bytes s
  | .crcRegionPass u bytes => Sys2Proof.Machine.execCrcRegionPass u bytes s
  | .powerUp cause vsup => Sys2Proof.Machine.execPowerUp cause vsup s
  | .headlandSelftestEnd h failed => Sys2Proof.Machine.execHeadlandSelftestEnd h failed s
  | .bootEnd => Sys2Proof.Machine.execBootEnd s
  | .resetN => Sys2Proof.Machine.execResetN s
  | .sramEccError where_ => Sys2Proof.Machine.execSramEccError where_ s
  | .opSecTick => Sys2Proof.Machine.execOpSecTick s
  | .logRecordWrite => Sys2Proof.Machine.execLogRecordWrite s
  | .capTriggerFire => Sys2Proof.Machine.execCapTriggerFire s
  | .capMaskHit m => Sys2Proof.Machine.execCapMaskHit m s
  | .capDone => Sys2Proof.Machine.execCapDone s
  | .capRearm => Sys2Proof.Machine.execCapRearm s
  | .streamDatagram => Sys2Proof.Machine.execStreamDatagram s
  | .traceTrigger => Sys2Proof.Machine.execTraceTrigger s
  | .capSampleInstant => Sys2Proof.Machine.execCapSampleInstant s
  | .bsPulseEnd p k => Sys2Proof.Machine.execBsPulseEnd p k s
  | .counterEdge n => Sys2Proof.Machine.execCounterEdge n s
  | .fieldStuckClear n => Sys2Proof.Machine.execFieldStuckClear n s
  | .fieldSidePowerUp vfield => Sys2Proof.Machine.execFieldSidePowerUp vfield s
  | .padRelease k => Sys2Proof.Machine.execPadRelease k s
  | .iinLimitRelease iin => Sys2Proof.Machine.execIinLimitRelease iin s
  | .islandPowerFail l => Sys2Proof.Machine.execIslandPowerFail l s
  | .udpReassemblyTimeout net src ident => Sys2Proof.Machine.execUdpReassemblyTimeout net src ident s
  | .bootClaimTimeout => Sys2Proof.Machine.execBootClaimTimeout s
  | .resyncTimeout => Sys2Proof.Machine.execResyncTimeout s
  | .toolLockoutEnd => Sys2Proof.Machine.execToolLockoutEnd s
  | .resetNRelease => Sys2Proof.Machine.execResetNRelease s
  | .safetyInputInactive n chan mv us => Sys2Proof.Machine.execSafetyInputInactive n chan mv us s

end Sys2Proof.Machine
end

