-- ==== Sys2Proof/Machine/Step.lean ====
section
/-! DEFINITION. One step: the command at the front of the queue, or one tick where none waits. -/
namespace Sys2Proof.Machine

/-- One step: the front command on the state with the queue's rest; on an empty queue one tick of the timebase [DESIGN CHOICE,
unsafe: log 1, log 2]. -/
def step (s : State) : Host.Outcome State Fault Refusal :=
  match s.pending with
  | [] => .next s.tick.beginCycle
  | c :: rest => exec c { s with pending := rest }

/-- The state with a command in front of its queue. -/
def State.enqueueFront (s : State) (c : Instr) : State := { s with pending := c :: s.pending }

/-- The state with the command that a table word spells in front; unchanged where the word spells none. [DESIGN CHOICE, safe: log 101] -/
def State.withFetchWord (s : State) (nbits w : Nat) : State :=
  match decodeTableWord nbits w with
  | some c => s.enqueueFront c
  | none => s

end Sys2Proof.Machine
end

