-- ==== Sys2Proof/Safety.lean ====
section
/-! DEFINITION. What counts as a safe state and a safe step, and the terms in which the statements speak of host commands. -/
namespace Sys2Proof.Machine

/-! ### Gates -/

/-- No leg of a generator has both gates on (R190, R202). -/
def Gen.exclusive (g : Gen) : Bool := !(g.h && g.l)
/-- A generator's gates fit its phase: H on only in the high phase, L on only in a low one (R190, R199). -/
def Gen.fits (g : Gen) : Bool := (!g.h || decide (g.phase = .high)) && (!g.l || decide (g.phase = .low ∨ g.phase = .refreshLow))
/-- No leg of a Skerry has both gates on (R218). -/
def Skerry.exclusive (k : Skerry) : Bool := (List.finRange 4).all fun i => !(k.gates[gateH i].on && k.gates[gateL i].on)

/-- A safe state: no leg anywhere has both its gates on. -/
def State.safe (s : State) : Bool := s.pwm.toList.all (fun w => w.legs.toList.all (·.exclusive)) && s.sk.toList.all (·.exclusive)

/-- The invariant behind it: every generator's gates fit its phase, and no Skerry has both gates of a leg on. -/
def State.gatesFit (s : State) : Bool := s.pwm.toList.all (fun w => w.legs.toList.all (·.fits)) && s.sk.toList.all (·.exclusive)

/-- A step that answers a next state. -/
def Steps (s t : State) : Prop := step s = .next t

/-! ### Metering -/

/-- An unpowered cartridge holds in MRAM the registers that it held when its supply ended (R315, R316). -/
def Meter.keepsEnergy (m : Meter) : Prop :=
  m.powered = false → ∀ p : Port, m.mram.energy[p].imp = m.live.energy[p].imp ∧ m.mram.energy[p].exp = m.live.energy[p].exp

/-! ### Host commands -/

/-- A transport answers, the request's turn has come, and the device state lets its opcode execute (R374, R441, R442, R455). -/
abbrev State.hears (s : State) (op : Nat) (r : Req) : Prop :=
  s.answers = true ∧ s.inTurn op r = true ∧ (s.dev = .boot → bootOpcode op = true)

/-- The command has executed: taken from its class queue, its effect done, its reply formed (R436, R441, R442). -/
def State.answered (s : State) (op : Nat) (r : Req) (effect : State → State) (payload : State → List Byte) (status : Nat := ST_OK) : State :=
  let b := s.begin_ op r
  ((effect b.1).reply b.2 status (payload b.1)).noteLatency b.2

/-- The command has executed and its reply waits for the standby's acknowledgement (R382). -/
def State.heldBack (s : State) (op : Nat) (r : Req) (effect : State → State) (payload : State → List Byte) : State :=
  let b := s.begin_ op r
  (effect b.1).modHost fun h => { h with awaiting := h.awaiting ++ [{ item := b.2, status := ST_OK, payload := payload b.1, since := (effect b.1).clk.now }] }

/-- Nothing follows from the effect: a command that only reads. -/
def unchanged (s : State) : State := s
/-- An empty payload. -/
def noPayload (_ : State) : List Byte := []

end Sys2Proof.Machine
end

