-- ==== Sys2Proof/Certificates/Slice0/Obligations.lean ====
section
/-! DEFINITION. The statements for the provers. -/
open Sys2Proof Sys2Proof.Machine

/-! ### The queue and the step -/

/-- With a command at the front of the queue, a step is that command's exec on the state with the queue's rest. -/
def Obligations.StepRunsFront : Prop :=
  ∀ (c : Instr) (rest : List Instr) (s : State), s.pending = c :: rest → step s = exec c { s with pending := rest }

/-- Every command answers a next state: the spec gives each an effect, and no operand stops the block. -/
def Obligations.EveryCommandAnswers : Prop :=
  ∀ (c : Instr) (s : State), ∃ t, exec c s = .next t

/-- A step takes the front command and leaves the rest of the queue in its order, whatever the command does; and no command moves the
timebase: only a tick does. -/
def Obligations.QueueInOrder : Prop :=
  ∀ (s t : State), step s = .next t → t.pending = s.pending.tail ∧ t.clk.now = s.clk.now + (if s.pending = [] then 1 else 0)

/-! ### Identity, status, device state -/

/-- NOP, IDENTIFY and GET_STATUS. NOP has no refusal of its own and is queued in the class that it names. GET_STATUS in BOOT: STATE, then
39 bytes of 0. -/
def Obligations.DeviceReadsComplete : Prop :=
  (∀ (s : State) (r : Req),
      (s.hears 0x00 r → exec (.nop r) s = .next (s.answered 0x00 r unchanged (fun _ => r.payload))) ∧
      (s.hears 0x01 r → r.target = 0xFF → r.payload = [] →
        exec (.identify r) s = .next (s.answered 0x01 r unchanged fun u =>
          [0x55, 0x59, 0x34, 0x38, 0x31, 0x32, 0, 0, 0x43, 3, 2] ++ le 1 u.hd.val ++ le 4 Config.moduleSerial ++ be 6 (Config.mac 0) ++
            be 6 (Config.mac 1) ++ le 1 (b2n !u.meter.absent) ++ le 1 u.stateByte ++ zeros 2)) ∧
      (s.hears 0x02 r → r.target = 0xFF → r.payload = [] →
        exec (.getStatus r) s = .next (s.answered 0x02 r (fun u => u.modHost fun h => { h with attnSeen := true }) State.statusReply)) ∧
      (∀ c : Fin 4, r.cls = c.val → s.act.host.queues[c].length < queueRoom c.val →
        ∃ i : QItem, (s.enqueue 0x00 r 0).act.host.queues[c] = s.act.host.queues[c] ++ [i] ∧ i.op = 0x00 ∧ i.req = r)) ∧
  (∀ (s : State), s.dev = .boot → s.statusReply = le 1 s.stateByte ++ zeros 39)

/-- SET_STATE, naming each of the five states it can name, from each state that Table 15.5 accepts. The refusals of SET_STATE, in the
order of R460. -/
def Obligations.SetStateAnswers : Prop :=
  (∀ (s : State) (r : Req), s.hears 0x03 r → r.target = 0xFF →
      (r.payload = [0] → s.dev = .idle → s.anyContactor = false →
        exec (.setStateStandby r) s = .next (s.answered 0x03 r (fun u => u.modHost fun h => { h with after := some .standby }) noPayload)) ∧
      (r.payload = [2] → s.dev = .service → s.bw.commissionWait = false →
        exec (.setStateIdle r) s =
          .next (s.answered 0x03 r (fun u => (u.setDev .idle 0).modBw fun b => { b with pending := b.params }) noPayload)) ∧
      (r.payload = [3] → s.dev = .sync →
        exec (.setStateReady r) s = .next (s.answered 0x03 r (fun u =>
          ((u.disarm).allGatesOff.modSeq fun q => { q with ramp := .none, liveEntry := false }).setDev .ready 0) noPayload)) ∧
      (r.payload = [3] → s.dev = .forming → s.firm.seq.ramp.falling = false →
        exec (.setStateReady r) s = .next (s.answered 0x03 r (fun u =>
          u.startRamp (if s.firm.sub = .gridParallel then .stopParallel else .stopIslanded)) noPayload)) ∧
      (r.payload = [4] → s.dev = .ready → s.gridUp = true → s.gridLinkDown = false → s.brkClosed = false →
        exec (.setStateSync r) s = .next (s.answered 0x03 r (fun u =>
          ((u.setDev .sync 0).modSeq fun q => { q with ramp := .none, gridLow := none, armed := false, closeAt := none }).enableAll) noPayload)) ∧
      (r.payload = [4] → s.dev = .ready → s.gridUp = true → s.gridLinkDown = false → s.brkClosed = true →
        exec (.setStateSync r) s = .next (s.answered 0x03 r State.toSync noPayload)) ∧
      (r.payload = [8] → s.dev = .idle → s.anyContactor = false →
        exec (.setStateService r) s = .next (s.answered 0x03 r (fun u => u.setDev .service 0) noPayload)) ∧
      (r.payload = [2] → s.dev = .idle → exec (.setStateIdle r) s = .next (s.answered 0x03 r unchanged noPayload)) ∧
      (r.payload = [3] → s.dev = .ready → exec (.setStateReady r) s = .next (s.answered 0x03 r unchanged noPayload)) ∧
      (r.payload = [4] → s.dev = .sync → exec (.setStateSync r) s = .next (s.answered 0x03 r unchanged noPayload)) ∧
      (r.payload = [8] → s.dev = .service → exec (.setStateService r) s = .next (s.answered 0x03 r unchanged noPayload))) ∧
  (∀ (s : State) (r : Req), s.hears 0x03 r → s.dev ≠ .boot → r.target = 0xFF →
      (r.payload.length ≠ 1 → exec (.setStateSync r) s = .next (s.answered 0x03 r unchanged noPayload ST_BAD_LENGTH)) ∧
      (r.payload.length = 1 → 8 < by8 r.payload 0 ∨ by8 r.payload 0 = 1 ∨ by8 r.payload 0 = 6 ∨ by8 r.payload 0 = 7 →
        exec (.setStateSync r) s = .next (s.answered 0x03 r unchanged noPayload ST_BAD_PARAMETER)) ∧
      (r.payload = [5] → exec (.setStateSync r) s = .next (s.answered 0x03 r unchanged noPayload ST_STATE_FORBIDS)) ∧
      (r.payload = [4] → s.dev = .lockout → exec (.setStateSync r) s = .next (s.answered 0x03 r unchanged noPayload ST_LOCKED_OUT)) ∧
      (r.payload = [4] → s.dev = .tripped → exec (.setStateSync r) s = .next (s.answered 0x03 r unchanged noPayload ST_TRIP_ACTIVE)) ∧
      (r.payload = [2] → s.dev = .service → s.bw.commissionWait = true →
        exec (.setStateIdle r) s = .next (s.answered 0x03 r unchanged noPayload ST_BUSY)) ∧
      (r.payload = [4] → s.dev = .idle → exec (.setStateSync r) s = .next (s.answered 0x03 r unchanged noPayload ST_STATE_FORBIDS)) ∧
      (r.payload = [4] → s.dev = .ready → s.gridUp = false →
        exec (.setStateSync r) s = .next (s.answered 0x03 r unchanged noPayload ST_STATE_FORBIDS)))

/-- RESET by its KIND, and what follows the reply: the module reset, the reset of the other Headland, STANDBY. RESET_N, RESET_N_RELEASE,
SRAM_ECC_ERROR. -/
def Obligations.ResetsComplete : Prop :=
  (∀ (s : State) (r : Req),
      (s.hears 0x0E r → s.dev ≠ .boot → r.target = 0xFF → r.payload = [1, 0xFE] → s.dev.runs = false → s.anyContactor = false →
        exec (.moduleReset r) s = .next (s.answered 0x0E r (fun u => u.modHost fun h => { h with after := some .moduleReset }) noPayload)) ∧
      (s.hears 0x0E r → s.dev ≠ .boot → r.target = 0xFF → r.payload = [2, 0xFD] → s.act.pair.handover = false →
        exec (.headlandReset r) s = .next (s.answered 0x0E r (fun u => u.modHost fun h => { h with after := some .peerReset }) noPayload)) ∧
      (s.act.host.after = some .standby → s.dev = .idle →
        ∃ t, exec .enterStandby s = .next t ∧ t.dev = .standby ∧ t.bw.token = none ∧ t.pwm = Vector.replicate 12 {} ∧
          t.sk = Vector.replicate 13 {} ∧ t.clocks = Clocks.acquiring s.clk.now ∧ t.rs = [] ∧ t.heart.lockedOut = s.heart.lockedOut ∧
          t.lookout.rules = s.lookout.rules) ∧
      (s.act.host.after = some .moduleReset → s.dev.runs = false → s.dev ≠ .standby →
        ∃ t, exec .moduleResetBegin s = .next t ∧ t.dev = .boot ∧ t.resetKind = 3 ∧ t.bw.token = none ∧ t.pwm = Vector.replicate 12 {} ∧
          t.sk = Vector.replicate 13 {} ∧ t.bw.lockout = s.bw.lockout ∧ t.lookout = s.lookout ∧ t.meter = s.meter) ∧
      (s.act.host.after = some .peerReset →
        exec .peerHeadlandReset s = .next ((s.failHeadland s.peer).modHost fun h => { h with after := none }))) ∧
  (∀ (s : State) (k : Shoal),
      (s.dev ≠ .standby → s.heart.resetN = false → ∃ t, exec .resetN s = .next t ∧ t.dev = .boot ∧ t.resetKind = 2 ∧ t.heart.resetN = true ∧
        t.bw.token = none ∧ t.bw.lockout = s.bw.lockout ∧ t.bw.params = s.bw.params ∧ t.pwm = Vector.replicate 12 {} ∧
        t.sk = Vector.replicate 13 {} ∧ t.meter = s.meter ∧ t.lookout = s.lookout) ∧
      (s.dev = .standby → exec .resetN s = .next s) ∧
      (exec .resetNRelease s =
        .next (if s.heart.resetN then { s.modHeart fun x => { x with resetN := false } with bootAt := s.clk.now } else s)) ∧
      (s.active = true → exec (.sramEccError .engineData) s = .next (s.failHeadland s.hd) ∧
        exec (.sramEccError .netBuffers) s = .next (s.failHeadland s.hd)) ∧
      (s.awake = true → ∃ t, exec (.sramEccError .strandline) s = .next t ∧ t.act.cap.state = .idle ∧ t.act.cap.eccDiscard = true ∧
        t.act.cap.sets = [] ∧ t.act.cap.cfg = s.act.cap.cfg ∧ t.firm = s.firm) ∧
      (s.awake = true → ∃ t, exec (.sramEccError (.shoal k)) s = .next t ∧
        (∀ p : Port, shoalOf p = k → .shoalEcc ∈ (t.life p).trips ∧ (t.life p).gateEn = false ∧ t.pwm[p].trip = true) ∧
        (∀ p : Port, shoalOf p ≠ k → t.life p = s.life p ∧ t.pwm[p] = s.pwm[p])) ∧
      (s.awake = false → exec (.sramEccError (.shoal k)) s = .next s) ∧
      (s.dev ≠ .standby →
        exec (.sramEccError (.corrected (.shoal k))) s =
          .next (s.modShoal k fun h => { h with eccCorrected := min (2 ^ 32 - 1) (h.eccCorrected + 1) }) ∧
        exec (.sramEccError (.corrected .gauge)) s =
          .next (s.modMeter fun m => { m with eccCorrected := min (2 ^ 32 - 1) (m.eccCorrected + 1) }) ∧
        ∀ h : Hd, exec (.sramEccError (.corrected (.headland h))) s =
          .next (s.modHl h fun a => { a with eccCorrected := min (2 ^ 32 - 1) (a.eccCorrected + 1) })))

/-! ### Parameters -/

/-- READ_PARAM, WRITE_PARAM, COMMIT_PARAMS, PARAM_DISCARD: well-formed requests complete. A commit that FORMING, the carrier rate or a
cross-check refuses leaves the sets as they are, with the status of R448. -/
def Obligations.ParamsComplete : Prop :=
  (∀ (s : State) (r : Req), s.dev ≠ .boot → s.answers = true → r.target = 0xFF →
      (∀ ns : List Nat, r.payload.length = 4 + 2 * ns.length → by8 r.payload 0 = ns.length → by8 r.payload 1 ≤ 1 → by8 r.payload 2 = 0 →
        by8 r.payload 3 = 0 → 0 < ns.length → ns.length ≤ 64 → ((List.range ns.length).map fun i => rd r.payload (4 + 2 * i) 2) = ns →
        (∀ n ∈ ns, (paramRow n).isSome) → (s.meter.absent = true → ∀ n ∈ ns, n / 0x1000 ≠ 0xA) →
        s.inTurn 0x10 r = true → exec (.readParam r) s = .next (s.answered 0x10 r unchanged fun u =>
          ns.flatMap fun n => le 2 n ++ le 2 0 ++ le 4 (paramToWire (u.readParam (decide (by8 r.payload 1 = 1)) n)))) ∧
      (∀ count : Nat, r.payload.length = 4 + 8 * count → by8 r.payload 0 = count → rd r.payload 1 3 = 0 → 0 < count → count ≤ 64 →
        firstFailing 0 [] (paramEntries r.payload count) = none →
        s.inTurn 0x11 r = true → exec (.writeParam r) s = .next (s.heldBack 0x11 r (fun u => u.modCfg fun c =>
          { c with pendingSet := { c.pendingSet with params := c.pendingSet.params.setAll (paramEntries r.payload count) } }) noPayload)) ∧
      (r.payload = [0] → s.act.cfg.pendingSet = s.act.cfg.committed →
        s.inTurn 0x12 r = true → exec (.commitParams r) s = .next (s.answered 0x12 r unchanged fun u => le 4 u.act.pair.hashSelf)) ∧
      (r.payload = [0] → s.act.cfg.pendingSet ≠ s.act.cfg.committed → s.commitRefusal s.act.cfg.committed s.act.cfg.pendingSet = none →
        s.inTurn 0x12 r = true → exec (.commitParams r) s = .next (s.heldBack 0x12 r (fun u => u.putInForce s.act.cfg.committed s.act.cfg.pendingSet) fun u =>
          le 4 (u.putInForce s.act.cfg.committed s.act.cfg.pendingSet).act.pair.hashSelf)) ∧
      (r.payload = [1] →
        s.inTurn 0x12 r = true → exec (.paramDiscard r) s = .next (s.heldBack 0x12 r (fun u => u.modCfg fun c => { c with pendingSet := c.committed }) noPayload))) ∧
  (∀ (s : State) (r : Req) (st : Nat), s.dev ≠ .boot → s.answers = true → r.target = 0xFF → r.payload = [0] →
      s.act.cfg.pendingSet ≠ s.act.cfg.committed → s.commitRefusal s.act.cfg.committed s.act.cfg.pendingSet = some st →
      s.inTurn 0x12 r = true → exec (.commitParams r) s = .next (s.answered 0x12 r unchanged noPayload st) ∧
        (s.dev = .forming ∧ s.act.cfg.committed.lockedDiffers s.act.cfg.pendingSet = true → st = ST_STATE_FORBIDS))

/-- ENVELOPE_LOAD, ENVELOPE_READ, BMS_MAP_LOAD, BMS_MAP_READ. -/
def Obligations.TablesComplete : Prop :=
  ∀ (s : State) (r : Req), s.dev ≠ .boot → s.answers = true →
    (∀ (n : Fin 4) (e : Envelope), r.target = 0xFF → by8 r.payload 0 = n.val →
      e = { enable := by8 r.payload 1, confirm := by8 r.payload 3, vertices := verticesOf r.payload (by8 r.payload 2) } → 2 ≤ by8 r.payload 2 → by8 r.payload 2 ≤ 64 →
      r.payload.length = 4 + 8 * by8 r.payload 2 → 1 ≤ by8 r.payload 3 → by8 r.payload 3 ≤ 16 → by8 r.payload 1 < 4 →
      timesOk (e.vertices.map (·.1)) = true → (∀ v ∈ e.vertices, envelopeValueOk n.val v.2 = true) →
      s.inTurn 0x48 r = true → exec (.envelopeLoad r) s = .next (s.heldBack 0x48 r (fun u => u.modCfg fun c =>
        { c with pendingSet := { c.pendingSet with env := vset c.pendingSet.env n e } }) noPayload)) ∧
    (∀ n : Fin 4, r.target = 0xFF → by8 r.payload 0 = n.val → r.payload.length = 2 → by8 r.payload 1 ≤ 1 →
      s.inTurn 0x49 r = true → exec (.envelopeRead r) s = .next (s.answered 0x49 r unchanged fun u =>
        ((if by8 r.payload 1 = 1 then u.act.cfg.pendingSet else u.act.cfg.committed).env[n]).bytes n.val)) ∧
    (∀ (p : Port) (m : List MapEntry), r.target = p.val →
      ((List.range (by8 r.payload 0)).map fun i => mapEntryOf ((r.payload.drop (4 + 20 * i)).take 20)) = m →
      r.payload.length = 4 + 20 * by8 r.payload 0 → 0 < by8 r.payload 0 → by8 r.payload 0 ≤ 8 →
      mapReserved r.payload (by8 r.payload 0) m = false → (∀ e ∈ m, e.outOfRange = false ∧ e.tooFar = false) →
      (m.map (·.signal)).eraseDups.length = by8 r.payload 0 → (∀ e ∈ m, ¬(e.timeout = 0 ∧ e.signal ≤ 4)) →
      s.inTurn 0x3A r = true → exec (.bmsMapLoad r) s = .next (s.heldBack 0x3A r (fun u => u.modCfg fun c =>
        { c with pendingSet := { c.pendingSet with maps := vset c.pendingSet.maps p m } }) noPayload)) ∧
    (∀ p : Port, r.target = p.val → r.payload.length = 1 → by8 r.payload 0 ≤ 1 →
      s.inTurn 0x3B r = true → exec (.bmsMapRead r) s = .next (s.answered 0x3B r unchanged fun u =>
        mapBytes (if by8 r.payload 0 = 1 then u.act.cfg.pendingSet else u.act.cfg.committed).maps[p]))

/-! ### Trips by command -/

/-- TRIP of one port or of all, and CLEAR_TRIP of one port or of all. What TRIP does to each port that it names and that no host trip
holds yet: the trip stands, its gates are commanded off, the generators act at once. A port it does not name keeps its life and its
generator. A port trip: it stands, the port's gates are commanded off and its generator is forced off at once, both gates of every leg
low, except where the trip is one the clock or the region's hold causes; no other port's life or generator changes. -/
def Obligations.TripsComplete : Prop :=
  (∀ (s : State) (r : Req), s.dev ≠ .boot → s.answers = true → r.payload = [] →
      (r.target ≤ 0x0B ∨ r.target = 0xFF →
        s.inTurn 0x40 r = true → exec (.trip r) s = .next (s.answered 0x40 r (fun u => u.hostTrip r.target) noPayload)) ∧
      (∀ p : Port, r.target = p.val → s.dev ≠ .lockout → (s.begin_ 0x41 r).1.causeStands p = false →
        s.inTurn 0x41 r = true → exec (.clearTrip r) s = .next (s.answered 0x41 r (fun u => ((u.touchPort p).clearPort p).settleTripped) noPayload)) ∧
      (∀ p : Port, r.target = p.val → s.dev ≠ .lockout → (s.begin_ 0x41 r).1.causeStands p = true →
        s.inTurn 0x41 r = true → exec (.clearTrip r) s = .next (s.answered 0x41 r (fun u => u.touchPort p) noPayload ST_TRIP_ACTIVE)) ∧
      (∀ p : Port, r.target = p.val → s.dev = .lockout →
        s.inTurn 0x41 r = true → exec (.clearTrip r) s = .next (s.answered 0x41 r unchanged noPayload ST_LOCKED_OUT))) ∧
  (∀ (s : State) (p q : Port), (s.life p).trips.contains .host = false →
      ((s.hostTrip p.val).life p).trips = (s.life p).trips ++ [.host] ∧ ((s.hostTrip p.val).life p).gateEn = false ∧
        (s.hostTrip p.val).pwm[p].trip = true ∧ (s.hostTrip p.val).pwm[p].legs.toList.all (fun g => !g.h && !g.l) = true ∧
        (q ≠ p → (s.hostTrip p.val).life q = s.life q ∧ (s.hostTrip p.val).pwm[q] = s.pwm[q])) ∧
  (∀ (s : State) (p q : Port) (t : Trip),
      t ∈ ((s.tripPort p t).life p).trips ∧ (∀ x ∈ (s.life p).trips, x ∈ ((s.tripPort p t).life p).trips) ∧
      ((s.tripPort p t).life p).gateEn = false ∧
      (t ≠ .regionHold → t ≠ .clockStop → (s.tripPort p t).pwm[p].trip = true ∧ (s.tripPort p t).pwm[p].empty = true ∧
        ∀ k : Leg, (s.tripPort p t).pwm[p].legs[k].h = false ∧ (s.tripPort p t).pwm[p].legs[k].l = false ∧
          (s.tripPort p t).pwm[p].legs[k].duty = 0) ∧
      (q ≠ p → (s.tripPort p t).life q = s.life q ∧ (s.tripPort p t).pwm[q] = s.pwm[q]) ∧ (s.tripPort p t).sk = s.sk ∧
      (s.tripPort p t).bw = s.bw ∧ (s.tripPort p t).firm.tripEvent = t.event ∧
      (∀ h : Hd, ∃ tr, (s.tripPort p t).hl[h] = { s.hl[h] with trace := tr }) ∧ (s.tripPort p t).hl[s.peer] = s.hl[s.peer])

/-- TRIP, CLEAR_TRIP, APPLY_TICK, BUS_STEP complete. A trip by command stands at each port that it names; a clear whose cause has ended
leaves the port without a trip and without a limit latch; the Shoal takes the fields that are due, and without any stays as it is; the bus
step runs where the dies and the engine run, and notes its tick. -/
def Obligations.TripTickStepComplete : Prop :=
  (∀ (s : State) (r : Req) (p : Port), s.hears 0x40 r → r.payload = [] → r.target = p.val ∨ r.target = 0xFF →
      ∃ t, exec (.trip r) s = .next t ∧ .host ∈ (t.life p).trips ∧ t.sk = s.sk ∧ t.meter = s.meter) ∧
  (∀ (s : State) (r : Req) (p : Port), s.hears 0x41 r → s.dev ≠ .lockout → r.payload = [] → r.target = p.val →
      (s.begin_ 0x41 r).1.causeStands p = false →
      ∃ t, exec (.clearTrip r) s = .next t ∧ (t.life p).trips = [] ∧ t.bw.ports[linkOf p].latch = Vector.replicate 3 false ∧
        t.meter = s.meter) ∧
  (∀ (s : State) (k : Shoal),
      (∀ (f : StepFields) (rest : List StepFields), s.shoals[k].fields = f :: rest → fieldsDue s.shoals[k].tick f.angle.applyTick = true →
        ∃ t, exec (.applyTick k) s = .next t ∧ t.shoals[k].fields = rest ∧ t.shoals[k].inc = s.clampInc f.angle.incNew ∧
          t.shoals[k].tick = s.shoals[k].tick) ∧
      (s.shoals[k].fields = [] → ∃ t, exec (.applyTick k) s = .next t ∧ t.shoals[k] = s.shoals[k] ∧ t.sk = s.sk)) ∧
  (∀ s : State,
      (s.awake = true → s.act.engine.run = true → ∃ t, exec .busStep s = .next t ∧ t.firm.busAt = s.clk.now) ∧
      (s.awake = false ∨ s.act.engine.run = false → ∃ t, exec .busStep s = .next t ∧ t = s))

/-! ### Dispatch, black start, closing -/

/-- SET_DISPATCH, BLACK_START in both its forms, SYNC_CLOSE. -/
def Obligations.DispatchComplete : Prop :=
  ∀ (s : State) (r : Req), s.answers = true → r.target = 0xFF →
    (s.dev.live = true → r.payload.length = 16 → by8 r.payload 14 < 16 → by8 r.payload 15 ≤ 2 → rd r.payload 12 2 ≤ 10000 →
      (by8 r.payload 15 ≠ 0 → s.parN P_PCC_FB_IN = 0xFF) →
      (bit (by8 r.payload 14) 0 = true → (ofTwos 32 (rd r.payload 0 4)).natAbs ≤ 1000 * s.parN P_S_RATED) →
      (bit (by8 r.payload 14) 1 = true → (ofTwos 32 (rd r.payload 4 4)).natAbs ≤ 1000 * s.parN P_S_RATED) →
      (bit (by8 r.payload 14) 2 = true → (ofTwos 16 (rd r.payload 8 2)).natAbs ≤ 500) →
      (bit (by8 r.payload 14) 3 = true → (ofTwos 16 (rd r.payload 10 2)).natAbs ≤ 1000) →
      s.inTurn 0x20 r = true → exec (.setDispatch r) s = .next (s.answered 0x20 r (fun u => u.modFirm fun m =>
        { m with dispatch := { m.dispatch with
            next := m.dispatch.next ++ [(if bit (by8 r.payload 14) 0 then some (ofTwos 32 (rd r.payload 0 4)) else none,
              if bit (by8 r.payload 14) 1 then some (ofTwos 32 (rd r.payload 4 4)) else none,
              if bit (by8 r.payload 14) 2 then some (ofTwos 16 (rd r.payload 8 2)) else none,
              if bit (by8 r.payload 14) 3 then some (ofTwos 16 (rd r.payload 10 2)) else none, rd r.payload 12 2)]
            hint := if by8 r.payload 15 = 0 then m.dispatch.hint else by8 r.payload 15 } }) noPayload)) ∧
    (s.dev = .ready → s.gridLinkDown = false → r.payload = [] → s.firm.seq.bsPending = false →
      s.inTurn 0x24 r = true → exec (.blackStart r) s = .next (s.answered 0x24 r (fun u => u.modSeq fun q =>
        { q with bsPending := true, bsGate := none, bsFrom := s.clk.now, bsPassed := false, bsAnchored := false }) noPayload)) ∧
    (s.dev = .ready → s.gridLinkDown = false → r.payload.length = 8 → rd r.payload 4 4 ≤ 999999999 → s.act.ptp.valid = true →
      (∀ p ∈ s.act.net.peers.toList, p.known = true → p.diff[1] = false ∧ p.diff[2] = false) → s.firm.seq.bsPending = false →
      s.inTurn 0x24 r = true → exec (.blackStart r) s = .next (s.answered 0x24 r (fun u => u.modSeq fun q =>
        { q with
          bsPending := true, bsGate := some (rd r.payload 0 4 * 1000000000 + rd r.payload 4 4), bsFrom := s.clk.now
          bsPassed := false, bsAnchored := false }) noPayload)) ∧
    (s.dev = .sync → r.payload = [] → s.parN P_BRK_CLOSE_OUT ≠ 0xFF → s.parN P_BRK_FB_IN ≠ 0xFF → s.firm.seq.armed = false →
      s.inTurn 0x25 r = true → exec (.syncClose r) s = .next (s.answered 0x25 r (fun u => u.modSeq fun q =>
        { q with armed := true, armedAt := s.clk.now, closeAt := none }) noPayload))

/-! ### Tide table, time, networks -/

/-- TIDE_SET, TIDE_GET, TIME_GET, PEER_READ, NET_SEND, NET_TX_STATUS. -/
def Obligations.TideNetComplete : Prop :=
  ∀ (s : State) (r : Req), s.answers = true → s.dev ≠ .boot → r.target = 0xFF →
    (∀ e : TideEntry, r.payload.length = 20 → by8 r.payload 0 ≤ 127 → 8 ≤ by8 r.payload 0 % 32 → rd r.payload 1 3 = 0 →
      tideOf (rd r.payload 4 4) (rd r.payload 8 4) (rd r.payload 12 4) (rd r.payload 16 4) = e → e.bad (by8 r.payload 0) = false →
      ∀ i : Fin 128, i.val = by8 r.payload 0 →
      s.inTurn 0x28 r = true → exec (.tideSet r) s = .next (s.heldBack 0x28 r (fun u =>
        (u.modCfg fun c => { c with tides := vset c.tides i (if e.enable then e else {}) }).modShoal (tideShoal i) fun h =>
          { h with tideWait := h.tideWait ++ [((tideComp i).val, if e.enable then e else {})] }) noPayload)) ∧
    (∀ i : Fin 128, r.payload.length = 1 → by8 r.payload 0 = i.val →
      s.inTurn 0x29 r = true → exec (.tideGet r) s = .next (s.answered 0x29 r unchanged fun u => words u.shoals[tideShoal i].tides[tideComp i].words)) ∧
    (r.payload = [] → s.inTurn 0x70 r = true → exec (.timeGet r) s = .next (s.answered 0x70 r unchanged fun u => u.ownWords (wordRange 0x0A00 0x0A20))) ∧
    (r.payload = [] → s.inTurn 0x71 r = true → exec (.peerRead r) s = .next (s.answered 0x71 r unchanged fun u => u.ownWords (wordRange 0x0B00 0x0CFC))) ∧
    (∀ (nets cls flags handle sec ns : Nat) (frame : List Byte),
      r.payload = le 1 nets ++ le 1 cls ++ le 1 flags ++ zeros 1 ++ le 4 sec ++ le 4 ns ++ le 2 frame.length ++ le 2 handle ++ frame →
      1 ≤ nets → nets ≤ 3 → cls ≤ 5 → flags ≤ 3 → handle < 65536 → sec < 2 ^ 32 → ns < 2 ^ 32 → 14 ≤ frame.length → frame.length ≤ 1514 →
      etherRefused (rdBe frame 12 2) = false → (∀ t ∈ s.act.net.tx, t.isOf handle = false) →
      (∀ n : Net, bit nets n.val = true → (s.act.net.tx.filter fun t => decide (t.status[n] = 1)).length < 32) →
      (bit flags 0 = true → ns ≤ 999999999 ∧ s.act.ptp.valid = true ∧
        sec * 1000000000 + ns ≤ s.act.ptp.sec * 1000000000 + s.act.ptp.subNs + 10000000000) →
      s.inTurn 0x74 r = true → ∃ (u : State) (f : TxFrame), exec (.netSend r) s = .next (s.answered 0x74 r (fun _ => u) noPayload) ∧
        u.act.net.tx = s.act.net.tx ++ [f] ∧ f.handle = handle ∧ f.cls = cls ∧ f.bytes = frame ∧
        f.launch = (if bit flags 0 then some (sec * 1000000000 + ns) else none) ∧
        f.status = #v[b2n (bit nets 0), b2n (bit nets 1)] ∧
        (f.prp = if s.par P_PRP_EN = 1 ∧ nets = 3 ∧ bit flags 1 = false then some s.act.net.prpSeq else none)) ∧
    (r.payload.length = 2 →
      s.inTurn 0x75 r = true → exec (.netTxStatus r) s = .next (s.answered 0x75 r unchanged fun u =>
        le 2 (rd r.payload 0 2) ++ match (u.act.net.tx ++ u.act.net.txDone).find? (·.isOf (rd r.payload 0 2)) with
          | some f => le 1 f.status[0] ++ le 1 f.status[1] ++ words [f.stamp[0].1, f.stamp[0].2, f.stamp[1].1, f.stamp[1].2]
          | none => le 1 6 ++ le 1 6 ++ zeros 16)) ∧
    (r.payload.length ≠ 1 → s.inTurn 0x29 r = true → exec (.tideGet r) s = .next (s.answered 0x29 r unchanged noPayload ST_BAD_LENGTH)) ∧
    (r.payload.length = 1 → 127 < by8 r.payload 0 → s.inTurn 0x29 r = true → exec (.tideGet r) s = .next (s.answered 0x29 r unchanged noPayload ST_OUT_OF_RANGE))

/-! ### Field I/O, panel, wake rules -/

/-- FIELD_STATUS, FIELD_OUT, FIELD_COUNT_READ, PANEL_STATUS, WAKE_RULES_LOAD, WAKE_RULES_READ. -/
def Obligations.FieldCommandsComplete : Prop :=
  ∀ (s : State) (r : Req), s.answers = true → s.dev ≠ .boot → r.target = 0xFF →
    (r.payload = [] → s.inTurn 0x80 r = true → exec (.fieldStatus r) s = .next (s.answered 0x80 r unchanged fun u =>
      le 2 (vmask u.shore.ins (·.level)) ++ le 2 (if u.shore.inValid then 0xFFFF else 0) ++ le 2 (vmask u.shore.outs (·.demand)) ++
        le 2 (vmask u.shore.outs (·.readback)) ++ le 2 (vmask u.shore.outs (·.stuckOn)) ++ le 2 (vmask u.shore.outs (·.unexpected)) ++
        le 2 u.shore.vfield ++ le 1 (wordOf [(0, 1, b2n u.shore.ok), (1, 1, b2n u.shore.hostSilent), (2, 1, b2n u.shore.silent)]) ++ zeros 1)) ∧
    (r.payload.length = 4 → rd r.payload 0 2 ≠ 0 → (∀ n < 16, bit (rd r.payload 0 2) n = true → s.owned n = false) → s.shore.powered = true →
      s.inTurn 0x81 r = true → exec (.fieldOut r) s = .next (s.answered 0x81 r (fun u => u.modShore fun h => h.fieldOut (rd r.payload 0 2) (rd r.payload 2 2)) noPayload)) ∧
    (r.payload.length = 1 → by8 r.payload 0 < 16 → s.shore.powered = true →
      s.inTurn 0x82 r = true → exec (.fieldCountRead r) s = .next (s.answered 0x82 r (fun u => u.modShore fun h =>
        { h with counts := Vector.ofFn fun n => if bit (by8 r.payload 0) n.val then 0 else h.counts[n] }) fun u => words u.shore.counts.toList)) ∧
    (r.payload = [] → s.inTurn 0x84 r = true → exec (.panelStatus r) s = .next (s.answered 0x84 r unchanged fun u =>
      le 1 (vmask u.lookout.pads id) ++ le 1 u.lookout.lastWake ++ zeros 2 ++ le 4 u.lookout.wakes)) ∧
    (∀ rules : List WakeRule, r.payload = le 1 rules.length ++ zeros 3 ++ rules.flatMap (·.bytes) → 1 ≤ rules.length → rules.length ≤ 16 →
      (∀ x ∈ rules, x.defined = true ∧ x.filter ≤ 10000) →
      s.inTurn 0x88 r = true → exec (.wakeRulesLoad r) s = .next (s.heldBack 0x88 r (fun u => u.modCfg fun c => { c with wake := some rules }) noPayload)) ∧
    (r.payload = [] → s.inTurn 0x89 r = true → exec (.wakeRulesRead r) s = .next (s.answered 0x89 r unchanged fun u =>
      le 1 u.lookout.rules.length ++ zeros 3 ++ u.lookout.rules.flatMap (·.bytes)))

/-! ### Clocks and check-value units -/

/-- CLOCK_STATUS, PWM_RESUME, CRC_CONFIG, CRC_VALUE (read and write), CRC_FEED. -/
def Obligations.ClockCrcComplete : Prop :=
  ∀ (s : State) (r : Req), s.answers = true → s.dev ≠ .boot → r.target = 0xFF →
    (r.payload = [] → s.inTurn 0xC0 r = true → exec (.clockStatus r) s = .next (s.answered 0xC0 r unchanged fun u =>
      le 1 u.clocks.pllState ++ le 1 u.clocks.bypass ++ zeros 2 ++ le 4 (sf 32 u.act.ptp.rate) ++ le 4 u.clocks.unlocks ++
        le 4 u.clocks.lastUnlock)) ∧
    (r.payload = [] → s.clocks.bypass = 0 → s.clocks.pllState = 0 →
      s.inTurn 0xC1 r = true → exec (.pwmResume r) s = .next (s.answered 0xC1 r (if s.clocks.stop.toList.any id then State.pwmResume else unchanged) noPayload)) ∧
    (∀ i : Fin 8, r.payload.length = 24 → by8 r.payload 0 = i.val → 8 ≤ by8 r.payload 1 → by8 r.payload 1 ≤ 32 →
      snoopOut (by8 r.payload 3) (rd r.payload 16 4) (rd r.payload 20 4) = false → by8 r.payload 3 ≤ 6 → by8 r.payload 2 < 16 →
      rd r.payload 4 4 < 2 ^ by8 r.payload 1 → rd r.payload 8 4 < 2 ^ by8 r.payload 1 → rd r.payload 12 4 < 2 ^ by8 r.payload 1 →
      (by8 r.payload 3 = 6 → rd r.payload 20 4 ≠ 0) → foldBad (by8 r.payload 3) (by8 r.payload 2) = false →
      s.inTurn 0xC8 r = true → exec (.crcConfig r) s = .next (s.answered 0xC8 r (fun u => u.modAct fun a => { a with crc := vmod a.crc i fun x =>
        { x with width := by8 r.payload 1, flags := by8 r.payload 2, snoop := by8 r.payload 3, poly := rd r.payload 4 4
                 init := rd r.payload 8 4, xorout := rd r.payload 12 4, reg := rd r.payload 8 4, arg := rd r.payload 16 4
                 len := rd r.payload 20 4, first := none } }) noPayload)) ∧
    (∀ i : Fin 8, r.payload.length = 6 → by8 r.payload 0 = i.val → by8 r.payload 1 = 0 →
      s.inTurn 0xC9 r = true → exec (.crcValueRead r) s = .next (s.answered 0xC9 r unchanged fun u => le 4 u.act.crc[i].reg ++ le 4 u.act.crc[i].out)) ∧
    (∀ i : Fin 8, r.payload.length = 6 → by8 r.payload 0 = i.val → by8 r.payload 1 = 1 → s.act.crc[i].snoop = 0 →
      ∀ x : CrcUnit, x = { s.act.crc[i] with reg := rd r.payload 2 4 % 2 ^ s.act.crc[i].width } →
      s.inTurn 0xC9 r = true → exec (.crcValueWrite r) s = .next (s.answered 0xC9 r (fun u => u.modAct fun a =>
        { a with crc := vset a.crc i { x with result := x.out } }) fun _ => le 4 x.reg ++ le 4 x.out)) ∧
    (∀ i : Fin 8, 5 ≤ r.payload.length → by8 r.payload 0 = i.val → rd r.payload 1 3 = 0 → s.act.crc[i].snoop = 0 →
      s.inTurn 0xCA r = true → exec (.crcFeed r) s = .next (s.answered 0xCA r (fun u => u.modAct fun a =>
        { a with crc := vmod a.crc i fun x => x.feed (r.payload.drop 4) }) fun u =>
          le 4 (u.act.crc[i].feed (r.payload.drop 4)).reg ++ le 4 (u.act.crc[i].feed (r.payload.drop 4)).out)) ∧
    (∀ (x : CrcUnit) (bs : List Byte), (x.feed bs).reg = crcRun x.width x.poly (bit x.flags 0) x.reg bs ∧
      (x.feed bs).result = crcOut x.width (bit x.flags 1) x.xorout (x.feed bs).reg ∧ (x.feed bs).flags = x.flags)

/-! ### Safety and metrology commands -/

/-- SAFETY_STATUS, SAFETY_RESET_ARM, SAFETY_PARAM_WRITE, SAFETY_COMMISSION. METER_READ, SESSION_READ, METER_INFO, with a cartridge present
and powered. -/
def Obligations.SafetyMeterCommandsComplete : Prop :=
  (∀ (s : State) (r : Req), s.answers = true → s.dev ≠ .boot → r.target = 0xFF →
      (r.payload = [] → s.inTurn 0x90 r = true → exec (.safetyStatus r) s = .next (s.answered 0x90 r unchanged fun u => words ((wordRange 0x000 0x058).map u.bwWord))) ∧
      (r.payload = [] → s.bw.lockout = true ∨ s.bw.anyPortLockout = true → s.bw.resettable s.clk.now true = true →
        s.inTurn 0x91 r = true → exec (.safetyResetArm r) s = .next (s.answered 0x91 r (fun u =>
          (u.modBw fun x => { x with resetArmed := true, armedAt := u.clk.now }).raise 0x93 0x30) noPayload)) ∧
      (∀ count : Nat, s.dev = .service → r.payload.length = 4 + 8 * count → by8 r.payload 0 = count → 0 < count → count ≤ 32 →
        rd r.payload 1 3 = 0 → (∀ e ∈ paramEntries r.payload count, e.2.1 = 0 ∧ safetyNumbers.contains e.1 = true ∧
          paramAdmits e.1 (paramOfWire e.1 e.2.2) = true) → s.bw.commissionWait = false →
        s.inTurn 0x92 r = true → exec (.safetyParamWrite r) s = .next (s.answered 0x92 r (fun u => u.modBw fun x =>
          { x with pending := x.pending.setAll (paramEntries r.payload count) }) noPayload)) ∧
      (s.dev = .service → r.payload.length = 4 → s.bw.commissionWait = false → rd r.payload 0 4 = safetyCrcOf s.bw.pending →
        safetyChecks s.bw.pending s.act.cfg.committed.params = true →
        s.inTurn 0x93 r = true → exec (.safetyCommission r) s = .next (s.answered 0x93 r (fun u => u.modBw fun x =>
          { x with commissionWait := true, commissionAt := s.clk.now }) noPayload ST_PENDING))) ∧
  (∀ (s : State) (r : Req), s.answers = true → s.dev ≠ .boot → s.meter.absent = false → s.meter.powered = true →
      (∀ p : Port, r.target = p.val → r.payload.length = 4 →
        s.inTurn 0xA0 r = true → exec (.meterRead r) s = .next (s.answered 0xA0 r State.noteSeal fun u =>
          u.meter.readPayload [p] (rd r.payload 0 4) ++ u.ptpStamp)) ∧
      (r.target = 0xFF → r.payload.length = 4 →
        s.inTurn 0xA0 r = true → exec (.meterRead r) s = .next (s.answered 0xA0 r State.noteSeal fun u =>
          u.meter.readPayload (List.finRange 12) (rd r.payload 0 4) ++ u.ptpStamp)) ∧
      (r.target ≤ 0x0B ∨ r.target = 0xFF → r.payload.length = 9 → by8 r.payload 8 ≠ 0 →
        s.inTurn 0xA1 r = true → exec (.sessionRead r) s = .next (s.answered 0xA1 r unchanged fun u =>
          u.meter.sessionPayload (if r.target = 0xFF then none else some r.target) (rd r.payload 0 4) (rd r.payload 4 4) (by8 r.payload 8) ++
            u.ptpStamp)) ∧
      (r.target = 0xFF → r.payload = [] →
        s.inTurn 0xA2 r = true → exec (.meterInfo r) s = .next (s.answered 0xA2 r State.noteSeal fun u => words ((wordRange 0x000 0x02C).map u.meter.word))) ∧
      (s.meter.key = none → s.meter.keyIdOut = 0 ∧ ∀ bs : List Byte, s.meter.tag bs = zeros 32) ∧
      (words ((wordRange 0x000 0x02C).map s.meter.word)).length = 48)

/-! ### Capture -/

/-- CAP_CONFIG, CAP_TRIGGER, CAP_MASK_LOAD, CAP_STREAM: both Headlands take the new configuration. CAP_ARM, CAP_FORCE, CAP_STATUS,
CAP_READ, CAP_MEAS_READ. -/
def Obligations.CaptureCommandsComplete : Prop :=
  (∀ (s : State) (r : Req), s.answers = true → s.dev ≠ .boot → r.target = 0xFF → s.act.cap.busy = false →
      (∀ sel : List Nat, r.payload.length = 140 → ((List.range 32).map fun c => rd r.payload (12 + 4 * c) 4) = sel → sel.all selOk = true →
        sel.all selInRange = true → rd r.payload 4 4 < rd r.payload 0 4 → 1 ≤ rd r.payload 8 2 → rd r.payload 8 2 ≤ 4096 → by8 r.payload 10 ≤ 2 →
        by8 r.payload 11 = 0 →
        s.inTurn 0x50 r = true → exec (.capConfig r) s = .next (s.heldBack 0x50 r (fun u => u.modCapCfg fun c =>
          { c with cfg := { c.cfg with length := rd r.payload 0 4, pre := rd r.payload 4 4, div := rd r.payload 8 2, mode := by8 r.payload 10
                                       sel := sel } }) noPayload)) ∧
      (r.payload.length = 16 → by8 r.payload 0 ≤ 4 → by8 r.payload 2 ≤ 2 → by8 r.payload 3 = 0 → (by8 r.payload 0 = 0 → by8 r.payload 1 ≤ 31) →
        (by8 r.payload 0 = 1 ∨ by8 r.payload 0 = 2 → by8 r.payload 1 ≤ 7) →
        s.inTurn 0x51 r = true → exec (.capTrigger r) s = .next (s.heldBack 0x51 r (fun u => u.modCapCfg fun c =>
          { c with cfg := { c.cfg with source := by8 r.payload 0, arg := by8 r.payload 1, edge := by8 r.payload 2
                                       level := ofTwos 32 (rd r.payload 4 4), hyst := rd r.payload 8 4, holdoff := rd r.payload 12 4 } }) noPayload)) ∧
      (∀ (i : Fin 4) (m : CapMask), m = ⟨by8 r.payload 1, bit (by8 r.payload 3) 0, bit (by8 r.payload 3) 1, verticesOf r.payload (by8 r.payload 2)⟩ →
        by8 r.payload 0 = i.val → by8 r.payload 1 ≤ 31 → 2 ≤ by8 r.payload 2 → by8 r.payload 2 ≤ 64 → by8 r.payload 3 ≤ 3 →
        r.payload.length = 4 + 8 * by8 r.payload 2 → timesOk ((verticesOf r.payload (by8 r.payload 2)).map (·.1)) = true →
        s.inTurn 0x52 r = true → exec (.capMaskLoad r) s = .next (s.heldBack 0x52 r (fun u => u.modCapCfg fun c =>
          { c with masks := vset c.masks i (some m) }) noPayload)) ∧
      (r.payload.length = 12 → 1 ≤ by8 r.payload 0 → by8 r.payload 0 ≤ 3 → by8 r.payload 1 ≤ 5 → rdBe r.payload 4 4 ≠ 0 →
        s.inTurn 0x58 r = true → exec (.capStream r) s = .next (s.heldBack 0x58 r (fun u => u.modCapCfg fun c =>
          { c with stream := some ⟨by8 r.payload 0, by8 r.payload 1, rd r.payload 2 2, rd r.payload 4 4, rd r.payload 8 4⟩ }) noPayload))) ∧
  (∀ (s : State) (r : Req) (c : Cap), s.answers = true → s.dev ≠ .boot → r.target = 0xFF → s.act.cap = c →
      (r.payload = [] → c.cfg.enabled ≠ [] → (c.cfg.source = 0 → c.cfg.arg ∈ c.cfg.enabled) →
        (c.cfg.source = 2 → ∀ (i : Fin 4) (m : CapMask), c.cfg.arg = i.val → c.masks[i] = some m → m.channel ∈ c.cfg.enabled) →
        c.cfg.length * c.cfg.enabled.length * 4 ≤ 6291456 →
        (c.cfg.mode = 2 → ∃ d, c.stream = some d ∧ ∀ n : Net, bit d.nets n.val = true → s.ipOf n ≠ 0) → c.state ≠ .triggered → c.state ≠ .streaming →
        s.inTurn 0x53 r = true → exec (.capArm r) s = .next (s.answered 0x53 r (fun u => u.modCap (·.arm u.ptpNow u.clk.now)) noPayload)) ∧
      (r.payload = [] → c.state = .armed → c.fire = none → c.due = none → c.evaluates s.ptpNow = true →
        s.inTurn 0x54 r = true → exec (.capForce r) s = .next (s.answered 0x54 r (fun u => u.modCap fun c => { c with fire := some ⟨s.ptpNow, true, false⟩ }) noPayload)) ∧
      (r.payload = [] → s.inTurn 0x55 r = true → exec (.capStatus r) s = .next (s.answered 0x55 r unchanged fun _ =>
        le 1 c.state.code ++ le 1 (wordOf [(0, 1, b2n c.maskStop), (1, 1, b2n c.overflow), (2, 1, b2n c.forced)]) ++ le 1 c.maskHit ++ zeros 1 ++
          le 4 c.recordNo ++ le 4 c.sets.length ++ le 4 c.trig.1 ++ le 4 c.trig.2.1 ++ le 2 c.trig.2.2 ++ zeros 2)) ∧
      (∀ ch start asked : Nat, r.payload = le 1 ch ++ [0] ++ le 2 asked ++ le 4 start → ch ∈ c.recordCfg.enabled → ch ≤ 31 → 1 ≤ asked → asked < 65536 →
        start < c.recordCfg.length → start < 2 ^ 32 → c.state = .done →
        s.inTurn 0x56 r = true → exec (.capRead r) s = .next (s.answered 0x56 r unchanged fun _ =>
          let xs := ((c.asRecorded.channelOf ch).drop start).take (min asked 1022)
          le 2 xs.length ++ zeros 2 ++ xs.flatMap fun x => le 4 x.2.word)) ∧
      (∀ ch : Nat, r.payload = le 1 ch → ch ∈ c.recordCfg.enabled → ch ≤ 31 → c.state = .done →
        s.inTurn 0x57 r = true → exec (.capMeasRead r) s = .next (s.answered 0x57 r unchanged fun _ =>
          (c.meas.getD ch (measure [])).flatMap fun v => le 4 (toTwos 32 v))))

/-! ### Ring log -/

/-- LOG_FREEZE, LOG_UNFREEZE, LOG_WINDOW, LOG_CURSOR. OP_SEC_TICK and LOG_RECORD_WRITE: the oldest event becomes the record with the next
number, or is dropped by the rate of its code; LOG_RESUMED comes first after an unfreeze. -/
def Obligations.RingLogComplete : Prop :=
  (∀ (s : State) (r : Req), s.answers = true → s.dev ≠ .boot → r.target = 0xFF →
      (r.payload = [] → s.inTurn 0x60 r = true → exec (.logFreeze r) s =
        .next (s.answered 0x60 r (fun u => u.modLog fun l => { l with frozen := true, post := none }) noPayload)) ∧
      (r.payload = [] → s.act.log.frozen = true → s.inTurn 0x63 r = true → exec (.logUnfreeze r) s =
        .next (s.answered 0x63 r (fun u => u.modLog fun l => { l with frozen := false, post := none, resume := true }) noPayload)) ∧
      (r.payload.length = 6 → rd r.payload 4 2 ≠ 0 → ∀ rs : List LogRecord,
        rs = (s.act.log.records.filter fun x => decide (rd r.payload 0 4 ≤ x.number)).take (min 16 (rd r.payload 4 2)) →
        s.inTurn 0x61 r = true → exec (.logWindow r) s = .next (s.answered 0x61 r unchanged fun u =>
          le 2 rs.length ++ zeros 2 ++ le 4 u.act.log.oldest ++ le 4 u.act.log.newest ++ rs.flatMap (·.bytes))) ∧
      (r.payload.length = 4 → rd r.payload 0 4 ≤ s.act.log.newest + 1 →
        s.inTurn 0x62 r = true → exec (.logCursor r) s = .next (s.heldBack 0x62 r (fun u => u.modLog fun l => { l with cursor := max (rd r.payload 0 4) l.oldest })
          fun u => le 4 (max (rd r.payload 0 4) u.act.log.oldest)))) ∧
  (∀ (s : State),
      (s.dev ≠ .standby → s.act.log.opAt + 400000000 ≤ s.clk.now → ∃ t, exec .opSecTick s = .next t ∧
        ∀ h : Hd, t.hl[h].log.opSec = (s.hl[h].log.opSec + 1) % 2 ^ 32 ∧ t.hl[h].log.opAt = s.clk.now ∧
          t.hl[h].log.written = [] ∧ t.hl[h].log.records = s.hl[h].log.records) ∧
      (∀ (e : Event) (rest : List Event), s.dev ≠ .standby → s.act.pair.role = .active → s.act.log.resume = false →
        s.act.log.queue = e :: rest → countOf s.act.log.written e.code < s.parN (P_LOG_CTRL e.code) / 256 →
        ∃ t r, exec .logRecordWrite s = .next t ∧ t.act.log.queue = rest ∧ t.act.log.newest = s.act.log.newest + 1 + s.act.log.gap ∧
          r ∈ t.act.log.records ∧ r.number = s.act.log.newest + 1 + s.act.log.gap ∧ r.writer = s.hd ∧ r.event.code = e.code ∧
          r.event.arg0 = e.arg0 ∧ r.event.arg1 = e.arg1 ∧ r.event.tick = e.tick ∧
          t.act.log.records.length ≤ max 32768 s.act.log.records.length) ∧
      (∀ (e : Event) (rest : List Event), s.dev ≠ .standby → s.act.pair.role = .active → s.act.log.resume = false →
        s.act.log.queue = e :: rest → s.parN (P_LOG_CTRL e.code) / 256 ≤ countOf s.act.log.written e.code →
        ∃ t, exec .logRecordWrite s = .next t ∧ t.act.log.queue = rest ∧ t.act.log.records = s.act.log.records ∧
          t.act.log.newest = s.act.log.newest ∧ t.act.log.rateDrops = satInc 32 s.act.log.rateDrops) ∧
      (s.dev ≠ .standby → s.act.pair.role = .active → s.act.log.resume = true → ∃ t r, exec .logRecordWrite s = .next t ∧
        t.act.log.queue = s.act.log.queue ∧ r ∈ t.act.log.records ∧ r.event.code = 0x60 ∧ r.event.arg0 = s.act.log.frozenDrops ∧
        t.act.log.resume = false ∧ t.act.log.frozenDrops = 0) ∧
      (s.act.pair.role ≠ .active → exec .logRecordWrite s = .next s) ∧
      (∀ (l : Log) (r0 r : LogRecord) (rest : List LogRecord), l.records = r0 :: rest → l.records.length = 32768 →
        (l.push r).records = rest ++ [r]) ∧
      (∀ l : Log, l.records = [] → l.newest = 0 → l.oldest = 1) ∧ ({} : Log).newest = 0)

/-! ### Battery ports by command -/

/-- PORT_ADMIT from CHARGED and from the states before it, PORT_RELEASE, GATE_DIAG, PACK_CAN_SEND, PACK_CAN_READ. What PORT_ADMIT does in
LOCKOUT, TRIPPED and SERVICE, and PORT_RELEASE of an empty port: the refusals of their rules. A device command with a TARGET that Table
14.2 lists and the command does not take is refused with BAD_PARAMETER, any other TARGET but its own with OUT_OF_RANGE, and nothing of its
effect happens; a state that does not answer keeps everything. -/
def Obligations.PortCommandsComplete : Prop :=
  (∀ (s : State) (r : Req) (p : Port), s.answers = true → r.target = p.val →
      (s.dev = .idle ∨ s.dev.live = true → r.payload = [] → (s.life p).life = .charged → (s.life p).relReq = false → s.requiredUnmapped p = false →
        s.inTurn 0x30 r = true → exec (.portAdmit r) s = .next (s.answered 0x30 r (fun u => u.admitPort p) noPayload)) ∧
      (s.dev = .idle ∨ s.dev.live = true → r.payload = [] → (s.life p).life = .admitted → (s.life p).relReq = false → s.requiredUnmapped p = false →
        s.inTurn 0x30 r = true → exec (.portAdmit r) s = .next (s.answered 0x30 r unchanged noPayload)) ∧
      (s.dev = .idle ∨ s.dev.live = true → r.payload = [] → (s.life p).life ∈ [.plugged, .checking, .waiting, .precharging] →
        (s.life p).relReq = false → s.requiredUnmapped p = false →
        s.inTurn 0x30 r = true → exec (.portAdmit r) s =
          .next (s.answered 0x30 r (fun u => u.modLife p fun l => { l with admitPending := true }) noPayload ST_PENDING)) ∧
      (s.dev ≠ .boot → s.dev ≠ .lockout → r.payload = [] → (s.life p).life ≠ .empty → s.lastAble p = false →
        s.inTurn 0x31 r = true → exec (.portRelease r) s = .next (s.answered 0x31 r (fun u => match (s.life p).life with
          | .discharging => u
          | .released => u.relatch p
          | _ => u.requestRelease p) noPayload)) ∧
      (s.dev ≠ .boot → r.payload.length = 1 → 1 ≤ by8 r.payload 0 → by8 r.payload 0 ≤ 15 → (s.life p).admitted = false →
        s.sk[linkOf p].gateEn = false → s.anyClosed p = false → s.sk[linkOf p].diag.state ≠ 1 →
        s.inTurn 0x44 r = true → exec (.gateDiag r) s = .next (s.answered 0x44 r (fun u => u.startDiag p (by8 r.payload 0)) noPayload ST_PENDING)) ∧
      (∀ (id : Nat) (data : List Byte), s.dev ≠ .boot → r.payload = le 4 id ++ le 1 data.length ++ data → id < 2 ^ 32 →
        canLengthOk (bit id 30) data.length = true → s.sk[linkOf p].canTx.length < 8 → s.sk[linkOf p].busOffHeld = false →
        s.inTurn 0x38 r = true → exec (.packCanSend r) s = .next (s.answered 0x38 r (fun u => u.modSk (linkOf p) fun k =>
          { k with canTx := k.canTx ++ [{ ide := bit id 31, fdf := bit id 30, brs := bit id 29, id := id % 2 ^ 29, data := data }] }) noPayload)) ∧
      (s.dev ≠ .boot → r.payload.length = 1 → by8 r.payload 0 ≠ 0 → ∀ rs : List RelayRec,
        rs = s.act.relays[p].ring.take (min 16 (by8 r.payload 0)) →
        s.inTurn 0x39 r = true → exec (.packCanRead r) s = .next (s.answered 0x39 r (fun u => u.modAct fun a =>
          { a with relays := vmod a.relays p fun x => { x with ring := x.ring.drop (min 16 (by8 r.payload 0)), lost := 0 } }) fun _ =>
            le 1 rs.length ++ le 2 s.act.relays[p].lost ++ rs.flatMap (·.bytes)))) ∧
  (∀ (s : State) (r : Req) (p : Port), s.answers = true → r.target = p.val → r.payload = [] →
      (s.dev = .service → s.inTurn 0x30 r = true → exec (.portAdmit r) s = .next (s.answered 0x30 r unchanged noPayload ST_STATE_FORBIDS)) ∧
      (s.dev = .tripped → s.inTurn 0x30 r = true → exec (.portAdmit r) s = .next (s.answered 0x30 r unchanged noPayload ST_TRIP_ACTIVE)) ∧
      (s.dev = .lockout → s.inTurn 0x30 r = true → exec (.portAdmit r) s = .next (s.answered 0x30 r unchanged noPayload ST_LOCKED_OUT)) ∧
      (s.dev ≠ .boot → (s.life p).life = .empty →
        s.inTurn 0x31 r = true → exec (.portRelease r) s = .next (s.answered 0x31 r unchanged noPayload ST_STATE_FORBIDS))) ∧
  (∀ (s : State) (r : Req) (x : Instr × Nat),
      x ∈ [(.identify r, 0x01), (.getStatus r, 0x02), (.setStateStandby r, 0x03), (.setStateIdle r, 0x03), (.setStateReady r, 0x03),
        (.setStateSync r, 0x03), (.setStateService r, 0x03), (.moduleReset r, 0x0E), (.headlandReset r, 0x0E), (.readParam r, 0x10),
        (.commitParams r, 0x12), (.paramDiscard r, 0x12), (.readReg r, 0x18), (.writeReg r, 0x19), (.setDispatch r, 0x20), (.blackStart r, 0x24),
        (.syncClose r, 0x25), (.tideSet r, 0x28), (.tideGet r, 0x29), (.envelopeLoad r, 0x48), (.envelopeRead r, 0x49)] →
      (s.hears x.2 r → targetKnown r.target = true → r.target ≠ 0xFF → exec x.1 s = .next (s.answered x.2 r unchanged noPayload ST_BAD_PARAMETER)) ∧
      (s.hears x.2 r → targetKnown r.target = false → exec x.1 s = .next (s.answered x.2 r unchanged noPayload ST_OUT_OF_RANGE)) ∧
      (s.answers = false → exec x.1 s = .next s))

/-! ### Registers, trace, converter, pair -/

/-- READ_REG, WRITE_REG, TRACE_CONFIG, TRACE_ARM, TRACE_READ. A write of a register clears exactly the write-1-to-clear bits that MASK and
VALUE both select and that were not set within the same cycle, here at Lookout's RULE_FIRED and Heartwood's island faults; a word of a sealed block is refused. -/
def Obligations.RegistersTraceComplete : Prop :=
  (∀ (s : State) (r : Req), s.answers = true → r.target = 0xFF →
      (∀ (addr count base size : Nat), r.payload = le 4 addr ++ le 2 count ++ zeros 2 → addr < 2 ^ 32 → count < 65536 → 1 ≤ count → addr % 4 = 0 →
        blockOf addr = some (base, size) → s.inPeerBlock addr = false → addr < 0x400000 → s.inTurn 0x18 r = true →
        ∃ t : State, exec (.readReg r) s = .next t ∧
          t = s.answered 0x18 r (fun u => (u.readWords addr (min (min count 1022) ((base + size - addr) / 4))).1) fun u =>
            le 2 (min (min count 1022) ((base + size - addr) / 4)) ++ zeros 2 ++
              words (u.readWords addr (min (min count 1022) ((base + size - addr) / 4))).2) ∧
      (∀ (addr mask value base size : Nat), r.payload = le 4 addr ++ le 4 mask ++ le 4 value → s.dev ≠ .boot → addr < 2 ^ 32 → mask < 2 ^ 32 → value < 2 ^ 32 →
        addr % 4 = 0 → blockOf addr = some (base, size) → ¬(0x300000 ≤ addr ∧ addr < 0x310000) → addr < 0x400000 → s.inPeerBlock addr = false →
        s.inTurn 0x19 r = true → exec (.writeReg r) s = .next (s.answered 0x19 r (fun u => u.writeWord addr mask value) noPayload)) ∧
      (∀ sel : List Nat, s.dev ≠ .boot → s.act.trace.state ≠ .armed → s.act.trace.state ≠ .triggered → r.payload.length = 40 →
        ((List.range 16).map fun c => rd r.payload (8 + 2 * c) 2) = sel → sel.all traceSelOk = true → by8 r.payload 0 ≤ 1 →
        (by8 r.payload 0 = 0 → by8 r.payload 1 ≤ 0xB) → 1 ≤ rd r.payload 2 2 → rd r.payload 2 2 ≤ 256 → rd r.payload 4 2 ≤ 8191 → by8 r.payload 6 ≤ 5 →
        by8 r.payload 7 ≤ (if by8 r.payload 6 = 1 ∨ by8 r.payload 6 = 5 then 7 else if by8 r.payload 6 = 0 then 255 else 11) →
        s.inTurn 0xCC r = true → exec (.traceConfig r) s = .next (s.answered 0xCC r (fun u => u.modTrace fun _ =>
          { pace := by8 r.payload 0, pacePort := by8 r.payload 1, div := rd r.payload 2 2, pre := rd r.payload 4 2, trig := by8 r.payload 6
            trigArg := by8 r.payload 7, sel := sel }) noPayload)) ∧
      (s.dev ≠ .boot → r.payload = [] → s.act.trace.sel.any selOn = true →
        s.inTurn 0xCD r = true → exec (.traceArm r) s = .next (s.answered 0xCD r (fun u => u.modTrace fun t => { t with state := .armed, words := [], fire := false, hit := false })
          noPayload)) ∧
      (∀ ch start count : Nat, r.payload = le 1 ch ++ le 2 start ++ le 2 count → s.dev ≠ .boot → ch ≤ 15 → start ≤ 8191 → 1 ≤ count → count < 65536 →
        selOn (s.act.trace.sel.getD ch 0) = true → s.act.trace.state = .done →
        s.inTurn 0xCE r = true → exec (.traceRead r) s = .next (s.answered 0xCE r unchanged fun u =>
          le 2 (min (min count 1022) (8192 - start)) ++ le 2 u.act.trace.pre ++ le 4 u.act.trace.trigStep ++
            ((u.act.trace.words.drop start).take (min (min count 1022) (8192 - start))).flatMap fun w => le 4 (w.getD ch 0))) ∧
      (rd r.payload 0 4 % 4 ≠ 0 →
        (r.payload.length = 8 → s.inTurn 0x18 r = true → exec (.readReg r) s = .next (s.answered 0x18 r unchanged noPayload ST_BAD_PARAMETER)) ∧
        (r.payload.length = 12 → s.dev ≠ .boot → s.inTurn 0x19 r = true → exec (.writeReg r) s = .next (s.answered 0x19 r unchanged noPayload ST_BAD_PARAMETER))) ∧
      (∀ x ∈ addrBlocks, x.1 % 4 = 0 ∧ x.2 % 4 = 0)) ∧
  ((∀ (s : State) (mask value : Nat) (i : Nat), i < 16 →
      bit (s.writeWord 0x320004 mask value).lookout.fired i =
        (bit s.lookout.fired i && !(bit (mask &&& value) i && s.stood 0x320004 i)) ∧
      bit (s.writeWord 0x33000C mask value).heart.isoFault i =
        (decide (i < 13) && bit s.heart.isoFault i && !(bit (mask &&& value) i && s.stood 0x33000C i))) ∧
    (∀ (s : State) (r : Req) (addr mask value : Nat), s.answers = true → s.dev ≠ .boot → r.target = 0xFF →
      r.payload = le 4 addr ++ le 4 mask ++ le 4 value → addr < 2 ^ 32 → addr % 4 = 0 → (blockOf addr).isSome = true →
      0x300000 ≤ addr → addr < 0x310000 → s.inTurn 0x19 r = true → exec (.writeReg r) s = .next (s.answered 0x19 r unchanged noPayload ST_SEALED)))

/-- ADC_URGENT, ADC_START, PAIR_STATUS, PAIR_HANDOVER. ADC_TIMER, ADC_SEQ_START, ADC_ENTRY_DONE, ADC_URGENT_DONE, ADC_PARAM_APPLY. -/
def Obligations.AdcPairComplete : Prop :=
  (∀ (s : State) (r : Req), s.answers = true → s.dev ≠ .boot → r.target = 0xFF →
      (r.payload.length = 2 → by8 r.payload 0 ≤ 23 → by8 r.payload 1 ≤ 3 → s.act.adc.urgent.length < 4 → s.inTurn 0xC4 r = true →
        ∃ t, exec (.adcUrgent r) s = .next t ∧
          t.act.adc.urgent = s.act.adc.urgent ++ [⟨by8 r.payload 0, by8 r.payload 1, (s.begin_ 0xC4 r).2⟩] ∧
          t.act.host.spi0 = s.act.host.spi0 ∧ t.act.host.spiN = s.act.host.spiN ∧ t.act.net = s.act.net ∧ t.firm = s.firm) ∧
      (r.payload.length = 1 → by8 r.payload 0 ≤ 31 → s.act.adc.scheduled = none → s.act.adc.running = false →
        s.inTurn 0xC5 r = true → exec (.adcStart r) s = .next (s.answered 0xC5 r (fun u => u.modAdc fun a => a.trigger 2 (by8 r.payload 0) (u.clk.now + u.adcDelay))
          noPayload)) ∧
      (r.payload = [] → ∀ recent : Bool, recent = s.peerAcked →
        s.inTurn 0xB0 r = true → exec (.pairStatus r) s = .next (s.answered 0xB0 r unchanged fun u =>
          u.ownWords [0x900, 0x904, 0x908, 0x90C, 0x910, 0x914] ++ if recent then words u.act.pair.peerWords else zeros 24)) ∧
      (s.dev ≠ .standby → s.act.pair.peerEligible = true → s.act.pair.handover = false → r.payload = [] →
        s.inTurn 0xB1 r = true → exec (.pairHandover r) s = .next (s.answered 0xB1 r (fun u => u.modPair s.hd fun p => { p with handover := true }) noPayload)) ∧
      ((0xC5, some 1) ∈ opcodes) ∧
      (r.payload.length ≠ 1 → s.inTurn 0xC5 r = true → exec (.adcStart r) s = .next (s.answered 0xC5 r unchanged noPayload ST_BAD_LENGTH)) ∧
      (r.payload.length = 1 → 31 < by8 r.payload 0 → s.inTurn 0xC5 r = true → exec (.adcStart r) s = .next (s.answered 0xC5 r unchanged noPayload ST_OUT_OF_RANGE)) ∧
      (r.payload.length = 1 → by8 r.payload 0 ≤ 31 → s.act.adc.scheduled.isSome = true ∨ s.act.adc.running = true →
        s.inTurn 0xC5 r = true → exec (.adcStart r) s = .next (s.answered 0xC5 r unchanged noPayload ST_BUSY))) ∧
  (∀ (s : State) (codes : List Int),
      (s.awake = true → (s.adcPar P_ADC_TIMER_T).toNat ≠ 0 → s.act.adc.timerAt + 400 * (s.adcPar P_ADC_TIMER_T).toNat ≤ s.clk.now →
        (s.act.adc.running = false → s.act.adc.scheduled = none → exec .adcTimer s = .next (s.modAdc fun a =>
          { a with scheduled := some ((s.adcPar P_ADC_TIMER_ENTRY).toNat, 1), entry := (s.adcPar P_ADC_TIMER_ENTRY).toNat % 32
                   startAt := s.clk.now + s.adcDelay, shifted := false, timerAt := s.clk.now })) ∧
        (s.act.adc.running = true → ∃ t, exec .adcTimer s = .next t ∧ t.act.adc.trigOverrun = true ∧ t.act.adc.timerAt = s.clk.now ∧
          t.act.adc.overruns = satInc 32 s.act.adc.overruns ∧ t.act.adc.scheduled = s.act.adc.scheduled)) ∧
      (∀ x : Nat × Nat, s.awake = true → s.act.adc.scheduled = some x → s.act.adc.startAt ≤ s.clk.now → ∃ t, exec .adcSeqStart s = .next t ∧
        t.act.adc.running = true ∧ t.act.adc.scheduled = none ∧ t.act.adc.entry = x.1 % 32 ∧
        t.act.adc.shifted = decide (s.act.adc.startAt < s.clk.now) ∧ t.act.adc.resuming = !s.act.adc.urgent.isEmpty) ∧
      (∀ (e : Fin 36) (w : Nat), e.val < 32 → s.awake = true → s.act.adc.running = true → s.act.adc.resuming = false → s.act.adc.entry = e.val →
        w = (s.adcPar (P_ADC_SEQ e.val)).toNat → s.act.adc.slotAt + 200 * 2 ^ bitsOf w 14 13 ≤ s.clk.now →
        ∃ t, exec (.adcEntryDone codes) s = .next t ∧ t.act.adc.fresh[e] = true ∧
          t.act.adc.results[e] = s.adcResult (w % 32) (adcSlots (bitsOf w 14 13) codes) s.act.adc.shifted s.act.adc.seqCount ∧
          (∀ i : Fin 36, i ≠ e → t.act.adc.results[i] = s.act.adc.results[i]) ∧
          (bit w 15 = true ∨ e.val = 31 → t.act.adc.running = false ∧ t.act.adc.seqCount = (s.act.adc.seqCount + 1) % 256) ∧
          (bit w 15 = false → e.val < 31 → t.act.adc.running = true ∧ t.act.adc.entry = e.val + 1 ∧
            t.act.adc.seqCount = s.act.adc.seqCount ∧ t.act.adc.resuming = !s.act.adc.urgent.isEmpty)) ∧
      (∀ (u : Urgent) (rest : List Urgent), s.awake = true → s.act.adc.urgent = u :: rest → s.act.adc.slotAt + 200 * 2 ^ u.avg ≤ s.clk.now →
        s.act.adc.running = false ∨ s.act.adc.resuming = true → s.act.adc.scheduled = none ∨ s.clk.now ≤ s.act.adc.startAt →
        ∃ t, exec (.adcUrgentDone codes) s = .next t ∧ t.act.adc.urgent = rest ∧ t.act.adc.urgentNo = (s.act.adc.urgentNo + 1) % 4 ∧
          t.firm = s.firm ∧ t.freeCount = s.freeCount + 1) ∧
      (s.act.adc.running = true → s.act.adc.resuming = false → exec (.adcUrgentDone codes) s = .next s) ∧
      (s.act.adc.urgent = [] → exec (.adcUrgentDone codes) s = .next s) ∧
      (s.act.adc.idle = true → exec .adcParamApply s = .next (s.modAdc fun a => { a with inForce := none })) ∧
      (s.act.adc.idle = false → ∃ t, exec .adcParamApply s = .next t ∧ t.act.adc = s.act.adc))

/-! ### Shared operations: events, trips, the device state -/

/-- An event joins the Ring log's queue with the stamps of its instant; while the log is frozen it is counted and dropped. A device-state
change: STATE_CHANGE with both codes and the cause; into TRIPPED or LOCKOUT every gate command falls and the breaker output clears; the
same state again changes nothing. -/
def Obligations.EventsAndStateChanges : Prop :=
  (∀ (s : State) (code source arg0 arg1 : Nat),
      (s.act.log.frozen = false → ∃ e : Event, (s.raise code source arg0 arg1).act.log.queue = s.act.log.queue ++ [e] ∧
        e.code = code ∧ e.source = source ∧ e.arg0 = arg0 ∧ e.arg1 = arg1 ∧ e.tick = s.act.replica.tick ∧ e.opSec = s.act.log.opSec ∧
        e.pcc = s.act.log.pcc ∧ e.ptpValid = s.act.ptp.valid ∧ (s.act.ptp.valid = false → e.ptpSec = 0 ∧ e.ptpNs = 0)) ∧
      (s.act.log.frozen = true → (s.raise code source arg0 arg1).act.log.queue = s.act.log.queue ∧
        (s.raise code source arg0 arg1).act.log.frozenDrops = satInc 32 s.act.log.frozenDrops) ∧
      s.raise code source arg0 arg1 = { s with hl := (s.raise code source arg0 arg1).hl }) ∧
  (∀ (s : State) (new : DevState) (cause : Nat),
      (s.setDev new cause).dev = new ∧ (s.dev = new → s.setDev new cause = s) ∧
      (s.dev ≠ new → s.act.log.frozen = false → ∃ e ∈ (s.setDev new cause).act.log.queue,
        e.code = 0x02 ∧ e.arg0 = s.dev.code * 256 + new.code ∧ e.arg1 = cause) ∧
      (s.dev ≠ new → new = .tripped ∨ new = .lockout →
        (∀ p : Port, ((s.setDev new cause).life p).gateEn = false) ∧ (s.setDev new cause).firm.seq.brkOut = false ∧
        (s.setDev new cause).firm.seq.armed = false ∧ (s.setDev new cause).firm.seq.bsPending = false ∧
        (s.setDev new cause).act.host.attnSeen = false))

/-! ### The transports -/

/-- SPI_CS_FALL, SPI_CS_RISE, SPI_REQUEST, UDP_DATAGRAM, UDP_REASSEMBLY_TIMEOUT. A reply to a request that came over SPI waits for the
host in its class's list, newest last, and is kept for a replay; NO_REPLY holds back OK and PENDING alone. Acceptance of a request, in the
order of Table 14.3: LENGTH_EXCEEDS and BAD_CRC with their counters, then the opcode, the class, FLAGS, BOOT and the queue. -/
def Obligations.TransportsComplete : Prop :=
  (∀ (s : State),
      (s.answers = true → exec .spiCsFall s =
        .next (s.modHost fun h => { h with csLow := true, hunt := false, txn := h.txn + 1, spiHead := h.head })) ∧
      (∀ (clocked : Nat) (unfinished : Bool), s.answers = true → s.act.host.csLow = true →
        ∃ t, exec (.spiCsRise clocked unfinished) s = .next t ∧ t = { s with hl := t.hl } ∧ t.act.host.csLow = false ∧
          t.act.host.hunt = false ∧
          t.act.host.spiAborts = (if unfinished && !s.act.host.hunt then satInc 16 s.act.host.spiAborts else s.act.host.spiAborts) ∧
          t.act.host.spi0.Sublist s.act.host.spi0 ∧ t.act.host.spiN.Sublist s.act.host.spiN ∧
          (clocked ≤ 2 → t.act.host.spi0 = s.act.host.spi0 ∧ t.act.host.spiN = s.act.host.spiN)) ∧
      (∀ bytes : List Byte, s.answers = true → s.act.host.csLow = true → s.act.host.hunt = false → by8 bytes 0 = 0xA5 →
        12 + rd bytes 6 2 ≤ bytes.length ∨ 4096 < rd bytes 6 2 →
        (by8 bytes 1 / 64 = 0 → s.act.host.spi0.length < 4) →
        (by8 bytes 1 / 64 ≠ 0 → s.act.host.spiN.length < 32 ∧ s.act.host.spiUsed + 12 + rd bytes 6 2 ≤ 16384) →
        exec (.spiRequest bytes) s = .next (if (s.accept .spi 0 bytes).2 then (s.accept .spi 0 bytes).1.modHost fun h => { h with hunt := true }
          else (s.accept .spi 0 bytes).1)) ∧
      (∀ bytes : List Byte, s.answers = true → s.act.host.csLow = true → s.act.host.hunt = false → by8 bytes 0 = 0xA5 →
        12 + rd bytes 6 2 ≤ bytes.length → by8 bytes 1 / 64 = 0 → 4 ≤ s.act.host.spi0.length →
        exec (.spiRequest bytes) s = .next (s.modHost fun h => { h with spiOverruns := satInc 16 h.spiOverruns })) ∧
      (∀ (net : Net) (ip port : Nat) (bytes : List Byte) (ok : Bool), s.answers = true → s.ipOf net ≠ 0 → s.act.net.ports[net].link = true →
        (ok = true → by8 bytes 0 = 0xA5 → bytes.length = 12 + rd bytes 6 2 →
          exec (.udpDatagram net ip port bytes ok) s = .next (s.accept (.udp ip port) net bytes).1) ∧
        (ok = false ∨ by8 bytes 0 ≠ 0xA5 ∨ bytes.length < 12 →
          exec (.udpDatagram net ip port bytes ok) s = .next (s.modHost fun h => { h with udpDiscarded := satInc 16 h.udpDiscarded }))) ∧
      (∀ (net : Net) (src ident : Nat), exec (.udpReassemblyTimeout net src ident) s =
        .next (s.modHost fun h =>
          { h with reasm := h.reasm.filter (fun r => !decide (r.net = net ∧ r.src = src ∧ r.ident = ident ∧ r.since + 40000000 ≤ s.clk.now)) }))) ∧
  (∀ (s : State) (it : QItem) (st : Nat) (pl : List Byte), it.req.session = .spi → s.act.host.twins = [] →
      (s.reply it st pl).act.host.spiKept =
          keepReply s.act.host.spiKept
            ⟨it.op, it.req, { session := .spi, net := it.req.net, cls := it.req.cls, op := it.op, status := st, seq := it.req.seq, payload := pl }⟩ ∧
      (it.req.noReply = true ∧ (st = ST_OK ∨ st = ST_PENDING) →
        (s.reply it st pl).act.host.spi0 = s.act.host.spi0 ∧ (s.reply it st pl).act.host.spiN = s.act.host.spiN) ∧
      (¬(it.req.noReply = true ∧ (st = ST_OK ∨ st = ST_PENDING)) → it.req.cls = 0 →
        ∃ x : SpiReply, (s.reply it st pl).act.host.spi0 = s.act.host.spi0 ++ [x] ∧ (s.reply it st pl).act.host.spiN = s.act.host.spiN ∧
          x.reply.op = it.op ∧ x.reply.status = st ∧ x.reply.seq = it.req.seq ∧ x.reply.payload = pl ∧ x.reply.replayed = false) ∧
      (¬(it.req.noReply = true ∧ (st = ST_OK ∨ st = ST_PENDING)) → it.req.cls ≠ 0 →
        ∃ x : SpiReply, (s.reply it st pl).act.host.spiN = s.act.host.spiN ++ [x] ∧ (s.reply it st pl).act.host.spi0 = s.act.host.spi0 ∧
          x.reply.op = it.op ∧ x.reply.status = st ∧ x.reply.seq = it.req.seq ∧ x.reply.payload = pl ∧ x.reply.replayed = false)) ∧
  (∀ (s : State) (key : Session) (net : Net) (b : List Byte) (op flags : Nat) (r : Req),
      (4096 < rd b 6 2 → (s.accept key net b).2 = true ∧
        (s.accept key net b).1.act.host.lenExceeded = satInc 32 s.act.host.lenExceeded) ∧
      (rd b 6 2 ≤ 4096 → rd b (8 + rd b 6 2) 4 ≠ crc32 ((b.drop 1).take (7 + rd b 6 2)) →
        (s.accept key net b).2 = true ∧ (s.accept key net b).1.act.host.badCrcs = satInc 32 s.act.host.badCrcs) ∧
      ((opcodes.find? fun x => x.1 == op) = none → s.enqueue op r flags = s.refuseEarly op r ST_BAD_OPCODE) ∧
      (∀ c, (opcodes.find? fun x => x.1 == op) = some (op, some c) → r.cls ≠ c → s.enqueue op r flags = s.refuseEarly op r ST_BAD_CLASS) ∧
      (∀ c, (opcodes.find? fun x => x.1 == op) = some (op, some c) → r.cls = c → flags / 2 % 32 ≠ 0 →
        s.enqueue op r flags = s.refuseEarly op r ST_BAD_PARAMETER) ∧
      (∀ c, (opcodes.find? fun x => x.1 == op) = some (op, some c) → r.cls = c → flags / 2 % 32 = 0 → s.dev = .boot → bootOpcode op = false →
        s.enqueue op r flags = s.refuseEarly op r ST_STATE_FORBIDS) ∧
      (∀ c : Fin 4, (opcodes.find? fun x => x.1 == op) = some (op, some c.val) → r.cls = c.val → flags / 2 % 32 = 0 → s.dev ≠ .boot →
        s.act.host.queues[c].length < queueRoom c.val →
        ∃ i : QItem, (s.enqueue op r flags).act.host.queues[c] = s.act.host.queues[c] ++ [i] ∧ i.op = op ∧ i.req = r ∧ i.at_ = s.clk.now))

/-! ### Networks and time -/

/-- ETHERNET_FRAME_RECEIVE in each of its outcomes: damaged, looped back, no room, a PRP twin, taken by a function, unclaimed.
NET_LINK_UP, NET_LINK_DOWN, NET_LAUNCH, NET_TX_COMPLETE, NET_LATE_DROP: the link, and what a frame of NET_SEND writes back. -/
def Obligations.NetEventsComplete : Prop :=
  (∀ (s u : State) (net : Net) (b : List Byte) (room : Bool), s.dev ≠ .standby → s.act.net.ports[net].link = true →
      u = s.onNetPort net (fun p => { p with rxFrames := satInc 32 p.rxFrames }) →
      (exec (.ethernetFrameReceive net b false room) s = .next (u.onNetPort net fun p => { p with rxFcsErr := satInc 32 p.rxFcsErr })) ∧
      (rdBe b 6 6 = Config.mac (otherNet net).val → exec (.ethernetFrameReceive net b true room) s =
        .next ((u.onNetPort net fun p => { p with looped := satInc 16 p.looped }).raise 0x72 net.val)) ∧
      (rdBe b 6 6 ≠ Config.mac (otherNet net).val → frameClass b ≤ 5 → exec (.ethernetFrameReceive net b true false) s =
        .next (u.onNetPort net fun p => { p with rxDropped := satInc 32 p.rxDropped })) ∧
      (rdBe b 6 6 ≠ Config.mac (otherNet net).val → room = true ∨ 5 < frameClass b → prpTrailer b = none ∨ s.par P_PRP_EN ≠ 1 →
        (u.claimFrame net b).2 = true → exec (.ethernetFrameReceive net b true room) s = .next (u.claimFrame net b).1) ∧
      (rdBe b 6 6 ≠ Config.mac (otherNet net).val → room = true ∨ 5 < frameClass b → prpTrailer b = none ∨ s.par P_PRP_EN ≠ 1 →
        (u.claimFrame net b).2 = false → exec (.ethernetFrameReceive net b true room) s =
          .next ((u.claimFrame net b).1.onNetPort net fun p => { p with rxUnclaimed := satInc 16 p.rxUnclaimed })) ∧
      (∀ q : Nat, rdBe b 6 6 ≠ Config.mac (otherNet net).val → room = true ∨ 5 < frameClass b → prpTrailer b = some q → s.par P_PRP_EN = 1 →
        etherType b ≠ 0x88F7 → etherType b ≠ 0x88B5 → (u.act.net.prp net s.clk.now (rdBe b 6 6) q).2 = true →
        exec (.ethernetFrameReceive net b true room) s = .next (u.modBoth fun a => { a with net := (a.net.prp net s.clk.now (rdBe b 6 6) q).1 }))) ∧
  (∀ (s : State) (net : Net) (handle : Nat),
      (s.dev ≠ .standby → s.act.net.ports[net].link = false → ∃ t, exec (.netLinkUp net) s = .next t ∧ t = { s with hl := t.hl } ∧
        t.act.net.ports[net].link = true ∧ t.act.host = s.act.host ∧ t.act.cfg = s.act.cfg) ∧
      (s.dev ≠ .standby → s.act.net.ports[net].link = true → ∃ t, exec (.netLinkDown net) s = .next t ∧ t = { s with hl := t.hl } ∧
        t.act.net.ports[net].link = false ∧ t.act.net.ports[net].linkDowns = satInc 16 s.act.net.ports[net].linkDowns ∧
        t.act.host = s.act.host ∧ t.act.cfg = s.act.cfg) ∧
      (∀ f : TxFrame, s.act.net.tx = [f] → f.handle = handle → f.status[net] = 1 → f.started[net] = false →
        (∀ l, f.launch = some l → l ≤ s.act.ptp.ns ∧ s.act.ptp.ns ≤ l + 100000) →
        (s.act.net.ports[net].link = true → ∃ t g, exec (.netLaunch net handle false) s = .next t ∧ t = { s with hl := t.hl } ∧
          t.act.net.tx = [g] ∧ g.started[net] = true ∧ g.status = f.status ∧ g.startedAt[net] = s.clk.now ∧
          g.stamp[net] = (s.act.ptp.sec, s.act.ptp.subNs) ∧
          (g.late[net] = true ↔ ∃ l, f.launch = some l ∧ l + 8 < s.act.ptp.ns)) ∧
        (s.act.net.ports[net].link = false → ∃ t g, exec (.netLaunch net handle false) s = .next t ∧ t = { s with hl := t.hl } ∧
          (g ∈ t.act.net.tx ∨ g ∈ t.act.net.txDone) ∧ g.handle = handle ∧ g.status[net] = 5)) ∧
      (∀ (f : TxFrame) (busy : Bool), s.act.net.tx = [f] → f.handle = handle →
        busy = true ∨ (∃ l, f.launch = some l ∧ (s.act.ptp.ns < l ∨ l + 100000 < s.act.ptp.ns)) →
        exec (.netLaunch net handle busy) s = .next s) ∧
      (∀ f : TxFrame, s.act.net.tx = [f] → f.handle = handle → f.status[net] = 1 → f.started[net] = true →
        5 * f.startedAt[net] + 16 * (8 + (s.wireFrame net f).length + 4) ≤ 5 * s.clk.now →
        ∃ t g, exec (.netTxComplete net handle) s = .next t ∧ t = { s with hl := t.hl } ∧
          (g ∈ t.act.net.tx ∨ g ∈ t.act.net.txDone) ∧ g.handle = handle ∧ g.status[net] = (if f.late[net] then 3 else 2) ∧
          g.stamp = f.stamp ∧ .frame net f.cls (s.wireFrame net f) ∈ t.act.net.out ∧
          t.act.net.ports[net].txFrames = satInc 32 s.act.net.ports[net].txFrames) ∧
      (∀ (f : TxFrame) (l : Nat), s.act.net.tx = [f] → f.handle = handle → f.status[net] = 1 → f.started[net] = false →
        f.launch = some l → l + 100000 < s.act.ptp.ns → ∃ t g, exec (.netLateDrop net handle) s = .next t ∧ t = { s with hl := t.hl } ∧ (g ∈ t.act.net.tx ∨ g ∈ t.act.net.txDone) ∧
          g.handle = handle ∧ g.status[net] = 4 ∧ t.act.net.ports[net].txLate = satInc 16 s.act.net.ports[net].txLate))

/-- PTP_SYNC, PTP_ANNOUNCE, PTP_ANNOUNCE_TIMEOUT, PTP_HOLDOVER_EXPIRE, PTP_MESSAGE_SEND, SYNT_STEP. PEER_ANNOUNCE_SEND, PEER_ANNOUNCEMENT
(a foreign site, a new peer, an own identifier), PEER_LOST. -/
def Obligations.PtpPeersComplete : Prop :=
  (∀ (s : State) (net : Net), s.dev ≠ .standby →
      (∀ (measured asym offset : Int) (meanDelay : Nat), s.parN P_PTP_PROFILE ≠ 0 → s.act.net.ports[net].link = true →
        asym = s.par (if net = 0 then P_ASYM_A else P_ASYM_B) → offset = measured - asym →
        ∃ t, exec (.ptpSync net measured meanDelay) s = .next t ∧ t = { s with hl := t.hl } ∧
          t.act.ptp.ports[net].offset = some offset ∧ t.act.ptp.ports[net].meanDelay = ((meanDelay : Int) + asym).toNat ∧
          (s.act.ptp.ports[net].portState ≠ psSlave → t.act.ptp.clock = s.act.ptp.clock ∧ t.act.ptp.adj = s.act.ptp.adj ∧
            t.act.ptp.state = s.act.ptp.state) ∧
          (s.act.ptp.ports[net].portState = psSlave → t.act.ptp.adj.natAbs ≤ 5368709 ∧
            (s.act.ptp.state = .uncalibrated → 10000 < offset.natAbs →
              t.act.ptp.clock = ((s.act.ptp.clock : Int) - offset * 2 ^ 32).toNat) ∧
            (s.act.ptp.state = .uncalibrated → offset.natAbs ≤ 10000 → offset.natAbs ≤ s.parN P_PTP_LOCK_WIN →
              s.parN P_PTP_LOCK_N ≤ s.act.ptp.inWin + 1 → t.act.ptp.state = .locked) ∧
            (s.act.ptp.state = .locked → s.parN P_PTP_UNLOCK_WIN < offset.natAbs → s.act.ptp.outWin = 2 → t.act.ptp.state = .uncalibrated))) ∧
      (∀ d : Dataset, s.parN P_PTP_PROFILE ≠ 0 → s.act.net.ports[net].link = true → s.act.ptp.ports[net].best = none →
        ∃ t, exec (.ptpAnnounce net d) s = .next t ∧ t = { s with hl := t.hl } ∧ t.act.ptp.ports[net].best = some d ∧
          t.act.ptp.ports[net].heardAt = some s.clk.now) ∧
      (∀ t0, s.act.ptp.ports[s.act.ptp.sel].heardAt = some t0 → t0 + s.announceTicks ≤ s.clk.now →
        ∃ t, exec .ptpAnnounceTimeout s = .next t ∧ t = { s with hl := t.hl } ∧ t.act.ptp.ports[s.act.ptp.sel].best = none) ∧
      (s.act.ptp.state = .holdover → s.act.ptp.holdAt + msTicks (1000 * s.parN P_PTP_HOLDOVER_T) ≤ s.clk.now →
        ∃ t, exec .ptpHoldoverExpire s = .next t ∧ t = { s with hl := t.hl } ∧ t.act.ptp.expired = true ∧
        t.act.ptp.valid = false) ∧
      (s.act.net.ports[net].link = true →
        (s.parN P_PTP_PROFILE = 1 → exec (.ptpMessageSend net .pdelayReq) s = .next (s.send net (.ptp net .pdelayReq))) ∧
        (s.parN P_PTP_PROFILE = 2 → s.act.ptp.ports[net].portState = psSlave →
          exec (.ptpMessageSend net .delayReq) s = .next (s.send net (.ptp net .delayReq))) ∧
        (s.parN P_PTP_PROFILE ≠ 0 → s.act.ptp.state = .master → exec (.ptpMessageSend net .sync) s = .next (s.send net (.ptp net .sync)) ∧
          exec (.ptpMessageSend net .announce) s = .next (s.send net (.ptp net .announce)))) ∧
      (s.par P_SYNT_EN = 1 → s.parN P_PTP_PROFILE ≠ 0 → s.act.ptp.state = .locked → (∀ t0, s.act.ptp.syntAt = some t0 → t0 + 4000 ≤ s.clk.now) →
        ∃ t, exec .syntStep s = .next t ∧ t = { s with hl := t.hl } ∧ (t.act.ptp.corr - s.act.ptp.corr).natAbs ≤ 10 + (s.act.ptp.corr.natAbs - 100000) ∧
          t.act.ptp.corr.natAbs ≤ 100000 ∧ t.act.ptp.clock = s.act.ptp.clock)) ∧
  (∀ (s : State),
      (s.awake = true → s.parN P_SITE_ID ≠ 0 → (∀ t0, s.act.net.annAt = some t0 → t0 + 40000000 ≤ s.clk.now) →
        ∃ t, exec .peerAnnounceSend s = .next t ∧ t = { s with hl := t.hl } ∧
        t.act.net.annSeq = (s.act.net.annSeq + 1) % 65536 ∧
        (∀ n : Net, s.act.net.ports[n].link = true → .announce n (s.announcement n) ∈ t.act.net.out ∧
          t.act.net.ports[n].annTx = some (s.act.ptp.sec, s.act.ptp.subNs))) ∧
      (∀ (net : Net) (b : List Byte), s.dev ≠ .standby → b.length = 64 → rd b 60 4 = crc32c (b.take 60) → rd b 0 2 = 1 →
        (rd b 2 2 ≠ s.parN P_SITE_ID → exec (.peerAnnouncement net b) s =
          .next (s.onNetPort net fun p => { p with foreignSite := satInc 16 p.foreignSite })) ∧
        (∀ u : Fin 32, rd b 2 2 = s.parN P_SITE_ID → by8 b 4 = u.val + 1 → by8 b 4 ≠ s.parN P_UNIT_ID → s.act.net.peers[u].known = false →
          ∃ t, exec (.peerAnnouncement net b) s = .next t ∧ t.act.net.peers[u].known = true ∧ t.act.net.peers[u].state = by8 b 5 ∧
            t.act.net.peers[u].hash = rd b 12 4 ∧ t.act.net.peers[u].romMajor = by8 b 6 ∧ t.act.net.peers[u].usedAt = s.clk.now ∧
            t = { s with hl := t.hl, firm := t.firm }) ∧
        (∀ u : Fin 32, rd b 2 2 = s.parN P_SITE_ID → by8 b 4 = u.val + 1 → by8 b 4 = s.parN P_UNIT_ID →
          ∃ t, exec (.peerAnnouncement net b) s = .next t ∧ t.act.net.peers[u].diff[3] = true)) ∧
      (∀ unit : Fin 32, s.act.net.peers[unit].known = true → s.act.net.peers[unit].usedAt + msTicks 350 ≤ s.clk.now →
        ∃ t, exec (.peerLost unit) s = .next t ∧ t = { s with hl := t.hl } ∧
        t.act.net.peers[unit].known = false ∧ t.act.net.peers[unit].lost = true ∧ t.act.net.peers[unit].diff = Vector.replicate 5 false))

/-! ### Angle, command links, tide entries -/

/-- COMMAND_LINK_FRAME: the token holder's frame leaves the angle fields of its last step waiting at the Shoal with the tide updates that
stood, and acts on the region's generators; a frame with a bad CRC is lost with what it carried; a valid frame of the other Headland is
counted and nothing else. -/
def Obligations.CommandFrameComplete : Prop :=
  ∀ (s : State) (k : Shoal) (sender : Hd), s.dev ≠ .standby →
    (s.bw.token ≠ some sender →
      exec (.commandLinkFrame k sender true) s = .next (s.modShoal k fun h => { h with otherFrames := satInc 32 h.otherFrames }) ∧
      exec (.commandLinkFrame k sender false) s = .next s) ∧
    (s.bw.token = some sender →
      exec (.commandLinkFrame k sender false) s = .next (s.frameSent k) ∧
      ∃ t, exec (.commandLinkFrame k sender true) s = .next t ∧
        (∀ f, s.frameFields k = some f →
          t.shoals[k].fields = s.shoals[k].fields ++ [⟨f, s.shoals[k].tideWait, sender⟩] ∧ t.shoals[k].tideWait = []) ∧
        (s.frameFields k = none → t.shoals[k].fields = s.shoals[k].fields ∧ t.shoals[k].tideWait = s.shoals[k].tideWait) ∧
        t.shoals[k].frameSince = true ∧ t.shoals[k].holding = false ∧ t.shoals[k].clockStop = s.clocks.hd[sender].bypass ∧
        t.shoals[k].acc = s.shoals[k].acc ∧ t.shoals[k].inc = s.shoals[k].inc ∧
        (∀ j : Fin 3, t.pwm[portOf k j].wantEn = ((s.life (portOf k j)).gateEn && !(s.life (portOf k j)).trips.any Trip.forces) ∧
          t.pwm[portOf k j].lines = s.cmdPort (portOf k j) ∧
          ((s.life (portOf k j)).trips.any Trip.forces = true → t.pwm[portOf k j].trip = true) ∧
          (s.clocks.hd[sender].bypass = true → t.pwm[portOf k j].safe = true) ∧
          (∀ d tag, s.clocks.hd[sender].bypass = false → (s.life (portOf k j)).trips.any Trip.forces = false →
            s.firm.dutyOut[portOf k j] = some (d, tag) → tag = (s.pwm[portOf k j].idx + 1) % 256 → 20 ≤ s.ticksToBoundary (portOf k j) →
            t.pwm[portOf k j].shadow = some d)) ∧
        (∀ p : Port, shoalOf p ≠ k → t.pwm[p] = s.pwm[p] ∧ t.life p = s.life p) ∧ (∀ m : Shoal, m ≠ k → t.shoals[m] = s.shoals[m]) ∧
        t.sk = s.sk ∧ t.bw = s.bw ∧ t.hl[s.peer] = s.hl[s.peer] ∧ t.firm.launch[k] = s.firm.launch[k].tail ∧
        (∀ p : Port, t.firm.dutyOut[p] = if shoalOf p = k then none else s.firm.dutyOut[p]) ∧
        (s.shoals[k].safeRegion = false → s.clocks.hd[sender].bypass = false → t.hl = s.hl ∧ t.firm.life = s.firm.life))

/-- APPLY_TICK: fields that are due re-anchor the Shoal: INC within 0.9 and 1.1 of nominal, the accumulator at the anchor plus INC for each
tick of lag, exact modulo 2^48, the die's FCW by the fields' small step; TICK does not move, and no other Shoal does. Fields whose tick has
not come wait. A re-anchor beyond a sixteenth of a carrier turn while PWM runs sets SLIP and trips the region's admitted ports; within it,
or with PWM stopped, no port trips. -/
def Obligations.ApplyTickComplete : Prop :=
  (∀ (s : State) (k : Shoal) (f : StepFields) (rest : List StepFields), s.shoals[k].fields = f :: rest → s.act.host.awaiting = [] →
      fieldsDue s.shoals[k].tick f.angle.applyTick = true →
      ∃ t, exec (.applyTick k) s = .next t ∧ t.shoals[k].inc = s.clampInc f.angle.incNew ∧
        t.shoals[k].acc = (f.angle.anchor + s.clampInc f.angle.incNew * lagOf s.shoals[k].tick f.angle.applyTick) % 2 ^ 48 ∧
        t.shoals[k].tick = s.shoals[k].tick ∧ t.shoals[k].fields = rest ∧ t.shoals[k].tideWait = s.shoals[k].tideWait ∧
        (s.clampInc f.angle.incNew ≠ f.angle.incNew → t.shoals[k].incClamped = true) ∧
        (0 < lagOf s.shoals[k].tick f.angle.applyTick → t.shoals[k].lateApply = true) ∧
        t.clocks.shoal[k].tune = max (-5000000) (min 5000000 f.angle.tune) ∧
        (5000000 < f.angle.tune.natAbs → t.clocks.shoal[k].steerLimit = true) ∧
        (∀ m : Shoal, m ≠ k → t.shoals[m] = s.shoals[m]) ∧ t.sk = s.sk ∧ t.bw = s.bw ∧ t.clk = s.clk) ∧
  (∀ (s : State) (k : Shoal), (∀ f ∈ s.shoals[k].fields, fieldsDue s.shoals[k].tick f.angle.applyTick = false) → s.act.host.awaiting = [] →
      ∃ t, exec (.applyTick k) s = .next t ∧ t.shoals = s.shoals ∧ t.pwm = s.pwm ∧ t.firm = s.firm ∧ t.clocks.shoal = s.clocks.shoal) ∧
  (∀ (s : State) (k : Shoal) (d : Int),
      (d ≠ 0 → s.pwmRunning k = true → 2 ^ 44 < s.parN P_CARRIER_N * d.natAbs → (s.reportAnchor k d).shoals[k].slip = true ∧
        ∀ p : Port, shoalOf p = k → (s.life p).admitted = true → .slip ∈ ((s.reportAnchor k d).life p).trips) ∧
      (s.pwmRunning k = false ∨ s.parN P_CARRIER_N * d.natAbs ≤ 2 ^ 44 →
        (s.reportAnchor k d).firm = s.firm ∧ (s.reportAnchor k d).pwm = s.pwm ∧ (s.reportAnchor k d).shoals = s.shoals))

/-- TIDE_CROSSING, TIDE_GATE_ARM, EVENT_FRAME, of an entry that its Shoal holds. An entry acts on the tick on which its reference passes
ANGLE, and on no other. While HOLDING is 1, a SAMPLE entry acts and every other action is skipped with TIDE_SKIPPED, its entry still armed;
on the tick of a re-anchor actions 4 to 6 are. A gated entry waits for its gate time. -/
def Obligations.TideEventsComplete : Prop :=
  (∀ (s : State) (e : Fin 128) (x : TideEntry), s.awake = true → s.shoals[tideShoal e].tides[tideComp e] = x →
    s.shoals[tideShoal e].tideOld.lookup (tideComp e).val = none →
    (x.enable = true → x.armed = true → x.block = none →
      crosses x.angle (s.refOf (tideShoal e) x.ref s.shoals[tideShoal e].accPrev) (s.refOf (tideShoal e) x.ref s.shoals[tideShoal e].acc) = true →
      (s.shoals[tideShoal e].anchored = false → s.shoals[tideShoal e].holding = false →
        ∃ t, exec (.tideCrossing e) s = .next t ∧
          t.shoals[tideShoal e].tides[tideComp e].fireCount = (x.fireCount + 1) % 256 ∧
          t.shoals[tideShoal e].tides[tideComp e].enable = x.periodic ∧ t.shoals[tideShoal e].tides[tideComp e].armed = x.periodic ∧
          t.shoals[tideShoal e].tides[tideComp e].block.isSome = true ∧
          (2 ≤ x.action → ∃ ev, t.shoals[tideShoal e].events = insertEvent ev s.shoals[tideShoal e].events ∧ ev.entry = e.val ∧
            ev.action = x.action ∧ ev.arg = x.arg ∧ ev.tick = s.shoals[tideShoal e].tick) ∧
          (x.action < 2 → t.shoals[tideShoal e].events = s.shoals[tideShoal e].events) ∧
          t.hl = s.hl ∧ t.firm = s.firm ∧ t.pwm = s.pwm ∧ t.sk = s.sk) ∧
      (s.shoals[tideShoal e].anchored = false → s.shoals[tideShoal e].holding = true →
        (2 ≤ x.action → x.action ≤ 7 → exec (.tideCrossing e) s = .next (s.raise 0x12 e.val x.action)) ∧
        (x.action = 1 → ∃ t, exec (.tideCrossing e) s = .next t ∧ t = s.tideAct e x false ∧
          t.shoals[tideShoal e].tides[tideComp e].fireCount = (x.fireCount + 1) % 256)) ∧
      (s.shoals[tideShoal e].anchored = true → 4 ≤ x.action → x.action ≤ 6 → exec (.tideCrossing e) s = .next (s.raise 0x12 e.val x.action))) ∧
    (x.enable = false ∨ x.armed = false ∨ x.block.isSome = true ∨
      crosses x.angle (s.refOf (tideShoal e) x.ref s.shoals[tideShoal e].accPrev) (s.refOf (tideShoal e) x.ref s.shoals[tideShoal e].acc) = false →
      exec (.tideCrossing e) s = .next s) ∧
    (x.enable = true → x.gated = true → x.armed = false → s.gatePassed x = true →
      (s.act.ptp.valid = true → s.par P_COORD_TIDE ≠ 1 ∨ (tideComp e).val < 8 ∨ s.act.net.disagrees = false →
        exec (.tideGateArm e) s =
          .next (s.modShoal (tideShoal e) fun h => { h with tides := vset h.tides (tideComp e) { x with armed := true } })) ∧
      (s.act.ptp.valid = false →
        exec (.tideGateArm e) s = .next ((s.modShoal (tideShoal e) fun h =>
          { h with tides := vset h.tides (tideComp e) { x with enable := false } }).raise 0x13 e.val 1))) ∧
    (x.gateSec * 1000000000 + x.gateNs > s.act.ptp.sec * 1000000000 + s.act.ptp.subNs → exec (.tideGateArm e) s = .next s) ∧
    (s.raise 0x12 e.val x.action).shoals = s.shoals) ∧
  (∀ (s : State) (k : Shoal) (ev : TideEvent) (rest : List TideEvent), s.awake = true → s.shoals[k].events = ev :: rest →
    ∃ t, exec (.eventFrame k) s = .next t ∧ t.shoals[k].events = rest ∧
      (ev.action = 6 → t.firm.flagWait.length = s.firm.flagWait.length + 1) ∧
      (ev.action = 7 → t = (s.modShoal k fun h => { h with events := rest }).raiseTick ev.tick
        { code := 0x14, source := ev.arg, arg0 := ev.theta, arg1 := ev.entry }) ∧
      t.sk = s.sk ∧ t.pwm = s.pwm) ∧
  (∀ (ev : TideEvent) (l : List TideEvent), (insertEvent ev l).Perm (ev :: l))

/-! ### Pulse generation -/

/-- CARRIER_BOUNDARY: on the tick on which the carrier phase wraps, unless it is blocked, the port's generator takes its new period: the index
moves on, COUNT restarts, gates follow the enable, and the block of half a turn begins; another port's generator is touched only by a region
that safe state takes. On any other tick nothing happens. -/
def Obligations.CarrierBoundaryComplete : Prop :=
  ∀ (s : State) (p : Port), s.awake = true →
    (s.pwm[p].block = none → s.carrierWraps p = true → ∃ t, exec (.carrierBoundary p) s = .next t ∧ t.clk = s.clk ∧ t.sk = s.sk ∧ t.bw = s.bw ∧
      (p ≠ 0 → t.pwm[p].idx = (s.pwm[p].idx + 1) % 256 ∧ t.pwm[p].count = 0 ∧ t.pwm[p].sub = 0 ∧ t.pwm[p].boundaryAt = s.clk.now ∧
        t.pwm[p].block = some (2 ^ 31) ∧
        t.pwm[p].gatesEn = (s.pwm[p].wantEn && !(s.life p).trips.any Trip.forces && !s.pwm[p].safeEnding) ∧
        t.pwm[p].safe = (s.pwm[p].safe && !s.pwm[p].safeEnding) ∧ t.pwm[p].shadow = none ∧
        (∀ q : Port, q ≠ p → t.pwm[q] = s.pwm[q]) ∧ t.firm.life = s.firm.life ∧ t.firm.steps[p].passed = true ∧
        t.act.host = s.act.host ∧ t.hl[s.peer] = s.hl[s.peer] ∧ t.meter = s.meter)) ∧
    (s.pwm[p].block.isSome = true ∨ s.carrierWraps p = false → exec (.carrierBoundary p) s = .next s)

/-- PWM_EDGE, GATE_TURN_ON_DELAY, BS_REFRESH, BS_PULSE_END on a leg whose phase asks for them. GATE_OFF_DEMAND of each kind, DL_UNLOCK and
DL_LOCK. -/
def Obligations.PulsesComplete : Prop :=
  (∀ (s : State) (p : Port) (k : Leg) (g : Gen), s.pwm[p].legs[k] = g →
      (g.risePending = true → g.phase = .low → s.pwm[p].counted (prescale (s.parN P_CARRIER_N) s.fNom) g.tOn = true →
        ∃ t, exec (.pwmEdge p k true) s = .next t ∧ t = { s with pwm := t.pwm } ∧
        t.pwm[p].legs[k].phase = .riseDelay ∧ t.pwm[p].legs[k].l = false ∧ t.pwm[p].legs[k].h = g.h ∧ t.pwm[p].legs[k].risePending = false) ∧
      (g.fallPending = true → g.risePending = false → g.phase = .high →
        s.pwm[p].counted (prescale (s.parN P_CARRIER_N) s.fNom) g.tOff = true → ∃ t, exec (.pwmEdge p k false) s = .next t ∧ t = { s with pwm := t.pwm } ∧
        t.pwm[p].legs[k].phase = .fallDelay ∧ t.pwm[p].legs[k].h = false ∧ t.pwm[p].legs[k].fallPending = false) ∧
      (g.phase = .riseDelay → edgeTime s.shoals[shoalOf p].dlLock (g.delayFrom + s.pwm[p].dr k) / 64 ≤ s.clk.now →
        ∃ t, exec (.gateTurnOnDelay p k true) s = .next t ∧ t = { s with pwm := t.pwm } ∧
        t.pwm[p].legs[k].phase = .high ∧ t.pwm[p].legs[k].h = !(s.pwm[p].offHigh g) ∧ t.pwm[p].legs[k].l = g.l) ∧
      (g.phase = .fallDelay → edgeTime s.shoals[shoalOf p].dlLock (g.delayFrom + s.pwm[p].df k) / 64 ≤ s.clk.now →
        ∃ t, exec (.gateTurnOnDelay p k false) s = .next t ∧ t = { s with pwm := t.pwm } ∧
        t.pwm[p].legs[k].phase = .low ∧ t.pwm[p].legs[k].l = !(s.pwm[p].offBoth g) ∧ t.pwm[p].legs[k].h = g.h) ∧
      (g.h = true → g.phase = .high → g.fallPending = false → g.hOnAt + s.pwm[p].bsOnT * 64 ≤ s.clk.now * 64 →
        (s.clk.now - s.pwm[p].boundaryAt) * 64 + s.pwm[p].refreshTime k < s.pwm[p].tPred →
        ∃ t, exec (.bsRefresh p k) s = .next t ∧ t = { s with pwm := t.pwm } ∧ t.pwm[p].legs[k].phase = .refreshFall ∧
          t.pwm[p].legs[k].h = false ∧ t.pwm[p].bsRefresh = true ∧ t.pwm[p].counters[1] = satInc 32 s.pwm[p].counters[1]) ∧
      (g.phase = .refreshLow → edgeTime s.shoals[shoalOf p].dlLock (g.lOnAt + s.pwm[p].bsPulseT) / 64 ≤ s.clk.now →
        ∃ t, exec (.bsPulseEnd p k) s = .next t ∧ t = { s with pwm := t.pwm } ∧
        t.pwm[p].legs[k].phase = .refreshRise ∧ t.pwm[p].legs[k].l = false) ∧
      (∀ (q : Port) (j : Leg) (c : Instr), (q ≠ p ∨ j ≠ k) →
        c ∈ [.pwmEdge p k true, .pwmEdge p k false, .gateTurnOnDelay p k true, .gateTurnOnDelay p k false, .bsRefresh p k, .bsPulseEnd p k] →
        ∃ t, exec c s = .next t ∧ t.pwm[q].legs[j] = s.pwm[q].legs[j])) ∧
  (∀ (s : State) (p : Port) (k : Leg) (m : Shoal),
      ((s.life p).trips.any Trip.forces = true ∨ s.pwm[p].lines.trip = true → ∃ t, exec (.gateOffDemand p k .trip) s = .next t ∧ t = { s with pwm := t.pwm } ∧ t.pwm[p].trip = true ∧ t.pwm[p].shadow = none ∧
        ∀ j : Leg, t.pwm[p].legs[j].h = false ∧ t.pwm[p].legs[j].l = false ∧ t.pwm[p].legs[j].duty = 0) ∧
      (∃ t, exec (.gateOffDemand p k .hiz) s = .next t ∧ t = { s with pwm := t.pwm } ∧ t.pwm[p].legs[k].hiz = true ∧
        t.pwm[p].legs[k].h = false ∧ t.pwm[p].legs[k].l = false ∧ t.pwm[p].legs[k].carry = 0 ∧
        ∀ j : Leg, j ≠ k → t.pwm[p].legs[j] = s.pwm[p].legs[j]) ∧
      (∃ t, exec (.gateOffDemand p k .hizEnd) s = .next t ∧ t = { s with pwm := t.pwm } ∧
        t.pwm[p].legs[k].hizEnding = s.pwm[p].legs[k].hiz ∧ t.pwm[p].legs[k].hiz = s.pwm[p].legs[k].hiz) ∧
      (∃ t, exec (.gateOffDemand p k .regionSafe) s = .next t ∧ t = { s with pwm := t.pwm, shoals := t.shoals } ∧ t.pwm[p].safe = true ∧
        t.shoals[shoalOf p].safeRegion = true ∧ (s.pwm[p].safe = false → ∀ j : Leg, t.pwm[p].legs[j].h = false)) ∧
      (s.shoals[m].dlLock = true → ∃ t, exec (.dlUnlock m) s = .next t ∧ t.shoals[m].dlLock = false ∧ t.shoals[m].dlUnlocked = true ∧
        ∀ j : Fin 3, ∀ i : Leg, t.pwm[portOf m j].legs[i].tOn = s.pwm[portOf m j].legs[i].tOn / 64 * 64) ∧
      (∀ code : Nat, exec (.dlLock m code) s = .next (s.modShoal m fun h => { h with dlLock := true, dlCode := code % 4096 })))

/-! ### The engine -/

/-- SAMPLES_ARRIVE, SPEC_STEP_COMPLETE, RECOMPUTE_COMPLETE, COMMIT_DEADLINE, PORT_OC_TRIP. -/
def Obligations.EngineStepsComplete : Prop :=
  ∀ (s : State) (p : Port),
    (s.awake = true → s.act.engine.run = true →
      ∃ t, exec (.samplesArrive p) s = .next t ∧ t.firm.meas = (s.takePort p).firm.meas ∧ t.dec = (s.takePort p).dec ∧ t.sk = s.sk ∧
        t.bw = s.bw ∧ t.meter = s.meter ∧ t.clk = s.clk ∧ t.firm.steps[p].oc = s.firm.steps[p].oc.or ((s.takePort p).ocLeg p) ∧
        ((s.takePort p).firm.meas[p].valid = false → t.firm.life = s.firm.life ∧ t.pwm = s.pwm ∧
          t.firm.steps[p].arrived = s.firm.steps[p].arrived)) ∧
    (∀ (x) (t0 : Nat), s.firm.steps[p].pred = some x → s.stepping p = true → (s.portPar p).specEn = true → s.firm.steps[p].spec = none →
      s.firm.steps[p].recompute = false → s.firm.steps[p].arrived = false → s.firm.steps[p].inside = false → s.firm.steps[p].dropped = false →
      s.act.engine.running = some (p, false, t0) → t0 ≤ s.clk.now →
      ∃ t, exec (.specStepComplete p) s = .next t ∧ t.firm.steps[p].spec.isSome = true ∧ t.firm.steps[p].committed = s.firm.steps[p].committed ∧
        t.pwm = s.pwm ∧ t.firm.shares = s.firm.shares) ∧
    (∀ t0 : Nat, s.stepping p = true → s.firm.steps[p].recompute = true → s.firm.steps[p].dropped = false →
      s.act.engine.running = some (p, true, t0) → t0 ≤ s.clk.now →
      ∃ t, exec (.recomputeComplete p) s = .next t ∧ t.firm.steps[p].committed = true ∧ t.firm.steps[p].lateRun = 0 ∧
        t.firm.dutyOut[p] = some (t.firm.steps[p].duty, (s.pwm[p].idx + 1) % 256) ∧ t.firm.shares = s.firm.shares ∧ t.sk = s.sk) ∧
    (s.firm.steps[p].committed = true ∨ s.firm.steps[p].passed = false ∨ 240 < s.ticksToBoundary p → exec (.commitDeadline p) s = .next s) ∧
    (s.stepping p = true → s.firm.steps[p].committed = false → s.firm.steps[p].passed = true → s.ticksToBoundary p ≤ 240 →
      ∃ t, exec (.commitDeadline p) s = .next t ∧ t.firm.steps[p].lateRun = min 3 (s.firm.steps[p].lateRun + 1) ∧
        t.firm.steps[p].specLate = true ∧ t.firm.steps[p].passed = false ∧
        (3 ≤ s.firm.steps[p].lateRun + 1 → .late ∈ (t.life p).trips ∧ (t.life p).gateEn = false ∧ t.pwm[p].trip = true) ∧
        (s.firm.steps[p].lateRun + 1 < 3 → t.firm.life = s.firm.life ∧ t.pwm = s.pwm)) ∧
    (∀ (leg : Nat) (code : Int), s.firm.steps[p].oc = some (leg, code) →
      exec (.portOcTrip p) s = .next (((s.modStep p fun x => { x with oc := none }).raise 0x46 p.val leg (sArg code)).tripPort p .oc))

/-! ### Port islands -/

/-- A good downlink frame acts on GATE_EN, TRIP, the contactor drivers and the loss, Skerry G on nothing but its link; a bad or missing one
counts, and the fourth in a row is DL_LOSS with every gate off (DOWNLINK_FRAME, LINK_FRAME_TIMEOUT). The frame that the Shoal forms is one
that its Skerry takes. UPLINK_FRAME: MSUB goes on to the Tide gauge; the fourth bad frame in a row is the loss with its trip. -/
def Obligations.IslandLinksComplete : Prop :=
  (∀ (s : State) (l : Link) (slot : DownSlot) (noise b : List Byte), s.dev ≠ .standby → b = noisy (s.downlink l slot) noise →
      (s.sk[l].good = true → frameGood 0xB3 l b 8 s.sk[l].dlSeq = true →
        ∃ t, exec (.downlinkFrame l slot noise) s = .next t ∧ t = { s with sk := t.sk, ul := t.ul } ∧
          t.sk[l].gateEn = bit (by8 b 2) 7 ∧ t.sk[l].trip = bit (by8 b 2) 6 ∧ t.sk[l].dlRun = 0 ∧ t.sk[l].dlGood = min 16 (s.sk[l].dlGood + 1) ∧
          t.sk[l].dlSeq = some ((by8 b 1 + 1) % 256) ∧ t.sk[l].clockLocal = false ∧
          (t.sk[l].dlLoss = true ↔ s.sk[l].dlLoss = true ∧ ¬(t.sk[l].dlGood = 16 ∧ bit (by8 b 2) 7 = false)) ∧
          t.sk[l].reads = (if by8 b 3 = 2 then some (rd b 4 2 % 1024) else none, s.sk[l].reads.1) ∧
          (l ≠ linkG → t.sk[l].coils[0].cmd = bit (by8 b 2) 5 ∧ t.sk[l].coils[1].cmd = bit (by8 b 2) 4 ∧
            (bit (by8 b 2) 7 = false ∨ bit (by8 b 2) 6 = true → ∀ g : Gate, t.sk[l].gates[g].on = false)) ∧
          (l = linkG → t.sk[l].coils = s.sk[l].coils ∧ t.sk[l].gates = s.sk[l].gates ∧ t.sk[l].latchOn = s.sk[l].latchOn) ∧
          t.ul[l].txSeq = (s.ul[l].txSeq + 1) % 256 ∧ (∀ m : Link, m ≠ l → t.sk[m] = s.sk[m] ∧ t.ul[m] = s.ul[m])) ∧
      (s.sk[l].good = true → frameGood 0xB3 l b 8 s.sk[l].dlSeq = false →
        ∃ t, exec (.downlinkFrame l slot noise) s = .next t ∧ t = { s with sk := t.sk, ul := t.ul } ∧
          t.sk[l].dlBad = satInc 16 s.sk[l].dlBad ∧ t.sk[l].dlRun = min 4 (s.sk[l].dlRun + 1) ∧ t.sk[l].dlGood = 0 ∧
          t.sk[l].gateEn = s.sk[l].gateEn ∧ t.sk[l].dlSeq = s.sk[l].dlSeq.map (fun e => (e + 1) % 256) ∧
          (3 ≤ s.sk[l].dlRun → t.sk[l].dlLoss = true ∧ t.sk[l].clockLocal = true ∧ ∀ g : Gate, t.sk[l].gates[g].on = false)) ∧
      (s.sk[l].good = false → exec (.downlinkFrame l slot noise) s = .next (s.modUl l fun u => { u with txSeq := (u.txSeq + 1) % 256 })) ∧
      exec (.linkFrameTimeout l false) s = .next ((s.modUl l fun u => { u with txSeq := (u.txSeq + 1) % 256 }).modSk l fun k =>
        if k.good then k.badFrame s.clk.now else k) ∧
      exec (.linkFrameTimeout l true) s = .next ((s.modSk l fun k => if k.good then k.sentFrame else k).uplinkBad l) ∧
      (s.ul[l].txSeq < 256 → frameGood 0xB3 l (s.downlink l slot) 8 (some s.ul[l].txSeq) = true)) ∧
  (∀ (s : State) (l : Link) (streams noise b : List Byte), s.dev ≠ .standby → s.sk[l].good = true →
      b = noisy (s.sk[l].uplink l streams (s.rdData l)) noise →
      (frameGood 0xD5 l b 44 s.ul[l].seq = true → ∃ t, exec (.uplinkFrame l streams noise) s = .next t ∧ t.ul[l].run = 0 ∧
        t.ul[l].good = min 16 (s.ul[l].good + 1) ∧ t.ul[l].seq = some ((by8 b 1 + 1) % 256) ∧ t.ul[l].bad = s.ul[l].bad ∧
        (l ≠ linkG → t.ul[l].msub = some ((b.drop 20).take 9)) ∧ t.sk[l].ulSeq = (s.sk[l].ulSeq + 1) % 256 ∧
        t.sk[l].mseq = (s.sk[l].mseq + 1) % 2 ^ 16 ∧ (∀ m : Link, m ≠ l → t.ul[m] = s.ul[m] ∧ t.sk[m] = s.sk[m])) ∧
      (frameGood 0xD5 l b 44 s.ul[l].seq = false → ∃ t, exec (.uplinkFrame l streams noise) s = .next t ∧
        t.ul[l].run = min 4 (s.ul[l].run + 1) ∧ t.ul[l].good = 0 ∧ t.ul[l].bad = satInc 16 s.ul[l].bad ∧
        t.ul[l].seq = s.ul[l].seq.map (fun e => (e + 1) % 256) ∧
        (s.ul[l].run = 3 → t.ul[l].loss = true ∧ (s.awake = true → ∀ p : Port, portOfLink l = some p →
          .uplink ∈ (t.life p).trips ∧ (t.life p).gateEn = false ∧ t.pwm[p].trip = true))))

/-- EDGE_CHANNEL_TRANSITION and INTERLOCK_HOLD_END: a gate turns on only where no demand stands, no soft turn-off runs and the other gate of
its leg has been off for 80 ns; within them it is held and comes on as the hold ends; a command beside the other gate on is refused and
noted. -/
def Obligations.InterlockComplete : Prop :=
  ∀ (s : State) (p : Port) (g : Gate) (k : Skerry), s.sk[linkOf p] = k →
    (k.offDemand (legOfGate g) = false → k.gates[g].on = false → k.gates[g].soft = false → k.gates[otherGate g].on = false →
      k.gates[otherGate g].held = none →
      (∀ a : Nat, k.gates[otherGate g].offAt = some a → 32 ≤ s.clk.now - a) → ∃ t, exec (.edgeChannelTransition p g true) s = .next t ∧ t = { s with sk := t.sk } ∧
        t.sk[linkOf p].gates[g].on = true ∧ t.sk[linkOf p].gates[otherGate g] = k.gates[otherGate g]) ∧
    (∀ at_ : Nat, k.offDemand (legOfGate g) = false → k.gates[g].on = false → k.gates[g].soft = false → k.gates[otherGate g].on = false →
      k.gates[otherGate g].held = none → k.gates[otherGate g].offAt = some at_ → s.clk.now - at_ < 32 →
      (∃ t, exec (.edgeChannelTransition p g true) s = .next t ∧ t = { s with sk := t.sk } ∧ t.sk[linkOf p].gates[g].on = false ∧
        t.sk[linkOf p].gates[g].held = some s.clk.now ∧ (s.clk.now - at_ < 31 → t.sk[linkOf p].interlockHold = true)) ∧
      ∃ t, exec (.interlockHoldEnd p g) s = .next t ∧ t.sk[linkOf p] = k) ∧
    (k.offDemand (legOfGate g) = false → k.gates[g].on = false → k.gates[g].soft = false → k.gates[otherGate g].on = true →
      k.gates[otherGate g].chanAt ≠ some s.clk.now → ∃ t, exec (.edgeChannelTransition p g true) s = .next t ∧ t = { s with sk := t.sk } ∧
        t.sk[linkOf p].gates[g].on = false ∧ t.sk[linkOf p].gates[otherGate g].on = true ∧ t.sk[linkOf p].bothOn = true) ∧
    (k.offDemand (legOfGate g) = true ∨ k.gates[g].soft = true → k.gates[g].on = false →
      ∃ t, exec (.edgeChannelTransition p g true) s = .next t ∧ t.sk[linkOf p].gates[g].on = false ∧
        t.sk[linkOf p].gates[g].soft = k.gates[g].soft) ∧
    (∃ t, exec (.edgeChannelTransition p g false) s = .next t ∧ t = { s with sk := t.sk } ∧ t.sk[linkOf p].gates[g].on = false ∧
      t.sk[linkOf p].gates[g].chan = false ∧ (k.gates[g].on = true → t.sk[linkOf p].gates[g].offAt = some s.clk.now)) ∧
    (k.gates[g].held.isSome = true → k.gates[g].chan = true → k.gates[g].soft = false → k.offDemand (legOfGate g) = false →
      k.gates[otherGate g].on = false → (∀ a : Nat, k.gates[otherGate g].offAt = some a → 32 ≤ s.clk.now - a) →
      ∃ t, exec (.interlockHoldEnd p g) s = .next t ∧ t = { s with sk := t.sk } ∧ t.sk[linkOf p].gates[g].on = true ∧
        t.sk[linkOf p].gates[g].held = none)

/-- DESAT_CONFIRM, FAST_SHORT_CONFIRM after their masks, with the event of a leg that latches and the trip on the third within 60 s.
SOFT_TURN_OFF_END, GATE_SUPPLY_LOCKOUT, GATE_SUPPLY_RELEASE. -/
def Obligations.ProtectionComplete : Prop :=
  ∀ (s : State) (p : Port) (g : Gate) (i : Leg) (k : Skerry), s.sk[linkOf p] = k → k.good = true →
    (k.gates[g].on = true → k.gates[g].onAt + (s.parN (PP_DESAT_BLANK p) + 20) ≤ s.clk.now → ∃ t, exec (.desatConfirm p g) s = .next t ∧
      t = { s with sk := t.sk, hl := t.hl, firm := t.firm, pwm := t.pwm } ∧
      t.sk[linkOf p].gates[g].on = false ∧ t.sk[linkOf p].gates[g].soft = true ∧
      bit t.sk[linkOf p].desat g.val = true ∧ t.sk[linkOf p].fastShort = k.fastShort ∧
      t.sk[linkOf p].legs[legOfGate g].latch = (if k.legs[legOfGate g].latch = 0 then 1 + g.val % 2 else k.legs[legOfGate g].latch) ∧
      (s.awake = true → k.legs[legOfGate g].latch = 0 → s.act.log.frozen = false → (∃ e ∈ t.act.log.queue, e.code = 0x40 ∧
        e.source = 4 * p.val + (legOfGate g).val ∧ e.arg0 = g.val % 2) ∧
        (2 ≤ (s.firm.legFaults[Machine.legNo p (legOfGate g)].filter fun t => decide (s.clk.now - t < msTicks 60000)).length →
          .legRepeat ∈ (t.life p).trips))) ∧
    (k.gates[g].on = true → k.gates[g].onAt + 32 ≤ s.clk.now → ∃ t, exec (.fastShortConfirm p g) s = .next t ∧
      t = { s with sk := t.sk, hl := t.hl, firm := t.firm, pwm := t.pwm } ∧
      t.sk[linkOf p].gates[g].on = false ∧ t.sk[linkOf p].gates[g].soft = true ∧
      bit t.sk[linkOf p].fastShort g.val = true ∧ t.sk[linkOf p].desat = k.desat ∧
      t.sk[linkOf p].legs[legOfGate g].latch = (if k.legs[legOfGate g].latch = 0 then 3 + g.val % 2 else k.legs[legOfGate g].latch) ∧
      (s.awake = true → k.legs[legOfGate g].latch = 0 → s.act.log.frozen = false → ∃ e ∈ t.act.log.queue, e.code = 0x41 ∧
        e.source = 4 * p.val + (legOfGate g).val ∧ e.arg0 = g.val % 2)) ∧
    (k.gates[g].on = false ∨ s.clk.now < k.gates[g].onAt + 32 → (∃ t, exec (.fastShortConfirm p g) s = .next t ∧ t.sk[linkOf p] = k) ∧
      ∃ t, exec (.desatConfirm p g) s = .next t ∧ t.sk[linkOf p] = k) ∧
    (∃ t, exec (.softTurnOffEnd p g) s = .next t ∧ t = { s with sk := t.sk } ∧ t.sk[linkOf p].gates[g].on = k.gates[g].on ∧
      (∀ a : Nat, k.gates[g].offAt = some a → a + 340 ≤ s.clk.now → t.sk[linkOf p].gates[g].soft = false) ∧
      (∀ a : Nat, k.gates[g].offAt = some a → s.clk.now < a + 340 → t.sk[linkOf p].gates[g].soft = k.gates[g].soft)) ∧
    (∃ t, exec (.gateSupplyLockout p i .vlp true) s = .next t ∧ t = { s with sk := t.sk } ∧ t.sk[linkOf p].legs[i].vlp = true ∧
      bit t.sk[linkOf p].uvPos i.val = true ∧ (∀ h : Gate, legOfGate h = i → k.legs[i].hiz = false → t.sk[linkOf p].gates[h].on = false)) ∧
    (∃ t, exec (.gateSupplyLockout p i .vbs true) s = .next t ∧ t = { s with sk := t.sk } ∧ t.sk[linkOf p].legs[i].vbs = true ∧
      bit t.sk[linkOf p].bsUv i.val = true) ∧
    (∃ t, exec (.gateSupplyLockout p i .vln true) s = .next t ∧ t = { s with sk := t.sk } ∧ t.sk[linkOf p].legs[i].vln = true ∧
      bit t.sk[linkOf p].uvNeg i.val = true) ∧
    (∃ t, exec (.gateSupplyLockout p i .vhn true) s = .next t ∧ t = { s with sk := t.sk } ∧ t.sk[linkOf p].legs[i].vhn = true ∧
      bit t.sk[linkOf p].uvNeg i.val = true) ∧
    (∀ u : GateSupply, ∃ t, exec (.gateSupplyLockout p i u false) s = .next t ∧ t = { s with sk := t.sk } ∧
      t.sk[linkOf p].legs[i].hiz = k.legs[i].hiz ∧ t.sk[linkOf p].gates = k.gates ∧ t.sk[linkOf p].supplyLow = true) ∧
    (∃ t, exec (.gateSupplyRelease p i .vlp) s = .next t ∧ t = { s with sk := t.sk } ∧ t.sk[linkOf p].legs[i].vlp = false) ∧
    (∃ t, exec (.gateSupplyRelease p i .vln) s = .next t ∧ t = { s with sk := t.sk } ∧ t.sk[linkOf p].legs[i].vln = false) ∧
    (∃ t, exec (.gateSupplyRelease p i .vhn) s = .next t ∧ t = { s with sk := t.sk } ∧ t.sk[linkOf p].legs[i].vhn = false) ∧
    (∃ t, exec (.gateSupplyRelease p i .vbs) s = .next t ∧ t = { s with sk := t.sk } ∧ t.sk[linkOf p].legs[i].vbs = false)

/-- PERMIT_WORD_RECEIVE, PERMIT_ABSENT, COIL_HW_DROP, COIL_PULL_END, LATCH_BLOCKED, LATCH_TIMEOUT: what the permit line gives and takes,
and what the drivers do on it, each at its time. -/
def Obligations.PermitComplete : Prop :=
  ∀ (s : State) (l : Link) (p : Port) (n : Fin 2),
    (∀ (count : Nat) (kind : Kind), s.sk[l].good = true → s.bw.ports[l].onLine[0] = true → s.bw.ports[l].sent.headD 0 = count →
      s.bw.ports[l].kind = kind → count < 256 → s.sk[l].chans[0].count = some ((count + 255) % 256) →
      ∃ t, exec (.permitWordReceive l false 0) s = .next t ∧ t = { s with sk := t.sk, bw := t.bw } ∧ t.bw.ports[l].onLine[0] = false ∧
        t.sk[l].chans[0].count = some count ∧ t.sk[l].chans[0].kinds.1 = some kind.wire ∧ t.sk[l].chans[0].validAt = s.clk.now ∧
        t.sk[l].echo.1 = count ∧
        (kind ≠ .run → t.sk[l].permGates = false ∧ ∀ g : Gate, t.sk[l].gates[g].on = false) ∧
        (kind = .off ∨ kind = .unlock → t.sk[l].permCoils = false) ∧ (kind ≠ .unlock → t.sk[l].permLatch = false)) ∧
    (∀ (chan : Bool) (noise word w : Nat), s.sk[l].good = true → s.bw.ports[l].onLine[(if chan then 1 else 0 : Fin 2)] = true →
      word = (if chan then permitWord (s.bw.ports[l].sent.headD 0) s.bw.ports[l].kind ^^^ 0xFFFF
        else permitWord (s.bw.ports[l].sent.headD 0) s.bw.ports[l].kind) ^^^ noise % 2 ^ 16 →
      w = (if chan then (word ^^^ 0xFFFF) % 2 ^ 16 else word % 2 ^ 16) → crc4 (w / 16) ≠ w % 16 →
      ∃ t, exec (.permitWordReceive l chan noise) s = .next t ∧ t.sk[l].chans[(if chan then 1 else 0 : Fin 2)].kinds.1 = none ∧
        t.sk[l].permGates = s.sk[l].permGates ∧ t.sk[l].echo = s.sk[l].echo) ∧
    (∀ (chan : Bool) (noise : Nat), s.bw.ports[l].onLine[(if chan then 1 else 0 : Fin 2)] = false →
      exec (.permitWordReceive l chan noise) s = .next s) ∧
    (s.sk[l].good = true → s.sk[l].permit = true → s.sk[l].chans[n].validAt + 8000 ≤ s.clk.now →
      ∃ t, exec (.permitAbsent l) s = .next t ∧ t = { s with sk := t.sk } ∧ t.sk[l].permit = false ∧
        t.sk[l].permitLost = true ∧ t.sk[l].permGates = false ∧ t.sk[l].permCoils = false ∧ t.sk[l].permLatch = false ∧
        ∀ g : Gate, t.sk[l].gates[g].on = false) ∧
    (s.sk[l].permitGone s.clk.now = false → ∃ t, exec (.permitAbsent l) s = .next t ∧ t.sk[l] = s.sk[l]) ∧
    (∀ t0 : Nat, s.sk[linkOf p].coilsLost = some t0 → t0 + 20000 ≤ s.clk.now → ∃ t, exec (.coilHwDrop p) s = .next t ∧
      t.sk[linkOf p].coils[n].on = false ∧ t.sk[linkOf p].coils[n].pull = false ∧
      (∀ t1 : Nat, s.sk[linkOf p].latchLost = some t1 → t1 + 20000 ≤ s.clk.now → t.sk[linkOf p].latchOn = false) ∧
      (s.awake = true → s.anyClosed p = true → (s.life p).life.connected = true →
        (t.life p).life = .faulted ∧ (t.life p).cause = 8 ∧ .permit ∈ (t.life p).trips)) ∧
    (s.sk[linkOf p].coils[n].pullAt + msTicks (10 * s.parN (PP_COIL_PULL_T p)) ≤ s.clk.now →
      exec (.coilPullEnd p n) s = .next (s.modSk (linkOf p) fun k => { k with coils := vmod k.coils n fun c => { c with pull := false } })) ∧
    (s.sk[linkOf p].latchOn = true → s.latchClear p = false → exec (.latchBlocked p) s =
      .next (s.modSk (linkOf p) fun k => { k with latchOn := false, latchArmed := false, latchBlocked := true })) ∧
    (s.sk[linkOf p].latchOn = true → s.sk[linkOf p].latchAt + msTicks 10000 ≤ s.clk.now → exec (.latchTimeout p) s =
      .next (s.modSk (linkOf p) fun k => { k with latchOn := false, latchArmed := false, latchTimeout := true }))

/-- CONTACTOR_FB_CHANGE, CONTACTOR_FAULT, DIAG_ITEM_DONE, CAN_FRAME_RECEIVE, CAN_FRAME_TRANSMIT, CAN_BUS_OFF, CAN_BUS_OFF_RECOVERY. -/
def Obligations.ContactorCanComplete : Prop :=
  ∀ (s : State) (p : Port) (n : Fin 2), s.sk[linkOf p].good = true →
    (∀ closed : Bool, ∃ t, exec (.contactorFbChange p n closed) s = .next t ∧ t.sk[linkOf p].coils[n].fb = closed ∧
      (closed = true → s.sk[linkOf p].diag.state = 1 → t.sk[linkOf p].diag.state = 3 ∧ t.sk[linkOf p].diagAborted = true) ∧
      t.hl = s.hl ∧ t.pwm = s.pwm ∧ t.bw = s.bw) ∧
    (s.sk[linkOf p].coils[n].fb ≠ s.sk[linkOf p].coils[n].cmd →
      s.sk[linkOf p].coils[n].cmdAt + msTicks (10 * s.parN (PP_COIL_FB_T p)) ≤ s.clk.now → ∃ t, exec (.contactorFault p n) s = .next t ∧
      .contactor ∈ (t.life p).trips ∧ (t.life p).gateEn = false ∧
      (s.sk[linkOf p].coils[n].fb = true → t.sk[linkOf p].coils[n].weld = true) ∧
      (s.sk[linkOf p].coils[n].fb = false → t.sk[linkOf p].coils[n].fail = true) ∧
      ((s.life p).life.connected = true → (t.life p).life = .faulted ∧ (t.life p).cause = 7)) ∧
    (∀ reading : Int, s.sk[linkOf p].diag.state = 1 →
      s.sk[linkOf p].diag.itemAt + s.sk[linkOf p].diag.itemTicks (s.parN (PP_ISO_SETTLE p)) ≤ s.clk.now →
      ∃ t, exec (.diagItemDone p reading) s = .next t ∧
      t.sk[linkOf p].diag = s.sk[linkOf p].diag.itemDone (10 * s.parN (PP_ISO_MIN p)) s.clk.now (s.diagVolts p) reading ∧
      (t.sk[linkOf p].diag.passed = true → (t.life p).testsValid = true ∧ (t.life p).retest = false) ∧ t.bw = s.bw ∧ t.pwm = s.pwm) ∧
    (∀ f : CanFrame, s.awake = true → s.sk[linkOf p].canBusOff = false → ∃ t, exec (.canFrameReceive p f) s = .next t ∧
      t.act.relays[p] = s.act.relays[p].push s.act.ptp.sec s.act.ptp.subNs f ∧
      t.life p = (s.bmsMap p).foldl (fun (x : PortLife) e => x.takeSignal s.clk.now e f) (s.life p) ∧
      t.sk[linkOf p].canUp = s.sk[linkOf p].canUp ++ canChunks f ∧ t.sk[linkOf p].canTx = s.sk[linkOf p].canTx) ∧
    (s.sk[linkOf p].canBusOff = false → 0 < s.sk[linkOf p].canWhole → exec (.canFrameTransmit p) s =
      .next (s.modSk (linkOf p) fun k => { k with canTx := k.canTx.tail, canWhole := k.canWhole - 1 })) ∧
    (s.sk[linkOf p].canBusOff = false → ∃ t, exec (.canBusOff p) s = .next t ∧ t.sk[linkOf p].canBusOff = true ∧
      t.sk[linkOf p].packBusOff = true ∧ s.clk.now ∈ t.sk[linkOf p].busOffs ∧ t.firm = s.firm) ∧
    (s.sk[linkOf p].busOffHeld = false → exec (.canBusOffRecovery p) s = .next (s.modSk (linkOf p) fun k => { k with canBusOff := false })) ∧
    (s.sk[linkOf p].busOffHeld = true → ∃ t, exec (.canBusOffRecovery p) s = .next t ∧ t.sk[linkOf p].canBusOff = true)

/-! ### Battery ports -/

/-- LOOP_CLASS_REPORT, PLUG_DEBOUNCE_END, BMS_SIGNAL_STALE, BMS_LOST, PRECHG_TIMEOUT, AT_ZERO_TIMEOUT, RELEASE_DISCHARGE_FAIL, each once its
time has run. -/
def Obligations.PortEventsComplete : Prop :=
  ∀ (s : State) (p : Port), s.awake = true →
    (∀ cls : LoopClass, (s.life p).loop ≠ cls.code → ∃ t, exec (.loopClassReport p cls) s = .next t ∧ (t.life p).loop = cls.code ∧
      (t.life p).loopAt = s.clk.now ∧ t.lookout.loops[p] = cls.code ∧ (cls = .openLoop → (t.life p).testsValid = false) ∧
      (cls = .fault → (t.life p).life = (s.life p).life ∧
        (t.life p).cause = if (s.life p).life.beforePack then 1 else (s.life p).cause) ∧
      (cls = .openLoop → (s.life p).life ≠ .empty → s.anyClosed p = true → (t.life p).life = .faulted ∧ (t.life p).cause = 9) ∧
      (∀ q : Port, q ≠ p → t.life q = s.life q)) ∧
    ((s.life p).life = .empty → (s.life p).loop = 1 → (s.life p).loopAt + msTicks (10 * s.parN (PP_PLUG_DEBOUNCE p)) ≤ s.clk.now →
      exec (.plugDebounceEnd p) s = .next (s.toPlugged p) ∧ ((s.toPlugged p).life p).life = .plugged) ∧
    (∀ sig : Fin 16, ∀ h : sig.val < 8, (s.bmsMap p).any (fun e => decide (e.signal = sig.val ∧ e.timeout ≠ 0 ∧
        (s.life p).signals[(⟨sig.val, h⟩ : Fin 8)].storedAt + msTicks e.timeout ≤ s.clk.now)) = true →
      exec (.bmsSignalStale p sig) s =
        .next (s.modLife p fun l => { l with signals := vmod l.signals ⟨sig.val, h⟩ fun x =>
          if x.fresh then { x with fresh := false, staleAt := s.clk.now } else x })) ∧
    ((s.life p).life ∈ [.precharging, .charged, .admitted] → s.signalsLost p = true → ∃ t, exec (.bmsLost p) s = .next t ∧
      (t.life p).life = .faulted ∧ (t.life p).cause = 2 ∧ (s.gatesAreOff p = false → (t.life p).atZero = some (2, s.clk.now)) ∧
      (s.gatesAreOff p = true → (t.life p).gateEn = false ∧ (t.life p).ck0 = false ∧ (t.life p).ck1 = false)) ∧
    (∀ t0 : Nat, (s.life p).life = .precharging → (s.life p).fb0At = some t0 → t0 + msTicks (10 * s.parN (PP_PRECHG_T p)) ≤ s.clk.now →
      (s.life p).ck1 = false → ∃ t, exec (.prechgTimeout p) s = .next t ∧ (t.life p).life = .faulted ∧ (t.life p).cause = 4 ∧
        .pack ∈ (t.life p).trips ∧ (t.life p).ck0 = false ∧ (t.life p).gateEn = false) ∧
    (∀ (c t0 : Nat), (s.life p).atZero = some (c, t0) → t0 + msTicks 100 ≤ s.clk.now →
      exec (.atZeroTimeout p) s = .next (s.modLife p fun l => { l with atZero := none, gateEn := false })) ∧
    ((s.life p).life = .discharging → (s.life p).dischargeAt + msTicks (1000 * s.parN (PP_DISCHARGE_T p)) ≤ s.clk.now →
      exec (.releaseDischargeFail p) s = .next (s.raise 0x35 p.val (tenths (s.vdcVolts p))))

/-! ### Field side, panel, supply -/

/-- The field outputs and inputs: overload, tests, suspects, sag and return, silence, counters, the refresh. -/
def Obligations.FieldEventsComplete : Prop :=
  ∀ (s : State) (n : Fin 16) (v : Nat),
    (s.shore.outs[n].driven = true → s.shore.outs[n].changedAt + usTicks 1200 ≤ s.clk.now →
      exec (.fieldOverload n) s = .next ((s.modShore fun h => { h with outs := vmod h.outs n fun o =>
        { o with overLatch := true, overload := true, driven := false, readback := false, changedAt := s.clk.now } }).raise 0x80 n.val)) ∧
    (s.shore.outs[n].driven = true → bit (s.parN P_OUT_TEST_EN) n.val = true → s.shore.outs[n].jointNext = false → bit v n.val = false →
      ∃ t, exec (.fieldTestPulse n v false) s = .next t ∧ t.shore.outs[n].tested = true ∧ t.shore.outs[n].stuckOn = false ∧
        t.shore.outs[n].unexpected = false) ∧
    (s.shore.outs[n].driven = true → bit (s.parN P_OUT_TEST_EN) n.val = true → s.shore.outs[n].jointNext = true → bit v n.val = true →
      ∃ t, exec (.fieldTestPulse n v false) s = .next t ∧ t.shore.outs[n].stuckOn = true ∧ t.bw.shoreStuck = true) ∧
    (s.shore.ok = true → s.shore.outs[n].driven = false → s.shore.outs[n].suspect = false →
      s.shore.outs[n].changedAt + usTicks 1200 ≤ s.clk.now → exec (.fieldSuspect n) s =
        .next (s.modShore fun h => { h with outs := vmod h.outs n fun o =>
          { o with suspect := true, readback := true, suspectUntil := s.clk.now + msTicks 1000 } })) ∧
    (s.shore.outs[n].suspect = true → s.shore.outs[n].suspectUntil ≤ s.clk.now → ∃ t, exec (.fieldStuckOn n) s = .next t ∧ t.shore.outs[n].stuckOn = true ∧ t.bw.shoreStuck = true) ∧
    (s.shore.outs[n].driven = false → s.shore.outs[n].changedAt + msTicks 100 ≤ s.clk.now → ∃ t, exec (.fieldStuckClear n) s = .next t ∧ t.shore.outs[n].stuckOn = false ∧
      t.shore.outs[n].suspect = false ∧ t.bw.shoreStuck = t.shore.outs.toList.any (·.stuckOn)) ∧
    (s.shore.sag = false → v < 1800 → ∃ t, exec (.fieldSag v) s = .next t ∧ t.shore.ok = false ∧ t.shore.sagSeen = true ∧ t.shore.outs[n].driven = false ∧
      (v < 1200 → t.shore.powered = false) ∧ t.firm = s.firm) ∧
    (s.shore.sag = true → s.shore.powered = true → 1950 < v → s.shore.sagAt + msTicks 10 ≤ s.clk.now → ∃ t, exec (.fieldRestored v) s = .next t ∧ t.shore.ok = true ∧ t.shore.vfield = v ∧
      (bit (s.parN P_SAG_LATCH) n.val = true → s.shore.outs[n].demand = true → t.shore.outs[n].sagLatched = true ∧
        t.shore.outs[n].driven = false)) ∧
    (s.shore.powered = false → 1200 ≤ v → ∃ t, exec (.fieldSidePowerUp v) s = .next t ∧ t.shore.powered = true ∧ t.shore.silent = true ∧ t.shore.counts = Vector.replicate 4 0 ∧
      t.shore.outs[n].driven = false) ∧
    (s.shore.silent = false → s.shore.powered = true → s.shore.lastFrame + usTicks 75 ≤ s.clk.now → ∃ t, exec .shoreSilence s = .next t ∧ t.shore.silent = true ∧
      t.shore.outs[n].driven = false ∧ t = { s with shore := t.shore }) ∧
    (s.awake = true → s.shore.hostSilent = false → s.shore.hostAt + msTicks (10 * s.parN P_HOST_TIMEOUT) ≤ s.clk.now →
      ∃ t, exec .hostSilence s = .next t ∧ t.shore.hostSilent = true ∧
      (s.owned n.val = false → s.parN (P_OUT_SAFE n.val) ≠ 2 → t.shore.hostDemand[n] = decide (s.parN (P_OUT_SAFE n.val) = 1)) ∧
      (s.owned n.val = true ∨ s.parN (P_OUT_SAFE n.val) = 2 → t.shore.hostDemand[n] = s.shore.hostDemand[n])) ∧
    (∀ i : Fin 4, bit (s.parN P_COUNT_EN) i.val = true → s.shore.inValid = true → exec (.counterEdge i) s =
      .next (s.modShore fun h => { h with counts := vmod h.counts i fun c => (c + 1) % 2 ^ 32 })) ∧
    (∀ level : Bool, s.shore.powered = true → s.shore.ins[n].level ≠ level →
      s.shore.ins[n].changedAt + usTicks (max 5 (100 * s.parN (P_IN_FILTER n))) ≤ s.clk.now → exec (.fieldInputChange n level) s =
        .next (s.modShore fun h => { h with ins := vmod h.ins n fun i => { i with level := level, changedAt := s.clk.now } })) ∧
    (∀ h : Hd, s.awake = true → s.shore.powered = true → s.bw.token ≠ some h → exec (.shoreRefresh h true) s =
      .next (s.modShore fun x => { x with otherFrames := satInc 32 x.otherFrames })) ∧
    (∀ h : Hd, s.awake = true → s.shore.powered = true → s.bw.token = some h → ∃ t, exec (.shoreRefresh h true) s = .next t ∧
      t.shore.silent = false ∧ t.shore.outs[n].demand = s.outDemand n ∧ t.shore.lastFrame = s.clk.now)

/-- The panel and Lookout: PANEL_TOUCH, PAD_HOLD_TIMEOUT, PAD_RELEASE, WAKE_RULE_FIRE, WAKE_N_LOW. The supply: VSUP, IIN, the gate budget,
the island supplies. -/
def Obligations.PanelSupplyComplete : Prop :=
  (∀ (s : State) (k : Fin 4),
      (s.lookout.pads[k] = false →
        (s.dev ≠ .standby → exec (.panelTouch k) s =
          .next ((s.modLookout fun o => { o with pads := vset o.pads k true, padAt := vset o.padAt k s.clk.now }).raise 0x87 k.val)) ∧
        (s.dev = .standby → exec (.panelTouch k) s =
          .next (s.modLookout fun o => { o with pads := vset o.pads k true, padAt := vset o.padAt k s.clk.now }))) ∧
      (s.lookout.padAt[k] + msTicks 60000 < s.clk.now → ∃ t, exec (.padHoldTimeout k) s = .next t ∧ t = { s with lookout := t.lookout } ∧ t.lookout.pads[k] = false) ∧
      (∃ t, exec (.padRelease k) s = .next t ∧ t = { s with lookout := t.lookout } ∧ t.lookout.pads[k] = false) ∧
      (∀ (r : Fin 16) (u : WakeRule), s.dev = .standby → s.lookout.rules[r.val]? = some u → bit s.lookout.latched r.val = false →
        s.lookout.meets u s.clk.now = true → ∃ t, exec (.wakeRuleFire r) s = .next t ∧ t = { s with lookout := t.lookout } ∧ bit t.lookout.fired r.val = true ∧
          bit t.lookout.latched r.val = true ∧ (u.action = 2 → t.lookout.notes = satInc 32 s.lookout.notes ∧ t.lookout.waking = s.lookout.waking) ∧
          (u.action = 1 → t.lookout.waking = true)) ∧
      (∃ t, exec .wakeNLow s = .next t ∧ t = { s with lookout := t.lookout } ∧ t.lookout.wakeN = true ∧
        (s.dev = .standby → t.lookout.waking = true ∧ t.lookout.lastWake = 1))) ∧
  (∀ (s : State) (l : Link) (v : Nat) (tb : Int),
      (s.dev ≠ .standby → s.heart.vsupLow = false → v < 10 * s.parN P_VSUP_WARN →
        exec (.vsupLow v) s = .next ((s.modHeart fun h => { h with vsupLow := true, vsup := v }).raise 0xC3 0x33 v)) ∧
      (s.dev ≠ .standby → s.heart.vsupLow = true → 10 * s.parN P_VSUP_WARN + 50 < v →
        exec (.vsupOk v) s = .next ((s.modHeart fun h => { h with vsupLow := false, vsup := v }).raise 0xC4 0x33 v)) ∧
      (9000 ≤ v → exec (.iinLimit v) s = .next (s.modHeart fun h => { h with iinLimit := true, iin := v, iinAt := s.clk.now })) ∧
      (v < 8500 → s.heart.iinAt + msTicks 10 ≤ s.clk.now →
        exec (.iinLimitRelease v) s = .next (s.modHeart fun h => { h with iinLimit := false, iin := v })) ∧
      (s.heart.lockedOut = true → ∃ t, exec (.gateBudgetUpdate v tb) s = .next t ∧ t.heart.budget = 0 ∧
        t.heart.isoLimit = Vector.replicate 12 0) ∧
      (s.heart.lockedOut = false → ∃ t, exec (.gateBudgetUpdate v tb) s = .next t ∧ t = { s with heart := t.heart, hl := t.hl } ∧ t.heart.vsup = v ∧ t.heart.tBase = tb ∧
        (1600 ≤ v → tb ≤ 1050 → t.heart.budget = 9600 ∧ t.heart.derated = false) ∧ (1150 ≤ tb → t.heart.budget = 0) ∧
        (v < 1600 ∨ 1050 < tb → t.heart.derated = true) ∧ t.heart.isoLimit = Vector.replicate 12 (t.heart.budget / 12) ∧
        (950 < tb → t.heart.baseHot = true) ∧ (tb < 930 → t.heart.baseHot = false)) ∧
      (s.dev ≠ .standby → s.sk[l].good = false → s.heart.isoAt[l] = none → s.heart.downAt[l] + msTicks 10 ≤ s.clk.now →
        ∃ t, exec (.islandSupplyFault l) s = .next t ∧ t.heart.drive[l] = false ∧ t.heart.isoAt[l] = some s.clk.now ∧ bit t.heart.isoFault l.val = true ∧
        t = { s with heart := t.heart, hl := t.hl }) ∧
      (∀ t0 : Nat, s.dev ≠ .standby → s.heart.isoAt[l] = some t0 → t0 + msTicks 1000 ≤ s.clk.now →
        exec (.islandSupplyRetry l) s = .next (s.modHeart fun h =>
          { h with drive := vset h.drive l true, downAt := vset h.downAt l s.clk.now, isoAt := vset h.isoAt l none })) ∧
      (s.dev ≠ .standby → s.sk[l].good = false → s.heart.isoAt[l] = none → ∃ t, exec (.islandPowerGood l) s = .next t ∧ t.sk[l] = { good := true, clockLocal := true, canTx := s.sk[l].canTx } ∧
        t.heart.drive[l] = true ∧ t.ul[l].seq = none ∧ (∀ m : Link, m ≠ l → t.sk[m] = s.sk[m]) ∧ t.firm = s.firm ∧ t.hl = s.hl) ∧
      (s.sk[l].good = true → ∃ t, exec (.islandPowerFail l) s = .next t ∧ t = { s with sk := t.sk, heart := t.heart, rs := t.rs } ∧ t.sk[l] = { canTx := s.sk[l].canTx } ∧
        ∀ m : Link, m ≠ l → t.sk[m] = s.sk[m]))

/-! ### Tide gauge -/

/-- METROLOGY_SUBFRAME, METROLOGY_SLOT_LOST, SESSION_OPEN, SESSION_CLOSE, SESSION_GAP_CLOSE, METER_MRAM_WRITE, METER_FINAL_WRITE,
CARTRIDGE_POWER_UP, CARTRIDGE_READ_REQUEST. -/
def Obligations.MeterEventsComplete : Prop :=
  ∀ (s : State) (p : Port) (m : Meter), s.meter = m → m.powered = true →
    (∀ (sent b noise : List Byte) (q : Nat), s.ul[linkOf p].msub = some sent → noisy sent noise = b → mcrc p b = rdBe b 7 2 →
      m.ports[p].resync = none → m.ports[p].mseq = some q →
      (rdBe b 0 2 = (q + 1) % 65536 → exec (.metrologySubframe p noise) s = .next { s.modUl (linkOf p) (fun u => { u with msub := none }) with
        meter := { m with ports := vset m.ports p { m.ports[p] with mseq := some (rdBe b 0 2), resync := none } }.slot s.clk.now p (some b) }) ∧
      (rdBe b 0 2 ≠ (q + 1) % 65536 → exec (.metrologySubframe p noise) s = .next { s.modUl (linkOf p) (fun u => { u with msub := none }) with
        meter := { m with ports := vset m.ports p { m.ports[p] with resync := some (some (rdBe b 0 2)) } }.slot s.clk.now p none })) ∧
    (∀ (sent b noise : List Byte) (e : Nat), s.ul[linkOf p].msub = some sent → noisy sent noise = b → mcrc p b = rdBe b 7 2 →
      m.ports[p].resync = some (some e) → rdBe b 0 2 = (e + 1) % 65536 →
      exec (.metrologySubframe p noise) s = .next { s.modUl (linkOf p) (fun u => { u with msub := none }) with
        meter := { m with ports := vset m.ports p { m.ports[p] with mseq := some (rdBe b 0 2), resync := none } }.slot s.clk.now p (some b) }) ∧
    (∀ sent b noise : List Byte, s.ul[linkOf p].msub = some sent → noisy sent noise = b → mcrc p b ≠ rdBe b 7 2 →
      exec (.metrologySubframe p noise) s = .next { s.modUl (linkOf p) (fun u => { u with msub := none }) with
        meter := { m with ports := vset m.ports p { m.ports[p] with resync := m.ports[p].resync.map fun _ => none } }.slot s.clk.now p none }) ∧
    (∀ noise : List Byte, s.ul[linkOf p].msub = none → exec (.metrologySubframe p noise) s = .next s) ∧
    (s.ul[linkOf p].msub = none → (m.ports[p].slotAt.all fun t => decide (t + usTicks 1 ≤ s.clk.now)) = true →
      exec (.metrologySlotLost p) s = .next (s.modMeter fun m => m.slot s.clk.now p none)) ∧
    (∀ iv : Interval, m.ports[p].opening = some iv → iv.startedAt + m.sessTicks ≤ s.clk.now → m.live.hasOpen p = false →
      m.live.sessions.length < 4096 → ∃ t x, exec (.sessionOpen p) s = .next t ∧ t = { s with meter := t.meter } ∧
        t.meter.live.sessions = m.live.sessions ++ [x] ∧ x.opened = true ∧ x.port = p.val ∧ x.no = (m.live.lastNo + 1) % 2 ^ 32 ∧
        x.impStart = iv.imp ∧ x.expStart = iv.exp ∧ x.openSec = iv.sec ∧ x.sealOpen = iv.sealOpen ∧ t.meter.live.energy = m.live.energy) ∧
    (∀ (iv : Interval) (x : SessionRec), m.ports[p].closing = some iv → iv.startedAt + m.sessTicks ≤ s.clk.now → m.live.sessions = [x] →
      x.opened = true → x.port = p.val → ∃ t y, exec (.sessionClose p) s = .next t ∧ t = { s with meter := t.meter } ∧
        t.meter.live.sessions = [y] ∧ y.opened = false ∧ y.cause = 1 ∧ y.impEnd = iv.imp ∧ y.expEnd = iv.exp ∧ y.closeSec = iv.sec ∧
        y.no = x.no ∧ y.impStart = x.impStart) ∧
    (∀ (imp exp_ sec : Nat) (x : SessionRec), m.ports[p].lastValid = some (imp, exp_, sec) →
      heldFor s.clk.now (msTicks 1000) m.ports[p].validAt = true → m.live.sessions = [x] → x.opened = true →
      x.port = p.val → ∃ t y, exec (.sessionGapClose p) s = .next t ∧ t = { s with meter := t.meter } ∧ t.meter.live.sessions = [y] ∧
        y.opened = false ∧ y.cause = 3 ∧ y.impEnd = imp ∧ y.expEnd = exp_ ∧ y.closeSec = sec ∧ t.meter.ports[p].opening = m.ports[p].opening) ∧
    ((m.secAt.all fun t => decide (t + msTicks 1000 ≤ s.clk.now)) = true →
      ∃ t, exec .meterMramWrite s = .next t ∧ t = { s with meter := t.meter } ∧ t.meter.live.opSec = (m.live.opSec + 1) % 2 ^ 32 ∧
        t.meter.mram = t.meter.live ∧ t.meter.live.energy = m.live.energy) ∧
    (exec .meterFinalWrite s = .next (s.modMeter fun m => { m with mram := m.live, powered := false })) ∧
    (∀ addr : Nat, addr % 0x10000 ≠ 0 → exec (.cartridgeReadRequest false addr true) s =
      .next (s.modMeter fun m => { m with linkReply := some (.word addr (m.word (addr % 0x10000))) })) ∧
    (∀ addr : Nat, addr % 0x10000 = 0 → ∃ t, exec (.cartridgeReadRequest false addr true) s = .next t ∧
      t.meter.linkReply = some (.word addr (m.word 0)) ∧ t.meter.live = m.live ∧ t.meter.params = m.params) ∧
    (∀ addr : Nat, exec (.cartridgeReadRequest true addr true) s = .next (s.modMeter fun m => { m with linkReply := some .isSealed })) ∧
    (∀ (write : Bool) (addr : Nat), exec (.cartridgeReadRequest write addr false) s =
      .next (s.modMeter fun m => { m with linkReply := some .readRefused })) ∧
    (∀ n : Meter, n.powered = false → ∃ t, exec .cartridgePowerUp { s with meter := n } = .next t ∧
      t.meter.powered = true ∧ t.meter.live = n.powerUp.live ∧ t.meter.mram = n.powerUp.live ∧
      t.meter.pcc = (n.pcc + 1) % 2 ^ 24 ∧ t.meter.live.energy = n.mram.energy ∧ t.meter.auth = false ∧ t.meter.params = n.params ∧
      t.meter.compared = (s.awake && !n.absent)) ∧
    (exec .cartridgePowerUp s = .next s)

/-- COVER_OPEN, COVER_CLOSE, TOOL_AUTHENTICATE, TOOL_READ, TOOL_PULSE_SELECT, VERIFY_COMMIT, TOOL_LOCKOUT_END, METER_ABSENT,
METER_PRESENT. -/
def Obligations.SealComplete : Prop :=
  ∀ (s : State) (p : Port) (m : Meter), s.meter = m →
    (m.coverOpen = false → ∃ t, exec .coverOpen s = .next t ∧ t = { s with meter := t.meter } ∧ t.meter.coverOpen = true ∧
      t.meter.sealState = 2 ∧ t.meter.sealBreaks = satInc 16 m.sealBreaks ∧ t.meter.verified = false ∧ t.meter.auth = false ∧
      (∀ x ∈ t.meter.live.sessions, x.opened = true → x.sealOpen = true) ∧ t.meter.params = m.params) ∧
    (m.coverOpen = true → ∃ t, exec .coverClose s = .next t ∧ t = { s with meter := t.meter } ∧ t.meter.coverOpen = false ∧
      t.meter.sealState = (if m.verified then 1 else m.sealState) ∧ t.meter.pulse = none ∧ t.meter.auth = false) ∧
    (m.coverOpen = true → m.powered = true → m.authFails < 3 →
      exec (.toolAuthenticate true) s = .next (s.modMeter fun m => { m with auth := true, authFails := 0, toolRefused := false }) ∧
      exec (.toolAuthenticate false) s = .next (s.modMeter fun m =>
        { m with auth := false, authFails := m.authFails + 1, toolRefused := true, lockAt := if m.authFails = 2 then some s.clk.now else m.lockAt })) ∧
    (m.coverOpen = true → 3 ≤ m.authFails → exec (.toolAuthenticate true) s = .next (s.modMeter fun m => m)) ∧
    (m.powered = true → m.auth = true → exec .toolRead s = .next (s.modMeter fun m =>
      { m with toolReply := m.legal :: Config.cartSerial :: sealedNumbers.map fun n => paramToWire (m.params.get n) })) ∧
    (∀ isExport : Bool, m.powered = true → m.auth = true → exec (.toolPulseSelect p isExport) s =
      .next (s.modMeter fun m => { m with pulse := some (p.val, isExport), pulseAcc := 0 })) ∧
    (∀ v : Verification, m.powered = true → m.auth = true → m.coverOpen = true → sealedOk m.params v.params = true → ∃ t, exec (.verifyCommit v) s = .next t ∧
      t = { s with meter := t.meter } ∧ t.meter.params = v.params.foldl (fun ps x => ps.set x.1 x.2) m.params ∧
      t.meter.legal = legalIdOf t.meter.params ∧ t.meter.verified = true ∧ t.meter.verifyCount = satInc 16 m.verifyCount ∧
      t.meter.moduleSerial = v.moduleSerial ∧ t.meter.verifyDate = v.date ∧ t.meter.toolId = v.toolId ∧ (v.key = none → t.meter.key = m.key)) ∧
    (∀ v : Verification, m.auth = false ∨ m.coverOpen = false ∨ sealedOk m.params v.params = false →
      exec (.verifyCommit v) s = .next (s.modMeter fun m => m)) ∧
    (heldFor s.clk.now (msTicks 3600000) m.lockAt = true →
      exec .toolLockoutEnd s = .next (s.modMeter fun m => { m with authFails := 0, toolRefused := false, lockAt := none })) ∧
    (heldFor s.clk.now (msTicks 3600000) m.lockAt = false → exec .toolLockoutEnd s = .next (s.modMeter fun m => m)) ∧
    (s.dev ≠ .standby → m.absent = false → exec .meterAbsent s = .next ((s.modMeter fun m => { m with absent := true }).raise 0xA0 0x40)) ∧
    (s.dev ≠ .standby → m.absent = true → m.powered = true → ∃ t, exec .meterPresent s = .next t ∧ t.meter.absent = false ∧
      t.meter.compared = true ∧ t.meter.params = m.params ∧ t.meter.live = m.live ∧ t.firm = s.firm)

/-- Nothing outside the cover and the tool changes what is sealed: of all commands, only VERIFY_COMMIT changes the sealed parameters,
LEGAL_ID or the count of verifications, and only COVER_OPEN the count of seal breaks. -/
def Obligations.SealedStaysSealed : Prop :=
  ∀ (c : Instr) (s t : State), exec c s = .next t →
    ((∀ v, c ≠ .verifyCommit v) → t.meter.params = s.meter.params ∧ t.meter.legalId = s.meter.legalId ∧
      t.meter.verifyCount = s.meter.verifyCount) ∧
    (c ≠ .coverOpen → t.meter.sealBreaks = s.meter.sealBreaks)

/-! ### Breakwater -/

/-- The safety inputs and test pulses: SAFETY_INPUT_DEMAND, SAFETY_INPUT_INACTIVE, SI_DISC, SI_TEST_PULSE, SO_TEST_PULSE, BW_LANE_COMPARE,
BW_SELFTEST_END. A demand on either channel locks the Unyar out with its event; the discrepancy is another command's. -/
def Obligations.SafetyInputsComplete : Prop :=
  ∀ (s : State) (n : Fin 8) (c : Fin 2) (mv : Int) (us : Nat) (lv : Bool), s.bw.inputs[n].chans[c].reads mv = lv →
    (s.bw.par (P_SI_MODE n) ≠ 0 → lv ≠ inactiveLevel (s.bw.par (P_SI_MODE n)) c →
      filtered (s.bw.par (P_SI_MODE n)) (s.bw.par (P_SI_FILTER n)) us true = true →
      ∃ t, exec (.safetyInputDemand n c mv us) s = .next t ∧ t.bw.inputs[n].chans[c].demand = true ∧ t.bw.inputs[n].chans[c].level = lv ∧
        t.bw.sgoMod = true ∧ (s.bw.par (P_SI_ACTION n) = 2 → t.bw.sdcMod = true) ∧ t.bw.lockout = true ∧ t.bw.resetArmed = false) ∧
    (s.bw.par (P_SI_MODE n) = 0 ∨ lv = inactiveLevel (s.bw.par (P_SI_MODE n)) c ∨
      filtered (s.bw.par (P_SI_MODE n)) (s.bw.par (P_SI_FILTER n)) us true = false →
      ∃ t, exec (.safetyInputDemand n c mv us) s = .next t ∧ t = { s with bw := t.bw } ∧
        t.bw.inputs[n].chans[c].demand = s.bw.inputs[n].chans[c].demand ∧ t.bw.inputs[n].chans[c].level = lv ∧ t.bw.lockout = s.bw.lockout) ∧
    (∃ t, exec (.safetyInputInactive n c mv us) s = .next t ∧ t = { s with bw := t.bw } ∧
      t.bw.inputs[n].chans[c].demand = (s.bw.inputs[n].chans[c].demand && !(decide (lv = inactiveLevel (s.bw.par (P_SI_MODE n)) c) &&
        filtered (s.bw.par (P_SI_MODE n)) (s.bw.par (P_SI_FILTER n)) us false)) ∧
      t.bw.sgoMod = s.bw.sgoMod ∧ t.bw.sdcMod = s.bw.sdcMod ∧ t.bw.lockout = s.bw.lockout) ∧
    (s.bw.par (P_SI_MODE n) ≠ 0 → s.bw.inputs[n].discFault = false →
      heldFor s.clk.now (msTicks (s.bw.par (P_SI_DISC_T n))) s.bw.inputs[n].differFrom = true →
      ∃ t, exec (.siDisc n) s = .next t ∧ t.bw.inputs[n].discFault = true ∧ t.bw.inputs[n].discOk = false ∧ t.bw.lockout = true) ∧
    (s.bw.inputs[n].differFrom = none → exec (.siDisc n) s = .next s) ∧
    (∀ (tp : Fin 4) (reads : List (Bool × Bool)), s.bw.tpFault[tp] = false → ∃ t, exec (.siTestPulse tp false reads) s = .next t ∧
      t.bw.tpGood[tp] = none ∧ t.bw.tpFault[tp] = true ∧ t.bw.lockout = true) ∧
    (∀ (tp : Fin 4) (reads : List (Bool × Bool)), ∃ t, exec (.siTestPulse tp true reads) s = .next t ∧
      t.bw.tpGood[tp] = some (s.bw.tpGood[tp].getD s.clk.now) ∧ t.bw.tpFault = s.bw.tpFault) ∧
    (∀ (m : Fin 4) (side : Bool), ∃ t, exec (.soTestPulse m side false) s = .next t ∧ t.bw.soFault = true ∧ t.bw.outs[m].fault = true ∧
      t.bw.outs[m].on = false ∧ t.bw.lockout = true) ∧
    (∀ (m : Fin 4) (side : Bool), exec (.soTestPulse m side true) s = .next s) ∧
    (exec (.bwLaneCompare false) s = .next (s.modBw fun b => { b with laneDiffer := 0, laneAgree := some (b.laneAgree.getD s.clk.now) })) ∧
    (s.bw.laneDiffer = 5 → s.bw.laneFault = false → ∃ t, exec (.bwLaneCompare true) s = .next t ∧ t.bw.laneFault = true ∧ t.bw.lockout = true) ∧
    (s.bw.laneDiffer < 5 → exec (.bwLaneCompare true) s = .next (s.modBw fun b => { b with laneDiffer := s.bw.laneDiffer + 1, laneAgree := none })) ∧
    (s.dev = .boot → s.bw.started = false → ∃ t, exec (.bwSelftestEnd true) s = .next t ∧ t.bw.started = true ∧ t.bw.startAt = s.clk.now ∧
      t.bw.requestAt = s.clk.now ∧
      t.bw.params = (s.act.cfg.safety.map (·.1)).getD [] ∧ t.bw.crc = safetyCrcOf t.bw.params) ∧
    (s.bw.par (P_SI_MODE n) ≠ 0 → lv ≠ inactiveLevel (s.bw.par (P_SI_MODE n)) c →
      filtered (s.bw.par (P_SI_MODE n)) (s.bw.par (P_SI_FILTER n)) us true = true →
      s.bw.inputs[n].chans.toList.any (·.demand) = false → s.act.log.frozen = false →
      s.dev ≠ .standby → s.dev ≠ .boot → ∃ t e, exec (.safetyInputDemand n c mv us) s = .next t ∧ t.dev = .lockout ∧
        e ∈ t.act.log.queue ∧ e.code = 0x90 ∧ e.source = n.val ∧ e.arg1 = 2 ^ c.val ∧
        t.bw.inputs[n].discFault = s.bw.inputs[n].discFault)

/-- The permit and return sides: RETURN_WORD, RETURN_LOST, REQUEST_WORD, HL_LOST, CH_DISC, SDC_FB, PERMIT_PATTERN_WORD. The kind of a
port's permit pattern: none runs while the gates are to be off, none closes a contactor while the port is to be disconnected. -/
def Obligations.SafetyLinksComplete : Prop :=
  (∀ (s : State) (l : Link) (p : Port) (noise w : Nat), s.sk[l].returnWord (decide (l = linkG)) ^^^ noise % 2 ^ 48 = w →
      (s.sk[l].good = false → exec (.returnWord l noise) s = .next s) ∧
      (s.sk[l].good = true → s.bw.ports[l].validWord w = false →
        exec (.returnWord l noise) s = .next (s.modBwPort l fun b => { b with validFrom := none })) ∧
      (s.sk[l].good = true → portOfLink l = none → s.bw.ports[l].validWord w = true → exec (.returnWord l noise) s =
        .next (s.modBwPort l fun b => { b with validFrom := some (b.validFrom.getD s.clk.now), lastAt := s.clk.now, lossTold := false })) ∧
      (s.sk[l].good = true → portOfLink l = some p → s.bw.ports[l].validWord w = true → ∃ t, exec (.returnWord l noise) s = .next t ∧
        t.clk = s.clk ∧ t.sk = s.sk ∧ t.meter = s.meter ∧ t.shore = s.shore ∧ t.bw.params = s.bw.params ∧
        t.bw.ports[l].lastAt = s.clk.now ∧ t.bw.ports[l].imax = bitsOf w 39 30 ∧ t.bw.ports[l].vdc = bitsOf w 29 20 ∧
        t.bw.ports[l].fb0Open = bit w 8 ∧ t.bw.ports[l].fb1Open = bit w 7 ∧
        (∀ m : Link, m ≠ l → t.bw.ports[m] = s.bw.ports[m])) ∧
      (s.clk.now < s.bw.ports[l].lastAt + usTicks 20 → exec (.returnLost l) s = .next s) ∧
      (s.bw.ports[l].lastAt + usTicks 20 ≤ s.clk.now → portOfLink l = none → s.bw.ports[l].lossTold = false →
        exec (.returnLost l) s = .next ((s.modBwPort l fun b => { b with validFrom := none, okRun := 0, lossTold := true }).raise 0x99 0x0C)) ∧
      (s.bw.ports[l].lastAt + usTicks 20 ≤ s.clk.now → portOfLink l = some p → s.bw.ports[l].returnLost = false →
        ∃ t, exec (.returnLost l) s = .next t ∧ t.bw.ports[l].returnLost = true ∧
        t.bw.ports[l].portLockout = true ∧ t.bw.ports[l].validFrom = none) ∧
      (∀ h : Hd, s.bw.token = some h → ∃ t, exec (.requestWord h true) s = .next t ∧ t.bw.hlLost = false ∧ t.bw.requestAt = s.clk.now ∧
        t.bw.ports[linkOf p].unlockReq = s.firm.unlockReq[p] ∧ t.bw.ports[linkOf p].clearReq = s.firm.clearReq[p] ∧
        t.bw.ports[linkOf p].firm = s.firm.verdict[p] ∧ t.firm.clearReq = Vector.replicate 12 false) ∧
      (∀ (h : Hd) (ok : Bool), ok = false ∨ s.bw.token ≠ some h → exec (.requestWord h ok) s = .next s) ∧
      (s.clk.now < s.bw.requestAt + msTicks 2 → exec .hlLost s = .next s) ∧
      (s.bw.requestAt + msTicks 2 ≤ s.clk.now → ∃ t, exec .hlLost s = .next t ∧ t = { s with bw := t.bw } ∧ t.bw.hlLost = true ∧
        t.bw.resetArmed = false ∧ t.bw.hlLostAt = (if s.bw.hlLost then s.bw.hlLostAt else s.clk.now) ∧
        t.bw.ports = s.bw.ports ∧ t.bw.kindOf l ≠ .run ∧ t.bw.kindOf l ≠ .unlock ∧ t.bw.lockout = s.bw.lockout) ∧
      (s.bw.ports[linkOf p].chDisc = false →
        s.bw.ports[linkOf p].differFrom.toList.any (heldFor s.clk.now (msTicks (s.bw.par P_SL_DISC_T))) = true →
        ∃ t, exec (.chDisc p) s = .next t ∧ t.bw.ports[linkOf p].chDisc = true ∧ t.bw.ports[linkOf p].portLockout = true) ∧
      (s.bw.ports[linkOf p].sdcFb = false → s.bw.ports[linkOf p].kind = .off →
        s.bw.ports[linkOf p].offAt + msTicks (10 * s.bw.par P_SDC_FB_T) ≤ s.clk.now →
        s.bw.ports[linkOf p].fb0Open = false ∨ s.bw.ports[linkOf p].fb1Open = false → ∃ t, exec (.sdcFb p) s = .next t ∧
        t.bw.ports[linkOf p].sdcFb = true ∧ t.bw.ports[linkOf p].portLockout = true) ∧
      (∃ t, exec .permitPatternWord s = .next t ∧ t = { s with bw := t.bw } ∧ t.bw.count = (s.bw.count + 1) % 256 ∧
        t.bw.ports[l].kind = s.bw.kindOf l ∧ t.bw.ports[l].sent.head? = some s.bw.count ∧ t.bw.ports[l].onLine = Vector.replicate 2 true ∧
        t.bw.lockout = s.bw.lockout)) ∧
  (∀ (b : Breakwater) (p : Port), b.lockout = true →
      b.kindOf (linkOf p) ≠ .run ∧ (b.sdcMod = true → b.kindOf (linkOf p) = .off ∨ b.kindOf (linkOf p) = .unlock))

/-- The reset and the commissioning: RESET_PRESS_BEGIN, RESET_RELEASE, RESET_PRESS_TOO_LONG, RESET_STUCK, RESET_ARM_EXPIRE,
COMMISSION_TIMEOUT. -/
def Obligations.SafetyResetComplete : Prop :=
  ∀ (s : State) (at_ : Nat),
    (exec .resetPressBegin s = .next (s.modBw fun b => { b with press := some (s.clk.now, b.resetArmed || b.commissionWait), releasedAt := none })) ∧
    (s.bw.press = some (at_, true) → s.bw.commissionWait = false → s.bw.resetArmed = true → msTicks 300 ≤ s.clk.now - at_ →
      s.clk.now - at_ ≤ msTicks 3000 →
      s.bw.resettable s.clk.now false = true → ∃ t, exec .resetRelease s = .next t ∧ t.bw.lockout = false ∧ t.bw.sgoMod = false ∧
        t.bw.sdcMod = false ∧ t.bw.resetArmed = false ∧ t.bw.press = none ∧ (s.dev = .lockout → t.dev = .idle) ∧
        (s.dev ≠ .lockout → t.dev = s.dev)) ∧
    (s.bw.press = some (at_, true) → s.bw.commissionWait = false → s.bw.resetArmed = true → s.clk.now - at_ < msTicks 300 →
      ∃ t, exec .resetRelease s = .next t ∧ t.bw.lockout = s.bw.lockout ∧ t.bw.resetArmed = false ∧ t.bw.press = none ∧ t.dev = s.dev) ∧
    (s.bw.press = none → exec .resetRelease s = .next s) ∧
    (s.bw.press = some (at_, false) → exec .resetRelease s =
      .next (s.modBw fun b => { b with press := none, releasedAt := some s.clk.now })) ∧
    (s.bw.press = some (at_, true) → s.bw.commissionWait = true → msTicks 300 ≤ s.clk.now - at_ → s.clk.now - at_ ≤ msTicks 3000 →
      s.clk.now ≤ s.bw.commissionAt + msTicks 30000 → ∃ t, exec .resetRelease s = .next t ∧
      t.bw.commissionWait = false ∧ t.bw.press = none ∧ t.bw.params = s.bw.pending ∧ t.bw.lockout = true) ∧
    (s.bw.press = some (at_, true) → s.bw.resetArmed = true → at_ + msTicks 3000 < s.clk.now →
      ∃ t, exec .resetPressTooLong s = .next t ∧ t.bw.press = some (at_, false) ∧
      t.bw.lockout = s.bw.lockout ∧ t.bw.resetArmed = false ∧ t.dev = s.dev) ∧
    (∀ b : Bool, s.bw.press = some (at_, b) → s.clk.now ≤ at_ + msTicks 3000 → exec .resetPressTooLong s = .next s) ∧
    (∀ b : Bool, s.bw.press = some (at_, b) → s.bw.stuckFault = false → at_ + msTicks 10000 < s.clk.now →
      ∃ t, exec .resetStuck s = .next t ∧ t.bw.stuckFault = true ∧ t.bw.lockout = true) ∧
    (∀ b : Bool, s.bw.press = some (at_, b) → s.clk.now ≤ at_ + msTicks 10000 → exec .resetStuck s = .next s) ∧
    (s.bw.resetArmed = true → s.bw.press = none ∨ s.bw.press = some (at_, false) → s.bw.armedAt + msTicks 30000 ≤ s.clk.now →
      exec .resetArmExpire s = .next ((s.modBw fun b => { b with resetArmed := false }).raise 0x96 0x30)) ∧
    (s.bw.press = some (at_, true) → exec .resetArmExpire s = .next s) ∧
    (s.bw.commissionWait = true → s.bw.commissionAt + msTicks 30000 ≤ s.clk.now → exec .commissionTimeout s =
      .next ((s.modBw fun b => { b with commissionWait := false }).raise 0x98 0x30 s.bw.crc)) ∧
    (s.clk.now < s.bw.commissionAt + msTicks 30000 → exec .commissionTimeout s = .next s)

/-- Safety messages: SAFETY_MESSAGE as a first copy, a matching second, a differing second, a stranger's; their expiries; the own message. -/
def Obligations.SafetyMessagesComplete : Prop :=
  ∀ (s : State) (net : Net) (b : List Byte) (j : Fin 4),
    (s.bw.token.isSome = true → s.bw.sourceOf b = none → exec (.safetyMessage net b) s = .next (s.modBw fun x => { x with dropped := satInc 32 x.dropped })) ∧
    (s.bw.token.isSome = true → s.bw.sourceOf b = some j → s.bw.sources[j].pending = none →
      0 < (rd b 4 4 + 2 ^ 32 - s.bw.sources[j].lastSeq) % 2 ^ 32 → (rd b 4 4 + 2 ^ 32 - s.bw.sources[j].lastSeq) % 2 ^ 32 ≤ 2 ^ 31 →
      exec (.safetyMessage net b) s = .next (s.modBw fun x =>
        { x with sources := vmod x.sources j fun y => { y with pending := some ⟨net, rd b 4 4, b, s.clk.now⟩ } })) ∧
    (s.bw.token.isSome = true → s.bw.sourceOf b = some j → (rd b 4 4 + 2 ^ 32 - s.bw.sources[j].lastSeq) % 2 ^ 32 = 0 ∨
      2 ^ 31 < (rd b 4 4 + 2 ^ 32 - s.bw.sources[j].lastSeq) % 2 ^ 32 → exec (.safetyMessage net b) s = .next s) ∧
    (∀ c : MsgCopy, s.bw.token.isSome = true → s.bw.sourceOf b = some j → s.bw.sources[j].pending = some c → c.net ≠ net → c.seq = rd b 4 4 → c.bytes = b →
      s.clk.now - c.at_ ≤ msTicks 10 →
      0 < (rd b 4 4 + 2 ^ 32 - s.bw.sources[j].lastSeq) % 2 ^ 32 → (rd b 4 4 + 2 ^ 32 - s.bw.sources[j].lastSeq) % 2 ^ 32 ≤ 2 ^ 31 →
      ∃ t, exec (.safetyMessage net b) s = .next t ∧ t.bw.sources[j].pending = none ∧ t.bw.sources[j].lastSeq = rd b 4 4 ∧
        (bit (by8 b 8) 0 = true → t.bw.sources[j].sgo = true)) ∧
    (∀ c : MsgCopy, s.bw.token.isSome = true → s.bw.sourceOf b = some j → s.bw.sources[j].pending = some c → c.net ≠ net → c.seq = rd b 4 4 →
      c.bytes ≠ b ∨ msTicks 10 < s.clk.now - c.at_ →
      0 < (rd b 4 4 + 2 ^ 32 - s.bw.sources[j].lastSeq) % 2 ^ 32 → (rd b 4 4 + 2 ^ 32 - s.bw.sources[j].lastSeq) % 2 ^ 32 ≤ 2 ^ 31 →
      exec (.safetyMessage net b) s = .next (s.modBw fun x =>
        { x with sources := vmod x.sources j fun y => { y with pending := none, mismatch := satInc 8 y.mismatch } })) ∧
    (∀ c : MsgCopy, s.bw.sources[j].pending = some c →
      (c.at_ + msTicks 10 < s.clk.now → exec (.safetyMsgPendingExpire j) s = .next (s.modBw fun x =>
        { x with sources := vmod x.sources j fun y => { y with pending := none, single := satInc 8 y.single } })) ∧
      (s.clk.now ≤ c.at_ + msTicks 10 → exec (.safetyMsgPendingExpire j) s = .next s)) ∧
    (s.bw.par (P_SM_RX_ID j) ≠ 0 → s.bw.sources[j].timedOut = false →
      s.bw.sources[j].lastAt + msTicks (s.bw.par (P_SM_RX_TIMEOUT j)) ≤ s.clk.now →
      exec (.safetyMsgTimeout j) s = .next (s.messageDemand j true true 0x0FFF true)) ∧
    (s.bw.par P_SM_OWN_ID ≠ 0 → s.bw.token.isSome = true → s.bw.txAt + msTicks (s.bw.par P_SM_TX_PERIOD) ≤ s.clk.now →
      exec .safetyMsgSend s =
        .next (((s.modBw fun x => { x with txSeq := (s.bw.txSeq + 1) % 2 ^ 32, txAt := s.clk.now }).send 0
            (.safety 0 (s.bw.message ((s.bw.txSeq + 1) % 2 ^ 32)))).send 1 (.safety 1 (s.bw.message ((s.bw.txSeq + 1) % 2 ^ 32))))) ∧
    (s.clk.now < s.bw.txAt + msTicks (s.bw.par P_SM_TX_PERIOD) → exec .safetyMsgSend s = .next s) ∧
    (s.bw.token = none → exec (.safetyMessage net b) s = .next s)

/-! ### The bus step and the ends of events -/

/-- BUS_STEP: it runs only where the dies run and the engine does; it begins with the committed parameters and the targets accepted so
far, moves CLOCK_TRIM by at most 200 ppm towards its parameter, and notes its own tick. -/
def Obligations.BusStepCompletes : Prop :=
  ∀ (s : State),
    (s.awake = true → s.act.engine.run = true → ∃ t, exec .busStep s = .next t ∧ t = s.busStep ∧ t.firm.busAt = s.clk.now) ∧
    (s.awake = false ∨ s.act.engine.run = false → exec .busStep s = .next s) ∧
    (s.act.host.awaiting = [] → s.beginStep.firm.applied = s.act.cfg.committed.params) ∧ s.beginStep.firm.dispatch.next = [] ∧
    (s.trimStep.clocks.trim - s.clocks.trim).natAbs ≤ 20000 ∧
    ((s.par P_CLOCK_TRIM - s.clocks.trim).natAbs ≤ 20000 → s.trimStep.clocks.trim = s.par P_CLOCK_TRIM) ∧
    s.trimStep.clocks.stop = s.clocks.stop

/-- RT_FAULT_OFF, PJ_REALIGN_END, PORT_DC_UV, BMS_OVERCURRENT: each once its time has run, not before. -/
def Obligations.RideEventsComplete : Prop :=
  ∀ (s : State) (p : Port),
    (heldFor s.clk.now (msTicks (s.lawN P_FAULT_CLEAR_T)) s.firm.ride.voltIn = true → s.firm.ride.fault = true →
      ∃ t, exec .rtFaultOff s = .next t ∧ t.firm.ride.fault = false ∧
      t.firm.ride.voltIn = none ∧ t.firm.life = s.firm.life ∧ t.dev = s.dev ∧ t.pwm = s.pwm) ∧
    (s.firm.ride.voltIn = none → exec .rtFaultOff s = .next s) ∧
    (∀ t : Nat, s.firm.ride.voltIn = some t → s.clk.now < t + msTicks (s.lawN P_FAULT_CLEAR_T) → exec .rtFaultOff s = .next s) ∧
    (heldFor s.clk.now 0 (s.firm.ride.realign.map (·.2.2)) = true →
      exec .pjRealignEnd s = .next (s.modRide fun r => { r with realign := none })) ∧
    (heldFor s.clk.now 0 (s.firm.ride.realign.map (·.2.2)) = false → exec .pjRealignEnd s = .next s) ∧
    (s.awake = true → s.fbClosed p 0 = true → s.fbClosed p 1 = true → s.vdcVolts p < s.lawN (PP_V_DC_MIN p) →
      heldFor s.clk.now (msTicks 10) s.firm.shares[p].lowFrom = true →
      ∃ t, exec (.portDcUv p) s = .next t ∧ .dcUv ∈ (t.life p).trips ∧ (t.life p).gateEn = false ∧ t.pwm[p].trip = true ∧
        (∀ q : Port, q ≠ p → t.life q = s.life q ∧ t.pwm[q] = s.pwm[q])) ∧
    (s.fbClosed p 0 = false ∨ s.fbClosed p 1 = false ∨ (s.lawN (PP_V_DC_MIN p) : Rat) ≤ s.vdcVolts p ∨ s.firm.shares[p].lowFrom = none →
      exec (.portDcUv p) s = .next s) ∧
    (s.awake = true → s.partakes p = true → s.dcLimit p * (1 + (s.lawN (PP_BMS_MARGIN p) : Rat) / 100) < ratAbs (s.idcAmps p) →
      heldFor s.clk.now (msTicks (s.lawN (PP_BMS_OVER_T p))) s.firm.shares[p].overFrom = true →
      ∃ t, exec (.bmsOvercurrent p) s = .next t ∧ .bmsOver ∈ (t.life p).trips ∧ (t.life p).gateEn = false ∧ t.pwm[p].trip = true ∧
        (∀ q : Port, q ≠ p → t.life q = s.life q ∧ t.pwm[q] = s.pwm[q])) ∧
    (ratAbs (s.idcAmps p) ≤ s.dcLimit p * (1 + (s.lawN (PP_BMS_MARGIN p) : Rat) / 100) ∨ s.firm.shares[p].overFrom = none →
      exec (.bmsOvercurrent p) s = .next s)

/-- BS_DEAD_CHECK_PASS, BS_ANCHOR_LAUNCH, BS_GATE_ENABLE, BS_DONE, BS_RAMP_TIMEOUT. SYNC_TIMEOUT, SYNC_CLOSE_FAIL, SYNC_GRID_LOST,
STOP_RAMP_END: the close is disarmed; at the end of a falling ramp every gate goes off and the state is READY, the breaker output cleared
by a stop in parallel. None acts before its time. -/
def Obligations.BlackStartSyncComplete : Prop :=
  (∀ (s : State) (g : Nat),
      (s.firm.seq.bsPending = true → s.firm.seq.bsFrom + msTicks (s.lawN P_BS_DEAD_T) ≤ s.clk.now →
        exec .bsDeadCheckPass s = .next (s.modSeq fun q => { q with bsPassed := true })) ∧
      (s.clk.now < s.firm.seq.bsFrom + msTicks (s.lawN P_BS_DEAD_T) → exec .bsDeadCheckPass s = .next s) ∧
      (∀ n : Nat, s.firm.seq.bsPending = true → s.firm.seq.bsAnchored = false → s.firm.seq.bsGate = some g → s.firm.seq.bsPassed = true →
        s.act.ptp.valid = true →
        (roundUpHalf (((g * 2 ^ 32 : Int) - s.act.ptp.clock : Int) / ((10737418240 + s.act.ptp.adj : Int) : Rat))).toNat = n →
        800 ≤ n → n < 2 ^ 31 → ∃ t, exec .bsAnchorLaunch s = .next t ∧ t.firm.seq.bsAnchored = true ∧ t.firm.rotor.w = 1 ∧
          t.firm.rotor.wf = 1 ∧ t.firm.angleOut.anchor = 0 ∧ t.firm.angleOut.incNew = incOf s.lawF ∧
          t.firm.angleOut.applyTick = (s.act.replica.tick + n) % 2 ^ 32 ∧ t.dev = s.dev) ∧
      (s.firm.seq.bsPending = true → s.firm.seq.bsAnchored = false → s.firm.seq.bsGate = some g →
        s.firm.seq.bsPassed = false ∨ s.act.ptp.valid = false → exec .bsAnchorLaunch s = .next (s.abortBlackStart 2) ∧
          (s.abortBlackStart 2).firm.seq.bsPending = false) ∧
      (s.firm.seq.bsPending = true → s.dev = .ready → s.bsEnableDue = true → s.firm.seq.bsPassed = true →
        s.firm.seq.bsGate = none ∨ s.firm.seq.bsAnchored = true → ∃ t, exec .bsGateEnable s = .next t ∧ t.dev = .forming ∧
        t.firm.sub = .blackStart ∧ t.firm.seq.ramp = .bsUp ∧ t.firm.rotor.e = 0 ∧ t.firm.seq.bsPending = false ∧
        t.firm.seq.bsEnableAt = s.clk.now ∧
        (∀ p : Port, (s.life p).admitted = true → (s.life p).trips = [] → (t.life p).gateEn = true)) ∧
      (s.firm.seq.bsPending = true → s.dev = .ready → s.bsEnableDue = true → s.firm.seq.bsGate = some g →
        s.firm.seq.bsPassed = false ∨ s.firm.seq.bsAnchored = false → exec .bsGateEnable s = .next (s.abortBlackStart 2)) ∧
      (s.bsEnableDue = false → exec .bsGateEnable s = .next s) ∧
      (s.dev = .forming → s.firm.sub = .blackStart → s.firm.seq.ramp = .bsUp →
        heldFor s.clk.now (msTicks 100) s.firm.seq.holdSince = true →
        ∃ t, exec .bsDone s = .next t ∧ t.dev = .forming ∧ t.firm.sub = s.entryMode .islanded ∧ t.firm.seq.ramp = .none ∧
          t.firm.life = s.firm.life) ∧
      (s.dev = .forming → s.firm.sub = .blackStart → s.firm.seq.ramp = .bsUp →
        s.firm.seq.bsEnableAt + 3 * msTicks (s.lawN P_BS_RAMP_T) ≤ s.clk.now → exec .bsRampTimeout s = .next (s.startRamp .bsDown)) ∧
      (s.clk.now < s.firm.seq.bsEnableAt + 3 * msTicks (s.lawN P_BS_RAMP_T) → exec .bsRampTimeout s = .next s)) ∧
  (∀ (s : State),
      (s.firm.seq.armed = true → s.firm.seq.closeAt = none →
        s.firm.seq.armedAt + msTicks (1000 * s.lawN P_SYNC_TIMEOUT) ≤ s.clk.now → ∃ t, exec .syncTimeout s = .next t ∧
        t.firm.seq.armed = false ∧ t.firm.seq.closeAt = none ∧ t.dev = s.dev ∧ t.firm.life = s.firm.life) ∧
      (s.clk.now < s.firm.seq.armedAt + msTicks (1000 * s.lawN P_SYNC_TIMEOUT) → exec .syncTimeout s = .next s) ∧
      (s.dev = .sync → heldFor s.clk.now (msTicks (s.lawN P_BRK_FB_TIMEOUT)) s.firm.seq.closeAt = true →
        ∃ t, exec .syncCloseFail s = .next t ∧ t.firm.seq.armed = false ∧
        t.firm.seq.closeAt = none ∧ t.firm.seq.brkOut = false ∧ t.dev = .sync) ∧
      (s.dev = .sync → heldFor s.clk.now (msTicks 100) s.firm.seq.gridLow = true → s.firm.seq.ramp = .none →
        ∃ t, exec .syncGridLost s = .next t ∧
        t.firm.seq.armed = false ∧ t.firm.seq.ramp = .gridLost ∧ t.firm.seq.brkOut = false ∧ t.firm.seq.brkWas = s.firm.seq.brkOut ∧
        t.dev = .sync) ∧
      (s.firm.seq.ramp.falling = true → s.dev.runs = true → s.firm.seq.rampAt + msTicks (s.lawN P_STOP_RAMP_T) ≤ s.clk.now →
        ∃ t, exec .stopRampEnd s = .next t ∧ t.dev = .ready ∧ t.firm.seq.ramp = .none ∧
        (∀ p : Port, (t.life p).gateEn = false) ∧ (s.firm.seq.ramp = .stopParallel → t.firm.seq.brkOut = false)) ∧
      (s.firm.seq.ramp.falling = false ∨ s.dev.runs = false ∨ s.clk.now < s.firm.seq.rampAt + msTicks (s.lawN P_STOP_RAMP_T) →
        exec .stopRampEnd s = .next s))

/-! ### Auxiliary converter, capture, trace, log -/

/-- CAP_TRIGGER_FIRE, CAP_SAMPLE_INSTANT, CAP_MASK_HIT, CAP_DONE, CAP_REARM, STREAM_DATAGRAM, TRACE_TRIGGER. -/
def Obligations.CaptureEventsComplete : Prop :=
  ∀ (s : State) (m : Fin 4),
    (∀ f : CapFire, s.act.cap.due = some f → ∃ t, exec .capTriggerFire s = .next t ∧ t.act.cap.state = .triggered ∧ t.act.cap.due = none ∧
      t.act.cap.trigTime = f.time ∧ t.act.cap.forced = f.forced ∧ t.act.cap.maskStop = f.maskStop ∧
      t.act.cap.trigIndex = some (s.act.cap.sets.length - 1) ∧ t.act.cap.trigValid = s.act.ptp.valid ∧ t.act.cap.sets = s.act.cap.sets ∧
      t.act.cap.ended = (f.maskStop || decide (s.act.cap.cfg.length ≤ s.act.cap.sets.length))) ∧
    (s.act.cap.due = none → exec .capTriggerFire s = .next s) ∧
    (s.capInstant = true → s.act.cap.due = none → s.act.cap.ended = false → s.act.cap.state = .triggered →
      ∃ t k, exec .capSampleInstant s = .next t ∧
      t.act.cap.sets = s.act.cap.sets ++ [k] ∧ k.ptp = s.ptpNow ∧ k.index = s.act.cap.nextIndex ∧
      k.samples = s.act.cap.cfg.enabled.map (fun i => s.capSource (s.act.cap.cfg.sel.getD i 0)) ∧
      t.act.cap.ended = decide (s.act.cap.cfg.length ≤ s.act.cap.sets.length + 1) ∧ t.act.cap.state = .triggered ∧
      t.act.cap.lastAt = some s.clk.mclk ∧ t.act.cap.nextIndex = s.act.cap.nextIndex + 1) ∧
    (s.capInstant = true → s.act.cap.due = none → s.act.cap.ended = false → s.act.cap.state = .armed → s.act.cap.hit s.capSet = none →
      s.act.cap.sets.length ≤ s.act.cap.cfg.pre → ∃ t, exec .capSampleInstant s = .next t ∧ t.act.cap.state = .armed ∧ t.act.cap.due = none ∧
        t.act.cap.sets.length ≤ s.act.cap.cfg.pre) ∧
    (∀ f : CapFire, s.capInstant = true → s.act.cap.due = none → s.act.cap.ended = false → s.act.cap.state = .armed →
      s.act.cap.hit s.capSet = some f → ∃ t, exec .capSampleInstant s = .next t ∧ t.act.cap.state = .armed ∧ t.act.cap.due = some f ∧
        t.act.cap.sets = s.act.cap.sets ++ [s.capSet]) ∧
    (s.capInstant = false → exec .capSampleInstant s = .next s) ∧
    (∀ k : CapMask, s.act.cap.masks[m] = some k → s.act.cap.violates m = true → ∃ t, exec (.capMaskHit m) s = .next t ∧
        t.act.cap.maskHit = (s.act.cap.maskHit ||| 2 ^ m.val) ∧ t.act.cap.maskStop = (s.act.cap.maskStop || k.stop) ∧
        t.act.cap.ended = (s.act.cap.ended || k.stop) ∧ t.act.cap.sets = s.act.cap.sets ∧ t.act.cap.state = .triggered) ∧
    (s.act.cap.violates m = false → exec (.capMaskHit m) s = .next s) ∧
    (s.act.cap.state = .triggered → s.act.cap.ended = true → ∃ t, exec .capDone s = .next t ∧ t.act.cap.state = .done ∧
      t.act.cap.sets = s.act.cap.sets ∧ t.act.cap.meas.length = 32 ∧ t.act.cap.recordNo = s.act.cap.recordNo ∧ t.act.cap.doneAt = s.clk.now) ∧
    (s.act.cap.ended = false ∨ s.act.cap.state ≠ .triggered → exec .capDone s = .next s) ∧
    (s.act.cap.state = .done → s.act.cap.cfg.mode = 1 → s.act.cap.doneAt + usTicks (max s.act.cap.cfg.holdoff 1000) ≤ s.clk.now →
      ∃ t, exec .capRearm s = .next t ∧ t.act.cap.state = .armed ∧ t.act.cap.sets = [] ∧
      t.act.cap.recordNo = (s.act.cap.recordNo + 1) % 2 ^ 32 ∧ t.act.cap.maskHit = 0 ∧ t.act.cap.armedAt = s.clk.now) ∧
    (∀ d : CapStream, s.act.cap.state = .streaming → s.act.cap.stream = some d → s.act.cap.ended = false →
      360 / max 1 s.act.cap.streamed.length ≤ s.act.cap.fifo.length →
      ∃ t, exec .streamDatagram s = .next t ∧ t.act.cap.fifo = s.act.cap.fifo.drop (360 / max 1 s.act.cap.streamed.length) ∧
        t.act.cap.streamSent = satInc 32 s.act.cap.streamSent ∧ t.act.cap.lost = 0 ∧ t.act.cap.state = .streaming) ∧
    (∀ (d : CapStream) (k : CapSet), s.act.cap.state = .streaming → s.act.cap.stream = some d → s.act.cap.ended = false →
      s.act.cap.fifo.head? = some k → s.ptpNow < k.ptp + 1000000 → s.act.cap.fifo.length < 360 / max 1 s.act.cap.streamed.length →
      exec .streamDatagram s = .next s) ∧
    (s.act.trace.state = .armed → s.act.trace.trig ≠ 0 → s.act.trace.hit = true → ∃ t, exec .traceTrigger s = .next t ∧
      t.act.trace.state = .triggered ∧ t.act.trace.trigStep = (s.act.trace.steps + 1) % 2 ^ 32 ∧ t.act.trace.hit = false ∧
      t.act.trace.words = s.act.trace.words ∧ t.firm = s.firm)

/-! ### The pair -/

/-- MIRROR_SLOT_LAUNCH, MIRROR_FRAME, MIRROR_ACK, MIRROR_SLOT_END. -/
def Obligations.MirrorComplete : Prop :=
  ∀ (s : State) (f : MirrorFrame) (a : MirrorAckFrame),
    (s.awake = true → s.active = true → s.act.pair.alive = true → ∃ t g, exec .mirrorSlotLaunch s = .next t ∧ t.mirror = some g ∧
      g.seq = s.act.pair.seq ∧ g.full = decide (s.act.pair.slot = 0) ∧ (s.act.pair.slot = 0 → g.firm = some s.firm.fixedSet) ∧
      t.act.pair.seq = (s.act.pair.seq + 1) % 2 ^ 32 ∧ t.act.pair.slot = (s.act.pair.slot + 1) % s.mirrorSlots ∧ t.firm = s.firm) ∧
    (s.mirror = some f → s.hl[s.peer].pair.role.listens = true →
      s.hl[s.peer].pair.lastSeq = none ∨ (∃ q, s.hl[s.peer].pair.lastSeq = some q ∧ f.seq = (q + 1) % 2 ^ 32) →
      ∃ t k, exec (.mirrorFrame true) s = .next t ∧ t.mirror = none ∧ t.ack = some k ∧ k.seq = f.seq ∧
        t.hl[s.peer].pair.lastSeq = some f.seq ∧ t.hl[s.peer].pair.missRun = 0 ∧ t.hl[s.peer].pair.slotGot = true ∧
        (∀ m, f.firm = some m → t.mirrored = m) ∧ (f.firm = none → t.mirrored = s.mirrored) ∧ t.firm = s.firm) ∧
    (s.mirror = some f → s.hl[s.peer].pair.role.listens = true → ∃ t, exec (.mirrorFrame false) s = .next t ∧ t.mirror = none ∧
      t.hl[s.peer].pair.mirrorBad = satInc 16 s.hl[s.peer].pair.mirrorBad ∧ t.hl[s.peer].pair.ineligMirror = true ∧
      t.hl[s.peer].pair.validRun = 0 ∧ t.mirrored = s.mirrored ∧ t.ack = s.ack) ∧
    (s.ack = some a → exec (.mirrorAck false) s = .next { s with ack := none }) ∧
    (s.ack = some a → s.active = true → s.act.pair.launched.contains a.seq = true → ∃ t, exec (.mirrorAck true) s = .next t ∧ t.ack = none ∧
      t.act.pair.lastAck = some s.clk.now ∧ t.act.pair.peerEligible = a.eligible ∧ t.act.pair.peerWords = a.words ∧
      t.act.pair.hashPeer = a.hash) ∧
    (s.awake = true → s.hl[s.peer].pair.role.listens = true → s.hl[s.peer].pair.slotGot = true →
      exec .mirrorSlotEnd s = .next (s.modPair s.peer fun p => { p with slotGot := false })) ∧
    (s.awake = true → s.hl[s.peer].pair.role.listens = true → s.hl[s.peer].pair.slotGot = false → s.hl[s.peer].pair.missRun = 0 →
      ∃ t, exec .mirrorSlotEnd s = .next t ∧ t.hl[s.peer].pair.missRun = 1 ∧ t.hl[s.peer].pair.claim = s.hl[s.peer].pair.claim) ∧
    (s.awake = true → s.hl[s.peer].pair.role.listens = true → s.hl[s.peer].pair.slotGot = false → s.hl[s.peer].pair.missRun = 1 →
      ∃ t, exec .mirrorSlotEnd s = .next t ∧ t.hl[s.peer].pair.missRun = 2 ∧
        (s.hl[s.peer].pair.eligible = true → t.hl[s.peer].pair.claim = true ∧ t.hl[s.peer].pair.claimCause = 1) ∧
        (s.hl[s.peer].pair.eligible = false → t.hl[s.peer].pair.claim = s.hl[s.peer].pair.claim))

/-- TOKEN_CLAIM, TAKEOVER_COMPLETE, LATE_CLAIM, HANDOVER_BOUNDARY, HEADLAND_FAILURE. -/
def Obligations.TakeoverCompletes : Prop :=
  ∀ (s : State) (h g : Hd), g ≠ h →
    (s.dev ≠ .standby → s.bootHeld = false → s.hl[h].pair.claim = true → s.hl[g].pair.claim = false → s.bw.token = none → ∃ t, exec (.tokenClaim h) s = .next t ∧
      t.bw.token = some h ∧ t.hl[h].pair.role = .active ∧ t.hl[h].pair.claim = false) ∧
    (s.dev ≠ .standby → s.bootHeld = false → s.hl[h].pair.claim = true → s.hl[g].pair.claim = true → s.bw.token = none → ∃ t, exec (.tokenClaim h) s = .next t ∧
      t.bw.token = some (if s.parN P_PREFER = 1 then 1 else 0) ∧
      t.hl[(if s.parN P_PREFER = 1 then 0 else 1 : Hd)].pair.role = .resetting) ∧
    (s.dev ≠ .standby → s.dev ≠ .boot → s.hl[h].pair.claim = true → s.bw.token = some g → s.hl[g].pair.alive = false →
      ∃ t, exec (.tokenClaim h) s = .next t ∧ t.bw.token = some h ∧ t.hl[h].pair.claim = false ∧ t.mirror = none ∧ t.rs = s.rs ∧
        t.pwm = s.pwm ∧ t.sk = s.sk ∧ t.shoals = s.shoals ∧ t.bw.lockout = s.bw.lockout ∧ t.dev ≠ .standby ∧ t.dev ≠ .boot) ∧
    (s.dev ≠ .standby → s.hl[h].pair.claim = true → s.bw.token = some g → s.hl[g].pair.alive = true →
      ∃ t, exec (.tokenClaim h) s = .next t ∧ t.bw.token = some g ∧ t.hl[h].pair.role = .resetting ∧ t.hl[h].pair.claim = false) ∧
    (s.hl[h].pair.claim = false ∨ s.bootHeld = true ∧ s.bw.token = none → exec (.tokenClaim h) s = .next s) ∧
    (∀ c : Nat, s.bw.token.isSome = true → s.act.pair.role.listens = true → s.act.pair.claimCause = c → c = 1 ∨ c = 2 →
      s.act.pair.tookShoals.all id = true → s.act.pair.tookShore = true → s.act.pair.tookBw = true →
      ∃ t, exec .takeoverComplete s = .next t ∧ t.bw = s.bw ∧ t.act.pair.role = .active ∧ t.act.pair.lastCause = c ∧
        t.act.pair.takeovers = satInc 32 s.act.pair.takeovers ∧ (s.hl[s.peer].pair.role = .active → t.hl[s.peer].pair.role = .resync) ∧
        t.firm = s.firm) ∧
    (s.awake = true → s.bw.token.isSome = true → s.hl[s.peer].pair.role.listens = true → s.hl[s.peer].pair.eligible = false →
      s.hl[s.peer].pair.missRun = 2 → s.bw.hlLost = true → s.bw.hlLostAt + msTicks 2 ≤ s.clk.now → s.act.pair.alive = false → ∃ t, exec .lateClaim s = .next t ∧
        t.bw.token = some s.peer ∧ t.hl[s.peer].pair.role = .active ∧ t.hl[s.peer].pair.lastCause = 3 ∧
        (t.dev = .tripped ∨ t.dev = .lockout) ∧
        (∀ p : Port, (t.life p).admitted = true → .lateTakeover ∈ (t.life p).trips ∧ (t.life p).gateEn = false)) ∧
    (s.act.pair.tookShoals.all id = false ∨ s.act.pair.tookShore = false ∨ s.act.pair.tookBw = false → exec .takeoverComplete s = .next s) ∧
    (s.carrierWraps 0 = false → exec .handoverBoundary s = .next s) ∧
    (s.active = true → s.act.pair.handover = true → s.act.pair.alive = true → s.carrierWraps 0 = true → ∃ t f, exec .handoverBoundary s = .next t ∧ t.mirror = some f ∧
      f.full = true ∧ f.handover = true ∧ f.firm = some s.firm.fixedSet ∧ t.act.pair.alive = false ∧ t.act.pair.claim = false ∧
      t.act.engine.run = false ∧ t.bw.token = s.bw.token) ∧
    (s.active = true → ∀ c ∈ [FailCause.watchdog, FailCause.ecc], ∃ t, exec (.headlandFailure c) s = .next t ∧
      t.hl[s.hd].pair.role = .resetting ∧ t.hl[s.hd].pair.alive = false ∧ t.hl[s.hd].log.records = s.hl[s.hd].log.records ∧
      t.bw = s.bw ∧ t.firm = s.firm ∧ t.pwm = s.pwm) ∧
    (s.active = true → s.act.pair.peerEligible = true → exec (.headlandFailure .lossOfLock) s = .next (s.failHeadland s.hd)) ∧
    (s.act.pair.peerEligible = false → exec (.headlandFailure .lossOfLock) s = .next s) ∧
    (s.active = true → s.hl[s.peer].pair.claim = true → ∃ t, exec (.headlandFailure .doubleClaim) s = .next t ∧
      t.hl[s.peer].pair.role = .resetting ∧ t.hl[s.peer].pair.claim = false ∧ t.bw = s.bw)

/-- RESYNC_COMPLETE, RESYNC_TIMEOUT, RESYNC_RETRY, CONFIG_ACK_TIMEOUT. -/
def Obligations.ResyncCompletes : Prop :=
  ∀ (s : State) (b : Headland), s.hl[s.peer] = b →
    (s.awake = true → b.pair.role = .resync → b.pair.lastSeq.isSome = true → b.pair.hashSelf = b.pair.hashPeer →
      b.safetyCrc = b.pair.safetyPeer → exec .resyncComplete s =
        .next (s.modPair s.peer fun p => { p with role := .standby, ineligResync := false, ineligHash := false, ineligSafety := false })) ∧
    (b.pair.hashSelf ≠ b.pair.hashPeer ∨ b.safetyCrc ≠ b.pair.safetyPeer → exec .resyncComplete s = .next s) ∧
    (s.awake = true → b.pair.role = .resync → b.matched = false → s.act.pair.transfer = true →
      b.pair.resyncAt + msTicks 2000 ≤ s.clk.now → ∃ t, exec .resyncTimeout s = .next t ∧ t.hl[s.peer].pair.ineligHash = true ∧
      t.hl[s.peer].pair.role = .resync ∧ t.act.pair.transfer = false ∧ t.firm = s.firm) ∧
    (s.clk.now < b.pair.resyncAt + msTicks 2000 → exec .resyncTimeout s = .next s ∧ exec .resyncRetry s = .next s) ∧
    (s.awake = true → s.active = true → b.pair.role = .resync → b.pair.resyncAt + msTicks 10000 ≤ s.clk.now →
      exec .resyncRetry s = .next ((s.modPair s.hd fun p => { p with transfer := true }).modPair s.peer fun p => { p with resyncAt := s.clk.now })) ∧
    ((∀ w ∈ s.act.host.awaiting, w.acked = true ∨ s.clk.now < w.since + msTicks 10) → exec .configAckTimeout s = .next s) ∧
    (∀ w : AwaitAck, s.act.host.awaiting = [w] → w.acked = false → w.item.op ≠ 0x28 → w.since + msTicks 10 ≤ s.clk.now → ∃ t, exec .configAckTimeout s = .next t ∧
      t.act.host.awaiting = [] ∧ t.act.pair.transfer = true ∧
      (b.pair.role = .standby → t.hl[s.peer].pair.role = .resync ∧ t.hl[s.peer].pair.ineligHash = true) ∧ t.firm = s.firm)

/-! ### Clocks and check-value units -/

/-- PLL_LOSS_OF_LOCK, REFERENCE_LOSS, REFERENCE_RETURN, PLL_RELOCK. CRC_SNOOP_FRAME and CRC_REGION_PASS: each frame is fed from INIT and
counted; a value other than the frame's own, or than the first pass's, counts as a mismatch. Power-up, every reset and a takeover set the
units of the Headland concerned to CRC-32 without a snoop; no mirror frame carries them. -/
def Obligations.ClocksCheckUnitsComplete : Prop :=
  (∀ (s : State) (k : Shoal),
      (s.clocks.shoal[k].state = .locked → ∃ t, exec (.pllLossOfLock (.shoal k)) s = .next t ∧ t.clocks.shoal[k].bypass = true ∧
        t.clocks.shoal[k].state = .acquiring ∧ t.clocks.stop[k] = true ∧ t.clocks.unlocks = satInc 32 s.clocks.unlocks ∧
        t.clocks.lastUnlock = s.act.log.opSec ∧ (∀ j : Fin 3, t.pwm[portOf k j].safe = true) ∧
        (∀ p : Port, shoalOf p ≠ k → t.pwm[p] = s.pwm[p]) ∧ t.firm = s.firm ∧ t.bw = s.bw) ∧
      (∀ d : ClockDie, (s.clocks.get d).state ≠ .locked → exec (.pllLossOfLock d) s = .next s) ∧
      (s.clocks.hd[s.hd].state = .locked → s.act.pair.peerEligible = false → ∃ t, exec (.pllLossOfLock (.headland s.hd)) s = .next t ∧
        t.act.engine.run = false ∧ t.clocks.stop[k] = true ∧ t.bw = s.bw ∧ (∀ p : Port, t.pwm[p].safe = true)) ∧
      (s.clocks.hd[s.hd].state = .locked → s.act.pair.peerEligible = true → ∃ t, exec (.pllLossOfLock (.headland s.hd)) s = .next t ∧
        t.hl[s.hd].pair.role = .resetting ∧ t.hl[s.hd].pair.alive = false ∧ t.bw = s.bw ∧ t.pwm = s.pwm) ∧
      (s.clocks.hd[s.peer].state = .locked → ∃ t, exec (.pllLossOfLock (.headland s.peer)) s = .next t ∧
        t.hl[s.peer].pair.ineligSelftest = true ∧ t.clocks.stop = s.clocks.stop ∧ t.pwm = s.pwm) ∧
      (s.dev ≠ .standby → s.clocks.refLost = false → ∃ t, exec .referenceLoss s = .next t ∧ t.clocks.refLost = true ∧ t.clocks.shoal[k].bypass = true ∧
        t.clocks.shoal[k].state = .noRef ∧ t.clocks.stop[k] = true ∧ (∀ h : Hd, t.clocks.hd[h].bypass = true ∧ t.clocks.hd[h].state = .noRef) ∧
        t.bw = s.bw ∧ (∀ p : Port, t.pwm[p].safe = true)) ∧
      (s.dev = .standby ∨ s.clocks.refLost = true → exec .referenceLoss s = .next s) ∧
      (s.clk.now < s.clocks.refLostAt + 16384 → exec .referenceReturn s = .next s) ∧
      (s.clocks.refLost = true → s.clocks.refLostAt + 16384 ≤ s.clk.now → ∃ t, exec .referenceReturn s = .next t ∧ t = { s with clocks := t.clocks } ∧ t.clocks.refLost = false ∧
        t.clocks.shoal[k].state = .acquiring ∧ t.clocks.shoal[k].bypass = s.clocks.shoal[k].bypass ∧ t.clocks.stop = s.clocks.stop ∧
        (∀ h : Hd, t.clocks.hd[h].state = .acquiring ∧ t.clocks.hd[h].bypass = s.clocks.hd[h].bypass)) ∧
      (∀ e : Int, s.dev ≠ .standby → s.clocks.shoal[k].state = .acquiring → (e.natAbs : Int) ≤ s.par P_PLL_LOCK_WIN →
        s.clocks.shoal[k].acqAt + 16 * s.parN P_PLL_LOCK_CYCLES ≤ s.clk.now → ∃ t, exec (.pllRelock (.shoal k) e) s = .next t ∧ t.clocks.shoal[k].state = .locked ∧
        t.clocks.shoal[k].bypass = false ∧ t.clocks.shoal[k].phaseErr = satS 8 e ∧ t.clocks.stop = s.clocks.stop ∧ t.pwm = s.pwm) ∧
      (∀ (d : ClockDie) (e : Int), s.dev = .standby ∨ (s.clocks.get d).state ≠ .acquiring ∨ s.par P_PLL_LOCK_WIN < e.natAbs → exec (.pllRelock d e) s = .next s)) ∧
  (∀ (s : State) (u : Fin 8) (bytes : List Byte) (c v : CrcUnit), s.act.crc[u] = c →
      (c.snooped bytes = none → ∃ t, exec (.crcSnoopFrame u bytes) s = .next t ∧ t.act.crc[u] = c) ∧
      (∀ x : List Byte × Nat, c.snooped bytes = some x → { c with reg := c.init }.feed x.1 = v →
        ∃ t, exec (.crcSnoopFrame u bytes) s = .next t ∧ t.act.crc[u].result = v.result ∧ t.act.crc[u].frames = satInc 32 c.frames ∧
          t.act.crc[u].mismatches = (if v.result = x.2 then c.mismatches else satInc 32 c.mismatches) ∧
          (∀ w : Fin 8, w ≠ u → t.act.crc[w] = s.act.crc[w])) ∧
      (c.snoop ≠ 6 → exec (.crcRegionPass u bytes) s = .next s) ∧
      (c.snoop = 6 → { c with reg := c.init }.feed ((if bit c.flags 2 then le 4 c.arg else []) ++ bytes) = v →
        ∃ t, exec (.crcRegionPass u bytes) s = .next t ∧ t.act.crc[u].result = v.result ∧ t.act.crc[u].frames = satInc 32 c.frames ∧
          t.act.crc[u].first = some (c.first.getD v.result) ∧
          t.act.crc[u].mismatches = (if c.first.getD v.result = v.result then c.mismatches else satInc 32 c.mismatches)) ∧
      (∀ h : Hd, s.dieReset.hl[h].crc = Vector.replicate 8 {} ∧ s.powerReset.hl[h].crc = Vector.replicate 8 {} ∧
        (s.failHeadland h).hl[h].crc = Vector.replicate 8 {} ∧ (s.grant h).hl[h].crc = Vector.replicate 8 {}) ∧
      (∀ (a : Headland) (f : MirrorFrame), (a.takeFrame f).crc = a.crc) ∧
      (({} : CrcUnit).snoop = 0 ∧ ∀ bs : List Byte, (({} : CrcUnit).feed bs).result = crc32 bs))

/-! ### Power, start-up, resets, memory errors -/

/-- VSUP_LOCKOUT, POWER_UP, HEADLAND_SELFTEST_END, BOOT_CLAIM_TIMEOUT, BOOT_END. -/
def Obligations.StartUpCompletes : Prop :=
  ∀ (s : State) (h : Hd) (n : Nat),
    ((maybeBelow n 550 || maybeAbove n 4200) = false → exec (.vsupLockout n) s = .next s) ∧
    (s.dev ≠ .standby → (maybeBelow n 550 || maybeAbove n 4200) = true → ∃ t, exec (.vsupLockout n) s = .next t ∧ t.dev = .standby ∧ t.heart.lockedOut = true ∧ t.heart.lockoutSeen = true ∧
      t.heart.vsup = n ∧ t.heart.budget = 0 ∧ t.bw.token = none ∧ t.pwm = Vector.replicate 12 {} ∧ t.sk = Vector.replicate 13 {}) ∧
    (s.dev = .standby → (maybeBelow n 550 || maybeAbove n 4200) = true → exec (.vsupLockout n) s =
      .next (s.modHeart fun x => { x with lockedOut := true, lockoutSeen := true }.noBudget n)) ∧
    (∀ cause : PowerCause, s.dev = .standby → (cause = .vsupRise ∧ 590 < n ∧ n ≤ 4200) ∨
      (cause = .overvoltageEnd ∧ s.heart.lockedOut = true ∧ 590 < n ∧ n < 4100) → ∃ t, exec (.powerUp cause n) s = .next t ∧ t.dev = .boot ∧
      t.resetKind = 0 ∧ t.heart.lockedOut = false ∧ t.heart.vsup = n ∧ t.heart.budget = budgetOf n s.heart.tBase ∧ t.bootAt = s.clk.now ∧ t.bw.token = none ∧ t.bw.lockout = true ∧ t.lookout.lastWake = 0 ∧
      t.hl[h].log.pcc = (s.hl[h].log.pcc + 1) % 2 ^ 24 ∧ t.hl[h].log.records = s.hl[h].log.records ∧ t.pwm = Vector.replicate 12 {} ∧
      t.meter.params = s.meter.params) ∧
    (s.dev = .standby → s.lookout.waking = true → s.heart.lockedOut = false → ∃ t, exec (.powerUp .wake n) s = .next t ∧ t.dev = .boot ∧
      t.resetKind = 1 ∧ t.lookout.waking = false ∧ t.lookout.lastWake = s.lookout.lastWake) ∧
    (s.lookout.waking = false → exec (.powerUp .wake n) s = .next s) ∧
    (n ≤ 590 → exec (.powerUp .vsupRise n) s = .next s ∧ exec (.powerUp .overvoltageEnd n) s = .next s) ∧
    (s.dev ≠ .standby → ∀ cause : PowerCause, exec (.powerUp cause n) s = .next s) ∧
    (s.dev = .boot → s.heart.resetN = false → s.bw.token = none → s.hl[h].pair.role = .boot → s.hl[h].pair.selfFails < 2 →
      s.hl[h].pair.ineligSelftest = true →
      exec (.headlandSelftestEnd h none) s = .next (s.modPair h fun p =>
        { p with ineligSelftest := false, selfFails := 0, alive := true, claim := true, role := .boot }) ∧
      ∀ part : SelftestPart, ∃ t, exec (.headlandSelftestEnd h (some part)) s = .next t ∧ t.hl[h].pair.role = .resetting ∧
        t.hl[h].pair.selfFails = s.hl[h].pair.selfFails + 1 ∧ t.hl[h].pair.alive = false ∧ t.hl[h].pair.claim = false ∧
        t.bw.token = none) ∧
    (2 ≤ s.hl[h].pair.selfFails → ∀ x : Option SelftestPart, exec (.headlandSelftestEnd h x) s = .next s) ∧
    (s.dev = .boot → s.bw.token = none → s.heart.resetN = false → s.bootAt + msTicks 1000 ≤ s.clk.now →
      exec .bootClaimTimeout s = .next { s with bootHeld := true }) ∧
    (s.clk.now < s.bootAt + msTicks 1000 → exec .bootClaimTimeout s = .next s) ∧
    (s.dev ≠ .boot ∨ s.bw.token ≠ none → exec .bootClaimTimeout s = .next s) ∧
    (s.dev = .boot → s.bootHeld = false → s.active = true → s.bw.started = true → s.heart.resetN = false →
      s.bootAt + msTicks 1000 ≤ s.clk.now ∨ (∀ l : Link, s.sk[l].good = true → 16 ≤ s.ul[l].good) → ∃ t, exec .bootEnd s = .next t ∧
      (t.dev = .idle ∨ t.dev = .lockout) ∧ (t.dev = .lockout ↔ t.bw.lockout = true) ∧ (2 ≤ s.resetKind → t.bw.lockout = s.bw.lockout) ∧
      (s.resetKind < 2 → s.bw.par P_START_LOCKED = 1 → t.bw.lockout = s.bw.lockout) ∧
      (s.resetKind < 2 → s.bw.par P_START_LOCKED ≠ 1 → s.bw.demanded = false → t.bw.lockout = false) ∧
      (∀ k : Shoal, t.shoals[k].acc = 0 ∧ t.shoals[k].tick = 0 ∧ t.shoals[k].inc = s.incNom) ∧
      t.firm.applied = s.act.cfg.committed.params ∧ t.bw.token = s.bw.token) ∧
    (∀ l : Link, s.clk.now < s.bootAt + msTicks 1000 → s.sk[l].good = true → s.ul[l].good < 16 → exec .bootEnd s = .next s) ∧
    (s.dev ≠ .boot ∨ s.bootHeld = true → exec .bootEnd s = .next s)

/-! ### Invariants, reset, the tick -/

/-- Every step keeps the gates apart: where every generator's gates fit its phase and no Skerry has both gates of a leg on, they do after
any command and after a tick; and such a state is safe. -/
def Obligations.GatesStayApart : Prop :=
  ∀ (s t : State), s.gatesFit = true → Steps s t → t.gatesFit = true ∧ t.safe = true

/-- What reset leaves. The state after reset keeps the gates apart, with every gate off. That reset is the start of BOOT after a power-up
with nothing stored, and the values without a reset column, are the model's choice (log 15, 16). -/
def Obligations.ResetValues : Prop :=
  (State.reset.dev = .boot ∧ State.reset.pending = [] ∧ State.reset.bw.token = none ∧ State.reset.bw.lockout = true ∧
      State.reset.resetKind = 0 ∧ State.reset.shore.silent = true ∧ State.reset.act.log.cursor = 1 ∧
      (∀ k : Shoal, State.reset.shoals[k].acc = 0 ∧ State.reset.shoals[k].tick = 0 ∧ State.reset.shoals[k].inc = State.reset.incNom) ∧
      (∀ p : Port, (State.reset.life p).life = .empty ∧ (State.reset.life p).trips = [] ∧ (State.reset.life p).testsValid = false ∧
        (State.reset.life p).gateEn = false) ∧
      (∀ (l : Link) (n : Fin 2), State.reset.sk[l].coils[n].cmd = false ∧ State.reset.sk[l].gateEn = false) ∧
      (∀ l : Link, State.reset.bw.ports[l].kind = .off) ∧
      (∀ h : Hd, State.reset.hl[h].cap.state = .idle ∧ State.reset.hl[h].trace.state = .idle ∧
        State.reset.hl[h].cfg.pendingSet = State.reset.hl[h].cfg.committed)) ∧
  (State.reset.gatesFit = true ∧ State.reset.safe = true ∧
      (∀ (p : Port) (k : Leg), State.reset.pwm[p].legs[k].h = false ∧ State.reset.pwm[p].legs[k].l = false) ∧
      (∀ (l : Link) (g : Gate), State.reset.sk[l].gates[g].on = false))

/-- A tick, on an empty queue: in STANDBY nothing but the timebase moves; while the dies run, each accumulator advances by its INC modulo
2^48 and each TICK by 1 modulo 2^32, and so do both replicas; nothing at the islands, Breakwater or the meter moves. The tick on an empty
queue is the model's choice (log 1). -/
def Obligations.IdleTick : Prop :=
  ∀ (s t : State), s.pending = [] → Steps s t →
    t.clk.now = s.clk.now + 1 ∧ t.sk = s.sk ∧ t.bw = s.bw ∧ t.meter = s.meter ∧ t.firm = s.firm ∧ t.shore = s.shore ∧
    (s.dev = .standby → t = { s with clk := t.clk, cycle := t.cycle }) ∧
    (s.awake = true → (∀ k : Shoal, t.shoals[k].acc = (s.shoals[k].acc + s.shoals[k].inc) % 2 ^ 48 ∧
        t.shoals[k].tick = (s.shoals[k].tick + 1) % 2 ^ 32 ∧ t.shoals[k].inc = s.shoals[k].inc) ∧
      ∀ h : Hd, t.hl[h].replica.acc = (s.hl[h].replica.acc + s.hl[h].replica.inc) % 2 ^ 48 ∧
        t.hl[h].replica.tick = (s.hl[h].replica.tick + 1) % 2 ^ 32)

/-- The CRC of packets: over "123456789" it is 0xCBF4_3926, and a reply carries the CRC of the bytes between its SYNC and its CRC, least
significant byte first. -/
def Obligations.CheckValue : Prop :=
  crc32 [0x31, 0x32, 0x33, 0x34, 0x35, 0x36, 0x37, 0x38, 0x39] = 0xCBF43926 ∧ le 4 0xCBF43926 = [0x26, 0x39, 0xF4, 0xCB] ∧
    (∀ bs : List Byte, crc32 bs = crcOut 32 true 0xFFFFFFFF (crcRun 32 0x04C11DB7 true 0xFFFFFFFF bs)) ∧
    (∀ r : Reply, ∃ body : List Byte, r.bytes = le 1 0x5A ++ body ++ le 4 (crc32 body))

/-- No step lowers a registered energy: not a host command, not a reset, not a loss of supply, not the verification. The premise, that an
unpowered cartridge's MRAM holds its registers, holds at reset and after every step. -/
def Obligations.EnergyOnlyGrows : Prop :=
  (∀ (s t : State), s.meter.keepsEnergy → Steps s t → t.meter.keepsEnergy ∧
    ∀ p : Port, s.meter.live.energy[p].imp ≤ t.meter.live.energy[p].imp ∧ s.meter.live.energy[p].exp ≤ t.meter.live.energy[p].exp) ∧
  (State.reset.meter.keepsEnergy ∧ ∀ p : Port, State.reset.meter.live.energy[p].imp = 0 ∧ State.reset.meter.live.energy[p].exp = 0)

/-- A standing lock-out ends only by a completed deliberate reset, or by the decision at the end of BOOT: no host command, no request of
the firmware and no other event lifts it. -/
def Obligations.LockoutHolds : Prop :=
  ∀ (c : Instr) (s t : State), exec c s = .next t → s.bw.lockout = true → t.bw.lockout = false →
    (c = .bootEnd ∧ s.dev = .boot ∧ s.resetKind < 2) ∨
      (∃ at_, c = .resetRelease ∧ msTicks 300 ≤ s.clk.now - at_ ∧ s.clk.now - at_ ≤ msTicks 3000 ∧ s.bw.resetArmed = true ∧ s.bw.press = some (at_, true) ∧
        s.bw.resettable s.clk.now false = true)
end

