-- ==== Sys2Proof/Laws/Bits.lean ====
section
/-! SUPPORT. Lemmas of byte strings and check values. -/
namespace Sys2Proof.Machine

@[simp] theorem le_length (n v : Nat) : (le n v).length = n := by simp [le]
@[simp] theorem be_length (n v : Nat) : (be n v).length = n := by simp [be]
@[simp] theorem zeros_length (n : Nat) : (zeros n).length = n := by simp [zeros]
@[simp] theorem leVal_nil : leVal [] = 0 := rfl
theorem leVal_cons (b : Byte) (bs : List Byte) : leVal (b :: bs) = b.toNat + 256 * leVal bs := rfl

theorem le_zero (v : Nat) : le 0 v = [] := rfl
theorem le_succ (n v : Nat) : le (n + 1) v = BitVec.ofNat 8 v :: le n (v / 256) := by
  simp only [le, List.range_succ_eq_map, List.map_cons, List.map_map]
  congr 1
  · simp
  · refine List.map_congr_left fun i _ => ?_
    simp only [Function.comp]
    congr 1
    rw [Nat.div_div_eq_div_mul]
    congr 1
    rw [show 256 = 2 ^ 8 from rfl, ← Nat.pow_add]
    congr 1
    omega

/-- Reading back n bytes written little-endian gives the value, cut to n bytes. -/
theorem leVal_le (n v : Nat) : leVal (le n v) = v % 256 ^ n := by
  induction n generalizing v with
  | zero => simp [le_zero, Nat.mod_one]
  | succ n ih =>
    have h : v % 256 ^ (n + 1) = v % 256 + 256 * (v / 256 % 256 ^ n) := by rw [Nat.pow_succ', Nat.mod_mul]
    rw [le_succ, leVal_cons, ih, BitVec.toNat_ofNat, h]

theorem rd_le (n v : Nat) (rest : List Byte) : rd (le n v ++ rest) 0 n = v % 256 ^ n := by
  rw [rd, List.drop_zero, List.take_append_of_le_length (by simp), List.take_of_length_le (by simp), leVal_le]

/-- Fields behind others in a request. -/
theorem rd_append_right (a b : List Byte) (off n : Nat) : rd (a ++ b) (a.length + off) n = rd b off n := by
  rw [rd, rd, ← List.drop_drop, List.drop_left]

theorem by8_le (v : Nat) (rest : List Byte) : by8 (le 1 v ++ rest) 0 = v % 256 := by
  simp [by8, le]

theorem rdBe_be (n v : Nat) (rest : List Byte) : rdBe (be n v ++ rest) 0 n = v % 256 ^ n := by
  rw [rdBe, List.drop_zero, List.take_append_of_le_length (by simp), List.take_of_length_le (by simp), be, List.foldl_reverse,
    ← leVal_le n v, leVal]
  congr 1
  funext b a
  omega
theorem rdBe_append_right (a b : List Byte) (off n : Nat) : rdBe (a ++ b) (a.length + off) n = rdBe b off n := by
  rw [rdBe, rdBe, ← List.drop_drop, List.drop_left]

/-- A check value fits its width. -/
theorem crcOut_lt (width : Nat) (refout : Bool) (x r : Nat) : crcOut width refout x r < 2 ^ width :=
  Nat.mod_lt _ (Nat.two_pow_pos width)
theorem crc32_lt (bs : List Byte) : crc32 bs < 2 ^ 32 := crcOut_lt ..
theorem crc32c_lt (bs : List Byte) : crc32c bs < 2 ^ 32 := crcOut_lt ..

end Sys2Proof.Machine
end

