-- ==== Sys2Proof/Laws/State.lean ====
section
/-! SUPPORT. One lemma per field and named update of the state: what an update leaves as it was, and what it writes. -/
namespace Sys2Proof.Machine

variable (s : State)

/-! ### Vectors -/

@[simp] theorem vset_same {α : Type} {n : Nat} (v : Vector α n) (i : Fin n) (a : α) : (vset v i a)[(i : Nat)] = a := by simp [vset]
theorem vset_other {α : Type} {n : Nat} (v : Vector α n) (i j : Fin n) (a : α) (h : i ≠ j) : (vset v i a)[(j : Nat)] = v[(j : Nat)] := by
  have : i.val ≠ j.val := fun e => h (Fin.ext e)
  simp [vset, this]
@[simp] theorem vmod_same {α : Type} {n : Nat} (v : Vector α n) (i : Fin n) (f : α → α) : (vmod v i f)[(i : Nat)] = f v[(i : Nat)] :=
  vset_same _ _ _
theorem vmod_other {α : Type} {n : Nat} (v : Vector α n) (i j : Fin n) (f : α → α) (h : i ≠ j) :
    (vmod v i f)[(j : Nat)] = v[(j : Nat)] := vset_other v i j _ h

/-! ### Fields that an update leaves -/

@[simp] theorem State.modHl_pending (h : Hd) (f : Headland → Headland) : (s.modHl h f).pending = s.pending := rfl
@[simp] theorem State.modHl_clk (h : Hd) (f : Headland → Headland) : (s.modHl h f).clk = s.clk := rfl
@[simp] theorem State.modHl_firm (h : Hd) (f : Headland → Headland) : (s.modHl h f).firm = s.firm := rfl
@[simp] theorem State.modHl_mirrored (h : Hd) (f : Headland → Headland) : (s.modHl h f).mirrored = s.mirrored := rfl
@[simp] theorem State.modHl_shoals (h : Hd) (f : Headland → Headland) : (s.modHl h f).shoals = s.shoals := rfl
@[simp] theorem State.modHl_pwm (h : Hd) (f : Headland → Headland) : (s.modHl h f).pwm = s.pwm := rfl
@[simp] theorem State.modHl_sk (h : Hd) (f : Headland → Headland) : (s.modHl h f).sk = s.sk := rfl
@[simp] theorem State.modHl_ul (h : Hd) (f : Headland → Headland) : (s.modHl h f).ul = s.ul := rfl
@[simp] theorem State.modHl_dec (h : Hd) (f : Headland → Headland) : (s.modHl h f).dec = s.dec := rfl
@[simp] theorem State.modHl_bw (h : Hd) (f : Headland → Headland) : (s.modHl h f).bw = s.bw := rfl
@[simp] theorem State.modHl_shore (h : Hd) (f : Headland → Headland) : (s.modHl h f).shore = s.shore := rfl
@[simp] theorem State.modHl_lookout (h : Hd) (f : Headland → Headland) : (s.modHl h f).lookout = s.lookout := rfl
@[simp] theorem State.modHl_heart (h : Hd) (f : Headland → Headland) : (s.modHl h f).heart = s.heart := rfl
@[simp] theorem State.modHl_clocks (h : Hd) (f : Headland → Headland) : (s.modHl h f).clocks = s.clocks := rfl
@[simp] theorem State.modHl_meter (h : Hd) (f : Headland → Headland) : (s.modHl h f).meter = s.meter := rfl
@[simp] theorem State.modHl_rs (h : Hd) (f : Headland → Headland) : (s.modHl h f).rs = s.rs := rfl
@[simp] theorem State.modHl_mirror (h : Hd) (f : Headland → Headland) : (s.modHl h f).mirror = s.mirror := rfl
@[simp] theorem State.modHl_ack (h : Hd) (f : Headland → Headland) : (s.modHl h f).ack = s.ack := rfl
@[simp] theorem State.modHl_resetKind (h : Hd) (f : Headland → Headland) : (s.modHl h f).resetKind = s.resetKind := rfl
@[simp] theorem State.modHl_bootHeld (h : Hd) (f : Headland → Headland) : (s.modHl h f).bootHeld = s.bootHeld := rfl
@[simp] theorem State.modHl_bootAt (h : Hd) (f : Headland → Headland) : (s.modHl h f).bootAt = s.bootAt := rfl
@[simp] theorem State.modHl_cycle (h : Hd) (f : Headland → Headland) : (s.modHl h f).cycle = s.cycle := rfl
@[simp] theorem State.modHl_freeCount (h : Hd) (f : Headland → Headland) : (s.modHl h f).freeCount = s.freeCount := rfl

@[simp] theorem State.modAct_pending (f : Headland → Headland) : (s.modAct f).pending = s.pending := rfl
@[simp] theorem State.modAct_clk (f : Headland → Headland) : (s.modAct f).clk = s.clk := rfl
@[simp] theorem State.modAct_firm (f : Headland → Headland) : (s.modAct f).firm = s.firm := rfl
@[simp] theorem State.modAct_mirrored (f : Headland → Headland) : (s.modAct f).mirrored = s.mirrored := rfl
@[simp] theorem State.modAct_shoals (f : Headland → Headland) : (s.modAct f).shoals = s.shoals := rfl
@[simp] theorem State.modAct_pwm (f : Headland → Headland) : (s.modAct f).pwm = s.pwm := rfl
@[simp] theorem State.modAct_sk (f : Headland → Headland) : (s.modAct f).sk = s.sk := rfl
@[simp] theorem State.modAct_ul (f : Headland → Headland) : (s.modAct f).ul = s.ul := rfl
@[simp] theorem State.modAct_dec (f : Headland → Headland) : (s.modAct f).dec = s.dec := rfl
@[simp] theorem State.modAct_bw (f : Headland → Headland) : (s.modAct f).bw = s.bw := rfl
@[simp] theorem State.modAct_shore (f : Headland → Headland) : (s.modAct f).shore = s.shore := rfl
@[simp] theorem State.modAct_lookout (f : Headland → Headland) : (s.modAct f).lookout = s.lookout := rfl
@[simp] theorem State.modAct_heart (f : Headland → Headland) : (s.modAct f).heart = s.heart := rfl
@[simp] theorem State.modAct_clocks (f : Headland → Headland) : (s.modAct f).clocks = s.clocks := rfl
@[simp] theorem State.modAct_meter (f : Headland → Headland) : (s.modAct f).meter = s.meter := rfl
@[simp] theorem State.modAct_rs (f : Headland → Headland) : (s.modAct f).rs = s.rs := rfl
@[simp] theorem State.modAct_mirror (f : Headland → Headland) : (s.modAct f).mirror = s.mirror := rfl
@[simp] theorem State.modAct_ack (f : Headland → Headland) : (s.modAct f).ack = s.ack := rfl
@[simp] theorem State.modAct_resetKind (f : Headland → Headland) : (s.modAct f).resetKind = s.resetKind := rfl
@[simp] theorem State.modAct_bootHeld (f : Headland → Headland) : (s.modAct f).bootHeld = s.bootHeld := rfl
@[simp] theorem State.modAct_bootAt (f : Headland → Headland) : (s.modAct f).bootAt = s.bootAt := rfl
@[simp] theorem State.modAct_cycle (f : Headland → Headland) : (s.modAct f).cycle = s.cycle := rfl
@[simp] theorem State.modAct_freeCount (f : Headland → Headland) : (s.modAct f).freeCount = s.freeCount := rfl

@[simp] theorem State.modBoth_pending (f : Headland → Headland) : (s.modBoth f).pending = s.pending := rfl
@[simp] theorem State.modBoth_clk (f : Headland → Headland) : (s.modBoth f).clk = s.clk := rfl
@[simp] theorem State.modBoth_firm (f : Headland → Headland) : (s.modBoth f).firm = s.firm := rfl
@[simp] theorem State.modBoth_mirrored (f : Headland → Headland) : (s.modBoth f).mirrored = s.mirrored := rfl
@[simp] theorem State.modBoth_shoals (f : Headland → Headland) : (s.modBoth f).shoals = s.shoals := rfl
@[simp] theorem State.modBoth_pwm (f : Headland → Headland) : (s.modBoth f).pwm = s.pwm := rfl
@[simp] theorem State.modBoth_sk (f : Headland → Headland) : (s.modBoth f).sk = s.sk := rfl
@[simp] theorem State.modBoth_ul (f : Headland → Headland) : (s.modBoth f).ul = s.ul := rfl
@[simp] theorem State.modBoth_dec (f : Headland → Headland) : (s.modBoth f).dec = s.dec := rfl
@[simp] theorem State.modBoth_bw (f : Headland → Headland) : (s.modBoth f).bw = s.bw := rfl
@[simp] theorem State.modBoth_shore (f : Headland → Headland) : (s.modBoth f).shore = s.shore := rfl
@[simp] theorem State.modBoth_lookout (f : Headland → Headland) : (s.modBoth f).lookout = s.lookout := rfl
@[simp] theorem State.modBoth_heart (f : Headland → Headland) : (s.modBoth f).heart = s.heart := rfl
@[simp] theorem State.modBoth_clocks (f : Headland → Headland) : (s.modBoth f).clocks = s.clocks := rfl
@[simp] theorem State.modBoth_meter (f : Headland → Headland) : (s.modBoth f).meter = s.meter := rfl
@[simp] theorem State.modBoth_rs (f : Headland → Headland) : (s.modBoth f).rs = s.rs := rfl
@[simp] theorem State.modBoth_mirror (f : Headland → Headland) : (s.modBoth f).mirror = s.mirror := rfl
@[simp] theorem State.modBoth_ack (f : Headland → Headland) : (s.modBoth f).ack = s.ack := rfl
@[simp] theorem State.modBoth_resetKind (f : Headland → Headland) : (s.modBoth f).resetKind = s.resetKind := rfl
@[simp] theorem State.modBoth_bootHeld (f : Headland → Headland) : (s.modBoth f).bootHeld = s.bootHeld := rfl
@[simp] theorem State.modBoth_bootAt (f : Headland → Headland) : (s.modBoth f).bootAt = s.bootAt := rfl
@[simp] theorem State.modBoth_cycle (f : Headland → Headland) : (s.modBoth f).cycle = s.cycle := rfl
@[simp] theorem State.modBoth_freeCount (f : Headland → Headland) : (s.modBoth f).freeCount = s.freeCount := rfl

@[simp] theorem State.modLog_pending (f : Log → Log) : (s.modLog f).pending = s.pending := rfl
@[simp] theorem State.modLog_clk (f : Log → Log) : (s.modLog f).clk = s.clk := rfl
@[simp] theorem State.modLog_firm (f : Log → Log) : (s.modLog f).firm = s.firm := rfl
@[simp] theorem State.modLog_mirrored (f : Log → Log) : (s.modLog f).mirrored = s.mirrored := rfl
@[simp] theorem State.modLog_shoals (f : Log → Log) : (s.modLog f).shoals = s.shoals := rfl
@[simp] theorem State.modLog_pwm (f : Log → Log) : (s.modLog f).pwm = s.pwm := rfl
@[simp] theorem State.modLog_sk (f : Log → Log) : (s.modLog f).sk = s.sk := rfl
@[simp] theorem State.modLog_ul (f : Log → Log) : (s.modLog f).ul = s.ul := rfl
@[simp] theorem State.modLog_dec (f : Log → Log) : (s.modLog f).dec = s.dec := rfl
@[simp] theorem State.modLog_bw (f : Log → Log) : (s.modLog f).bw = s.bw := rfl
@[simp] theorem State.modLog_shore (f : Log → Log) : (s.modLog f).shore = s.shore := rfl
@[simp] theorem State.modLog_lookout (f : Log → Log) : (s.modLog f).lookout = s.lookout := rfl
@[simp] theorem State.modLog_heart (f : Log → Log) : (s.modLog f).heart = s.heart := rfl
@[simp] theorem State.modLog_clocks (f : Log → Log) : (s.modLog f).clocks = s.clocks := rfl
@[simp] theorem State.modLog_meter (f : Log → Log) : (s.modLog f).meter = s.meter := rfl
@[simp] theorem State.modLog_rs (f : Log → Log) : (s.modLog f).rs = s.rs := rfl
@[simp] theorem State.modLog_mirror (f : Log → Log) : (s.modLog f).mirror = s.mirror := rfl
@[simp] theorem State.modLog_ack (f : Log → Log) : (s.modLog f).ack = s.ack := rfl
@[simp] theorem State.modLog_resetKind (f : Log → Log) : (s.modLog f).resetKind = s.resetKind := rfl
@[simp] theorem State.modLog_bootHeld (f : Log → Log) : (s.modLog f).bootHeld = s.bootHeld := rfl
@[simp] theorem State.modLog_bootAt (f : Log → Log) : (s.modLog f).bootAt = s.bootAt := rfl
@[simp] theorem State.modLog_cycle (f : Log → Log) : (s.modLog f).cycle = s.cycle := rfl
@[simp] theorem State.modLog_freeCount (f : Log → Log) : (s.modLog f).freeCount = s.freeCount := rfl

@[simp] theorem State.modHost_pending (f : HostIf → HostIf) : (s.modHost f).pending = s.pending := rfl
@[simp] theorem State.modHost_clk (f : HostIf → HostIf) : (s.modHost f).clk = s.clk := rfl
@[simp] theorem State.modHost_firm (f : HostIf → HostIf) : (s.modHost f).firm = s.firm := rfl
@[simp] theorem State.modHost_mirrored (f : HostIf → HostIf) : (s.modHost f).mirrored = s.mirrored := rfl
@[simp] theorem State.modHost_shoals (f : HostIf → HostIf) : (s.modHost f).shoals = s.shoals := rfl
@[simp] theorem State.modHost_pwm (f : HostIf → HostIf) : (s.modHost f).pwm = s.pwm := rfl
@[simp] theorem State.modHost_sk (f : HostIf → HostIf) : (s.modHost f).sk = s.sk := rfl
@[simp] theorem State.modHost_ul (f : HostIf → HostIf) : (s.modHost f).ul = s.ul := rfl
@[simp] theorem State.modHost_dec (f : HostIf → HostIf) : (s.modHost f).dec = s.dec := rfl
@[simp] theorem State.modHost_bw (f : HostIf → HostIf) : (s.modHost f).bw = s.bw := rfl
@[simp] theorem State.modHost_shore (f : HostIf → HostIf) : (s.modHost f).shore = s.shore := rfl
@[simp] theorem State.modHost_lookout (f : HostIf → HostIf) : (s.modHost f).lookout = s.lookout := rfl
@[simp] theorem State.modHost_heart (f : HostIf → HostIf) : (s.modHost f).heart = s.heart := rfl
@[simp] theorem State.modHost_clocks (f : HostIf → HostIf) : (s.modHost f).clocks = s.clocks := rfl
@[simp] theorem State.modHost_meter (f : HostIf → HostIf) : (s.modHost f).meter = s.meter := rfl
@[simp] theorem State.modHost_rs (f : HostIf → HostIf) : (s.modHost f).rs = s.rs := rfl
@[simp] theorem State.modHost_mirror (f : HostIf → HostIf) : (s.modHost f).mirror = s.mirror := rfl
@[simp] theorem State.modHost_ack (f : HostIf → HostIf) : (s.modHost f).ack = s.ack := rfl
@[simp] theorem State.modHost_resetKind (f : HostIf → HostIf) : (s.modHost f).resetKind = s.resetKind := rfl
@[simp] theorem State.modHost_bootHeld (f : HostIf → HostIf) : (s.modHost f).bootHeld = s.bootHeld := rfl
@[simp] theorem State.modHost_bootAt (f : HostIf → HostIf) : (s.modHost f).bootAt = s.bootAt := rfl
@[simp] theorem State.modHost_cycle (f : HostIf → HostIf) : (s.modHost f).cycle = s.cycle := rfl
@[simp] theorem State.modHost_freeCount (f : HostIf → HostIf) : (s.modHost f).freeCount = s.freeCount := rfl

@[simp] theorem State.modNet_pending (f : NetIf → NetIf) : (s.modNet f).pending = s.pending := rfl
@[simp] theorem State.modNet_clk (f : NetIf → NetIf) : (s.modNet f).clk = s.clk := rfl
@[simp] theorem State.modNet_firm (f : NetIf → NetIf) : (s.modNet f).firm = s.firm := rfl
@[simp] theorem State.modNet_mirrored (f : NetIf → NetIf) : (s.modNet f).mirrored = s.mirrored := rfl
@[simp] theorem State.modNet_shoals (f : NetIf → NetIf) : (s.modNet f).shoals = s.shoals := rfl
@[simp] theorem State.modNet_pwm (f : NetIf → NetIf) : (s.modNet f).pwm = s.pwm := rfl
@[simp] theorem State.modNet_sk (f : NetIf → NetIf) : (s.modNet f).sk = s.sk := rfl
@[simp] theorem State.modNet_ul (f : NetIf → NetIf) : (s.modNet f).ul = s.ul := rfl
@[simp] theorem State.modNet_dec (f : NetIf → NetIf) : (s.modNet f).dec = s.dec := rfl
@[simp] theorem State.modNet_bw (f : NetIf → NetIf) : (s.modNet f).bw = s.bw := rfl
@[simp] theorem State.modNet_shore (f : NetIf → NetIf) : (s.modNet f).shore = s.shore := rfl
@[simp] theorem State.modNet_lookout (f : NetIf → NetIf) : (s.modNet f).lookout = s.lookout := rfl
@[simp] theorem State.modNet_heart (f : NetIf → NetIf) : (s.modNet f).heart = s.heart := rfl
@[simp] theorem State.modNet_clocks (f : NetIf → NetIf) : (s.modNet f).clocks = s.clocks := rfl
@[simp] theorem State.modNet_meter (f : NetIf → NetIf) : (s.modNet f).meter = s.meter := rfl
@[simp] theorem State.modNet_rs (f : NetIf → NetIf) : (s.modNet f).rs = s.rs := rfl
@[simp] theorem State.modNet_mirror (f : NetIf → NetIf) : (s.modNet f).mirror = s.mirror := rfl
@[simp] theorem State.modNet_ack (f : NetIf → NetIf) : (s.modNet f).ack = s.ack := rfl
@[simp] theorem State.modNet_resetKind (f : NetIf → NetIf) : (s.modNet f).resetKind = s.resetKind := rfl
@[simp] theorem State.modNet_bootHeld (f : NetIf → NetIf) : (s.modNet f).bootHeld = s.bootHeld := rfl
@[simp] theorem State.modNet_bootAt (f : NetIf → NetIf) : (s.modNet f).bootAt = s.bootAt := rfl
@[simp] theorem State.modNet_cycle (f : NetIf → NetIf) : (s.modNet f).cycle = s.cycle := rfl
@[simp] theorem State.modNet_freeCount (f : NetIf → NetIf) : (s.modNet f).freeCount = s.freeCount := rfl

@[simp] theorem State.modPtp_pending (f : Ptp → Ptp) : (s.modPtp f).pending = s.pending := rfl
@[simp] theorem State.modPtp_clk (f : Ptp → Ptp) : (s.modPtp f).clk = s.clk := rfl
@[simp] theorem State.modPtp_firm (f : Ptp → Ptp) : (s.modPtp f).firm = s.firm := rfl
@[simp] theorem State.modPtp_mirrored (f : Ptp → Ptp) : (s.modPtp f).mirrored = s.mirrored := rfl
@[simp] theorem State.modPtp_shoals (f : Ptp → Ptp) : (s.modPtp f).shoals = s.shoals := rfl
@[simp] theorem State.modPtp_pwm (f : Ptp → Ptp) : (s.modPtp f).pwm = s.pwm := rfl
@[simp] theorem State.modPtp_sk (f : Ptp → Ptp) : (s.modPtp f).sk = s.sk := rfl
@[simp] theorem State.modPtp_ul (f : Ptp → Ptp) : (s.modPtp f).ul = s.ul := rfl
@[simp] theorem State.modPtp_dec (f : Ptp → Ptp) : (s.modPtp f).dec = s.dec := rfl
@[simp] theorem State.modPtp_bw (f : Ptp → Ptp) : (s.modPtp f).bw = s.bw := rfl
@[simp] theorem State.modPtp_shore (f : Ptp → Ptp) : (s.modPtp f).shore = s.shore := rfl
@[simp] theorem State.modPtp_lookout (f : Ptp → Ptp) : (s.modPtp f).lookout = s.lookout := rfl
@[simp] theorem State.modPtp_heart (f : Ptp → Ptp) : (s.modPtp f).heart = s.heart := rfl
@[simp] theorem State.modPtp_clocks (f : Ptp → Ptp) : (s.modPtp f).clocks = s.clocks := rfl
@[simp] theorem State.modPtp_meter (f : Ptp → Ptp) : (s.modPtp f).meter = s.meter := rfl
@[simp] theorem State.modPtp_rs (f : Ptp → Ptp) : (s.modPtp f).rs = s.rs := rfl
@[simp] theorem State.modPtp_mirror (f : Ptp → Ptp) : (s.modPtp f).mirror = s.mirror := rfl
@[simp] theorem State.modPtp_ack (f : Ptp → Ptp) : (s.modPtp f).ack = s.ack := rfl
@[simp] theorem State.modPtp_resetKind (f : Ptp → Ptp) : (s.modPtp f).resetKind = s.resetKind := rfl
@[simp] theorem State.modPtp_bootHeld (f : Ptp → Ptp) : (s.modPtp f).bootHeld = s.bootHeld := rfl
@[simp] theorem State.modPtp_bootAt (f : Ptp → Ptp) : (s.modPtp f).bootAt = s.bootAt := rfl
@[simp] theorem State.modPtp_cycle (f : Ptp → Ptp) : (s.modPtp f).cycle = s.cycle := rfl
@[simp] theorem State.modPtp_freeCount (f : Ptp → Ptp) : (s.modPtp f).freeCount = s.freeCount := rfl

@[simp] theorem State.modCap_pending (f : Cap → Cap) : (s.modCap f).pending = s.pending := rfl
@[simp] theorem State.modCap_clk (f : Cap → Cap) : (s.modCap f).clk = s.clk := rfl
@[simp] theorem State.modCap_firm (f : Cap → Cap) : (s.modCap f).firm = s.firm := rfl
@[simp] theorem State.modCap_mirrored (f : Cap → Cap) : (s.modCap f).mirrored = s.mirrored := rfl
@[simp] theorem State.modCap_shoals (f : Cap → Cap) : (s.modCap f).shoals = s.shoals := rfl
@[simp] theorem State.modCap_pwm (f : Cap → Cap) : (s.modCap f).pwm = s.pwm := rfl
@[simp] theorem State.modCap_sk (f : Cap → Cap) : (s.modCap f).sk = s.sk := rfl
@[simp] theorem State.modCap_ul (f : Cap → Cap) : (s.modCap f).ul = s.ul := rfl
@[simp] theorem State.modCap_dec (f : Cap → Cap) : (s.modCap f).dec = s.dec := rfl
@[simp] theorem State.modCap_bw (f : Cap → Cap) : (s.modCap f).bw = s.bw := rfl
@[simp] theorem State.modCap_shore (f : Cap → Cap) : (s.modCap f).shore = s.shore := rfl
@[simp] theorem State.modCap_lookout (f : Cap → Cap) : (s.modCap f).lookout = s.lookout := rfl
@[simp] theorem State.modCap_heart (f : Cap → Cap) : (s.modCap f).heart = s.heart := rfl
@[simp] theorem State.modCap_clocks (f : Cap → Cap) : (s.modCap f).clocks = s.clocks := rfl
@[simp] theorem State.modCap_meter (f : Cap → Cap) : (s.modCap f).meter = s.meter := rfl
@[simp] theorem State.modCap_rs (f : Cap → Cap) : (s.modCap f).rs = s.rs := rfl
@[simp] theorem State.modCap_mirror (f : Cap → Cap) : (s.modCap f).mirror = s.mirror := rfl
@[simp] theorem State.modCap_ack (f : Cap → Cap) : (s.modCap f).ack = s.ack := rfl
@[simp] theorem State.modCap_resetKind (f : Cap → Cap) : (s.modCap f).resetKind = s.resetKind := rfl
@[simp] theorem State.modCap_bootHeld (f : Cap → Cap) : (s.modCap f).bootHeld = s.bootHeld := rfl
@[simp] theorem State.modCap_bootAt (f : Cap → Cap) : (s.modCap f).bootAt = s.bootAt := rfl
@[simp] theorem State.modCap_cycle (f : Cap → Cap) : (s.modCap f).cycle = s.cycle := rfl
@[simp] theorem State.modCap_freeCount (f : Cap → Cap) : (s.modCap f).freeCount = s.freeCount := rfl

@[simp] theorem State.modTrace_pending (f : Trace → Trace) : (s.modTrace f).pending = s.pending := rfl
@[simp] theorem State.modTrace_clk (f : Trace → Trace) : (s.modTrace f).clk = s.clk := rfl
@[simp] theorem State.modTrace_firm (f : Trace → Trace) : (s.modTrace f).firm = s.firm := rfl
@[simp] theorem State.modTrace_mirrored (f : Trace → Trace) : (s.modTrace f).mirrored = s.mirrored := rfl
@[simp] theorem State.modTrace_shoals (f : Trace → Trace) : (s.modTrace f).shoals = s.shoals := rfl
@[simp] theorem State.modTrace_pwm (f : Trace → Trace) : (s.modTrace f).pwm = s.pwm := rfl
@[simp] theorem State.modTrace_sk (f : Trace → Trace) : (s.modTrace f).sk = s.sk := rfl
@[simp] theorem State.modTrace_ul (f : Trace → Trace) : (s.modTrace f).ul = s.ul := rfl
@[simp] theorem State.modTrace_dec (f : Trace → Trace) : (s.modTrace f).dec = s.dec := rfl
@[simp] theorem State.modTrace_bw (f : Trace → Trace) : (s.modTrace f).bw = s.bw := rfl
@[simp] theorem State.modTrace_shore (f : Trace → Trace) : (s.modTrace f).shore = s.shore := rfl
@[simp] theorem State.modTrace_lookout (f : Trace → Trace) : (s.modTrace f).lookout = s.lookout := rfl
@[simp] theorem State.modTrace_heart (f : Trace → Trace) : (s.modTrace f).heart = s.heart := rfl
@[simp] theorem State.modTrace_clocks (f : Trace → Trace) : (s.modTrace f).clocks = s.clocks := rfl
@[simp] theorem State.modTrace_meter (f : Trace → Trace) : (s.modTrace f).meter = s.meter := rfl
@[simp] theorem State.modTrace_rs (f : Trace → Trace) : (s.modTrace f).rs = s.rs := rfl
@[simp] theorem State.modTrace_mirror (f : Trace → Trace) : (s.modTrace f).mirror = s.mirror := rfl
@[simp] theorem State.modTrace_ack (f : Trace → Trace) : (s.modTrace f).ack = s.ack := rfl
@[simp] theorem State.modTrace_resetKind (f : Trace → Trace) : (s.modTrace f).resetKind = s.resetKind := rfl
@[simp] theorem State.modTrace_bootHeld (f : Trace → Trace) : (s.modTrace f).bootHeld = s.bootHeld := rfl
@[simp] theorem State.modTrace_bootAt (f : Trace → Trace) : (s.modTrace f).bootAt = s.bootAt := rfl
@[simp] theorem State.modTrace_cycle (f : Trace → Trace) : (s.modTrace f).cycle = s.cycle := rfl
@[simp] theorem State.modTrace_freeCount (f : Trace → Trace) : (s.modTrace f).freeCount = s.freeCount := rfl

@[simp] theorem State.modAdc_pending (f : Adc → Adc) : (s.modAdc f).pending = s.pending := rfl
@[simp] theorem State.modAdc_clk (f : Adc → Adc) : (s.modAdc f).clk = s.clk := rfl
@[simp] theorem State.modAdc_firm (f : Adc → Adc) : (s.modAdc f).firm = s.firm := rfl
@[simp] theorem State.modAdc_mirrored (f : Adc → Adc) : (s.modAdc f).mirrored = s.mirrored := rfl
@[simp] theorem State.modAdc_shoals (f : Adc → Adc) : (s.modAdc f).shoals = s.shoals := rfl
@[simp] theorem State.modAdc_pwm (f : Adc → Adc) : (s.modAdc f).pwm = s.pwm := rfl
@[simp] theorem State.modAdc_sk (f : Adc → Adc) : (s.modAdc f).sk = s.sk := rfl
@[simp] theorem State.modAdc_ul (f : Adc → Adc) : (s.modAdc f).ul = s.ul := rfl
@[simp] theorem State.modAdc_dec (f : Adc → Adc) : (s.modAdc f).dec = s.dec := rfl
@[simp] theorem State.modAdc_bw (f : Adc → Adc) : (s.modAdc f).bw = s.bw := rfl
@[simp] theorem State.modAdc_shore (f : Adc → Adc) : (s.modAdc f).shore = s.shore := rfl
@[simp] theorem State.modAdc_lookout (f : Adc → Adc) : (s.modAdc f).lookout = s.lookout := rfl
@[simp] theorem State.modAdc_heart (f : Adc → Adc) : (s.modAdc f).heart = s.heart := rfl
@[simp] theorem State.modAdc_clocks (f : Adc → Adc) : (s.modAdc f).clocks = s.clocks := rfl
@[simp] theorem State.modAdc_meter (f : Adc → Adc) : (s.modAdc f).meter = s.meter := rfl
@[simp] theorem State.modAdc_rs (f : Adc → Adc) : (s.modAdc f).rs = s.rs := rfl
@[simp] theorem State.modAdc_mirror (f : Adc → Adc) : (s.modAdc f).mirror = s.mirror := rfl
@[simp] theorem State.modAdc_ack (f : Adc → Adc) : (s.modAdc f).ack = s.ack := rfl
@[simp] theorem State.modAdc_resetKind (f : Adc → Adc) : (s.modAdc f).resetKind = s.resetKind := rfl
@[simp] theorem State.modAdc_bootHeld (f : Adc → Adc) : (s.modAdc f).bootHeld = s.bootHeld := rfl
@[simp] theorem State.modAdc_bootAt (f : Adc → Adc) : (s.modAdc f).bootAt = s.bootAt := rfl
@[simp] theorem State.modAdc_cycle (f : Adc → Adc) : (s.modAdc f).cycle = s.cycle := rfl
@[simp] theorem State.modAdc_freeCount (f : Adc → Adc) : (s.modAdc f).freeCount = s.freeCount := rfl

@[simp] theorem State.modCfg_pending (f : Cfg → Cfg) : (s.modCfg f).pending = s.pending := rfl
@[simp] theorem State.modCfg_clk (f : Cfg → Cfg) : (s.modCfg f).clk = s.clk := rfl
@[simp] theorem State.modCfg_firm (f : Cfg → Cfg) : (s.modCfg f).firm = s.firm := rfl
@[simp] theorem State.modCfg_mirrored (f : Cfg → Cfg) : (s.modCfg f).mirrored = s.mirrored := rfl
@[simp] theorem State.modCfg_shoals (f : Cfg → Cfg) : (s.modCfg f).shoals = s.shoals := rfl
@[simp] theorem State.modCfg_pwm (f : Cfg → Cfg) : (s.modCfg f).pwm = s.pwm := rfl
@[simp] theorem State.modCfg_sk (f : Cfg → Cfg) : (s.modCfg f).sk = s.sk := rfl
@[simp] theorem State.modCfg_ul (f : Cfg → Cfg) : (s.modCfg f).ul = s.ul := rfl
@[simp] theorem State.modCfg_dec (f : Cfg → Cfg) : (s.modCfg f).dec = s.dec := rfl
@[simp] theorem State.modCfg_bw (f : Cfg → Cfg) : (s.modCfg f).bw = s.bw := rfl
@[simp] theorem State.modCfg_shore (f : Cfg → Cfg) : (s.modCfg f).shore = s.shore := rfl
@[simp] theorem State.modCfg_lookout (f : Cfg → Cfg) : (s.modCfg f).lookout = s.lookout := rfl
@[simp] theorem State.modCfg_heart (f : Cfg → Cfg) : (s.modCfg f).heart = s.heart := rfl
@[simp] theorem State.modCfg_clocks (f : Cfg → Cfg) : (s.modCfg f).clocks = s.clocks := rfl
@[simp] theorem State.modCfg_meter (f : Cfg → Cfg) : (s.modCfg f).meter = s.meter := rfl
@[simp] theorem State.modCfg_rs (f : Cfg → Cfg) : (s.modCfg f).rs = s.rs := rfl
@[simp] theorem State.modCfg_mirror (f : Cfg → Cfg) : (s.modCfg f).mirror = s.mirror := rfl
@[simp] theorem State.modCfg_ack (f : Cfg → Cfg) : (s.modCfg f).ack = s.ack := rfl
@[simp] theorem State.modCfg_resetKind (f : Cfg → Cfg) : (s.modCfg f).resetKind = s.resetKind := rfl
@[simp] theorem State.modCfg_bootHeld (f : Cfg → Cfg) : (s.modCfg f).bootHeld = s.bootHeld := rfl
@[simp] theorem State.modCfg_bootAt (f : Cfg → Cfg) : (s.modCfg f).bootAt = s.bootAt := rfl
@[simp] theorem State.modCfg_cycle (f : Cfg → Cfg) : (s.modCfg f).cycle = s.cycle := rfl
@[simp] theorem State.modCfg_freeCount (f : Cfg → Cfg) : (s.modCfg f).freeCount = s.freeCount := rfl

@[simp] theorem State.modPair_pending (h : Hd) (f : Pair → Pair) : (s.modPair h f).pending = s.pending := rfl
@[simp] theorem State.modPair_clk (h : Hd) (f : Pair → Pair) : (s.modPair h f).clk = s.clk := rfl
@[simp] theorem State.modPair_firm (h : Hd) (f : Pair → Pair) : (s.modPair h f).firm = s.firm := rfl
@[simp] theorem State.modPair_mirrored (h : Hd) (f : Pair → Pair) : (s.modPair h f).mirrored = s.mirrored := rfl
@[simp] theorem State.modPair_shoals (h : Hd) (f : Pair → Pair) : (s.modPair h f).shoals = s.shoals := rfl
@[simp] theorem State.modPair_pwm (h : Hd) (f : Pair → Pair) : (s.modPair h f).pwm = s.pwm := rfl
@[simp] theorem State.modPair_sk (h : Hd) (f : Pair → Pair) : (s.modPair h f).sk = s.sk := rfl
@[simp] theorem State.modPair_ul (h : Hd) (f : Pair → Pair) : (s.modPair h f).ul = s.ul := rfl
@[simp] theorem State.modPair_dec (h : Hd) (f : Pair → Pair) : (s.modPair h f).dec = s.dec := rfl
@[simp] theorem State.modPair_bw (h : Hd) (f : Pair → Pair) : (s.modPair h f).bw = s.bw := rfl
@[simp] theorem State.modPair_shore (h : Hd) (f : Pair → Pair) : (s.modPair h f).shore = s.shore := rfl
@[simp] theorem State.modPair_lookout (h : Hd) (f : Pair → Pair) : (s.modPair h f).lookout = s.lookout := rfl
@[simp] theorem State.modPair_heart (h : Hd) (f : Pair → Pair) : (s.modPair h f).heart = s.heart := rfl
@[simp] theorem State.modPair_clocks (h : Hd) (f : Pair → Pair) : (s.modPair h f).clocks = s.clocks := rfl
@[simp] theorem State.modPair_meter (h : Hd) (f : Pair → Pair) : (s.modPair h f).meter = s.meter := rfl
@[simp] theorem State.modPair_rs (h : Hd) (f : Pair → Pair) : (s.modPair h f).rs = s.rs := rfl
@[simp] theorem State.modPair_mirror (h : Hd) (f : Pair → Pair) : (s.modPair h f).mirror = s.mirror := rfl
@[simp] theorem State.modPair_ack (h : Hd) (f : Pair → Pair) : (s.modPair h f).ack = s.ack := rfl
@[simp] theorem State.modPair_resetKind (h : Hd) (f : Pair → Pair) : (s.modPair h f).resetKind = s.resetKind := rfl
@[simp] theorem State.modPair_bootHeld (h : Hd) (f : Pair → Pair) : (s.modPair h f).bootHeld = s.bootHeld := rfl
@[simp] theorem State.modPair_bootAt (h : Hd) (f : Pair → Pair) : (s.modPair h f).bootAt = s.bootAt := rfl
@[simp] theorem State.modPair_cycle (h : Hd) (f : Pair → Pair) : (s.modPair h f).cycle = s.cycle := rfl
@[simp] theorem State.modPair_freeCount (h : Hd) (f : Pair → Pair) : (s.modPair h f).freeCount = s.freeCount := rfl

@[simp] theorem State.modFirm_pending (f : Firm → Firm) : (s.modFirm f).pending = s.pending := rfl
@[simp] theorem State.modFirm_clk (f : Firm → Firm) : (s.modFirm f).clk = s.clk := rfl
@[simp] theorem State.modFirm_mirrored (f : Firm → Firm) : (s.modFirm f).mirrored = s.mirrored := rfl
@[simp] theorem State.modFirm_hl (f : Firm → Firm) : (s.modFirm f).hl = s.hl := rfl
@[simp] theorem State.modFirm_shoals (f : Firm → Firm) : (s.modFirm f).shoals = s.shoals := rfl
@[simp] theorem State.modFirm_pwm (f : Firm → Firm) : (s.modFirm f).pwm = s.pwm := rfl
@[simp] theorem State.modFirm_sk (f : Firm → Firm) : (s.modFirm f).sk = s.sk := rfl
@[simp] theorem State.modFirm_ul (f : Firm → Firm) : (s.modFirm f).ul = s.ul := rfl
@[simp] theorem State.modFirm_dec (f : Firm → Firm) : (s.modFirm f).dec = s.dec := rfl
@[simp] theorem State.modFirm_bw (f : Firm → Firm) : (s.modFirm f).bw = s.bw := rfl
@[simp] theorem State.modFirm_shore (f : Firm → Firm) : (s.modFirm f).shore = s.shore := rfl
@[simp] theorem State.modFirm_lookout (f : Firm → Firm) : (s.modFirm f).lookout = s.lookout := rfl
@[simp] theorem State.modFirm_heart (f : Firm → Firm) : (s.modFirm f).heart = s.heart := rfl
@[simp] theorem State.modFirm_clocks (f : Firm → Firm) : (s.modFirm f).clocks = s.clocks := rfl
@[simp] theorem State.modFirm_meter (f : Firm → Firm) : (s.modFirm f).meter = s.meter := rfl
@[simp] theorem State.modFirm_rs (f : Firm → Firm) : (s.modFirm f).rs = s.rs := rfl
@[simp] theorem State.modFirm_mirror (f : Firm → Firm) : (s.modFirm f).mirror = s.mirror := rfl
@[simp] theorem State.modFirm_ack (f : Firm → Firm) : (s.modFirm f).ack = s.ack := rfl
@[simp] theorem State.modFirm_resetKind (f : Firm → Firm) : (s.modFirm f).resetKind = s.resetKind := rfl
@[simp] theorem State.modFirm_bootHeld (f : Firm → Firm) : (s.modFirm f).bootHeld = s.bootHeld := rfl
@[simp] theorem State.modFirm_bootAt (f : Firm → Firm) : (s.modFirm f).bootAt = s.bootAt := rfl
@[simp] theorem State.modFirm_cycle (f : Firm → Firm) : (s.modFirm f).cycle = s.cycle := rfl
@[simp] theorem State.modFirm_freeCount (f : Firm → Firm) : (s.modFirm f).freeCount = s.freeCount := rfl

@[simp] theorem State.modLife_pending (p : Port) (f : PortLife → PortLife) : (s.modLife p f).pending = s.pending := rfl
@[simp] theorem State.modLife_clk (p : Port) (f : PortLife → PortLife) : (s.modLife p f).clk = s.clk := rfl
@[simp] theorem State.modLife_mirrored (p : Port) (f : PortLife → PortLife) : (s.modLife p f).mirrored = s.mirrored := rfl
@[simp] theorem State.modLife_hl (p : Port) (f : PortLife → PortLife) : (s.modLife p f).hl = s.hl := rfl
@[simp] theorem State.modLife_shoals (p : Port) (f : PortLife → PortLife) : (s.modLife p f).shoals = s.shoals := rfl
@[simp] theorem State.modLife_pwm (p : Port) (f : PortLife → PortLife) : (s.modLife p f).pwm = s.pwm := rfl
@[simp] theorem State.modLife_sk (p : Port) (f : PortLife → PortLife) : (s.modLife p f).sk = s.sk := rfl
@[simp] theorem State.modLife_ul (p : Port) (f : PortLife → PortLife) : (s.modLife p f).ul = s.ul := rfl
@[simp] theorem State.modLife_dec (p : Port) (f : PortLife → PortLife) : (s.modLife p f).dec = s.dec := rfl
@[simp] theorem State.modLife_bw (p : Port) (f : PortLife → PortLife) : (s.modLife p f).bw = s.bw := rfl
@[simp] theorem State.modLife_shore (p : Port) (f : PortLife → PortLife) : (s.modLife p f).shore = s.shore := rfl
@[simp] theorem State.modLife_lookout (p : Port) (f : PortLife → PortLife) : (s.modLife p f).lookout = s.lookout := rfl
@[simp] theorem State.modLife_heart (p : Port) (f : PortLife → PortLife) : (s.modLife p f).heart = s.heart := rfl
@[simp] theorem State.modLife_clocks (p : Port) (f : PortLife → PortLife) : (s.modLife p f).clocks = s.clocks := rfl
@[simp] theorem State.modLife_meter (p : Port) (f : PortLife → PortLife) : (s.modLife p f).meter = s.meter := rfl
@[simp] theorem State.modLife_rs (p : Port) (f : PortLife → PortLife) : (s.modLife p f).rs = s.rs := rfl
@[simp] theorem State.modLife_mirror (p : Port) (f : PortLife → PortLife) : (s.modLife p f).mirror = s.mirror := rfl
@[simp] theorem State.modLife_ack (p : Port) (f : PortLife → PortLife) : (s.modLife p f).ack = s.ack := rfl
@[simp] theorem State.modLife_resetKind (p : Port) (f : PortLife → PortLife) : (s.modLife p f).resetKind = s.resetKind := rfl
@[simp] theorem State.modLife_bootHeld (p : Port) (f : PortLife → PortLife) : (s.modLife p f).bootHeld = s.bootHeld := rfl
@[simp] theorem State.modLife_bootAt (p : Port) (f : PortLife → PortLife) : (s.modLife p f).bootAt = s.bootAt := rfl
@[simp] theorem State.modLife_cycle (p : Port) (f : PortLife → PortLife) : (s.modLife p f).cycle = s.cycle := rfl
@[simp] theorem State.modLife_freeCount (p : Port) (f : PortLife → PortLife) : (s.modLife p f).freeCount = s.freeCount := rfl

@[simp] theorem State.modStep_pending (p : Port) (f : PortStep → PortStep) : (s.modStep p f).pending = s.pending := rfl
@[simp] theorem State.modStep_clk (p : Port) (f : PortStep → PortStep) : (s.modStep p f).clk = s.clk := rfl
@[simp] theorem State.modStep_mirrored (p : Port) (f : PortStep → PortStep) : (s.modStep p f).mirrored = s.mirrored := rfl
@[simp] theorem State.modStep_hl (p : Port) (f : PortStep → PortStep) : (s.modStep p f).hl = s.hl := rfl
@[simp] theorem State.modStep_shoals (p : Port) (f : PortStep → PortStep) : (s.modStep p f).shoals = s.shoals := rfl
@[simp] theorem State.modStep_pwm (p : Port) (f : PortStep → PortStep) : (s.modStep p f).pwm = s.pwm := rfl
@[simp] theorem State.modStep_sk (p : Port) (f : PortStep → PortStep) : (s.modStep p f).sk = s.sk := rfl
@[simp] theorem State.modStep_ul (p : Port) (f : PortStep → PortStep) : (s.modStep p f).ul = s.ul := rfl
@[simp] theorem State.modStep_dec (p : Port) (f : PortStep → PortStep) : (s.modStep p f).dec = s.dec := rfl
@[simp] theorem State.modStep_bw (p : Port) (f : PortStep → PortStep) : (s.modStep p f).bw = s.bw := rfl
@[simp] theorem State.modStep_shore (p : Port) (f : PortStep → PortStep) : (s.modStep p f).shore = s.shore := rfl
@[simp] theorem State.modStep_lookout (p : Port) (f : PortStep → PortStep) : (s.modStep p f).lookout = s.lookout := rfl
@[simp] theorem State.modStep_heart (p : Port) (f : PortStep → PortStep) : (s.modStep p f).heart = s.heart := rfl
@[simp] theorem State.modStep_clocks (p : Port) (f : PortStep → PortStep) : (s.modStep p f).clocks = s.clocks := rfl
@[simp] theorem State.modStep_meter (p : Port) (f : PortStep → PortStep) : (s.modStep p f).meter = s.meter := rfl
@[simp] theorem State.modStep_rs (p : Port) (f : PortStep → PortStep) : (s.modStep p f).rs = s.rs := rfl
@[simp] theorem State.modStep_mirror (p : Port) (f : PortStep → PortStep) : (s.modStep p f).mirror = s.mirror := rfl
@[simp] theorem State.modStep_ack (p : Port) (f : PortStep → PortStep) : (s.modStep p f).ack = s.ack := rfl
@[simp] theorem State.modStep_resetKind (p : Port) (f : PortStep → PortStep) : (s.modStep p f).resetKind = s.resetKind := rfl
@[simp] theorem State.modStep_bootHeld (p : Port) (f : PortStep → PortStep) : (s.modStep p f).bootHeld = s.bootHeld := rfl
@[simp] theorem State.modStep_bootAt (p : Port) (f : PortStep → PortStep) : (s.modStep p f).bootAt = s.bootAt := rfl
@[simp] theorem State.modStep_cycle (p : Port) (f : PortStep → PortStep) : (s.modStep p f).cycle = s.cycle := rfl
@[simp] theorem State.modStep_freeCount (p : Port) (f : PortStep → PortStep) : (s.modStep p f).freeCount = s.freeCount := rfl

@[simp] theorem State.modShare_pending (p : Port) (f : Share → Share) : (s.modShare p f).pending = s.pending := rfl
@[simp] theorem State.modShare_clk (p : Port) (f : Share → Share) : (s.modShare p f).clk = s.clk := rfl
@[simp] theorem State.modShare_mirrored (p : Port) (f : Share → Share) : (s.modShare p f).mirrored = s.mirrored := rfl
@[simp] theorem State.modShare_hl (p : Port) (f : Share → Share) : (s.modShare p f).hl = s.hl := rfl
@[simp] theorem State.modShare_shoals (p : Port) (f : Share → Share) : (s.modShare p f).shoals = s.shoals := rfl
@[simp] theorem State.modShare_pwm (p : Port) (f : Share → Share) : (s.modShare p f).pwm = s.pwm := rfl
@[simp] theorem State.modShare_sk (p : Port) (f : Share → Share) : (s.modShare p f).sk = s.sk := rfl
@[simp] theorem State.modShare_ul (p : Port) (f : Share → Share) : (s.modShare p f).ul = s.ul := rfl
@[simp] theorem State.modShare_dec (p : Port) (f : Share → Share) : (s.modShare p f).dec = s.dec := rfl
@[simp] theorem State.modShare_bw (p : Port) (f : Share → Share) : (s.modShare p f).bw = s.bw := rfl
@[simp] theorem State.modShare_shore (p : Port) (f : Share → Share) : (s.modShare p f).shore = s.shore := rfl
@[simp] theorem State.modShare_lookout (p : Port) (f : Share → Share) : (s.modShare p f).lookout = s.lookout := rfl
@[simp] theorem State.modShare_heart (p : Port) (f : Share → Share) : (s.modShare p f).heart = s.heart := rfl
@[simp] theorem State.modShare_clocks (p : Port) (f : Share → Share) : (s.modShare p f).clocks = s.clocks := rfl
@[simp] theorem State.modShare_meter (p : Port) (f : Share → Share) : (s.modShare p f).meter = s.meter := rfl
@[simp] theorem State.modShare_rs (p : Port) (f : Share → Share) : (s.modShare p f).rs = s.rs := rfl
@[simp] theorem State.modShare_mirror (p : Port) (f : Share → Share) : (s.modShare p f).mirror = s.mirror := rfl
@[simp] theorem State.modShare_ack (p : Port) (f : Share → Share) : (s.modShare p f).ack = s.ack := rfl
@[simp] theorem State.modShare_resetKind (p : Port) (f : Share → Share) : (s.modShare p f).resetKind = s.resetKind := rfl
@[simp] theorem State.modShare_bootHeld (p : Port) (f : Share → Share) : (s.modShare p f).bootHeld = s.bootHeld := rfl
@[simp] theorem State.modShare_bootAt (p : Port) (f : Share → Share) : (s.modShare p f).bootAt = s.bootAt := rfl
@[simp] theorem State.modShare_cycle (p : Port) (f : Share → Share) : (s.modShare p f).cycle = s.cycle := rfl
@[simp] theorem State.modShare_freeCount (p : Port) (f : Share → Share) : (s.modShare p f).freeCount = s.freeCount := rfl

@[simp] theorem State.modSeq_pending (f : Seq → Seq) : (s.modSeq f).pending = s.pending := rfl
@[simp] theorem State.modSeq_clk (f : Seq → Seq) : (s.modSeq f).clk = s.clk := rfl
@[simp] theorem State.modSeq_mirrored (f : Seq → Seq) : (s.modSeq f).mirrored = s.mirrored := rfl
@[simp] theorem State.modSeq_hl (f : Seq → Seq) : (s.modSeq f).hl = s.hl := rfl
@[simp] theorem State.modSeq_shoals (f : Seq → Seq) : (s.modSeq f).shoals = s.shoals := rfl
@[simp] theorem State.modSeq_pwm (f : Seq → Seq) : (s.modSeq f).pwm = s.pwm := rfl
@[simp] theorem State.modSeq_sk (f : Seq → Seq) : (s.modSeq f).sk = s.sk := rfl
@[simp] theorem State.modSeq_ul (f : Seq → Seq) : (s.modSeq f).ul = s.ul := rfl
@[simp] theorem State.modSeq_dec (f : Seq → Seq) : (s.modSeq f).dec = s.dec := rfl
@[simp] theorem State.modSeq_bw (f : Seq → Seq) : (s.modSeq f).bw = s.bw := rfl
@[simp] theorem State.modSeq_shore (f : Seq → Seq) : (s.modSeq f).shore = s.shore := rfl
@[simp] theorem State.modSeq_lookout (f : Seq → Seq) : (s.modSeq f).lookout = s.lookout := rfl
@[simp] theorem State.modSeq_heart (f : Seq → Seq) : (s.modSeq f).heart = s.heart := rfl
@[simp] theorem State.modSeq_clocks (f : Seq → Seq) : (s.modSeq f).clocks = s.clocks := rfl
@[simp] theorem State.modSeq_meter (f : Seq → Seq) : (s.modSeq f).meter = s.meter := rfl
@[simp] theorem State.modSeq_rs (f : Seq → Seq) : (s.modSeq f).rs = s.rs := rfl
@[simp] theorem State.modSeq_mirror (f : Seq → Seq) : (s.modSeq f).mirror = s.mirror := rfl
@[simp] theorem State.modSeq_ack (f : Seq → Seq) : (s.modSeq f).ack = s.ack := rfl
@[simp] theorem State.modSeq_resetKind (f : Seq → Seq) : (s.modSeq f).resetKind = s.resetKind := rfl
@[simp] theorem State.modSeq_bootHeld (f : Seq → Seq) : (s.modSeq f).bootHeld = s.bootHeld := rfl
@[simp] theorem State.modSeq_bootAt (f : Seq → Seq) : (s.modSeq f).bootAt = s.bootAt := rfl
@[simp] theorem State.modSeq_cycle (f : Seq → Seq) : (s.modSeq f).cycle = s.cycle := rfl
@[simp] theorem State.modSeq_freeCount (f : Seq → Seq) : (s.modSeq f).freeCount = s.freeCount := rfl

@[simp] theorem State.modFlags_pending (f : LawFlags → LawFlags) : (s.modFlags f).pending = s.pending := rfl
@[simp] theorem State.modFlags_clk (f : LawFlags → LawFlags) : (s.modFlags f).clk = s.clk := rfl
@[simp] theorem State.modFlags_mirrored (f : LawFlags → LawFlags) : (s.modFlags f).mirrored = s.mirrored := rfl
@[simp] theorem State.modFlags_hl (f : LawFlags → LawFlags) : (s.modFlags f).hl = s.hl := rfl
@[simp] theorem State.modFlags_shoals (f : LawFlags → LawFlags) : (s.modFlags f).shoals = s.shoals := rfl
@[simp] theorem State.modFlags_pwm (f : LawFlags → LawFlags) : (s.modFlags f).pwm = s.pwm := rfl
@[simp] theorem State.modFlags_sk (f : LawFlags → LawFlags) : (s.modFlags f).sk = s.sk := rfl
@[simp] theorem State.modFlags_ul (f : LawFlags → LawFlags) : (s.modFlags f).ul = s.ul := rfl
@[simp] theorem State.modFlags_dec (f : LawFlags → LawFlags) : (s.modFlags f).dec = s.dec := rfl
@[simp] theorem State.modFlags_bw (f : LawFlags → LawFlags) : (s.modFlags f).bw = s.bw := rfl
@[simp] theorem State.modFlags_shore (f : LawFlags → LawFlags) : (s.modFlags f).shore = s.shore := rfl
@[simp] theorem State.modFlags_lookout (f : LawFlags → LawFlags) : (s.modFlags f).lookout = s.lookout := rfl
@[simp] theorem State.modFlags_heart (f : LawFlags → LawFlags) : (s.modFlags f).heart = s.heart := rfl
@[simp] theorem State.modFlags_clocks (f : LawFlags → LawFlags) : (s.modFlags f).clocks = s.clocks := rfl
@[simp] theorem State.modFlags_meter (f : LawFlags → LawFlags) : (s.modFlags f).meter = s.meter := rfl
@[simp] theorem State.modFlags_rs (f : LawFlags → LawFlags) : (s.modFlags f).rs = s.rs := rfl
@[simp] theorem State.modFlags_mirror (f : LawFlags → LawFlags) : (s.modFlags f).mirror = s.mirror := rfl
@[simp] theorem State.modFlags_ack (f : LawFlags → LawFlags) : (s.modFlags f).ack = s.ack := rfl
@[simp] theorem State.modFlags_resetKind (f : LawFlags → LawFlags) : (s.modFlags f).resetKind = s.resetKind := rfl
@[simp] theorem State.modFlags_bootHeld (f : LawFlags → LawFlags) : (s.modFlags f).bootHeld = s.bootHeld := rfl
@[simp] theorem State.modFlags_bootAt (f : LawFlags → LawFlags) : (s.modFlags f).bootAt = s.bootAt := rfl
@[simp] theorem State.modFlags_cycle (f : LawFlags → LawFlags) : (s.modFlags f).cycle = s.cycle := rfl
@[simp] theorem State.modFlags_freeCount (f : LawFlags → LawFlags) : (s.modFlags f).freeCount = s.freeCount := rfl

@[simp] theorem State.modRide_pending (f : Ride → Ride) : (s.modRide f).pending = s.pending := rfl
@[simp] theorem State.modRide_clk (f : Ride → Ride) : (s.modRide f).clk = s.clk := rfl
@[simp] theorem State.modRide_mirrored (f : Ride → Ride) : (s.modRide f).mirrored = s.mirrored := rfl
@[simp] theorem State.modRide_hl (f : Ride → Ride) : (s.modRide f).hl = s.hl := rfl
@[simp] theorem State.modRide_shoals (f : Ride → Ride) : (s.modRide f).shoals = s.shoals := rfl
@[simp] theorem State.modRide_pwm (f : Ride → Ride) : (s.modRide f).pwm = s.pwm := rfl
@[simp] theorem State.modRide_sk (f : Ride → Ride) : (s.modRide f).sk = s.sk := rfl
@[simp] theorem State.modRide_ul (f : Ride → Ride) : (s.modRide f).ul = s.ul := rfl
@[simp] theorem State.modRide_dec (f : Ride → Ride) : (s.modRide f).dec = s.dec := rfl
@[simp] theorem State.modRide_bw (f : Ride → Ride) : (s.modRide f).bw = s.bw := rfl
@[simp] theorem State.modRide_shore (f : Ride → Ride) : (s.modRide f).shore = s.shore := rfl
@[simp] theorem State.modRide_lookout (f : Ride → Ride) : (s.modRide f).lookout = s.lookout := rfl
@[simp] theorem State.modRide_heart (f : Ride → Ride) : (s.modRide f).heart = s.heart := rfl
@[simp] theorem State.modRide_clocks (f : Ride → Ride) : (s.modRide f).clocks = s.clocks := rfl
@[simp] theorem State.modRide_meter (f : Ride → Ride) : (s.modRide f).meter = s.meter := rfl
@[simp] theorem State.modRide_rs (f : Ride → Ride) : (s.modRide f).rs = s.rs := rfl
@[simp] theorem State.modRide_mirror (f : Ride → Ride) : (s.modRide f).mirror = s.mirror := rfl
@[simp] theorem State.modRide_ack (f : Ride → Ride) : (s.modRide f).ack = s.ack := rfl
@[simp] theorem State.modRide_resetKind (f : Ride → Ride) : (s.modRide f).resetKind = s.resetKind := rfl
@[simp] theorem State.modRide_bootHeld (f : Ride → Ride) : (s.modRide f).bootHeld = s.bootHeld := rfl
@[simp] theorem State.modRide_bootAt (f : Ride → Ride) : (s.modRide f).bootAt = s.bootAt := rfl
@[simp] theorem State.modRide_cycle (f : Ride → Ride) : (s.modRide f).cycle = s.cycle := rfl
@[simp] theorem State.modRide_freeCount (f : Ride → Ride) : (s.modRide f).freeCount = s.freeCount := rfl

@[simp] theorem State.modShoal_pending (p : Shoal) (f : ShoalSt → ShoalSt) : (s.modShoal p f).pending = s.pending := rfl
@[simp] theorem State.modShoal_clk (p : Shoal) (f : ShoalSt → ShoalSt) : (s.modShoal p f).clk = s.clk := rfl
@[simp] theorem State.modShoal_firm (p : Shoal) (f : ShoalSt → ShoalSt) : (s.modShoal p f).firm = s.firm := rfl
@[simp] theorem State.modShoal_mirrored (p : Shoal) (f : ShoalSt → ShoalSt) : (s.modShoal p f).mirrored = s.mirrored := rfl
@[simp] theorem State.modShoal_hl (p : Shoal) (f : ShoalSt → ShoalSt) : (s.modShoal p f).hl = s.hl := rfl
@[simp] theorem State.modShoal_pwm (p : Shoal) (f : ShoalSt → ShoalSt) : (s.modShoal p f).pwm = s.pwm := rfl
@[simp] theorem State.modShoal_sk (p : Shoal) (f : ShoalSt → ShoalSt) : (s.modShoal p f).sk = s.sk := rfl
@[simp] theorem State.modShoal_ul (p : Shoal) (f : ShoalSt → ShoalSt) : (s.modShoal p f).ul = s.ul := rfl
@[simp] theorem State.modShoal_dec (p : Shoal) (f : ShoalSt → ShoalSt) : (s.modShoal p f).dec = s.dec := rfl
@[simp] theorem State.modShoal_bw (p : Shoal) (f : ShoalSt → ShoalSt) : (s.modShoal p f).bw = s.bw := rfl
@[simp] theorem State.modShoal_shore (p : Shoal) (f : ShoalSt → ShoalSt) : (s.modShoal p f).shore = s.shore := rfl
@[simp] theorem State.modShoal_lookout (p : Shoal) (f : ShoalSt → ShoalSt) : (s.modShoal p f).lookout = s.lookout := rfl
@[simp] theorem State.modShoal_heart (p : Shoal) (f : ShoalSt → ShoalSt) : (s.modShoal p f).heart = s.heart := rfl
@[simp] theorem State.modShoal_clocks (p : Shoal) (f : ShoalSt → ShoalSt) : (s.modShoal p f).clocks = s.clocks := rfl
@[simp] theorem State.modShoal_meter (p : Shoal) (f : ShoalSt → ShoalSt) : (s.modShoal p f).meter = s.meter := rfl
@[simp] theorem State.modShoal_rs (p : Shoal) (f : ShoalSt → ShoalSt) : (s.modShoal p f).rs = s.rs := rfl
@[simp] theorem State.modShoal_mirror (p : Shoal) (f : ShoalSt → ShoalSt) : (s.modShoal p f).mirror = s.mirror := rfl
@[simp] theorem State.modShoal_ack (p : Shoal) (f : ShoalSt → ShoalSt) : (s.modShoal p f).ack = s.ack := rfl
@[simp] theorem State.modShoal_resetKind (p : Shoal) (f : ShoalSt → ShoalSt) : (s.modShoal p f).resetKind = s.resetKind := rfl
@[simp] theorem State.modShoal_bootHeld (p : Shoal) (f : ShoalSt → ShoalSt) : (s.modShoal p f).bootHeld = s.bootHeld := rfl
@[simp] theorem State.modShoal_bootAt (p : Shoal) (f : ShoalSt → ShoalSt) : (s.modShoal p f).bootAt = s.bootAt := rfl
@[simp] theorem State.modShoal_cycle (p : Shoal) (f : ShoalSt → ShoalSt) : (s.modShoal p f).cycle = s.cycle := rfl
@[simp] theorem State.modShoal_freeCount (p : Shoal) (f : ShoalSt → ShoalSt) : (s.modShoal p f).freeCount = s.freeCount := rfl

@[simp] theorem State.modPwm_pending (p : Port) (f : Pwm → Pwm) : (s.modPwm p f).pending = s.pending := rfl
@[simp] theorem State.modPwm_clk (p : Port) (f : Pwm → Pwm) : (s.modPwm p f).clk = s.clk := rfl
@[simp] theorem State.modPwm_firm (p : Port) (f : Pwm → Pwm) : (s.modPwm p f).firm = s.firm := rfl
@[simp] theorem State.modPwm_mirrored (p : Port) (f : Pwm → Pwm) : (s.modPwm p f).mirrored = s.mirrored := rfl
@[simp] theorem State.modPwm_hl (p : Port) (f : Pwm → Pwm) : (s.modPwm p f).hl = s.hl := rfl
@[simp] theorem State.modPwm_shoals (p : Port) (f : Pwm → Pwm) : (s.modPwm p f).shoals = s.shoals := rfl
@[simp] theorem State.modPwm_sk (p : Port) (f : Pwm → Pwm) : (s.modPwm p f).sk = s.sk := rfl
@[simp] theorem State.modPwm_ul (p : Port) (f : Pwm → Pwm) : (s.modPwm p f).ul = s.ul := rfl
@[simp] theorem State.modPwm_dec (p : Port) (f : Pwm → Pwm) : (s.modPwm p f).dec = s.dec := rfl
@[simp] theorem State.modPwm_bw (p : Port) (f : Pwm → Pwm) : (s.modPwm p f).bw = s.bw := rfl
@[simp] theorem State.modPwm_shore (p : Port) (f : Pwm → Pwm) : (s.modPwm p f).shore = s.shore := rfl
@[simp] theorem State.modPwm_lookout (p : Port) (f : Pwm → Pwm) : (s.modPwm p f).lookout = s.lookout := rfl
@[simp] theorem State.modPwm_heart (p : Port) (f : Pwm → Pwm) : (s.modPwm p f).heart = s.heart := rfl
@[simp] theorem State.modPwm_clocks (p : Port) (f : Pwm → Pwm) : (s.modPwm p f).clocks = s.clocks := rfl
@[simp] theorem State.modPwm_meter (p : Port) (f : Pwm → Pwm) : (s.modPwm p f).meter = s.meter := rfl
@[simp] theorem State.modPwm_rs (p : Port) (f : Pwm → Pwm) : (s.modPwm p f).rs = s.rs := rfl
@[simp] theorem State.modPwm_mirror (p : Port) (f : Pwm → Pwm) : (s.modPwm p f).mirror = s.mirror := rfl
@[simp] theorem State.modPwm_ack (p : Port) (f : Pwm → Pwm) : (s.modPwm p f).ack = s.ack := rfl
@[simp] theorem State.modPwm_resetKind (p : Port) (f : Pwm → Pwm) : (s.modPwm p f).resetKind = s.resetKind := rfl
@[simp] theorem State.modPwm_bootHeld (p : Port) (f : Pwm → Pwm) : (s.modPwm p f).bootHeld = s.bootHeld := rfl
@[simp] theorem State.modPwm_bootAt (p : Port) (f : Pwm → Pwm) : (s.modPwm p f).bootAt = s.bootAt := rfl
@[simp] theorem State.modPwm_cycle (p : Port) (f : Pwm → Pwm) : (s.modPwm p f).cycle = s.cycle := rfl
@[simp] theorem State.modPwm_freeCount (p : Port) (f : Pwm → Pwm) : (s.modPwm p f).freeCount = s.freeCount := rfl

@[simp] theorem State.modSk_pending (p : Link) (f : Skerry → Skerry) : (s.modSk p f).pending = s.pending := rfl
@[simp] theorem State.modSk_clk (p : Link) (f : Skerry → Skerry) : (s.modSk p f).clk = s.clk := rfl
@[simp] theorem State.modSk_firm (p : Link) (f : Skerry → Skerry) : (s.modSk p f).firm = s.firm := rfl
@[simp] theorem State.modSk_mirrored (p : Link) (f : Skerry → Skerry) : (s.modSk p f).mirrored = s.mirrored := rfl
@[simp] theorem State.modSk_hl (p : Link) (f : Skerry → Skerry) : (s.modSk p f).hl = s.hl := rfl
@[simp] theorem State.modSk_shoals (p : Link) (f : Skerry → Skerry) : (s.modSk p f).shoals = s.shoals := rfl
@[simp] theorem State.modSk_pwm (p : Link) (f : Skerry → Skerry) : (s.modSk p f).pwm = s.pwm := rfl
@[simp] theorem State.modSk_ul (p : Link) (f : Skerry → Skerry) : (s.modSk p f).ul = s.ul := rfl
@[simp] theorem State.modSk_dec (p : Link) (f : Skerry → Skerry) : (s.modSk p f).dec = s.dec := rfl
@[simp] theorem State.modSk_bw (p : Link) (f : Skerry → Skerry) : (s.modSk p f).bw = s.bw := rfl
@[simp] theorem State.modSk_shore (p : Link) (f : Skerry → Skerry) : (s.modSk p f).shore = s.shore := rfl
@[simp] theorem State.modSk_lookout (p : Link) (f : Skerry → Skerry) : (s.modSk p f).lookout = s.lookout := rfl
@[simp] theorem State.modSk_heart (p : Link) (f : Skerry → Skerry) : (s.modSk p f).heart = s.heart := rfl
@[simp] theorem State.modSk_clocks (p : Link) (f : Skerry → Skerry) : (s.modSk p f).clocks = s.clocks := rfl
@[simp] theorem State.modSk_meter (p : Link) (f : Skerry → Skerry) : (s.modSk p f).meter = s.meter := rfl
@[simp] theorem State.modSk_rs (p : Link) (f : Skerry → Skerry) : (s.modSk p f).rs = s.rs := rfl
@[simp] theorem State.modSk_mirror (p : Link) (f : Skerry → Skerry) : (s.modSk p f).mirror = s.mirror := rfl
@[simp] theorem State.modSk_ack (p : Link) (f : Skerry → Skerry) : (s.modSk p f).ack = s.ack := rfl
@[simp] theorem State.modSk_resetKind (p : Link) (f : Skerry → Skerry) : (s.modSk p f).resetKind = s.resetKind := rfl
@[simp] theorem State.modSk_bootHeld (p : Link) (f : Skerry → Skerry) : (s.modSk p f).bootHeld = s.bootHeld := rfl
@[simp] theorem State.modSk_bootAt (p : Link) (f : Skerry → Skerry) : (s.modSk p f).bootAt = s.bootAt := rfl
@[simp] theorem State.modSk_cycle (p : Link) (f : Skerry → Skerry) : (s.modSk p f).cycle = s.cycle := rfl
@[simp] theorem State.modSk_freeCount (p : Link) (f : Skerry → Skerry) : (s.modSk p f).freeCount = s.freeCount := rfl

@[simp] theorem State.modUl_pending (p : Link) (f : UlLink → UlLink) : (s.modUl p f).pending = s.pending := rfl
@[simp] theorem State.modUl_clk (p : Link) (f : UlLink → UlLink) : (s.modUl p f).clk = s.clk := rfl
@[simp] theorem State.modUl_firm (p : Link) (f : UlLink → UlLink) : (s.modUl p f).firm = s.firm := rfl
@[simp] theorem State.modUl_mirrored (p : Link) (f : UlLink → UlLink) : (s.modUl p f).mirrored = s.mirrored := rfl
@[simp] theorem State.modUl_hl (p : Link) (f : UlLink → UlLink) : (s.modUl p f).hl = s.hl := rfl
@[simp] theorem State.modUl_shoals (p : Link) (f : UlLink → UlLink) : (s.modUl p f).shoals = s.shoals := rfl
@[simp] theorem State.modUl_pwm (p : Link) (f : UlLink → UlLink) : (s.modUl p f).pwm = s.pwm := rfl
@[simp] theorem State.modUl_sk (p : Link) (f : UlLink → UlLink) : (s.modUl p f).sk = s.sk := rfl
@[simp] theorem State.modUl_dec (p : Link) (f : UlLink → UlLink) : (s.modUl p f).dec = s.dec := rfl
@[simp] theorem State.modUl_bw (p : Link) (f : UlLink → UlLink) : (s.modUl p f).bw = s.bw := rfl
@[simp] theorem State.modUl_shore (p : Link) (f : UlLink → UlLink) : (s.modUl p f).shore = s.shore := rfl
@[simp] theorem State.modUl_lookout (p : Link) (f : UlLink → UlLink) : (s.modUl p f).lookout = s.lookout := rfl
@[simp] theorem State.modUl_heart (p : Link) (f : UlLink → UlLink) : (s.modUl p f).heart = s.heart := rfl
@[simp] theorem State.modUl_clocks (p : Link) (f : UlLink → UlLink) : (s.modUl p f).clocks = s.clocks := rfl
@[simp] theorem State.modUl_meter (p : Link) (f : UlLink → UlLink) : (s.modUl p f).meter = s.meter := rfl
@[simp] theorem State.modUl_rs (p : Link) (f : UlLink → UlLink) : (s.modUl p f).rs = s.rs := rfl
@[simp] theorem State.modUl_mirror (p : Link) (f : UlLink → UlLink) : (s.modUl p f).mirror = s.mirror := rfl
@[simp] theorem State.modUl_ack (p : Link) (f : UlLink → UlLink) : (s.modUl p f).ack = s.ack := rfl
@[simp] theorem State.modUl_resetKind (p : Link) (f : UlLink → UlLink) : (s.modUl p f).resetKind = s.resetKind := rfl
@[simp] theorem State.modUl_bootHeld (p : Link) (f : UlLink → UlLink) : (s.modUl p f).bootHeld = s.bootHeld := rfl
@[simp] theorem State.modUl_bootAt (p : Link) (f : UlLink → UlLink) : (s.modUl p f).bootAt = s.bootAt := rfl
@[simp] theorem State.modUl_cycle (p : Link) (f : UlLink → UlLink) : (s.modUl p f).cycle = s.cycle := rfl
@[simp] theorem State.modUl_freeCount (p : Link) (f : UlLink → UlLink) : (s.modUl p f).freeCount = s.freeCount := rfl

@[simp] theorem State.modDec_pending (p : Link) (f : DecLink → DecLink) : (s.modDec p f).pending = s.pending := rfl
@[simp] theorem State.modDec_clk (p : Link) (f : DecLink → DecLink) : (s.modDec p f).clk = s.clk := rfl
@[simp] theorem State.modDec_firm (p : Link) (f : DecLink → DecLink) : (s.modDec p f).firm = s.firm := rfl
@[simp] theorem State.modDec_mirrored (p : Link) (f : DecLink → DecLink) : (s.modDec p f).mirrored = s.mirrored := rfl
@[simp] theorem State.modDec_hl (p : Link) (f : DecLink → DecLink) : (s.modDec p f).hl = s.hl := rfl
@[simp] theorem State.modDec_shoals (p : Link) (f : DecLink → DecLink) : (s.modDec p f).shoals = s.shoals := rfl
@[simp] theorem State.modDec_pwm (p : Link) (f : DecLink → DecLink) : (s.modDec p f).pwm = s.pwm := rfl
@[simp] theorem State.modDec_sk (p : Link) (f : DecLink → DecLink) : (s.modDec p f).sk = s.sk := rfl
@[simp] theorem State.modDec_ul (p : Link) (f : DecLink → DecLink) : (s.modDec p f).ul = s.ul := rfl
@[simp] theorem State.modDec_bw (p : Link) (f : DecLink → DecLink) : (s.modDec p f).bw = s.bw := rfl
@[simp] theorem State.modDec_shore (p : Link) (f : DecLink → DecLink) : (s.modDec p f).shore = s.shore := rfl
@[simp] theorem State.modDec_lookout (p : Link) (f : DecLink → DecLink) : (s.modDec p f).lookout = s.lookout := rfl
@[simp] theorem State.modDec_heart (p : Link) (f : DecLink → DecLink) : (s.modDec p f).heart = s.heart := rfl
@[simp] theorem State.modDec_clocks (p : Link) (f : DecLink → DecLink) : (s.modDec p f).clocks = s.clocks := rfl
@[simp] theorem State.modDec_meter (p : Link) (f : DecLink → DecLink) : (s.modDec p f).meter = s.meter := rfl
@[simp] theorem State.modDec_rs (p : Link) (f : DecLink → DecLink) : (s.modDec p f).rs = s.rs := rfl
@[simp] theorem State.modDec_mirror (p : Link) (f : DecLink → DecLink) : (s.modDec p f).mirror = s.mirror := rfl
@[simp] theorem State.modDec_ack (p : Link) (f : DecLink → DecLink) : (s.modDec p f).ack = s.ack := rfl
@[simp] theorem State.modDec_resetKind (p : Link) (f : DecLink → DecLink) : (s.modDec p f).resetKind = s.resetKind := rfl
@[simp] theorem State.modDec_bootHeld (p : Link) (f : DecLink → DecLink) : (s.modDec p f).bootHeld = s.bootHeld := rfl
@[simp] theorem State.modDec_bootAt (p : Link) (f : DecLink → DecLink) : (s.modDec p f).bootAt = s.bootAt := rfl
@[simp] theorem State.modDec_cycle (p : Link) (f : DecLink → DecLink) : (s.modDec p f).cycle = s.cycle := rfl
@[simp] theorem State.modDec_freeCount (p : Link) (f : DecLink → DecLink) : (s.modDec p f).freeCount = s.freeCount := rfl

@[simp] theorem State.modBw_pending (f : Breakwater → Breakwater) : (s.modBw f).pending = s.pending := rfl
@[simp] theorem State.modBw_clk (f : Breakwater → Breakwater) : (s.modBw f).clk = s.clk := rfl
@[simp] theorem State.modBw_firm (f : Breakwater → Breakwater) : (s.modBw f).firm = s.firm := rfl
@[simp] theorem State.modBw_mirrored (f : Breakwater → Breakwater) : (s.modBw f).mirrored = s.mirrored := rfl
@[simp] theorem State.modBw_hl (f : Breakwater → Breakwater) : (s.modBw f).hl = s.hl := rfl
@[simp] theorem State.modBw_shoals (f : Breakwater → Breakwater) : (s.modBw f).shoals = s.shoals := rfl
@[simp] theorem State.modBw_pwm (f : Breakwater → Breakwater) : (s.modBw f).pwm = s.pwm := rfl
@[simp] theorem State.modBw_sk (f : Breakwater → Breakwater) : (s.modBw f).sk = s.sk := rfl
@[simp] theorem State.modBw_ul (f : Breakwater → Breakwater) : (s.modBw f).ul = s.ul := rfl
@[simp] theorem State.modBw_dec (f : Breakwater → Breakwater) : (s.modBw f).dec = s.dec := rfl
@[simp] theorem State.modBw_shore (f : Breakwater → Breakwater) : (s.modBw f).shore = s.shore := rfl
@[simp] theorem State.modBw_lookout (f : Breakwater → Breakwater) : (s.modBw f).lookout = s.lookout := rfl
@[simp] theorem State.modBw_heart (f : Breakwater → Breakwater) : (s.modBw f).heart = s.heart := rfl
@[simp] theorem State.modBw_clocks (f : Breakwater → Breakwater) : (s.modBw f).clocks = s.clocks := rfl
@[simp] theorem State.modBw_meter (f : Breakwater → Breakwater) : (s.modBw f).meter = s.meter := rfl
@[simp] theorem State.modBw_rs (f : Breakwater → Breakwater) : (s.modBw f).rs = s.rs := rfl
@[simp] theorem State.modBw_mirror (f : Breakwater → Breakwater) : (s.modBw f).mirror = s.mirror := rfl
@[simp] theorem State.modBw_ack (f : Breakwater → Breakwater) : (s.modBw f).ack = s.ack := rfl
@[simp] theorem State.modBw_resetKind (f : Breakwater → Breakwater) : (s.modBw f).resetKind = s.resetKind := rfl
@[simp] theorem State.modBw_bootHeld (f : Breakwater → Breakwater) : (s.modBw f).bootHeld = s.bootHeld := rfl
@[simp] theorem State.modBw_bootAt (f : Breakwater → Breakwater) : (s.modBw f).bootAt = s.bootAt := rfl
@[simp] theorem State.modBw_cycle (f : Breakwater → Breakwater) : (s.modBw f).cycle = s.cycle := rfl
@[simp] theorem State.modBw_freeCount (f : Breakwater → Breakwater) : (s.modBw f).freeCount = s.freeCount := rfl

@[simp] theorem State.modBwPort_pending (p : Link) (f : BwPort → BwPort) : (s.modBwPort p f).pending = s.pending := rfl
@[simp] theorem State.modBwPort_clk (p : Link) (f : BwPort → BwPort) : (s.modBwPort p f).clk = s.clk := rfl
@[simp] theorem State.modBwPort_firm (p : Link) (f : BwPort → BwPort) : (s.modBwPort p f).firm = s.firm := rfl
@[simp] theorem State.modBwPort_mirrored (p : Link) (f : BwPort → BwPort) : (s.modBwPort p f).mirrored = s.mirrored := rfl
@[simp] theorem State.modBwPort_hl (p : Link) (f : BwPort → BwPort) : (s.modBwPort p f).hl = s.hl := rfl
@[simp] theorem State.modBwPort_shoals (p : Link) (f : BwPort → BwPort) : (s.modBwPort p f).shoals = s.shoals := rfl
@[simp] theorem State.modBwPort_pwm (p : Link) (f : BwPort → BwPort) : (s.modBwPort p f).pwm = s.pwm := rfl
@[simp] theorem State.modBwPort_sk (p : Link) (f : BwPort → BwPort) : (s.modBwPort p f).sk = s.sk := rfl
@[simp] theorem State.modBwPort_ul (p : Link) (f : BwPort → BwPort) : (s.modBwPort p f).ul = s.ul := rfl
@[simp] theorem State.modBwPort_dec (p : Link) (f : BwPort → BwPort) : (s.modBwPort p f).dec = s.dec := rfl
@[simp] theorem State.modBwPort_shore (p : Link) (f : BwPort → BwPort) : (s.modBwPort p f).shore = s.shore := rfl
@[simp] theorem State.modBwPort_lookout (p : Link) (f : BwPort → BwPort) : (s.modBwPort p f).lookout = s.lookout := rfl
@[simp] theorem State.modBwPort_heart (p : Link) (f : BwPort → BwPort) : (s.modBwPort p f).heart = s.heart := rfl
@[simp] theorem State.modBwPort_clocks (p : Link) (f : BwPort → BwPort) : (s.modBwPort p f).clocks = s.clocks := rfl
@[simp] theorem State.modBwPort_meter (p : Link) (f : BwPort → BwPort) : (s.modBwPort p f).meter = s.meter := rfl
@[simp] theorem State.modBwPort_rs (p : Link) (f : BwPort → BwPort) : (s.modBwPort p f).rs = s.rs := rfl
@[simp] theorem State.modBwPort_mirror (p : Link) (f : BwPort → BwPort) : (s.modBwPort p f).mirror = s.mirror := rfl
@[simp] theorem State.modBwPort_ack (p : Link) (f : BwPort → BwPort) : (s.modBwPort p f).ack = s.ack := rfl
@[simp] theorem State.modBwPort_resetKind (p : Link) (f : BwPort → BwPort) : (s.modBwPort p f).resetKind = s.resetKind := rfl
@[simp] theorem State.modBwPort_bootHeld (p : Link) (f : BwPort → BwPort) : (s.modBwPort p f).bootHeld = s.bootHeld := rfl
@[simp] theorem State.modBwPort_bootAt (p : Link) (f : BwPort → BwPort) : (s.modBwPort p f).bootAt = s.bootAt := rfl
@[simp] theorem State.modBwPort_cycle (p : Link) (f : BwPort → BwPort) : (s.modBwPort p f).cycle = s.cycle := rfl
@[simp] theorem State.modBwPort_freeCount (p : Link) (f : BwPort → BwPort) : (s.modBwPort p f).freeCount = s.freeCount := rfl

@[simp] theorem State.modShore_pending (f : Shore → Shore) : (s.modShore f).pending = s.pending := rfl
@[simp] theorem State.modShore_clk (f : Shore → Shore) : (s.modShore f).clk = s.clk := rfl
@[simp] theorem State.modShore_firm (f : Shore → Shore) : (s.modShore f).firm = s.firm := rfl
@[simp] theorem State.modShore_mirrored (f : Shore → Shore) : (s.modShore f).mirrored = s.mirrored := rfl
@[simp] theorem State.modShore_hl (f : Shore → Shore) : (s.modShore f).hl = s.hl := rfl
@[simp] theorem State.modShore_shoals (f : Shore → Shore) : (s.modShore f).shoals = s.shoals := rfl
@[simp] theorem State.modShore_pwm (f : Shore → Shore) : (s.modShore f).pwm = s.pwm := rfl
@[simp] theorem State.modShore_sk (f : Shore → Shore) : (s.modShore f).sk = s.sk := rfl
@[simp] theorem State.modShore_ul (f : Shore → Shore) : (s.modShore f).ul = s.ul := rfl
@[simp] theorem State.modShore_dec (f : Shore → Shore) : (s.modShore f).dec = s.dec := rfl
@[simp] theorem State.modShore_bw (f : Shore → Shore) : (s.modShore f).bw = s.bw := rfl
@[simp] theorem State.modShore_lookout (f : Shore → Shore) : (s.modShore f).lookout = s.lookout := rfl
@[simp] theorem State.modShore_heart (f : Shore → Shore) : (s.modShore f).heart = s.heart := rfl
@[simp] theorem State.modShore_clocks (f : Shore → Shore) : (s.modShore f).clocks = s.clocks := rfl
@[simp] theorem State.modShore_meter (f : Shore → Shore) : (s.modShore f).meter = s.meter := rfl
@[simp] theorem State.modShore_rs (f : Shore → Shore) : (s.modShore f).rs = s.rs := rfl
@[simp] theorem State.modShore_mirror (f : Shore → Shore) : (s.modShore f).mirror = s.mirror := rfl
@[simp] theorem State.modShore_ack (f : Shore → Shore) : (s.modShore f).ack = s.ack := rfl
@[simp] theorem State.modShore_resetKind (f : Shore → Shore) : (s.modShore f).resetKind = s.resetKind := rfl
@[simp] theorem State.modShore_bootHeld (f : Shore → Shore) : (s.modShore f).bootHeld = s.bootHeld := rfl
@[simp] theorem State.modShore_bootAt (f : Shore → Shore) : (s.modShore f).bootAt = s.bootAt := rfl
@[simp] theorem State.modShore_cycle (f : Shore → Shore) : (s.modShore f).cycle = s.cycle := rfl
@[simp] theorem State.modShore_freeCount (f : Shore → Shore) : (s.modShore f).freeCount = s.freeCount := rfl

@[simp] theorem State.modLookout_pending (f : Lookout → Lookout) : (s.modLookout f).pending = s.pending := rfl
@[simp] theorem State.modLookout_clk (f : Lookout → Lookout) : (s.modLookout f).clk = s.clk := rfl
@[simp] theorem State.modLookout_firm (f : Lookout → Lookout) : (s.modLookout f).firm = s.firm := rfl
@[simp] theorem State.modLookout_mirrored (f : Lookout → Lookout) : (s.modLookout f).mirrored = s.mirrored := rfl
@[simp] theorem State.modLookout_hl (f : Lookout → Lookout) : (s.modLookout f).hl = s.hl := rfl
@[simp] theorem State.modLookout_shoals (f : Lookout → Lookout) : (s.modLookout f).shoals = s.shoals := rfl
@[simp] theorem State.modLookout_pwm (f : Lookout → Lookout) : (s.modLookout f).pwm = s.pwm := rfl
@[simp] theorem State.modLookout_sk (f : Lookout → Lookout) : (s.modLookout f).sk = s.sk := rfl
@[simp] theorem State.modLookout_ul (f : Lookout → Lookout) : (s.modLookout f).ul = s.ul := rfl
@[simp] theorem State.modLookout_dec (f : Lookout → Lookout) : (s.modLookout f).dec = s.dec := rfl
@[simp] theorem State.modLookout_bw (f : Lookout → Lookout) : (s.modLookout f).bw = s.bw := rfl
@[simp] theorem State.modLookout_shore (f : Lookout → Lookout) : (s.modLookout f).shore = s.shore := rfl
@[simp] theorem State.modLookout_heart (f : Lookout → Lookout) : (s.modLookout f).heart = s.heart := rfl
@[simp] theorem State.modLookout_clocks (f : Lookout → Lookout) : (s.modLookout f).clocks = s.clocks := rfl
@[simp] theorem State.modLookout_meter (f : Lookout → Lookout) : (s.modLookout f).meter = s.meter := rfl
@[simp] theorem State.modLookout_rs (f : Lookout → Lookout) : (s.modLookout f).rs = s.rs := rfl
@[simp] theorem State.modLookout_mirror (f : Lookout → Lookout) : (s.modLookout f).mirror = s.mirror := rfl
@[simp] theorem State.modLookout_ack (f : Lookout → Lookout) : (s.modLookout f).ack = s.ack := rfl
@[simp] theorem State.modLookout_resetKind (f : Lookout → Lookout) : (s.modLookout f).resetKind = s.resetKind := rfl
@[simp] theorem State.modLookout_bootHeld (f : Lookout → Lookout) : (s.modLookout f).bootHeld = s.bootHeld := rfl
@[simp] theorem State.modLookout_bootAt (f : Lookout → Lookout) : (s.modLookout f).bootAt = s.bootAt := rfl
@[simp] theorem State.modLookout_cycle (f : Lookout → Lookout) : (s.modLookout f).cycle = s.cycle := rfl
@[simp] theorem State.modLookout_freeCount (f : Lookout → Lookout) : (s.modLookout f).freeCount = s.freeCount := rfl

@[simp] theorem State.modHeart_pending (f : Heartwood → Heartwood) : (s.modHeart f).pending = s.pending := rfl
@[simp] theorem State.modHeart_clk (f : Heartwood → Heartwood) : (s.modHeart f).clk = s.clk := rfl
@[simp] theorem State.modHeart_firm (f : Heartwood → Heartwood) : (s.modHeart f).firm = s.firm := rfl
@[simp] theorem State.modHeart_mirrored (f : Heartwood → Heartwood) : (s.modHeart f).mirrored = s.mirrored := rfl
@[simp] theorem State.modHeart_hl (f : Heartwood → Heartwood) : (s.modHeart f).hl = s.hl := rfl
@[simp] theorem State.modHeart_shoals (f : Heartwood → Heartwood) : (s.modHeart f).shoals = s.shoals := rfl
@[simp] theorem State.modHeart_pwm (f : Heartwood → Heartwood) : (s.modHeart f).pwm = s.pwm := rfl
@[simp] theorem State.modHeart_sk (f : Heartwood → Heartwood) : (s.modHeart f).sk = s.sk := rfl
@[simp] theorem State.modHeart_ul (f : Heartwood → Heartwood) : (s.modHeart f).ul = s.ul := rfl
@[simp] theorem State.modHeart_dec (f : Heartwood → Heartwood) : (s.modHeart f).dec = s.dec := rfl
@[simp] theorem State.modHeart_bw (f : Heartwood → Heartwood) : (s.modHeart f).bw = s.bw := rfl
@[simp] theorem State.modHeart_shore (f : Heartwood → Heartwood) : (s.modHeart f).shore = s.shore := rfl
@[simp] theorem State.modHeart_lookout (f : Heartwood → Heartwood) : (s.modHeart f).lookout = s.lookout := rfl
@[simp] theorem State.modHeart_clocks (f : Heartwood → Heartwood) : (s.modHeart f).clocks = s.clocks := rfl
@[simp] theorem State.modHeart_meter (f : Heartwood → Heartwood) : (s.modHeart f).meter = s.meter := rfl
@[simp] theorem State.modHeart_rs (f : Heartwood → Heartwood) : (s.modHeart f).rs = s.rs := rfl
@[simp] theorem State.modHeart_mirror (f : Heartwood → Heartwood) : (s.modHeart f).mirror = s.mirror := rfl
@[simp] theorem State.modHeart_ack (f : Heartwood → Heartwood) : (s.modHeart f).ack = s.ack := rfl
@[simp] theorem State.modHeart_resetKind (f : Heartwood → Heartwood) : (s.modHeart f).resetKind = s.resetKind := rfl
@[simp] theorem State.modHeart_bootHeld (f : Heartwood → Heartwood) : (s.modHeart f).bootHeld = s.bootHeld := rfl
@[simp] theorem State.modHeart_bootAt (f : Heartwood → Heartwood) : (s.modHeart f).bootAt = s.bootAt := rfl
@[simp] theorem State.modHeart_cycle (f : Heartwood → Heartwood) : (s.modHeart f).cycle = s.cycle := rfl
@[simp] theorem State.modHeart_freeCount (f : Heartwood → Heartwood) : (s.modHeart f).freeCount = s.freeCount := rfl

@[simp] theorem State.modClocks_pending (f : Clocks → Clocks) : (s.modClocks f).pending = s.pending := rfl
@[simp] theorem State.modClocks_clk (f : Clocks → Clocks) : (s.modClocks f).clk = s.clk := rfl
@[simp] theorem State.modClocks_firm (f : Clocks → Clocks) : (s.modClocks f).firm = s.firm := rfl
@[simp] theorem State.modClocks_mirrored (f : Clocks → Clocks) : (s.modClocks f).mirrored = s.mirrored := rfl
@[simp] theorem State.modClocks_hl (f : Clocks → Clocks) : (s.modClocks f).hl = s.hl := rfl
@[simp] theorem State.modClocks_shoals (f : Clocks → Clocks) : (s.modClocks f).shoals = s.shoals := rfl
@[simp] theorem State.modClocks_pwm (f : Clocks → Clocks) : (s.modClocks f).pwm = s.pwm := rfl
@[simp] theorem State.modClocks_sk (f : Clocks → Clocks) : (s.modClocks f).sk = s.sk := rfl
@[simp] theorem State.modClocks_ul (f : Clocks → Clocks) : (s.modClocks f).ul = s.ul := rfl
@[simp] theorem State.modClocks_dec (f : Clocks → Clocks) : (s.modClocks f).dec = s.dec := rfl
@[simp] theorem State.modClocks_bw (f : Clocks → Clocks) : (s.modClocks f).bw = s.bw := rfl
@[simp] theorem State.modClocks_shore (f : Clocks → Clocks) : (s.modClocks f).shore = s.shore := rfl
@[simp] theorem State.modClocks_lookout (f : Clocks → Clocks) : (s.modClocks f).lookout = s.lookout := rfl
@[simp] theorem State.modClocks_heart (f : Clocks → Clocks) : (s.modClocks f).heart = s.heart := rfl
@[simp] theorem State.modClocks_meter (f : Clocks → Clocks) : (s.modClocks f).meter = s.meter := rfl
@[simp] theorem State.modClocks_rs (f : Clocks → Clocks) : (s.modClocks f).rs = s.rs := rfl
@[simp] theorem State.modClocks_mirror (f : Clocks → Clocks) : (s.modClocks f).mirror = s.mirror := rfl
@[simp] theorem State.modClocks_ack (f : Clocks → Clocks) : (s.modClocks f).ack = s.ack := rfl
@[simp] theorem State.modClocks_resetKind (f : Clocks → Clocks) : (s.modClocks f).resetKind = s.resetKind := rfl
@[simp] theorem State.modClocks_bootHeld (f : Clocks → Clocks) : (s.modClocks f).bootHeld = s.bootHeld := rfl
@[simp] theorem State.modClocks_bootAt (f : Clocks → Clocks) : (s.modClocks f).bootAt = s.bootAt := rfl
@[simp] theorem State.modClocks_cycle (f : Clocks → Clocks) : (s.modClocks f).cycle = s.cycle := rfl
@[simp] theorem State.modClocks_freeCount (f : Clocks → Clocks) : (s.modClocks f).freeCount = s.freeCount := rfl

@[simp] theorem State.modMeter_pending (f : Meter → Meter) : (s.modMeter f).pending = s.pending := rfl
@[simp] theorem State.modMeter_clk (f : Meter → Meter) : (s.modMeter f).clk = s.clk := rfl
@[simp] theorem State.modMeter_firm (f : Meter → Meter) : (s.modMeter f).firm = s.firm := rfl
@[simp] theorem State.modMeter_mirrored (f : Meter → Meter) : (s.modMeter f).mirrored = s.mirrored := rfl
@[simp] theorem State.modMeter_hl (f : Meter → Meter) : (s.modMeter f).hl = s.hl := rfl
@[simp] theorem State.modMeter_shoals (f : Meter → Meter) : (s.modMeter f).shoals = s.shoals := rfl
@[simp] theorem State.modMeter_pwm (f : Meter → Meter) : (s.modMeter f).pwm = s.pwm := rfl
@[simp] theorem State.modMeter_sk (f : Meter → Meter) : (s.modMeter f).sk = s.sk := rfl
@[simp] theorem State.modMeter_ul (f : Meter → Meter) : (s.modMeter f).ul = s.ul := rfl
@[simp] theorem State.modMeter_dec (f : Meter → Meter) : (s.modMeter f).dec = s.dec := rfl
@[simp] theorem State.modMeter_bw (f : Meter → Meter) : (s.modMeter f).bw = s.bw := rfl
@[simp] theorem State.modMeter_shore (f : Meter → Meter) : (s.modMeter f).shore = s.shore := rfl
@[simp] theorem State.modMeter_lookout (f : Meter → Meter) : (s.modMeter f).lookout = s.lookout := rfl
@[simp] theorem State.modMeter_heart (f : Meter → Meter) : (s.modMeter f).heart = s.heart := rfl
@[simp] theorem State.modMeter_clocks (f : Meter → Meter) : (s.modMeter f).clocks = s.clocks := rfl
@[simp] theorem State.modMeter_rs (f : Meter → Meter) : (s.modMeter f).rs = s.rs := rfl
@[simp] theorem State.modMeter_mirror (f : Meter → Meter) : (s.modMeter f).mirror = s.mirror := rfl
@[simp] theorem State.modMeter_ack (f : Meter → Meter) : (s.modMeter f).ack = s.ack := rfl
@[simp] theorem State.modMeter_resetKind (f : Meter → Meter) : (s.modMeter f).resetKind = s.resetKind := rfl
@[simp] theorem State.modMeter_bootHeld (f : Meter → Meter) : (s.modMeter f).bootHeld = s.bootHeld := rfl
@[simp] theorem State.modMeter_bootAt (f : Meter → Meter) : (s.modMeter f).bootAt = s.bootAt := rfl
@[simp] theorem State.modMeter_cycle (f : Meter → Meter) : (s.modMeter f).cycle = s.cycle := rfl
@[simp] theorem State.modMeter_freeCount (f : Meter → Meter) : (s.modMeter f).freeCount = s.freeCount := rfl

/-! ### Fields that an update writes -/

@[simp] theorem State.modFirm_firm (f : Firm → Firm) : (s.modFirm f).firm = f s.firm := rfl
@[simp] theorem State.modBw_bw (f : Breakwater → Breakwater) : (s.modBw f).bw = f s.bw := rfl
@[simp] theorem State.modShore_shore (f : Shore → Shore) : (s.modShore f).shore = f s.shore := rfl
@[simp] theorem State.modLookout_lookout (f : Lookout → Lookout) : (s.modLookout f).lookout = f s.lookout := rfl
@[simp] theorem State.modHeart_heart (f : Heartwood → Heartwood) : (s.modHeart f).heart = f s.heart := rfl
@[simp] theorem State.modClocks_clocks (f : Clocks → Clocks) : (s.modClocks f).clocks = f s.clocks := rfl
@[simp] theorem State.modMeter_meter (f : Meter → Meter) : (s.modMeter f).meter = f s.meter := rfl
@[simp] theorem State.modShoal_same (i : Shoal) (f : ShoalSt → ShoalSt) : (s.modShoal i f).shoals[(i : Nat)] = f s.shoals[(i : Nat)] := vmod_same _ _ _
theorem State.modShoal_other (i j : Shoal) (f : ShoalSt → ShoalSt) (h : i ≠ j) :
    (s.modShoal i f).shoals[(j : Nat)] = s.shoals[(j : Nat)] := vmod_other _ _ _ _ h
@[simp] theorem State.modPwm_same (i : Port) (f : Pwm → Pwm) : (s.modPwm i f).pwm[(i : Nat)] = f s.pwm[(i : Nat)] := vmod_same _ _ _
theorem State.modPwm_other (i j : Port) (f : Pwm → Pwm) (h : i ≠ j) : (s.modPwm i f).pwm[(j : Nat)] = s.pwm[(j : Nat)] := vmod_other _ _ _ _ h
@[simp] theorem State.modSk_same (i : Link) (f : Skerry → Skerry) : (s.modSk i f).sk[(i : Nat)] = f s.sk[(i : Nat)] := vmod_same _ _ _
theorem State.modSk_other (i j : Link) (f : Skerry → Skerry) (h : i ≠ j) : (s.modSk i f).sk[(j : Nat)] = s.sk[(j : Nat)] := vmod_other _ _ _ _ h
@[simp] theorem State.modUl_same (i : Link) (f : UlLink → UlLink) : (s.modUl i f).ul[(i : Nat)] = f s.ul[(i : Nat)] := vmod_same _ _ _
theorem State.modUl_other (i j : Link) (f : UlLink → UlLink) (h : i ≠ j) : (s.modUl i f).ul[(j : Nat)] = s.ul[(j : Nat)] := vmod_other _ _ _ _ h
@[simp] theorem State.modDec_same (i : Link) (f : DecLink → DecLink) : (s.modDec i f).dec[(i : Nat)] = f s.dec[(i : Nat)] := vmod_same _ _ _
theorem State.modDec_other (i j : Link) (f : DecLink → DecLink) (h : i ≠ j) : (s.modDec i f).dec[(j : Nat)] = s.dec[(j : Nat)] := vmod_other _ _ _ _ h
@[simp] theorem State.modHl_same (i : Hd) (f : Headland → Headland) : (s.modHl i f).hl[(i : Nat)] = f s.hl[(i : Nat)] := vmod_same _ _ _
theorem State.modHl_other (i j : Hd) (f : Headland → Headland) (h : i ≠ j) : (s.modHl i f).hl[(j : Nat)] = s.hl[(j : Nat)] := vmod_other _ _ _ _ h

/-! ### The token holder -/

@[simp] theorem State.modHl_hd (h : Hd) (f : Headland → Headland) : (s.modHl h f).hd = s.hd := rfl
@[simp] theorem State.modAct_hd (f : Headland → Headland) : (s.modAct f).hd = s.hd := rfl
@[simp] theorem State.modAct_act (f : Headland → Headland) : (s.modAct f).act = f s.act := vmod_same _ _ _
@[simp] theorem State.modFirm_act (f : Firm → Firm) : (s.modFirm f).act = s.act := rfl
@[simp] theorem State.modFirm_hd (f : Firm → Firm) : (s.modFirm f).hd = s.hd := rfl
@[simp] theorem State.modLog_hd (f : Log → Log) : (s.modLog f).hd = s.hd := rfl
@[simp] theorem State.modLog_act (f : Log → Log) : (s.modLog f).act = { s.act with log := f s.act.log } := vmod_same _ _ _
@[simp] theorem State.modHost_hd (f : HostIf → HostIf) : (s.modHost f).hd = s.hd := rfl
@[simp] theorem State.modHost_act (f : HostIf → HostIf) : (s.modHost f).act = { s.act with host := f s.act.host } := vmod_same _ _ _
@[simp] theorem State.modNet_hd (f : NetIf → NetIf) : (s.modNet f).hd = s.hd := rfl
@[simp] theorem State.modNet_act (f : NetIf → NetIf) : (s.modNet f).act = { s.act with net := f s.act.net } := vmod_same _ _ _
@[simp] theorem State.modPtp_hd (f : Ptp → Ptp) : (s.modPtp f).hd = s.hd := rfl
@[simp] theorem State.modPtp_act (f : Ptp → Ptp) : (s.modPtp f).act = { s.act with ptp := f s.act.ptp } := vmod_same _ _ _
@[simp] theorem State.modCap_hd (f : Cap → Cap) : (s.modCap f).hd = s.hd := rfl
@[simp] theorem State.modCap_act (f : Cap → Cap) : (s.modCap f).act = { s.act with cap := f s.act.cap } := vmod_same _ _ _
@[simp] theorem State.modTrace_hd (f : Trace → Trace) : (s.modTrace f).hd = s.hd := rfl
@[simp] theorem State.modTrace_act (f : Trace → Trace) : (s.modTrace f).act = { s.act with trace := f s.act.trace } := vmod_same _ _ _
@[simp] theorem State.modAdc_hd (f : Adc → Adc) : (s.modAdc f).hd = s.hd := rfl
@[simp] theorem State.modAdc_act (f : Adc → Adc) : (s.modAdc f).act = { s.act with adc := f s.act.adc } := vmod_same _ _ _
@[simp] theorem State.modCfg_hd (f : Cfg → Cfg) : (s.modCfg f).hd = s.hd := rfl
@[simp] theorem State.modCfg_act (f : Cfg → Cfg) : (s.modCfg f).act = { s.act with cfg := f s.act.cfg } := vmod_same _ _ _
@[simp] theorem State.modShoal_act (p : Shoal) (f : ShoalSt → ShoalSt) : (s.modShoal p f).act = s.act := rfl
@[simp] theorem State.modShoal_hd (p : Shoal) (f : ShoalSt → ShoalSt) : (s.modShoal p f).hd = s.hd := rfl
@[simp] theorem State.modPwm_act (p : Port) (f : Pwm → Pwm) : (s.modPwm p f).act = s.act := rfl
@[simp] theorem State.modPwm_hd (p : Port) (f : Pwm → Pwm) : (s.modPwm p f).hd = s.hd := rfl
@[simp] theorem State.modSk_act (p : Link) (f : Skerry → Skerry) : (s.modSk p f).act = s.act := rfl
@[simp] theorem State.modSk_hd (p : Link) (f : Skerry → Skerry) : (s.modSk p f).hd = s.hd := rfl
@[simp] theorem State.modUl_act (p : Link) (f : UlLink → UlLink) : (s.modUl p f).act = s.act := rfl
@[simp] theorem State.modUl_hd (p : Link) (f : UlLink → UlLink) : (s.modUl p f).hd = s.hd := rfl
@[simp] theorem State.modDec_act (p : Link) (f : DecLink → DecLink) : (s.modDec p f).act = s.act := rfl
@[simp] theorem State.modDec_hd (p : Link) (f : DecLink → DecLink) : (s.modDec p f).hd = s.hd := rfl
@[simp] theorem State.modShore_act (f : Shore → Shore) : (s.modShore f).act = s.act := rfl
@[simp] theorem State.modShore_hd (f : Shore → Shore) : (s.modShore f).hd = s.hd := rfl
@[simp] theorem State.modLookout_act (f : Lookout → Lookout) : (s.modLookout f).act = s.act := rfl
@[simp] theorem State.modLookout_hd (f : Lookout → Lookout) : (s.modLookout f).hd = s.hd := rfl
@[simp] theorem State.modHeart_act (f : Heartwood → Heartwood) : (s.modHeart f).act = s.act := rfl
@[simp] theorem State.modHeart_hd (f : Heartwood → Heartwood) : (s.modHeart f).hd = s.hd := rfl
@[simp] theorem State.modClocks_act (f : Clocks → Clocks) : (s.modClocks f).act = s.act := rfl
@[simp] theorem State.modClocks_hd (f : Clocks → Clocks) : (s.modClocks f).hd = s.hd := rfl
@[simp] theorem State.modMeter_act (f : Meter → Meter) : (s.modMeter f).act = s.act := rfl
@[simp] theorem State.modMeter_hd (f : Meter → Meter) : (s.modMeter f).hd = s.hd := rfl

/-! ### The device state -/

@[simp] theorem State.modHl_dev (h : Hd) (f : Headland → Headland) : (s.modHl h f).dev = s.dev := rfl
@[simp] theorem State.modAct_dev (f : Headland → Headland) : (s.modAct f).dev = s.dev := rfl
@[simp] theorem State.modBoth_dev (f : Headland → Headland) : (s.modBoth f).dev = s.dev := rfl
@[simp] theorem State.modLog_dev (f : Log → Log) : (s.modLog f).dev = s.dev := rfl
@[simp] theorem State.modHost_dev (f : HostIf → HostIf) : (s.modHost f).dev = s.dev := rfl
@[simp] theorem State.modNet_dev (f : NetIf → NetIf) : (s.modNet f).dev = s.dev := rfl
@[simp] theorem State.modPtp_dev (f : Ptp → Ptp) : (s.modPtp f).dev = s.dev := rfl
@[simp] theorem State.modCap_dev (f : Cap → Cap) : (s.modCap f).dev = s.dev := rfl
@[simp] theorem State.modTrace_dev (f : Trace → Trace) : (s.modTrace f).dev = s.dev := rfl
@[simp] theorem State.modAdc_dev (f : Adc → Adc) : (s.modAdc f).dev = s.dev := rfl
@[simp] theorem State.modCfg_dev (f : Cfg → Cfg) : (s.modCfg f).dev = s.dev := rfl
@[simp] theorem State.modPair_dev (h : Hd) (f : Pair → Pair) : (s.modPair h f).dev = s.dev := rfl
@[simp] theorem State.modLife_dev (p : Port) (f : PortLife → PortLife) : (s.modLife p f).dev = s.dev := rfl
@[simp] theorem State.modStep_dev (p : Port) (f : PortStep → PortStep) : (s.modStep p f).dev = s.dev := rfl
@[simp] theorem State.modShare_dev (p : Port) (f : Share → Share) : (s.modShare p f).dev = s.dev := rfl
@[simp] theorem State.modSeq_dev (f : Seq → Seq) : (s.modSeq f).dev = s.dev := rfl
@[simp] theorem State.modFlags_dev (f : LawFlags → LawFlags) : (s.modFlags f).dev = s.dev := rfl
@[simp] theorem State.modRide_dev (f : Ride → Ride) : (s.modRide f).dev = s.dev := rfl
@[simp] theorem State.modShoal_dev (p : Shoal) (f : ShoalSt → ShoalSt) : (s.modShoal p f).dev = s.dev := rfl
@[simp] theorem State.modPwm_dev (p : Port) (f : Pwm → Pwm) : (s.modPwm p f).dev = s.dev := rfl
@[simp] theorem State.modSk_dev (p : Link) (f : Skerry → Skerry) : (s.modSk p f).dev = s.dev := rfl
@[simp] theorem State.modUl_dev (p : Link) (f : UlLink → UlLink) : (s.modUl p f).dev = s.dev := rfl
@[simp] theorem State.modDec_dev (p : Link) (f : DecLink → DecLink) : (s.modDec p f).dev = s.dev := rfl
@[simp] theorem State.modBw_dev (f : Breakwater → Breakwater) : (s.modBw f).dev = s.dev := rfl
@[simp] theorem State.modBwPort_dev (p : Link) (f : BwPort → BwPort) : (s.modBwPort p f).dev = s.dev := rfl
@[simp] theorem State.modShore_dev (f : Shore → Shore) : (s.modShore f).dev = s.dev := rfl
@[simp] theorem State.modLookout_dev (f : Lookout → Lookout) : (s.modLookout f).dev = s.dev := rfl
@[simp] theorem State.modHeart_dev (f : Heartwood → Heartwood) : (s.modHeart f).dev = s.dev := rfl
@[simp] theorem State.modClocks_dev (f : Clocks → Clocks) : (s.modClocks f).dev = s.dev := rfl
@[simp] theorem State.modMeter_dev (f : Meter → Meter) : (s.modMeter f).dev = s.dev := rfl

end Sys2Proof.Machine
end

