-- ==== Sys2Proof/Laws/Host.lean ====
section
/-! SUPPORT. What the execution of a host command does around its own effect: the request leaves its queue, the TARGET check, the
command's own refusals, the reply. -/
namespace Sys2Proof.Machine

variable (s : State) (op : Nat) (r : Req)

theorem State.modHost_id : s.modHost id = s := by
  have h : s.hl.set s.hd.val s.hl[s.hd.val] s.hd.isLt = s.hl := Vector.set_getElem_self _
  have : s = { s with hl := s.hl.set s.hd.val s.hl[s.hd.val] s.hd.isLt } := by rw [h]
  exact this.symm

/-- Taking a request from its queue touches the host interface of the token holder alone. -/
theorem State.begin_modHost : ∃ f, (s.begin_ op r).1 = s.modHost f := by
  simp only [State.begin_]
  split
  · dsimp only
    exact ⟨_, rfl⟩
  · exact ⟨id, by simp only [State.modHost_id]⟩

@[simp] theorem State.begin_pending : (s.begin_ op r).1.pending = s.pending := by obtain ⟨f, h⟩ := s.begin_modHost op r; rw [h]; rfl
@[simp] theorem State.begin_clk : (s.begin_ op r).1.clk = s.clk := by obtain ⟨f, h⟩ := s.begin_modHost op r; rw [h]; rfl
@[simp] theorem State.begin_firm : (s.begin_ op r).1.firm = s.firm := by obtain ⟨f, h⟩ := s.begin_modHost op r; rw [h]; rfl
@[simp] theorem State.begin_mirrored : (s.begin_ op r).1.mirrored = s.mirrored := by obtain ⟨f, h⟩ := s.begin_modHost op r; rw [h]; rfl
@[simp] theorem State.begin_shoals : (s.begin_ op r).1.shoals = s.shoals := by obtain ⟨f, h⟩ := s.begin_modHost op r; rw [h]; rfl
@[simp] theorem State.begin_pwm : (s.begin_ op r).1.pwm = s.pwm := by obtain ⟨f, h⟩ := s.begin_modHost op r; rw [h]; rfl
@[simp] theorem State.begin_sk : (s.begin_ op r).1.sk = s.sk := by obtain ⟨f, h⟩ := s.begin_modHost op r; rw [h]; rfl
@[simp] theorem State.begin_ul : (s.begin_ op r).1.ul = s.ul := by obtain ⟨f, h⟩ := s.begin_modHost op r; rw [h]; rfl
@[simp] theorem State.begin_dec : (s.begin_ op r).1.dec = s.dec := by obtain ⟨f, h⟩ := s.begin_modHost op r; rw [h]; rfl
@[simp] theorem State.begin_bw : (s.begin_ op r).1.bw = s.bw := by obtain ⟨f, h⟩ := s.begin_modHost op r; rw [h]; rfl
@[simp] theorem State.begin_shore : (s.begin_ op r).1.shore = s.shore := by obtain ⟨f, h⟩ := s.begin_modHost op r; rw [h]; rfl
@[simp] theorem State.begin_lookout : (s.begin_ op r).1.lookout = s.lookout := by obtain ⟨f, h⟩ := s.begin_modHost op r; rw [h]; rfl
@[simp] theorem State.begin_heart : (s.begin_ op r).1.heart = s.heart := by obtain ⟨f, h⟩ := s.begin_modHost op r; rw [h]; rfl
@[simp] theorem State.begin_clocks : (s.begin_ op r).1.clocks = s.clocks := by obtain ⟨f, h⟩ := s.begin_modHost op r; rw [h]; rfl
@[simp] theorem State.begin_meter : (s.begin_ op r).1.meter = s.meter := by obtain ⟨f, h⟩ := s.begin_modHost op r; rw [h]; rfl
@[simp] theorem State.begin_rs : (s.begin_ op r).1.rs = s.rs := by obtain ⟨f, h⟩ := s.begin_modHost op r; rw [h]; rfl
@[simp] theorem State.begin_mirror : (s.begin_ op r).1.mirror = s.mirror := by obtain ⟨f, h⟩ := s.begin_modHost op r; rw [h]; rfl
@[simp] theorem State.begin_ack : (s.begin_ op r).1.ack = s.ack := by obtain ⟨f, h⟩ := s.begin_modHost op r; rw [h]; rfl
@[simp] theorem State.begin_resetKind : (s.begin_ op r).1.resetKind = s.resetKind := by obtain ⟨f, h⟩ := s.begin_modHost op r; rw [h]; rfl
@[simp] theorem State.begin_bootHeld : (s.begin_ op r).1.bootHeld = s.bootHeld := by obtain ⟨f, h⟩ := s.begin_modHost op r; rw [h]; rfl
@[simp] theorem State.begin_bootAt : (s.begin_ op r).1.bootAt = s.bootAt := by obtain ⟨f, h⟩ := s.begin_modHost op r; rw [h]; rfl
@[simp] theorem State.begin_cycle : (s.begin_ op r).1.cycle = s.cycle := by obtain ⟨f, h⟩ := s.begin_modHost op r; rw [h]; rfl
@[simp] theorem State.begin_freeCount : (s.begin_ op r).1.freeCount = s.freeCount := by obtain ⟨f, h⟩ := s.begin_modHost op r; rw [h]; rfl
@[simp] theorem State.begin_dev : (s.begin_ op r).1.dev = s.dev := by obtain ⟨f, h⟩ := s.begin_modHost op r; rw [h]; rfl
@[simp] theorem State.begin_hd : (s.begin_ op r).1.hd = s.hd := by obtain ⟨f, h⟩ := s.begin_modHost op r; rw [h]; rfl
@[simp] theorem State.begin_act_pair : (s.begin_ op r).1.act.pair = s.act.pair := by obtain ⟨f, h⟩ := s.begin_modHost op r; rw [h]; simp
@[simp] theorem State.begin_act_ptp : (s.begin_ op r).1.act.ptp = s.act.ptp := by obtain ⟨f, h⟩ := s.begin_modHost op r; rw [h]; simp
@[simp] theorem State.begin_act_net : (s.begin_ op r).1.act.net = s.act.net := by obtain ⟨f, h⟩ := s.begin_modHost op r; rw [h]; simp
@[simp] theorem State.begin_act_log : (s.begin_ op r).1.act.log = s.act.log := by obtain ⟨f, h⟩ := s.begin_modHost op r; rw [h]; simp
@[simp] theorem State.begin_act_cap : (s.begin_ op r).1.act.cap = s.act.cap := by obtain ⟨f, h⟩ := s.begin_modHost op r; rw [h]; simp
@[simp] theorem State.begin_act_trace : (s.begin_ op r).1.act.trace = s.act.trace := by obtain ⟨f, h⟩ := s.begin_modHost op r; rw [h]; simp
@[simp] theorem State.begin_act_engine : (s.begin_ op r).1.act.engine = s.act.engine := by obtain ⟨f, h⟩ := s.begin_modHost op r; rw [h]; simp
@[simp] theorem State.begin_act_adc : (s.begin_ op r).1.act.adc = s.act.adc := by obtain ⟨f, h⟩ := s.begin_modHost op r; rw [h]; simp
@[simp] theorem State.begin_act_crc : (s.begin_ op r).1.act.crc = s.act.crc := by obtain ⟨f, h⟩ := s.begin_modHost op r; rw [h]; simp
@[simp] theorem State.begin_act_relays : (s.begin_ op r).1.act.relays = s.act.relays := by obtain ⟨f, h⟩ := s.begin_modHost op r; rw [h]; simp
@[simp] theorem State.begin_act_cfg : (s.begin_ op r).1.act.cfg = s.act.cfg := by obtain ⟨f, h⟩ := s.begin_modHost op r; rw [h]; simp
@[simp] theorem State.begin_act_replica : (s.begin_ op r).1.act.replica = s.act.replica := by obtain ⟨f, h⟩ := s.begin_modHost op r; rw [h]; simp
@[simp] theorem State.begin_act_eccCorrected :
    (s.begin_ op r).1.act.eccCorrected = s.act.eccCorrected := by obtain ⟨f, h⟩ := s.begin_modHost op r; rw [h]; simp
@[simp] theorem State.begin_par (n : Nat) : (s.begin_ op r).1.par n = s.par n := by simp [State.par]
@[simp] theorem State.begin_parN (n : Nat) : (s.begin_ op r).1.parN n = s.parN n := by simp [State.parN, State.par]
@[simp] theorem State.begin_law (n : Nat) : (s.begin_ op r).1.law n = s.law n := by simp [State.law]
@[simp] theorem State.begin_lawN (n : Nat) : (s.begin_ op r).1.lawN n = s.lawN n := by simp [State.lawN, State.law]
@[simp] theorem State.begin_life (n : Port) : (s.begin_ op r).1.life n = s.life n := by simp [State.life]

/-- The host interface keeps all but its queues. -/
theorem State.begin_host : ∃ q, (s.begin_ op r).1.act.host = { s.act.host with queues := q } := by
  simp only [State.begin_]
  split
  · dsimp only
    rw [State.modHost_act]
    exact ⟨_, rfl⟩
  · exact ⟨s.act.host.queues, rfl⟩

/-- A command whose first refusal condition does not hold. -/
@[simp] theorem State.check_nil (f : State → Ans) : s.check [] f = f s := rfl
@[simp] theorem State.check_cons_true (n : Nat) (rs : List (Bool × Nat)) (f : State → Ans) : s.check ((true, n) :: rs) f = s.err n := rfl
@[simp] theorem State.check_cons_false (n : Nat) (rs : List (Bool × Nat)) (f : State → Ans) : s.check ((false, n) :: rs) f = s.check rs f := rfl

@[simp] theorem Targets.device_takes (t : Nat) : targetRefusal .device t = none ↔ t = 0xFF := by
  by_cases h : t = 255 <;> simp [targetRefusal, Targets.takes, h]
  split <;> simp

/-- The execution of a command that the transport answers in its turn, past BOOT and the TARGET check. -/
theorem State.hostItem_runs (k : Targets) (f : QItem → State → Ans) (ha : s.answers = true) (hq : s.inTurn op r = true) (hb : s.dev = .boot → bootOpcode op = true)
    (ht : targetRefusal k r.target = none) : s.hostItem op r k f = (f (s.begin_ op r).2 (s.begin_ op r).1).finish (s.begin_ op r).2 := by
  have h : ¬ (s.dev = .boot ∧ (!bootOpcode op) = true) := fun x => by simp [hb x.1] at x
  simp only [State.hostItem, ha, hq, if_neg h, ht, Bool.not_true, Bool.or_self, Bool.false_eq_true, if_false]

theorem State.host_runs (k : Targets) (f : State → Ans) (ha : s.answers = true) (hq : s.inTurn op r = true) (hb : s.dev = .boot → bootOpcode op = true)
    (ht : targetRefusal k r.target = none) : s.host op r k f = (f (s.begin_ op r).1).finish (s.begin_ op r).2 :=
  s.hostItem_runs op r k _ ha hq hb ht

/-- A transport that does not answer leaves the state as it is. -/
theorem State.hostItem_silent (k : Targets) (f : QItem → State → Ans) (ha : s.answers = false) : s.hostItem op r k f = s := by
  simp [State.hostItem, ha]

/-- A request whose turn has not come leaves the state as it is. -/
theorem State.hostItem_waits (k : Targets) (f : QItem → State → Ans) (hq : s.inTurn op r = false) : s.hostItem op r k f = s := by
  simp [State.hostItem, hq]

/-- A TARGET that the command does not take is refused, with none of its effect. -/
theorem State.hostItem_target (k : Targets) (f : QItem → State → Ans) (st : Nat) (ha : s.answers = true)
    (hq : s.inTurn op r = true) (hb : s.dev = .boot → bootOpcode op = true) (ht : targetRefusal k r.target = some st) :
    s.hostItem op r k f = ((s.begin_ op r).1.err st).finish (s.begin_ op r).2 := by
  have h : ¬ (s.dev = .boot ∧ (!bootOpcode op) = true) := fun x => by simp [hb x.1] at x
  simp only [State.hostItem, ha, hq, if_neg h, ht, Bool.not_true, Bool.or_self, Bool.false_eq_true, if_false]

/-- In BOOT, opcodes that it does not accept. -/
theorem State.hostItem_boot (k : Targets) (f : QItem → State → Ans) (ha : s.answers = true)
    (hq : s.inTurn op r = true) (hd : s.dev = .boot) (hb : bootOpcode op = false) :
    s.hostItem op r k f = (s.begin_ op r).1.refuseEarly op r ST_STATE_FORBIDS := by
  simp [State.hostItem, ha, hq, hd, hb]

/-- The three ways an answer finishes. -/
theorem Ans.finish_later (a : Ans) (it : QItem) (h : a.later = true) : a.finish it = a.st := by simp [Ans.finish, h]
theorem Ans.finish_wait (a : Ans) (it : QItem) (h : a.later = false) (w : a.wait = true) :
    a.finish it = a.st.modHost fun h => { h with awaiting := h.awaiting ++ [{ item := it, status := a.status, payload := a.payload, since := a.st.clk.now }] } := by
  simp [Ans.finish, h, w]
theorem Ans.finish_now (a : Ans) (it : QItem) (h : a.later = false) (w : a.wait = false) :
    a.finish it = (a.st.reply it a.status a.payload).noteLatency it := by simp [Ans.finish, h, w]

@[simp] theorem State.ok_finish (p : List Byte) (it : QItem) : (s.ok p).finish it = (s.reply it ST_OK p).noteLatency it := rfl
@[simp] theorem State.err_finish (n : Nat) (it : QItem) : (s.err n).finish it = (s.reply it n []).noteLatency it := rfl
@[simp] theorem State.okAck_finish (p : List Byte) (it : QItem) :
    (s.okAck p).finish it = s.modHost fun h => { h with awaiting := h.awaiting ++ [{ item := it, status := ST_OK, payload := p, since := s.clk.now }] } := rfl

end Sys2Proof.Machine
end

