-- ==== Sys2Proof/Tests/Slice0.lean ====
section
/-! SUPPORT. The model's own tests: for every statement a state and operands that meet each clause's hypotheses together, the spec's
worked examples, and an ill-formed command for each check of WellFormed. -/
set_option Elab.async false
open Sys2Proof Sys2Proof.Machine
namespace Sys2Proof.Tests

/-- A running module in a device state, with a committed set: Headland 0 holds the token, both Headlands live, field side powered. -/
def upWith (ps : ParamStore) (d : DevState) : State :=
  { State.reset with
    firm := { dev := d, applied := ps }
    bw := { started := true, token := some 0 }
    hl := #v[{ pair := { role := .active, alive := true, peerEligible := true }, engine := { run := true }
               cfg := { committed := { params := ps }, pendingSet := { params := ps } } },
             { pair := { role := .standby, alive := true }, cfg := { committed := { params := ps }, pendingSet := { params := ps } } }]
    shore := { powered := true }
    meter := { powered := true, absent := false } }
/-- The same at a later tick. -/
def later (n : Nat) (s : State) : State := { s with clk := { s.clk with now := n } }
/-- The same with every parameter at its default. -/
def up (d : DevState) : State := upWith [] d
/-- A host request of class 1 over SPI. -/
def rq (b : List Byte) (target : Nat := 0xFF) : Req := { cls := 1, target := target, payload := b }
/-- The grid lies within the synchronism window's first condition: its samples valid, its voltage up, its link good. -/
def gridOn (s : State) : State :=
  (s.modFirm fun m => { m with grid := { gridValid := true }, rotor := { vgPos := 1 } }).modUl linkG fun _ => { good := 16, out := false }
/-- Port 0 at a point of its life cycle. -/
def withLife (l : PortLife) (s : State) : State := s.modLife 0 fun _ => l
/-- Skerry 0 in a given state. -/
def withSk (k : Skerry) (s : State) : State := s.modSk 0 fun _ => k
/-- Every required BMS signal mapped on port 0, the port at a point of its life cycle, in READY. -/
def mapped (l : Life) : State :=
  withLife { life := l } ((up .ready).modCfg fun c =>
    { c with committed := { c.committed with maps := vset c.committed.maps 0 ([0, 1, 2, 4, 5].map fun g => ⟨g, 0, 0, 8, 0, 1, 1, 0⟩) } })
/-- Both networks' links up, with a committed set. -/
def netUp (ps : ParamStore) : State :=
  (upWith ps .idle).modNet fun x => { x with ports := Vector.replicate 2 { link := true } }
/-- Slave on network 0, the clock's servo in a state. -/
def slaved (st : PtpState) : State :=
  (netUp [(P_PTP_PROFILE, 1)]).modPtp fun p => { p with state := st, ports := vset p.ports 0 { portState := psSlave } }
/-- An announce frame of a unit of site 1. -/
def annFrame (unit : Nat) : List Byte :=
  let b := le 2 1 ++ le 2 1 ++ le 1 unit ++ zeros 55
  b ++ le 4 (crc32c b)
/-- Region 0 with one set of angle fields waiting. -/
def fields (f : AngleFields) : State := (up .forming).modShoal 0 fun h => { h with fields := [⟨f, [], 0⟩] }
/-- A tide entry of Shoal 0. -/
def tided (c : Fin 32) (e : TideEntry) : State := (up .forming).modShoal 0 fun h => { h with tides := vset h.tides c e, acc := 0x20000, accPrev := 0 }
/-- A frame on a network whose source is not the block's own address there. -/
def foreignFrame (net : Net) (type : Nat) : List Byte :=
  zeros 6 ++ (be 6 (Config.mac (otherNet net).val + 1) ++ (be 2 type ++ zeros 46))
theorem foreign_source (net : Net) (type : Nat) : rdBe (foreignFrame net type) 6 6 ≠ Config.mac (otherNet net).val := by
  have h : Config.mac (otherNet net).val < 256 ^ 6 := (Config.macBits _).isLt
  have e := (rdBe_append_right (zeros 6) (be 6 (Config.mac (otherNet net).val + 1) ++ (be 2 type ++ zeros 46)) 0 6).trans
    (rdBe_be 6 (Config.mac (otherNet net).val + 1) _)
  simp only [foreignFrame]
  rw [show (zeros 6).length + 0 = 6 from rfl] at e
  rw [e]
  omega
/-- A leg generator of port 0. -/
def legGen (g : Gen) : State := (up .forming).modPwm 0 fun w => { w with legs := vset w.legs 0 g }
/-- Port 0 runs steps. -/
def stepOn (x : PortStep) : State := (withLife { life := .admitted, gateEn := true } (upWith [(PP_SPEC_EN 0, 1)] .forming)).modStep 0 fun _ => x
def skOn (k : Skerry) : State := withSk k (up .idle)
/-- A link frame of Chapter 7. -/
def linkFrame (sof : Nat) (l : Link) (seq : Nat) (body : List Byte) : List Byte :=
  le 1 sof ++ le 1 seq ++ body ++ be 2 (crc16 (BitVec.ofNat 8 l.val :: BitVec.ofNat 8 seq :: body))
/-- A Skerry that lets its gates turn on. -/
def armedSk : Skerry := { good := true, permGates := true, gatesArmed := true }
/-- Such a Skerry at port 0 with one low-side gate in a state. -/
def gated (g : SkGate) : State := withSk { armedSk with gates := vset armedSk.gates 1 g } (up .forming)
/-- An output of the field side. -/
def outOn (ps : ParamStore) (o : ShoreOut) : State := (upWith ps .idle).modShore fun h => { h with outs := vset h.outs 15 o }
/-- A powered cartridge whose port 0 is in a state. -/
def onePort (p : MeterPort) : Meter := { powered := true, ports := Vector.replicate 12 p }
def metered (m : Meter) : State := { up .idle with meter := m }
def anInterval : Interval := { imp := 0, exp := 0, sec := 0, vMin := 0, vMax := 0, overrange := false, gapUs := 0, startedAt := 0, sealOpen := false }
def aSession : SessionRec := { port := 0, no := 1, openSec := 0, openPcc := 0, impStart := 0, expStart := 0 }
/-- A metering sub-frame of port p. -/
def subFrame (p : Port) (mseq : Nat) : List Byte := be 2 mseq ++ zeros 5 ++ be 2 (mcrc p (be 2 mseq ++ zeros 5))
/-- The safety set of Breakwater. -/
def bwPar (ps : ParamStore) : State := (up .idle).modBw fun b => { b with params := ps }
def okWord : Nat := crc7 0
/-- Every port's second-newest permit word carried COUNT 0. -/
def sentWord : State := (skOn { good := true }).modSk linkG (fun k => { k with good := true }) |>.modBw fun b => { b with ports := Vector.replicate 13 { sent := [1, 0] } }
/-- The reset button pressed from a deliberate start, armed, nothing in the way. -/
def pressed (d : DevState) : State := (up d).modBw fun b => { b with resetArmed := true, press := some (0, true), hlLost := false }
/-- A message source 3 with ID 5. -/
def source (m : MsgSource) : State :=
  (bwPar [(P_SM_RX_ID 3, 5)]).modBw fun b => { b with sources := vset b.sources 3 m }
/-- A safety message of ID 5 with SEQ 1 and one demand. -/
def aMessage : List Byte :=
  let body := le 2 1 ++ le 2 5 ++ le 4 1 ++ [1, 0, 0, 0]
  body ++ le 4 (crc32c body)
/-- Both contactors of port 0 closed, a measurement and a point of the life cycle. -/
def contactorsOn (m : PortMeas) (l : Life) : State :=
  ((withSk { coils := Vector.replicate 2 { fb := true } } (withLife { life := l } (up .forming))).modFirm fun f =>
    { f with meas := vset f.meas 0 m })
def seqOn (d : DevState) (q : Seq) : State := (up d).modSeq fun _ => q
def capOn (c : Cap) : State := (up .idle).modCap fun _ => c
def aMirror (f : Option Firm) : MirrorFrame := { full := true, seq := 1, hash := 0, safetyCrc := 0, firm := f }
def anAck : MirrorAckFrame := { seq := 7, appliedSeq := 7, eligible := true, inelig := 0, words := [], hash := 0 }
def mirroring (f : Option Firm) : State := { up .idle with mirror := some (aMirror f) }
def peerIs (p : Pair) : State := (up .idle).modPair 1 fun _ => p
/-- The token has just moved to Headland 0, the other still holding role ACTIVE. -/
def tokenMoved (cause : Nat) : State :=
  ((up .forming).modPair 0 fun p => { p with role := .standby, claimCause := cause }).modPair 1 fun p => { p with role := .active }
def aWait : AwaitAck := { item := { op := 0x12, req := rq [0] }, status := 0, payload := [] }
/-- Every die locked. -/
def locked (d : DevState) : State :=
  (up d).modClocks fun c => { c with hd := Vector.replicate 2 { state := .locked }, shoal := Vector.replicate 4 { state := .locked } }
def snooping (c : CrcUnit) : State := (up .idle).modAct fun a => { a with crc := vset a.crc 7 c }
theorem own_source (net : Net) : rdBe (zeros 6 ++ be 6 (Config.mac (otherNet net).val)) 6 6 = Config.mac (otherNet net).val := by
  have h : Config.mac (otherNet net).val < 256 ^ 6 := (Config.macBits _).isLt
  have e := (rdBe_append_right (zeros 6) (be 6 (Config.mac (otherNet net).val) ++ []) 0 6).trans (rdBe_be 6 _ [])
  rw [List.append_nil, show (zeros 6).length + 0 = 6 from rfl] at e
  rw [e]
  exact Nat.mod_eq_of_lt h
/-- A frame with a PRP trailer, and a state that has seen its twin on the other network. -/
def twinFrame : List Byte := foreignFrame 0 0x1234 ++ [0, 5, 0xA0, 0, 0x88, 0xFB]
theorem twin_source : rdBe twinFrame 6 6 ≠ Config.mac (otherNet 0).val := foreign_source 0 0x1234
def twinSeen : State := (netUp [(P_PRP_EN, 1)]).modNet fun x => { x with prpSeen := [⟨rdBe twinFrame 6 6, 5, 1, 0⟩] }
theorem twin_seen : ((twinSeen.onNetPort 0 fun p => { p with rxFrames := satInc 32 p.rxFrames }).act.net.prp 0 twinSeen.clk.now
    (rdBe twinFrame 6 6) 5).2 = true := by
  have h : (twinSeen.onNetPort 0 fun p => { p with rxFrames := satInc 32 p.rxFrames }).act.net.prpSeen = [⟨rdBe twinFrame 6 6, 5, 1, 0⟩] := by
    simp [State.onNetPort, State.modBoth, State.act, State.hd, twinSeen, State.modNet, State.modAct, State.modHl, vmod, vset]
  simp [NetIf.prp, h, show twinSeen.clk.now = 0 from rfl, msTicks]
/-- A frame of NET_SEND with handle 7 on network B, and states that hold it. -/
def aFrame (started : Bool) : TxFrame :=
  { handle := 7, cls := 0, launch := some 0, prp := none, bytes := [], status := #v[0, 1], started := #v[false, started], late := #v[false, false]
    stamp := #v[(0, 0), (0, 0)] }
def sending (f : TxFrame) : State := (netUp []).modNet fun x => { x with tx := [f] }
def noLink (f : TxFrame) : State := (up .idle).modNet fun x => { x with tx := [f] }
/-- Region 3 runs its gates with port 9 admitted. -/
def slipping : State := ((up .forming).modPwm 9 fun w => { w with gatesEn := true }).modLife 9 fun _ => { life := .admitted }
/-- The state that a command leaves. -/
def after (c : Instr) (s : State) : State :=
  match exec c s with
  | .next t => t
  | .fault _ | .refused _ => s

/-- The sequence converts entry e, whose slots began at tick 0; entry 30 is set up without END. -/
def slotOf (e : Nat) : State := later 1600 ((upWith [(P_ADC_SEQ 30, 0)] .idle).modAdc fun a => { a with running := true, entry := e })
/-- The engine works on a port's step. -/
def working (r : Option (Port × Bool × Nat)) (s : State) : State := s.modAct fun a => { a with engine := { a.engine with running := r } }
/-- Skerry 0 powered, its links as after reset; the same with Skerry G powered. -/
def linkUp : State := skOn { good := true }
def linkUpG : State := (up .idle).modSk linkG fun k => { k with good := true }
/-- A permit word on its way to Skerry 0, which has seen the COUNT before. -/
def permitLine (count : Nat) (kind : Kind) (prev : Nat) : State :=
  (skOn { good := true, chans := Vector.replicate 2 { count := some prev } }).modBwPort 0 fun b =>
    { b with onLine := Vector.replicate 2 true, sent := [count], kind := kind }
/-- STANDBY with one wake rule on loop 0 of an action, its condition met. -/
def waiting (action : Nat) : State :=
  (up .standby).modLookout fun k =>
    { k with rules := [{ source := 0, cond := 1, filter := 0, action := action }], loops := Vector.replicate 12 1, loopAt := Vector.replicate 12 (some 0) }
/-- A cartridge and a good uplink frame of link 0 with a metering sub-frame. -/
def subbed (b : List Byte) (m : Meter) : State := (metered m).modUl 0 fun u => { u with msub := some b }
/-- The peer in RESYNC at the end of a transfer that has not matched. -/
def resyncing : State := ((up .idle).modPair 0 fun p => { p with transfer := true }).modPair 1 fun p => { p with role := .resync, hashPeer := 1 }

/-! ### The hypotheses of the statements can be met -/

theorem witness_StepRunsFront :
    ∃ (c : Instr) (rest : List Instr) (s : State), s.pending = c :: rest :=
  ⟨.coverOpen, [.resetN], { State.reset with pending := [.coverOpen, .resetN] }, by decide +kernel⟩

theorem witness_QueueInOrder :
    ∃ (s : State) (t : State), step s = .next t :=
  ⟨State.reset, State.reset.tick.beginCycle, rfl⟩

theorem witness_DeviceReadsComplete :
    (∃ (s : State) (r : Req), s.hears 0x00 r ∧ s.hears 0x01 r ∧ r.target = 0xFF ∧ r.payload = [] ∧ s.hears 0x02 r ∧ s.dev = .boot) ∧
    (∃ (s : State) (r : Req) (c : Fin 4), r.cls = c.val ∧ s.act.host.queues[c].length < queueRoom c.val) :=
  ⟨⟨up .boot, rq [], by decide +kernel⟩,
   ⟨up .idle, { cls := 3 }, 3, by decide +kernel⟩⟩

theorem witness_SetStateAnswers :
    (∃ (s : State) (r : Req), s.hears 0x03 r ∧ r.target = 0xFF ∧ r.payload = [0] ∧ s.dev = .idle ∧ s.anyContactor = false) ∧
    (∃ (s : State) (r : Req), s.hears 0x03 r ∧ r.target = 0xFF ∧ r.payload = [2] ∧ s.dev = .service ∧ s.bw.commissionWait = false) ∧
    (∃ (s : State) (r : Req), s.hears 0x03 r ∧ r.target = 0xFF ∧ r.payload = [3] ∧ s.dev = .sync) ∧
    (∃ (s : State) (r : Req), s.hears 0x03 r ∧ r.target = 0xFF ∧ r.payload = [3] ∧ s.dev = .forming ∧ s.firm.seq.ramp.falling = false) ∧
    (∃ (s : State) (r : Req), s.hears 0x03 r ∧ r.target = 0xFF ∧ r.payload = [4] ∧ s.dev = .ready ∧ s.gridUp = true ∧ s.gridLinkDown = false ∧
       s.brkClosed = false) ∧
    (∃ (s : State) (r : Req), s.hears 0x03 r ∧ r.target = 0xFF ∧ r.payload = [4] ∧ s.dev = .ready ∧ s.gridUp = true ∧ s.gridLinkDown = false ∧
       s.brkClosed = true) ∧
    (∃ (s : State) (r : Req), s.hears 0x03 r ∧ r.target = 0xFF ∧ r.payload = [8] ∧ s.dev = .idle ∧ s.anyContactor = false) ∧
    (∃ (s : State) (r : Req), s.hears 0x03 r ∧ r.target = 0xFF ∧ r.payload = [2] ∧ s.dev = .idle) ∧
    (∃ (s : State) (r : Req), s.hears 0x03 r ∧ r.target = 0xFF ∧ r.payload = [3] ∧ s.dev = .ready) ∧
    (∃ (s : State) (r : Req), s.hears 0x03 r ∧ r.target = 0xFF ∧ r.payload = [4] ∧ s.dev = .sync) ∧
    (∃ (s : State) (r : Req), s.hears 0x03 r ∧ r.target = 0xFF ∧ r.payload = [8] ∧ s.dev = .service) ∧
    (∃ (s : State) (r : Req), s.hears 0x03 r ∧ s.dev ≠ .boot ∧ r.target = 0xFF ∧ r.payload.length ≠ 1) ∧
    (∃ (s : State) (r : Req), s.hears 0x03 r ∧ s.dev ≠ .boot ∧ r.target = 0xFF ∧ r.payload.length = 1 ∧ (8 < by8 r.payload 0 ∨ by8 r.payload 0 = 1 ∨
       by8 r.payload 0 = 6 ∨ by8 r.payload 0 = 7)) ∧
    (∃ (s : State) (r : Req), s.hears 0x03 r ∧ s.dev ≠ .boot ∧ r.target = 0xFF ∧ r.payload = [5]) ∧
    (∃ (s : State) (r : Req), s.hears 0x03 r ∧ s.dev ≠ .boot ∧ r.target = 0xFF ∧ r.payload = [4] ∧ s.dev = .lockout) ∧
    (∃ (s : State) (r : Req), s.hears 0x03 r ∧ s.dev ≠ .boot ∧ r.target = 0xFF ∧ r.payload = [4] ∧ s.dev = .tripped) ∧
    (∃ (s : State) (r : Req), s.hears 0x03 r ∧ s.dev ≠ .boot ∧ r.target = 0xFF ∧ r.payload = [2] ∧ s.dev = .service ∧ s.bw.commissionWait = true) ∧
    (∃ (s : State) (r : Req), s.hears 0x03 r ∧ s.dev ≠ .boot ∧ r.target = 0xFF ∧ r.payload = [4] ∧ s.dev = .idle) ∧
    (∃ (s : State) (r : Req), s.hears 0x03 r ∧ s.dev ≠ .boot ∧ r.target = 0xFF ∧ r.payload = [4] ∧ s.dev = .ready ∧ s.gridUp = false) :=
  ⟨⟨up .idle, rq [0], by decide +kernel⟩,
   ⟨up .service, rq [2], by decide +kernel⟩,
   ⟨up .sync, rq [3], by decide +kernel⟩,
   ⟨up .forming, rq [3], by decide +kernel⟩,
   ⟨gridOn (up .ready), rq [4], by decide +kernel⟩,
   ⟨(gridOn (upWith [(P_BRK_FB_IN, 0)] .ready)).modShore fun h => { h with ins := vset h.ins 0 { seen := true } }, rq [4], by decide +kernel⟩,
   ⟨up .idle, rq [8], by decide +kernel⟩,
   ⟨up .idle, rq [2], by decide +kernel⟩,
   ⟨up .ready, rq [3], by decide +kernel⟩,
   ⟨up .sync, rq [4], by decide +kernel⟩,
   ⟨up .service, rq [8], by decide +kernel⟩,
   ⟨up .idle, rq [], by decide +kernel⟩,
   ⟨up .idle, rq [9], by decide +kernel⟩,
   ⟨up .idle, rq [5], by decide +kernel⟩,
   ⟨up .lockout, rq [4], by decide +kernel⟩,
   ⟨up .tripped, rq [4], by decide +kernel⟩,
   ⟨(up .service).modBw fun b => { b with commissionWait := true }, rq [2], by decide +kernel⟩,
   ⟨up .idle, rq [4], by decide +kernel⟩,
   ⟨up .ready, rq [4], by decide +kernel⟩⟩

theorem witness_ResetsComplete :
    (∃ (s : State) (r : Req), s.hears 0x0E r ∧ s.dev ≠ .boot ∧ r.target = 0xFF ∧ r.payload = [1, 0xFE] ∧ s.dev.runs = false ∧ s.anyContactor = false) ∧
    (∃ (s : State) (r : Req), s.hears 0x0E r ∧ s.dev ≠ .boot ∧ r.target = 0xFF ∧ r.payload = [2, 0xFD] ∧ s.act.pair.handover = false ∧ s.dev ≠ .standby ∧
       s.heart.resetN = false) ∧
    (∃ (s : State), s.act.host.after = some .standby ∧ s.dev = .idle) ∧
    (∃ (s : State), s.act.host.after = some .moduleReset ∧ s.dev.runs = false ∧ s.dev ≠ .standby) ∧
    (∃ (s : State), s.act.host.after = some .peerReset) ∧
    (∃ (s : State), s.dev = .standby) ∧
    (∃ (s : State) (k : Shoal) (p : Port), s.active = true ∧ s.awake = true ∧ shoalOf p ≠ k ∧ s.dev ≠ .standby) ∧
    (∃ (s : State) (k : Shoal) (p : Port), s.awake = true ∧ shoalOf p = k) ∧
    (∃ (s : State), s.awake = false) :=
  ⟨⟨up .tripped, rq [1, 0xFE], by decide +kernel⟩,
   ⟨up .forming, rq [2, 0xFD], by decide +kernel⟩,
   ⟨(up .idle).modHost fun h => { h with after := some .standby }, by decide +kernel⟩,
   ⟨(up .idle).modHost fun h => { h with after := some .moduleReset }, by decide +kernel⟩,
   ⟨(up .idle).modHost fun h => { h with after := some .peerReset }, by decide +kernel⟩,
   ⟨up .standby, by decide +kernel⟩,
   ⟨up .idle, 3, 0, by decide +kernel⟩,
   ⟨withLife { life := .admitted } (up .forming), 0, 0, by decide +kernel⟩,
   ⟨up .boot, by decide +kernel⟩⟩

theorem witness_ParamsComplete :
    (∃ (s : State) (r : Req) (ns : List Nat), s.dev ≠ .boot ∧ s.answers = true ∧ r.target = 0xFF ∧ r.payload.length = 4 + 2 * ns.length ∧
       by8 r.payload 0 = ns.length ∧ by8 r.payload 1 ≤ 1 ∧ by8 r.payload 2 = 0 ∧ by8 r.payload 3 = 0 ∧ 0 < ns.length ∧ ns.length ≤ 64 ∧
       ((List.range ns.length).map fun i => rd r.payload (4 + 2 * i) 2) = ns ∧ (∀ n ∈ ns, (paramRow n).isSome) ∧ (s.meter.absent = true → ∀ n ∈ ns,
       n / 0x1000 ≠ 0xA) ∧ s.inTurn 0x10 r = true) ∧
    (∃ (s : State) (r : Req) (count : Nat), s.dev ≠ .boot ∧ s.answers = true ∧ r.target = 0xFF ∧ r.payload.length = 4 + 8 * count ∧
       by8 r.payload 0 = count ∧ rd r.payload 1 3 = 0 ∧ 0 < count ∧ count ≤ 64 ∧ firstFailing 0 [] (paramEntries r.payload count) = none ∧
       s.inTurn 0x11 r = true) ∧
    (∃ (s : State) (r : Req), s.dev ≠ .boot ∧ s.answers = true ∧ r.target = 0xFF ∧ r.payload = [0] ∧ s.act.cfg.pendingSet = s.act.cfg.committed ∧
       s.inTurn 0x12 r = true) ∧
    (∃ (s : State) (r : Req), s.dev ≠ .boot ∧ s.answers = true ∧ r.target = 0xFF ∧ r.payload = [0] ∧ s.act.cfg.pendingSet ≠ s.act.cfg.committed ∧
       s.commitRefusal s.act.cfg.committed s.act.cfg.pendingSet = none ∧ s.inTurn 0x12 r = true) ∧
    (∃ (s : State) (r : Req), s.dev ≠ .boot ∧ s.answers = true ∧ r.target = 0xFF ∧ r.payload = [1] ∧ s.inTurn 0x12 r = true) ∧
    (∃ (s : State) (r : Req) (st : Nat), s.dev ≠ .boot ∧ s.answers = true ∧ r.target = 0xFF ∧ r.payload = [0] ∧ s.act.cfg.pendingSet ≠ s.act.cfg.committed ∧
       s.commitRefusal s.act.cfg.committed s.act.cfg.pendingSet = some st ∧ s.inTurn 0x12 r = true ∧ (s.dev = .forming ∧
       s.act.cfg.committed.lockedDiffers s.act.cfg.pendingSet = true)) :=
  ⟨⟨up .idle, rq ([1, 0, 0, 0] ++ le 2 P_V_NOM), [P_V_NOM], by decide +kernel⟩,
   ⟨up .idle, rq ([1, 0, 0, 0] ++ le 2 P_SITE_ID ++ [0, 0] ++ le 4 1), 1, by decide +kernel⟩,
   ⟨up .idle, rq [0], by decide +kernel⟩,
   ⟨(up .idle).modCfg fun c => { c with pendingSet := { params := [(P_SITE_ID, 1)] } }, rq [0], by decide +kernel⟩,
   ⟨up .idle, rq [1], by decide +kernel⟩,
   ⟨(up .forming).modCfg fun c => { c with pendingSet := { params := [(P_V_NOM, 4100)] } }, rq [0], ST_STATE_FORBIDS, by decide +kernel⟩⟩

theorem witness_TablesComplete :
    (∃ (s : State) (r : Req) (n : Fin 4) (e : Envelope), s.dev ≠ .boot ∧ s.answers = true ∧ r.target = 0xFF ∧ by8 r.payload 0 = n.val ∧
       e = { enable := by8 r.payload 1, confirm := by8 r.payload 3, vertices := verticesOf r.payload (by8 r.payload 2) } ∧ 2 ≤ by8 r.payload 2 ∧
       by8 r.payload 2 ≤ 64 ∧ r.payload.length = 4 + 8 * by8 r.payload 2 ∧ 1 ≤ by8 r.payload 3 ∧ by8 r.payload 3 ≤ 16 ∧ by8 r.payload 1 < 4 ∧
       timesOk (e.vertices.map (·.1)) = true ∧ (∀ v ∈ e.vertices, envelopeValueOk n.val v.2 = true) ∧ s.inTurn 0x48 r = true) ∧
    (∃ (s : State) (r : Req) (n : Fin 4), s.dev ≠ .boot ∧ s.answers = true ∧ r.target = 0xFF ∧ by8 r.payload 0 = n.val ∧ r.payload.length = 2 ∧
       by8 r.payload 1 ≤ 1 ∧ s.inTurn 0x49 r = true) ∧
    (∃ (s : State) (r : Req) (p : Port) (m : List MapEntry), s.dev ≠ .boot ∧ s.answers = true ∧ r.target = p.val ∧
       ((List.range (by8 r.payload 0)).map fun i => mapEntryOf ((r.payload.drop (4 + 20 * i)).take 20)) = m ∧ r.payload.length = 4 + 20 * by8 r.payload 0 ∧
       0 < by8 r.payload 0 ∧ by8 r.payload 0 ≤ 8 ∧ mapReserved r.payload (by8 r.payload 0) m = false ∧ (∀ e ∈ m, e.outOfRange = false ∧ e.tooFar = false) ∧
       (m.map (·.signal)).eraseDups.length = by8 r.payload 0 ∧ (∀ e ∈ m, ¬(e.timeout = 0 ∧ e.signal ≤ 4)) ∧ s.inTurn 0x3A r = true) ∧
    (∃ (s : State) (r : Req) (p : Port), s.dev ≠ .boot ∧ s.answers = true ∧ r.target = p.val ∧ r.payload.length = 1 ∧ by8 r.payload 0 ≤ 1 ∧
       s.inTurn 0x3B r = true) :=
  ⟨⟨up .idle, rq ([0, 1, 2, 1] ++ zeros 8 ++ le 4 1 ++ le 4 0), 0, { enable := 1, confirm := 1, vertices := [(0, 0), (1, 0)] }, by decide +kernel⟩,
   ⟨up .idle, rq [3, 1], 3, by decide +kernel⟩,
   ⟨up .idle, rq ([1, 0, 0,
     0] ++ ({ signal := 5, flags := 0, start := 0, length := 32, timeout := 0, id := 0x123, scale := 1, offset := 0 } : MapEntry).bytes) 0x0B, 11,
     [{ signal := 5, flags := 0, start := 0, length := 32, timeout := 0, id := 0x123, scale := 1, offset := 0 }], by decide +kernel⟩,
   ⟨up .idle, rq [1] 0, 0, by decide +kernel⟩⟩

theorem witness_TripsComplete :
    (∃ (s : State) (r : Req) (p : Port) (q : Port), s.dev ≠ .boot ∧ s.answers = true ∧ r.payload = [] ∧ (r.target ≤ 0x0B ∨ r.target = 0xFF) ∧
       s.inTurn 0x40 r = true ∧ (s.life p).trips.contains .host = false ∧ q ≠ p) ∧
    (∃ (s : State) (r : Req) (p : Port), s.dev ≠ .boot ∧ s.answers = true ∧ r.payload = [] ∧ r.target = p.val ∧ s.dev ≠ .lockout ∧
       (s.begin_ 0x41 r).1.causeStands p = false ∧ s.inTurn 0x41 r = true) ∧
    (∃ (s : State) (r : Req) (p : Port), s.dev ≠ .boot ∧ s.answers = true ∧ r.payload = [] ∧ r.target = p.val ∧ s.dev ≠ .lockout ∧
       (s.begin_ 0x41 r).1.causeStands p = true ∧ s.inTurn 0x41 r = true) ∧
    (∃ (s : State) (r : Req) (p : Port), s.dev ≠ .boot ∧ s.answers = true ∧ r.payload = [] ∧ r.target = p.val ∧ s.dev = .lockout ∧ s.inTurn 0x41 r = true) ∧
    (∃ (t : Trip) (p : Port) (q : Port), t ≠ .regionHold ∧ t ≠ .clockStop ∧ q ≠ p) :=
  ⟨⟨up .forming, rq [] 0x0B, 0, 1, by decide +kernel⟩,
   ⟨up .idle, rq [] 0, 0, by decide +kernel⟩,
   ⟨withSk { dlLoss := true } (up .idle), rq [] 0, 0, by decide +kernel⟩,
   ⟨up .lockout, rq [] 0, 0, by decide +kernel⟩,
   ⟨.host, 0, 1, by decide +kernel⟩⟩

theorem witness_TripTickStepComplete :
    (∃ (s : State) (r : Req) (p : Port) (k : Shoal), s.hears 0x40 r ∧ r.payload = [] ∧ (r.target = p.val ∨ r.target = 0xFF) ∧ s.shoals[k].fields = []) ∧
    (∃ (s : State) (r : Req) (p : Port), s.hears 0x41 r ∧ s.dev ≠ .lockout ∧ r.payload = [] ∧ r.target = p.val ∧ (s.begin_ 0x41 r).1.causeStands p = false) ∧
    (∃ (s : State) (k : Shoal) (f : StepFields) (rest : List StepFields), s.shoals[k].fields = f :: rest ∧
       fieldsDue s.shoals[k].tick f.angle.applyTick = true) ∧
    (∃ (s : State), s.awake = true ∧ s.act.engine.run = true) ∧
    (∃ (s : State), (s.awake = false ∨ s.act.engine.run = false)) :=
  ⟨⟨up .idle, rq [] 0x0B, 11, 0, by decide +kernel⟩,
   ⟨up .idle, rq [] 0, 0, by decide +kernel⟩,
   ⟨fields ⟨0, 0, 0, 0⟩, 0, ⟨⟨0, 0, 0, 0⟩, [], 0⟩, [], by decide +kernel⟩,
   ⟨up .forming, by decide +kernel⟩,
   ⟨up .boot, by decide +kernel⟩⟩

theorem witness_DispatchComplete :
    (∃ (s : State) (r : Req), s.answers = true ∧ r.target = 0xFF ∧ s.dev.live = true ∧ r.payload.length = 16 ∧ by8 r.payload 14 < 16 ∧
       by8 r.payload 15 ≤ 2 ∧ rd r.payload 12 2 ≤ 10000 ∧ (by8 r.payload 15 ≠ 0 → s.parN P_PCC_FB_IN = 0xFF) ∧
       (bit (by8 r.payload 14) 0 = true → (ofTwos 32 (rd r.payload 0 4)).natAbs ≤ 1000 * s.parN P_S_RATED) ∧
       (bit (by8 r.payload 14) 1 = true → (ofTwos 32 (rd r.payload 4 4)).natAbs ≤ 1000 * s.parN P_S_RATED) ∧
       (bit (by8 r.payload 14) 2 = true → (ofTwos 16 (rd r.payload 8 2)).natAbs ≤ 500) ∧
       (bit (by8 r.payload 14) 3 = true → (ofTwos 16 (rd r.payload 10 2)).natAbs ≤ 1000) ∧ s.inTurn 0x20 r = true) ∧
    (∃ (s : State) (r : Req), s.answers = true ∧ r.target = 0xFF ∧ s.dev = .ready ∧ s.gridLinkDown = false ∧ r.payload = [] ∧ s.firm.seq.bsPending = false ∧
       s.inTurn 0x24 r = true) ∧
    (∃ (s : State) (r : Req), s.answers = true ∧ r.target = 0xFF ∧ s.dev = .ready ∧ s.gridLinkDown = false ∧ r.payload.length = 8 ∧
       rd r.payload 4 4 ≤ 999999999 ∧ s.act.ptp.valid = true ∧ (∀ p ∈ s.act.net.peers.toList, p.known = true → p.diff[1] = false ∧ p.diff[2] = false) ∧
       s.firm.seq.bsPending = false ∧ s.inTurn 0x24 r = true) ∧
    (∃ (s : State) (r : Req), s.answers = true ∧ r.target = 0xFF ∧ s.dev = .sync ∧ r.payload = [] ∧ s.parN P_BRK_CLOSE_OUT ≠ 0xFF ∧
       s.parN P_BRK_FB_IN ≠ 0xFF ∧ s.firm.seq.armed = false ∧ s.inTurn 0x25 r = true) :=
  ⟨⟨up .forming, rq (le 4 0 ++ le 4 0 ++ le 2 500 ++ le 2 1000 ++ le 2 10000 ++ [0x0F, 0]), by decide +kernel⟩,
   ⟨gridOn (up .ready), rq [], by decide +kernel⟩,
   ⟨(gridOn (up .ready)).modPtp fun p => { p with state := .locked }, rq (le 4 1 ++ le 4 999999999), by decide +kernel⟩,
   ⟨upWith [(P_BRK_CLOSE_OUT, 0), (P_BRK_FB_IN, 0)] .sync, rq [], by decide +kernel⟩⟩

theorem witness_TideNetComplete :
    (∃ (s : State) (r : Req) (e : TideEntry) (i : Fin 128), s.answers = true ∧ s.dev ≠ .boot ∧ r.target = 0xFF ∧ r.payload.length = 20 ∧
       by8 r.payload 0 ≤ 127 ∧ 8 ≤ by8 r.payload 0 % 32 ∧ rd r.payload 1 3 = 0 ∧
       tideOf (rd r.payload 4 4) (rd r.payload 8 4) (rd r.payload 12 4) (rd r.payload 16 4) = e ∧ e.bad (by8 r.payload 0) = false ∧ i.val = by8 r.payload 0 ∧
       s.inTurn 0x28 r = true) ∧
    (∃ (s : State) (r : Req) (i : Fin 128), s.answers = true ∧ s.dev ≠ .boot ∧ r.target = 0xFF ∧ r.payload.length = 1 ∧ by8 r.payload 0 = i.val ∧
       s.inTurn 0x29 r = true) ∧
    (∃ (s : State) (r : Req), s.answers = true ∧ s.dev ≠ .boot ∧ r.target = 0xFF ∧ r.payload = [] ∧ s.inTurn 0x70 r = true ∧ s.inTurn 0x71 r = true ∧
       r.payload.length ≠ 1 ∧ s.inTurn 0x29 r = true) ∧
    (∃ (s : State) (r : Req) (nets : Nat) (cls : Nat) (flags : Nat) (handle : Nat) (sec : Nat) (ns : Nat) (frame : List Byte), s.answers = true ∧
       s.dev ≠ .boot ∧ r.target = 0xFF ∧
       r.payload = le 1 nets ++ le 1 cls ++ le 1 flags ++ zeros 1 ++ le 4 sec ++ le 4 ns ++ le 2 frame.length ++ le 2 handle ++ frame ∧ 1 ≤ nets ∧ nets ≤ 3 ∧
       cls ≤ 5 ∧ flags ≤ 3 ∧ handle < 65536 ∧ sec < 2 ^ 32 ∧ ns < 2 ^ 32 ∧ 14 ≤ frame.length ∧ frame.length ≤ 1514 ∧ etherRefused (rdBe frame 12 2) = false ∧
       (∀ t ∈ s.act.net.tx, t.isOf handle = false) ∧ (∀ n : Net,
       bit nets n.val = true → (s.act.net.tx.filter fun t => decide (t.status[n] = 1)).length < 32) ∧ (bit flags 0 = true → ns ≤ 999999999 ∧
       s.act.ptp.valid = true ∧ sec * 1000000000 + ns ≤ s.act.ptp.sec * 1000000000 + s.act.ptp.subNs + 10000000000) ∧ s.inTurn 0x74 r = true) ∧
    (∃ (s : State) (r : Req), s.answers = true ∧ s.dev ≠ .boot ∧ r.target = 0xFF ∧ r.payload.length = 2 ∧ s.inTurn 0x75 r = true) ∧
    (∃ (s : State) (r : Req), s.answers = true ∧ s.dev ≠ .boot ∧ r.target = 0xFF ∧ r.payload.length = 1 ∧ 127 < by8 r.payload 0 ∧ s.inTurn 0x29 r = true) :=
  ⟨⟨up .idle, rq ([0x20 + 8, 0, 0, 0] ++ le 4 0 ++ le 4 0x84000300 ++ zeros 8), { enable := true, action := 4, arg := 3 }, 40, by decide +kernel⟩,
   ⟨up .idle, rq [127], 127, by decide +kernel⟩,
   ⟨up .idle, rq [], by decide +kernel⟩,
   ⟨up .idle, rq (le 1 3 ++ le 1 5 ++ le 1 2 ++ zeros 1 ++ le 4 0 ++ le 4 0 ++ le 2 14 ++ le 2 7 ++ zeros 14), 3, 5, 2, 7, 0, 0, zeros 14,
     by decide +kernel⟩,
   ⟨up .idle, rq [1, 0], by decide +kernel⟩,
   ⟨up .idle, rq [128], by decide +kernel⟩⟩

theorem witness_FieldCommandsComplete :
    (∃ (s : State) (r : Req), s.answers = true ∧ s.dev ≠ .boot ∧ r.target = 0xFF ∧ r.payload = [] ∧ s.inTurn 0x80 r = true ∧ s.inTurn 0x84 r = true ∧
       s.inTurn 0x89 r = true) ∧
    (∃ (s : State) (r : Req), s.answers = true ∧ s.dev ≠ .boot ∧ r.target = 0xFF ∧ r.payload.length = 4 ∧ rd r.payload 0 2 ≠ 0 ∧ (∀ n < 16,
       bit (rd r.payload 0 2) n = true → s.owned n = false) ∧ s.shore.powered = true ∧ s.inTurn 0x81 r = true) ∧
    (∃ (s : State) (r : Req), s.answers = true ∧ s.dev ≠ .boot ∧ r.target = 0xFF ∧ r.payload.length = 1 ∧ by8 r.payload 0 < 16 ∧ s.shore.powered = true ∧
       s.inTurn 0x82 r = true) ∧
    (∃ (s : State) (r : Req) (rules : List WakeRule), s.answers = true ∧ s.dev ≠ .boot ∧ r.target = 0xFF ∧
       r.payload = le 1 rules.length ++ zeros 3 ++ rules.flatMap (·.bytes) ∧ 1 ≤ rules.length ∧ rules.length ≤ 16 ∧ (∀ x ∈ rules, x.defined = true ∧
       x.filter ≤ 10000) ∧ s.inTurn 0x88 r = true) :=
  ⟨⟨up .idle, rq [], by decide +kernel⟩,
   ⟨up .idle, rq [0, 0x80, 0, 0x80], by decide +kernel⟩,
   ⟨up .idle, rq [15], by decide +kernel⟩,
   ⟨up .idle, rq ([1, 0, 0, 0] ++ ({ source := 0x0C, cond := 4, filter := 10000, action := 2 } : WakeRule).bytes),
     [{ source := 0x0C, cond := 4, filter := 10000, action := 2 }], by decide +kernel⟩⟩

theorem witness_ClockCrcComplete :
    (∃ (s : State) (r : Req), s.answers = true ∧ s.dev ≠ .boot ∧ r.target = 0xFF ∧ r.payload = [] ∧ s.inTurn 0xC0 r = true ∧ s.clocks.bypass = 0 ∧
       s.clocks.pllState = 0 ∧ s.inTurn 0xC1 r = true) ∧
    (∃ (s : State) (r : Req) (i : Fin 8), s.answers = true ∧ s.dev ≠ .boot ∧ r.target = 0xFF ∧ r.payload.length = 24 ∧ by8 r.payload 0 = i.val ∧
       8 ≤ by8 r.payload 1 ∧ by8 r.payload 1 ≤ 32 ∧ snoopOut (by8 r.payload 3) (rd r.payload 16 4) (rd r.payload 20 4) = false ∧ by8 r.payload 3 ≤ 6 ∧
       by8 r.payload 2 < 16 ∧ rd r.payload 4 4 < 2 ^ by8 r.payload 1 ∧ rd r.payload 8 4 < 2 ^ by8 r.payload 1 ∧ rd r.payload 12 4 < 2 ^ by8 r.payload 1 ∧
       (by8 r.payload 3 = 6 → rd r.payload 20 4 ≠ 0) ∧ foldBad (by8 r.payload 3) (by8 r.payload 2) = false ∧ s.inTurn 0xC8 r = true) ∧
    (∃ (s : State) (r : Req) (i : Fin 8), s.answers = true ∧ s.dev ≠ .boot ∧ r.target = 0xFF ∧ r.payload.length = 6 ∧ by8 r.payload 0 = i.val ∧
       by8 r.payload 1 = 0 ∧ s.inTurn 0xC9 r = true) ∧
    (∃ (s : State) (r : Req) (i : Fin 8) (x : CrcUnit), s.answers = true ∧ s.dev ≠ .boot ∧ r.target = 0xFF ∧ r.payload.length = 6 ∧
       by8 r.payload 0 = i.val ∧ by8 r.payload 1 = 1 ∧ s.act.crc[i].snoop = 0 ∧ x = { s.act.crc[i] with reg := rd r.payload 2 4 % 2 ^ s.act.crc[i].width } ∧
       s.inTurn 0xC9 r = true) ∧
    (∃ (s : State) (r : Req) (i : Fin 8), s.answers = true ∧ s.dev ≠ .boot ∧ r.target = 0xFF ∧ 5 ≤ r.payload.length ∧ by8 r.payload 0 = i.val ∧
       rd r.payload 1 3 = 0 ∧ s.act.crc[i].snoop = 0 ∧ s.inTurn 0xCA r = true) ∧
    (∃ (s : State) (r : Req), s.answers = true ∧ s.dev ≠ .boot ∧ r.target = 0xFF) :=
  ⟨⟨(up .tripped).modClocks fun c => { c with hd := Vector.replicate 2 { state := .locked }, shoal := Vector.replicate 4 { state := .locked } }, rq [],
     by decide +kernel⟩,
   ⟨up .idle, rq ([7, 0x20, 0x03, 0] ++ le 4 0x04C11DB7 ++ le 4 0xFFFFFFFF ++ le 4 0xFFFFFFFF ++ le 4 0 ++ le 4 0), 7, by decide +kernel⟩,
   ⟨up .idle, rq [7, 0, 0, 0, 0, 0], 7, by decide +kernel⟩,
   ⟨up .idle, rq [0, 1, 1, 2, 3, 4], 0, { reg := 0x04030201 }, by decide +kernel⟩,
   ⟨up .idle, rq [0, 0, 0, 0, 0x31], 0, by decide +kernel⟩,
   ⟨up .idle, rq [], by decide +kernel⟩⟩

theorem witness_SafetyMeterCommandsComplete :
    (∃ (s : State) (r : Req), s.answers = true ∧ s.dev ≠ .boot ∧ r.target = 0xFF ∧ r.payload = [] ∧ s.inTurn 0x90 r = true ∧ (s.bw.lockout = true ∨
       s.bw.anyPortLockout = true) ∧ s.bw.resettable s.clk.now true = true ∧ s.inTurn 0x91 r = true ∧ s.meter.absent = false ∧ s.meter.powered = true ∧
       s.inTurn 0xA2 r = true ∧ s.meter.key = none) ∧
    (∃ (s : State) (r : Req) (count : Nat), s.answers = true ∧ s.dev ≠ .boot ∧ r.target = 0xFF ∧ s.dev = .service ∧ r.payload.length = 4 + 8 * count ∧
       by8 r.payload 0 = count ∧ 0 < count ∧ count ≤ 32 ∧ rd r.payload 1 3 = 0 ∧ (∀ e ∈ paramEntries r.payload count, e.2.1 = 0 ∧
       safetyNumbers.contains e.1 = true ∧ paramAdmits e.1 (paramOfWire e.1 e.2.2) = true) ∧ s.bw.commissionWait = false ∧ s.inTurn 0x92 r = true) ∧
    (∃ (s : State) (r : Req), s.answers = true ∧ s.dev ≠ .boot ∧ r.target = 0xFF ∧ s.dev = .service ∧ r.payload.length = 4 ∧ s.bw.commissionWait = false ∧
       rd r.payload 0 4 = safetyCrcOf s.bw.pending ∧ safetyChecks s.bw.pending s.act.cfg.committed.params = true ∧ s.inTurn 0x93 r = true) ∧
    (∃ (s : State) (r : Req) (p : Port), s.answers = true ∧ s.dev ≠ .boot ∧ s.meter.absent = false ∧ s.meter.powered = true ∧ r.target = p.val ∧
       r.payload.length = 4 ∧ s.inTurn 0xA0 r = true) ∧
    (∃ (s : State) (r : Req), s.answers = true ∧ s.dev ≠ .boot ∧ s.meter.absent = false ∧ s.meter.powered = true ∧ r.target = 0xFF ∧ r.payload.length = 4 ∧
       s.inTurn 0xA0 r = true) ∧
    (∃ (s : State) (r : Req), s.answers = true ∧ s.dev ≠ .boot ∧ s.meter.absent = false ∧ s.meter.powered = true ∧ (r.target ≤ 0x0B ∨ r.target = 0xFF) ∧
       r.payload.length = 9 ∧ by8 r.payload 8 ≠ 0 ∧ s.inTurn 0xA1 r = true) :=
  ⟨⟨up .idle, rq [], by decide +kernel⟩,
   ⟨up .service, rq ([1, 0, 0, 0] ++ le 2 P_START_LOCKED ++ [0, 0] ++ le 4 1), 1, by decide +kernel⟩,
   ⟨up .service, rq (le 4 (safetyCrcOf [])), by decide +kernel, by decide +kernel, rfl, rfl, le_length .., rfl,
     (rd_le 4 _ []).trans (Nat.mod_eq_of_lt (crc32c_lt _)), by decide +kernel, by decide +kernel⟩,
   ⟨up .idle, rq (le 4 0) 0x0B, 11, by decide +kernel⟩,
   ⟨up .idle, rq (le 4 0), by decide +kernel⟩,
   ⟨up .idle, rq (zeros 8 ++ [1]) 0x0B, by decide +kernel⟩⟩

theorem witness_CaptureCommandsComplete :
    (∃ (s : State) (r : Req) (sel : List Nat), s.answers = true ∧ s.dev ≠ .boot ∧ r.target = 0xFF ∧ s.act.cap.busy = false ∧ r.payload.length = 140 ∧
       ((List.range 32).map fun c => rd r.payload (12 + 4 * c) 4) = sel ∧ sel.all selOk = true ∧ sel.all selInRange = true ∧
       rd r.payload 4 4 < rd r.payload 0 4 ∧ 1 ≤ rd r.payload 8 2 ∧ rd r.payload 8 2 ≤ 4096 ∧ by8 r.payload 10 ≤ 2 ∧ by8 r.payload 11 = 0 ∧
       s.inTurn 0x50 r = true) ∧
    (∃ (s : State) (r : Req), s.answers = true ∧ s.dev ≠ .boot ∧ r.target = 0xFF ∧ s.act.cap.busy = false ∧ r.payload.length = 16 ∧ by8 r.payload 0 ≤ 4 ∧
       by8 r.payload 2 ≤ 2 ∧ by8 r.payload 3 = 0 ∧ (by8 r.payload 0 = 0 → by8 r.payload 1 ≤ 31) ∧ (by8 r.payload 0 = 1 ∨
       by8 r.payload 0 = 2 → by8 r.payload 1 ≤ 7) ∧ s.inTurn 0x51 r = true) ∧
    (∃ (s : State) (r : Req) (i : Fin 4) (m : CapMask), s.answers = true ∧ s.dev ≠ .boot ∧ r.target = 0xFF ∧ s.act.cap.busy = false ∧ m = ⟨by8 r.payload 1,
       bit (by8 r.payload 3) 0, bit (by8 r.payload 3) 1, verticesOf r.payload (by8 r.payload 2)⟩ ∧ by8 r.payload 0 = i.val ∧ by8 r.payload 1 ≤ 31 ∧
       2 ≤ by8 r.payload 2 ∧ by8 r.payload 2 ≤ 64 ∧ by8 r.payload 3 ≤ 3 ∧ r.payload.length = 4 + 8 * by8 r.payload 2 ∧
       timesOk ((verticesOf r.payload (by8 r.payload 2)).map (·.1)) = true ∧ s.inTurn 0x52 r = true) ∧
    (∃ (s : State) (r : Req), s.answers = true ∧ s.dev ≠ .boot ∧ r.target = 0xFF ∧ s.act.cap.busy = false ∧ r.payload.length = 12 ∧ 1 ≤ by8 r.payload 0 ∧
       by8 r.payload 0 ≤ 3 ∧ by8 r.payload 1 ≤ 5 ∧ rdBe r.payload 4 4 ≠ 0 ∧ s.inTurn 0x58 r = true) ∧
    (∃ (s : State) (r : Req) (c : Cap), s.answers = true ∧ s.dev ≠ .boot ∧ r.target = 0xFF ∧ s.act.cap = c ∧ r.payload = [] ∧ c.cfg.enabled ≠ [] ∧
       (c.cfg.source = 0 → c.cfg.arg ∈ c.cfg.enabled) ∧ (c.cfg.source = 2 → ∀ (i : Fin 4) (m : CapMask),
       c.cfg.arg = i.val → c.masks[i] = some m → m.channel ∈ c.cfg.enabled) ∧ c.cfg.length * c.cfg.enabled.length * 4 ≤ 6291456 ∧ (c.cfg.mode = 2 → ∃ d,
       c.stream = some d ∧ ∀ n : Net, bit d.nets n.val = true → s.ipOf n ≠ 0) ∧ c.state ≠ .triggered ∧ c.state ≠ .streaming ∧ s.inTurn 0x53 r = true) ∧
    (∃ (s : State) (r : Req) (c : Cap), s.answers = true ∧ s.dev ≠ .boot ∧ r.target = 0xFF ∧ s.act.cap = c ∧ r.payload = [] ∧ c.state = .armed ∧
       c.fire = none ∧ c.due = none ∧ c.evaluates s.ptpNow = true ∧ s.inTurn 0x54 r = true ∧ s.inTurn 0x55 r = true) ∧
    (∃ (s : State) (r : Req) (c : Cap) (ch : Nat) (start : Nat) (asked : Nat), s.answers = true ∧ s.dev ≠ .boot ∧ r.target = 0xFF ∧ s.act.cap = c ∧
       r.payload = le 1 ch ++ [0] ++ le 2 asked ++ le 4 start ∧ ch ∈ c.recordCfg.enabled ∧ ch ≤ 31 ∧ 1 ≤ asked ∧ asked < 65536 ∧ start < c.recordCfg.length ∧
       start < 2 ^ 32 ∧ c.state = .done ∧ s.inTurn 0x56 r = true) ∧
    (∃ (s : State) (r : Req) (c : Cap) (ch : Nat), s.answers = true ∧ s.dev ≠ .boot ∧ r.target = 0xFF ∧ s.act.cap = c ∧ r.payload = le 1 ch ∧
       ch ∈ c.recordCfg.enabled ∧ ch ≤ 31 ∧ c.state = .done ∧ s.inTurn 0x57 r = true) :=
  ⟨⟨up .idle, rq (le 4 2 ++ le 4 1 ++ le 2 4096 ++ [2, 0] ++ zeros 128), List.replicate 32 0, by decide +kernel⟩,
   ⟨up .idle, rq ([1, 7, 2, 0] ++ zeros 12), by decide +kernel⟩,
   ⟨up .idle, rq ([3, 31, 2, 3] ++ zeros 8 ++ le 4 1 ++ zeros 4), 3, ⟨31, true, true, [(0, 0), (1, 0)]⟩, by decide +kernel⟩,
   ⟨up .idle, rq ([3, 5, 0, 0] ++ [10, 0, 0, 1] ++ zeros 4), by decide +kernel⟩,
   ⟨(up .idle).modCap fun c => { c with cfg := { c.cfg with length := 1, sel := 0x80000000 :: List.replicate 31 0 } }, rq [],
     { cfg := { length := 1, sel := 0x80000000 :: List.replicate 31 0 } }, by decide +kernel, by decide +kernel, rfl, by decide +kernel, rfl,
     by decide +kernel, by decide +kernel, fun h => absurd h (by decide +kernel), by decide +kernel, fun h => absurd h (by decide +kernel), by decide +kernel,
     by decide +kernel, by decide +kernel⟩,
   ⟨(up .idle).modCap fun _ => { state := .armed, evalFrom := some 0 }, rq [], { state := .armed, evalFrom := some 0 }, by decide +kernel⟩,
   ⟨(up .idle).modCap fun _ => { state := .done, cfg := { length := 1, sel := 0x80000000 :: List.replicate 31 0 }, recordCfg := { length := 1, sel := 0x80000000 :: List.replicate 31 0 } },
     rq (le 1 0 ++ [0] ++ le 2 1 ++ le 4 0),
     { state := .done, cfg := { length := 1, sel := 0x80000000 :: List.replicate 31 0 }, recordCfg := { length := 1, sel := 0x80000000 :: List.replicate 31 0 } },
     0, 0, 1, by decide +kernel⟩,
   ⟨(up .idle).modCap fun _ => { state := .done, cfg := { length := 1, sel := 0x80000000 :: List.replicate 31 0 }, recordCfg := { length := 1, sel := 0x80000000 :: List.replicate 31 0 } },
     rq (le 1 0),
     { state := .done, cfg := { length := 1, sel := 0x80000000 :: List.replicate 31 0 }, recordCfg := { length := 1, sel := 0x80000000 :: List.replicate 31 0 } },
     0, by decide +kernel⟩⟩

theorem witness_RingLogComplete :
    (∃ (s : State) (r : Req), s.answers = true ∧ s.dev ≠ .boot ∧ r.target = 0xFF ∧ r.payload = [] ∧ s.inTurn 0x60 r = true ∧ s.act.log.frozen = true ∧
       s.inTurn 0x63 r = true) ∧
    (∃ (s : State) (r : Req) (rs : List LogRecord), s.answers = true ∧ s.dev ≠ .boot ∧ r.target = 0xFF ∧ r.payload.length = 6 ∧ rd r.payload 4 2 ≠ 0 ∧
       rs = (s.act.log.records.filter fun x => decide (rd r.payload 0 4 ≤ x.number)).take (min 16 (rd r.payload 4 2)) ∧ s.inTurn 0x61 r = true) ∧
    (∃ (s : State) (r : Req), s.answers = true ∧ s.dev ≠ .boot ∧ r.target = 0xFF ∧ r.payload.length = 4 ∧ rd r.payload 0 4 ≤ s.act.log.newest + 1 ∧
       s.inTurn 0x62 r = true) ∧
    (∃ (s : State), s.dev ≠ .standby ∧ s.act.log.opAt + 400000000 ≤ s.clk.now) ∧
    (∃ (s : State) (e : Event) (rest : List Event), s.dev ≠ .standby ∧ s.act.pair.role = .active ∧ s.act.log.resume = false ∧ s.act.log.queue = e :: rest ∧
       countOf s.act.log.written e.code < s.parN (P_LOG_CTRL e.code) / 256) ∧
    (∃ (s : State) (e : Event) (rest : List Event), s.dev ≠ .standby ∧ s.act.pair.role = .active ∧ s.act.log.resume = false ∧ s.act.log.queue = e :: rest ∧
       s.parN (P_LOG_CTRL e.code) / 256 ≤ countOf s.act.log.written e.code) ∧
    (∃ (s : State), s.dev ≠ .standby ∧ s.act.pair.role = .active ∧ s.act.log.resume = true) ∧
    (∃ (s : State), s.act.pair.role ≠ .active) ∧
    (∃ (l : Log) (r0 : LogRecord) (rest : List LogRecord), l.records = r0 :: rest ∧ l.records.length = 32768) ∧
    (∃ (l : Log), l.records = [] ∧ l.newest = 0) :=
  ⟨⟨(up .idle).modLog fun l => { l with frozen := true }, rq [], by decide +kernel⟩,
   ⟨up .idle, rq (le 4 1 ++ le 2 16), [], by decide +kernel⟩,
   ⟨up .idle, rq (le 4 1), by decide +kernel⟩,
   ⟨later 400000000 (up .idle), by decide +kernel⟩,
   ⟨(up .idle).modLog fun l => { l with queue := [{ code := 0x10 }] }, { code := 0x10 }, [], by decide +kernel⟩,
   ⟨(upWith [(P_LOG_CTRL 0x10, 0)] .idle).modLog fun l => { l with queue := [{ code := 0x10 }] }, { code := 0x10 }, [], by decide +kernel⟩,
   ⟨(up .idle).modLog fun l => { l with resume := true }, by decide +kernel⟩,
   ⟨State.reset, by decide +kernel⟩,
   ⟨{ records := List.replicate 32768 ⟨1, { code := 1 }, 0, false, false, 0⟩, newest := 32768 }, ⟨1, { code := 1 }, 0, false, false, 0⟩,
     List.replicate 32767 ⟨1, { code := 1 }, 0, false, false, 0⟩, rfl, List.length_replicate⟩,
   ⟨{}, by decide +kernel⟩⟩

theorem witness_PortCommandsComplete :
    (∃ (s : State) (r : Req) (p : Port), s.answers = true ∧ r.target = p.val ∧ (s.dev = .idle ∨ s.dev.live = true) ∧ r.payload = [] ∧
       (s.life p).life = .charged ∧ (s.life p).relReq = false ∧ s.requiredUnmapped p = false ∧ s.inTurn 0x30 r = true) ∧
    (∃ (s : State) (r : Req) (p : Port), s.answers = true ∧ r.target = p.val ∧ (s.dev = .idle ∨ s.dev.live = true) ∧ r.payload = [] ∧
       (s.life p).life = .admitted ∧ (s.life p).relReq = false ∧ s.requiredUnmapped p = false ∧ s.inTurn 0x30 r = true) ∧
    (∃ (s : State) (r : Req) (p : Port), s.answers = true ∧ r.target = p.val ∧ (s.dev = .idle ∨ s.dev.live = true) ∧ r.payload = [] ∧
       (s.life p).life ∈ [.plugged, .checking, .waiting, .precharging] ∧ (s.life p).relReq = false ∧ s.requiredUnmapped p = false ∧ s.inTurn 0x30 r = true) ∧
    (∃ (s : State) (r : Req) (p : Port), s.answers = true ∧ r.target = p.val ∧ s.dev ≠ .boot ∧ s.dev ≠ .lockout ∧ r.payload = [] ∧
       (s.life p).life ≠ .empty ∧ s.lastAble p = false ∧ s.inTurn 0x31 r = true) ∧
    (∃ (s : State) (r : Req) (p : Port), s.answers = true ∧ r.target = p.val ∧ s.dev ≠ .boot ∧ r.payload.length = 1 ∧ 1 ≤ by8 r.payload 0 ∧
       by8 r.payload 0 ≤ 15 ∧ (s.life p).admitted = false ∧ s.sk[linkOf p].gateEn = false ∧ s.anyClosed p = false ∧ s.sk[linkOf p].diag.state ≠ 1 ∧
       s.inTurn 0x44 r = true) ∧
    (∃ (s : State) (r : Req) (p : Port) (id : Nat) (data : List Byte), s.answers = true ∧ r.target = p.val ∧ s.dev ≠ .boot ∧
       r.payload = le 4 id ++ le 1 data.length ++ data ∧ id < 2 ^ 32 ∧ canLengthOk (bit id 30) data.length = true ∧ s.sk[linkOf p].canTx.length < 8 ∧
       s.sk[linkOf p].busOffHeld = false ∧ s.inTurn 0x38 r = true) ∧
    (∃ (s : State) (r : Req) (p : Port) (rs : List RelayRec), s.answers = true ∧ r.target = p.val ∧ s.dev ≠ .boot ∧ r.payload.length = 1 ∧
       by8 r.payload 0 ≠ 0 ∧ rs = s.act.relays[p].ring.take (min 16 (by8 r.payload 0)) ∧ s.inTurn 0x39 r = true) ∧
    (∃ (s : State) (r : Req) (p : Port), s.answers = true ∧ r.target = p.val ∧ r.payload = [] ∧ s.dev = .service ∧ s.inTurn 0x30 r = true) ∧
    (∃ (s : State) (r : Req) (p : Port), s.answers = true ∧ r.target = p.val ∧ r.payload = [] ∧ s.dev = .tripped ∧ s.inTurn 0x30 r = true) ∧
    (∃ (s : State) (r : Req) (p : Port), s.answers = true ∧ r.target = p.val ∧ r.payload = [] ∧ s.dev = .lockout ∧ s.inTurn 0x30 r = true) ∧
    (∃ (s : State) (r : Req) (p : Port), s.answers = true ∧ r.target = p.val ∧ r.payload = [] ∧ s.dev ≠ .boot ∧ (s.life p).life = .empty ∧
       s.inTurn 0x31 r = true) ∧
    (∃ (s : State) (r : Req) (x : Instr × Nat), x ∈ [(.identify r, 0x01), (.getStatus r, 0x02), (.setStateStandby r, 0x03), (.setStateIdle r, 0x03),
       (.setStateReady r, 0x03), (.setStateSync r, 0x03), (.setStateService r, 0x03), (.moduleReset r, 0x0E), (.headlandReset r, 0x0E), (.readParam r, 0x10),
       (.commitParams r, 0x12), (.paramDiscard r, 0x12), (.readReg r, 0x18), (.writeReg r, 0x19), (.setDispatch r, 0x20), (.blackStart r, 0x24),
       (.syncClose r, 0x25), (.tideSet r, 0x28), (.tideGet r, 0x29), (.envelopeLoad r, 0x48), (.envelopeRead r, 0x49)] ∧ s.hears x.2 r ∧
       targetKnown r.target = true ∧ r.target ≠ 0xFF) ∧
    (∃ (s : State) (r : Req) (x : Instr × Nat), x ∈ [(.identify r, 0x01), (.getStatus r, 0x02), (.setStateStandby r, 0x03), (.setStateIdle r, 0x03),
       (.setStateReady r, 0x03), (.setStateSync r, 0x03), (.setStateService r, 0x03), (.moduleReset r, 0x0E), (.headlandReset r, 0x0E), (.readParam r, 0x10),
       (.commitParams r, 0x12), (.paramDiscard r, 0x12), (.readReg r, 0x18), (.writeReg r, 0x19), (.setDispatch r, 0x20), (.blackStart r, 0x24),
       (.syncClose r, 0x25), (.tideSet r, 0x28), (.tideGet r, 0x29), (.envelopeLoad r, 0x48), (.envelopeRead r, 0x49)] ∧ s.hears x.2 r ∧
       targetKnown r.target = false) ∧
    (∃ (s : State) (r : Req) (x : Instr × Nat), x ∈ [(.identify r, 0x01), (.getStatus r, 0x02), (.setStateStandby r, 0x03), (.setStateIdle r, 0x03),
       (.setStateReady r, 0x03), (.setStateSync r, 0x03), (.setStateService r, 0x03), (.moduleReset r, 0x0E), (.headlandReset r, 0x0E), (.readParam r, 0x10),
       (.commitParams r, 0x12), (.paramDiscard r, 0x12), (.readReg r, 0x18), (.writeReg r, 0x19), (.setDispatch r, 0x20), (.blackStart r, 0x24),
       (.syncClose r, 0x25), (.tideSet r, 0x28), (.tideGet r, 0x29), (.envelopeLoad r, 0x48), (.envelopeRead r, 0x49)] ∧ s.answers = false) :=
  ⟨⟨mapped .charged, rq [] 0, 0, by decide +kernel⟩,
   ⟨mapped .admitted, rq [] 0, 0, by decide +kernel⟩,
   ⟨mapped .waiting, rq [] 0, 0, by decide +kernel⟩,
   ⟨withLife { life := .plugged } (up .idle), rq [] 0, 0, by decide +kernel⟩,
   ⟨up .idle, rq [15] 0x0B, 11, by decide +kernel⟩,
   ⟨up .idle, rq (le 4 0x7FF ++ le 1 8 ++ zeros 8) 0, 0, 0x7FF, zeros 8, by decide +kernel⟩,
   ⟨up .idle, rq [255] 0, 0, [], by decide +kernel⟩,
   ⟨up .service, rq [] 0, 0, by decide +kernel⟩,
   ⟨up .tripped, rq [] 0, 0, by decide +kernel⟩,
   ⟨up .lockout, rq [] 0, 0, by decide +kernel⟩,
   ⟨up .idle, rq [] 0, 0, by decide +kernel⟩,
   ⟨up .idle, rq [] 0x40, (.setDispatch (rq [] 0x40), 0x20), by decide +kernel⟩,
   ⟨up .idle, rq [] 0x0D, (.setDispatch (rq [] 0x0D), 0x20), by decide +kernel⟩,
   ⟨State.reset, rq [], (.setDispatch (rq []), 0x20), by decide +kernel⟩⟩

theorem witness_RegistersTraceComplete :
    (∃ (s : State) (r : Req) (addr : Nat) (count : Nat) (base : Nat) (size : Nat), s.answers = true ∧ r.target = 0xFF ∧
       r.payload = le 4 addr ++ le 2 count ++ zeros 2 ∧ addr < 2 ^ 32 ∧ count < 65536 ∧ 1 ≤ count ∧ addr % 4 = 0 ∧ blockOf addr = some (base, size) ∧
       s.inPeerBlock addr = false ∧ addr < 0x400000 ∧ s.inTurn 0x18 r = true) ∧
    (∃ (s : State) (r : Req) (addr : Nat) (mask : Nat) (value : Nat) (base : Nat) (size : Nat), s.answers = true ∧ r.target = 0xFF ∧
       r.payload = le 4 addr ++ le 4 mask ++ le 4 value ∧ s.dev ≠ .boot ∧ addr < 2 ^ 32 ∧ mask < 2 ^ 32 ∧ value < 2 ^ 32 ∧ addr % 4 = 0 ∧
       blockOf addr = some (base, size) ∧ (¬(0x300000 ≤ addr ∧ addr < 0x310000)) ∧ addr < 0x400000 ∧ s.inPeerBlock addr = false ∧ s.inTurn 0x19 r = true) ∧
    (∃ (s : State) (r : Req) (sel : List Nat), s.answers = true ∧ r.target = 0xFF ∧ s.dev ≠ .boot ∧ s.act.trace.state ≠ .armed ∧
       s.act.trace.state ≠ .triggered ∧ r.payload.length = 40 ∧ ((List.range 16).map fun c => rd r.payload (8 + 2 * c) 2) = sel ∧ sel.all traceSelOk = true ∧
       by8 r.payload 0 ≤ 1 ∧ (by8 r.payload 0 = 0 → by8 r.payload 1 ≤ 0xB) ∧ 1 ≤ rd r.payload 2 2 ∧ rd r.payload 2 2 ≤ 256 ∧ rd r.payload 4 2 ≤ 8191 ∧
       by8 r.payload 6 ≤ 5 ∧ (by8 r.payload 7 ≤ (if by8 r.payload 6 = 1 ∨ by8 r.payload 6 = 5 then 7 else if by8 r.payload 6 = 0 then 255 else 11)) ∧
       s.inTurn 0xCC r = true) ∧
    (∃ (s : State) (r : Req), s.answers = true ∧ r.target = 0xFF ∧ s.dev ≠ .boot ∧ r.payload = [] ∧ s.act.trace.sel.any selOn = true ∧
       s.inTurn 0xCD r = true) ∧
    (∃ (s : State) (r : Req) (ch : Nat) (start : Nat) (count : Nat), s.answers = true ∧ r.target = 0xFF ∧ r.payload = le 1 ch ++ le 2 start ++ le 2 count ∧
       s.dev ≠ .boot ∧ ch ≤ 15 ∧ start ≤ 8191 ∧ 1 ≤ count ∧ count < 65536 ∧ selOn (s.act.trace.sel.getD ch 0) = true ∧ s.act.trace.state = .done ∧
       s.inTurn 0xCE r = true) ∧
    (∃ (s : State) (r : Req), s.answers = true ∧ r.target = 0xFF ∧ rd r.payload 0 4 % 4 ≠ 0 ∧ r.payload.length = 8 ∧ s.inTurn 0x18 r = true) ∧
    (∃ (s : State) (r : Req), s.answers = true ∧ r.target = 0xFF ∧ rd r.payload 0 4 % 4 ≠ 0 ∧ r.payload.length = 12 ∧ s.dev ≠ .boot ∧ s.inTurn 0x19 r = true) ∧
    (∃ (s : State) (r : Req) (x : _), x ∈ addrBlocks ∧ s.answers = true ∧ r.target = 0xFF) ∧
    (∃ (i : Nat), i < 16) ∧
    (∃ (s : State) (r : Req) (addr : Nat) (mask : Nat) (value : Nat), s.answers = true ∧ s.dev ≠ .boot ∧ r.target = 0xFF ∧
       r.payload = le 4 addr ++ le 4 mask ++ le 4 value ∧ addr < 2 ^ 32 ∧ addr % 4 = 0 ∧ (blockOf addr).isSome = true ∧ 0x300000 ≤ addr ∧ addr < 0x310000 ∧
       s.inTurn 0x19 r = true) :=
  ⟨⟨up .idle, rq (le 4 0x100000 ++ le 2 1 ++ zeros 2), 0x100000, 1, 0x100000, 0x1000, by decide +kernel⟩,
   ⟨up .idle, rq (le 4 0x203FFC ++ le 4 0xFFFFFFFF ++ le 4 0), 0x203FFC, 0xFFFFFFFF, 0, 0x203000, 0x1000, by decide +kernel⟩,
   ⟨up .idle, rq ([0, 0xB] ++ le 2 256 ++ le 2 8191 ++ [0, 255] ++ zeros 32), List.replicate 16 0, by decide +kernel⟩,
   ⟨(up .idle).modTrace fun t => { t with sel := 0x8000 :: List.replicate 15 0 }, rq [], by decide +kernel⟩,
   ⟨(up .idle).modTrace fun t => { t with sel := 0x8000 :: List.replicate 15 0, state := .done }, rq (le 1 0 ++ le 2 8191 ++ le 2 1), 0, 8191, 1,
     by decide +kernel⟩,
   ⟨up .idle, rq (le 4 0x100001 ++ zeros 4), by decide +kernel⟩,
   ⟨up .idle, rq (le 4 0x100001 ++ zeros 8), by decide +kernel⟩,
   ⟨up .idle, rq [], (0x100000, 0x1000), by decide +kernel⟩,
   ⟨15, by decide +kernel⟩,
   ⟨up .idle, rq (le 4 0x30FFFC ++ le 4 0xFFFFFFFF ++ le 4 0), 0x30FFFC, 0xFFFFFFFF, 0, by decide +kernel⟩⟩

theorem witness_AdcPairComplete :
    (∃ (s : State) (r : Req), s.answers = true ∧ s.dev ≠ .boot ∧ r.target = 0xFF ∧ r.payload.length = 2 ∧ by8 r.payload 0 ≤ 23 ∧ by8 r.payload 1 ≤ 3 ∧
       s.act.adc.urgent.length < 4 ∧ s.inTurn 0xC4 r = true ∧ s.act.adc.urgent = [] ∧ s.act.adc.idle = true) ∧
    (∃ (s : State) (r : Req), s.answers = true ∧ s.dev ≠ .boot ∧ r.target = 0xFF ∧ r.payload.length = 1 ∧ by8 r.payload 0 ≤ 31 ∧
       s.act.adc.scheduled = none ∧ s.act.adc.running = false ∧ s.inTurn 0xC5 r = true) ∧
    (∃ (s : State) (r : Req) (recent : Bool), s.answers = true ∧ s.dev ≠ .boot ∧ r.target = 0xFF ∧ r.payload = [] ∧ recent = s.peerAcked ∧
       s.inTurn 0xB0 r = true ∧ s.dev ≠ .standby ∧ s.act.pair.peerEligible = true ∧ s.act.pair.handover = false ∧ s.inTurn 0xB1 r = true ∧
       r.payload.length ≠ 1 ∧ s.inTurn 0xC5 r = true) ∧
    (∃ (s : State) (r : Req), s.answers = true ∧ s.dev ≠ .boot ∧ r.target = 0xFF ∧ r.payload.length = 1 ∧ 31 < by8 r.payload 0 ∧ s.inTurn 0xC5 r = true) ∧
    (∃ (s : State) (r : Req), s.answers = true ∧ s.dev ≠ .boot ∧ r.target = 0xFF ∧ r.payload.length = 1 ∧ by8 r.payload 0 ≤ 31 ∧
       (s.act.adc.scheduled.isSome = true ∨ s.act.adc.running = true) ∧ s.inTurn 0xC5 r = true ∧ s.act.adc.idle = false) ∧
    (∃ (s : State), s.awake = true ∧ (s.adcPar P_ADC_TIMER_T).toNat ≠ 0 ∧ s.act.adc.timerAt + 400 * (s.adcPar P_ADC_TIMER_T).toNat ≤ s.clk.now ∧
       s.act.adc.running = false ∧ s.act.adc.scheduled = none) ∧
    (∃ (s : State), s.awake = true ∧ (s.adcPar P_ADC_TIMER_T).toNat ≠ 0 ∧ s.act.adc.timerAt + 400 * (s.adcPar P_ADC_TIMER_T).toNat ≤ s.clk.now ∧
       s.act.adc.running = true) ∧
    (∃ (s : State) (x : Nat × Nat), s.awake = true ∧ s.act.adc.scheduled = some x ∧ s.act.adc.startAt ≤ s.clk.now) ∧
    (∃ (s : State) (e : Fin 36) (w : Nat) (i : Fin 36), e.val < 32 ∧ s.awake = true ∧ s.act.adc.running = true ∧ s.act.adc.resuming = false ∧
       s.act.adc.entry = e.val ∧ w = (s.adcPar (P_ADC_SEQ e.val)).toNat ∧ s.act.adc.slotAt + 200 * 2 ^ bitsOf w 14 13 ≤ s.clk.now ∧ i ≠ e ∧ bit w 15 = false ∧
       e.val < 31) ∧
    (∃ (s : State) (e : Fin 36) (w : Nat), e.val < 32 ∧ s.awake = true ∧ s.act.adc.running = true ∧ s.act.adc.resuming = false ∧ s.act.adc.entry = e.val ∧
       w = (s.adcPar (P_ADC_SEQ e.val)).toNat ∧ s.act.adc.slotAt + 200 * 2 ^ bitsOf w 14 13 ≤ s.clk.now ∧ (bit w 15 = true ∨ e.val = 31)) ∧
    (∃ (s : State) (u : Urgent) (rest : List Urgent), s.awake = true ∧ s.act.adc.urgent = u :: rest ∧ s.act.adc.slotAt + 200 * 2 ^ u.avg ≤ s.clk.now ∧
       (s.act.adc.running = false ∨ s.act.adc.resuming = true) ∧ (s.act.adc.scheduled = none ∨ s.clk.now ≤ s.act.adc.startAt)) :=
  ⟨⟨up .idle, rq [23, 3], by decide +kernel⟩,
   ⟨up .idle, rq [31], by decide +kernel⟩,
   ⟨up .idle, rq [], false, by decide +kernel⟩,
   ⟨up .idle, rq [32], by decide +kernel⟩,
   ⟨(up .idle).modAdc fun a => { a with running := true }, rq [0], by decide +kernel⟩,
   ⟨later 4000 (upWith [(P_ADC_TIMER_T, 10)] .idle), by decide +kernel⟩,
   ⟨(later 4000 (upWith [(P_ADC_TIMER_T, 10)] .idle)).modAdc fun a => { a with running := true }, by decide +kernel⟩,
   ⟨(up .idle).modAdc fun a => { a with scheduled := some (0, 31) }, (0, 31), by decide +kernel⟩,
   ⟨slotOf 30, 30, 0, 31, by decide +kernel⟩,
   ⟨slotOf 31, 31, ((slotOf 31).adcPar (P_ADC_SEQ 31)).toNat, by decide +kernel⟩,
   ⟨later 1600 ((up .idle).modAdc fun a => { a with urgent := [{ input := 23, avg := 3, item := { op := 0x60, req := rq [23, 3] } }] }),
     { input := 23, avg := 3, item := { op := 0x60, req := rq [23, 3] } }, [], by decide +kernel⟩⟩

theorem witness_EventsAndStateChanges :
    (∃ (s : State) (new : DevState), s.act.log.frozen = false ∧ s.act.ptp.valid = false ∧ s.dev = new) ∧
    (∃ (s : State), s.act.log.frozen = true) ∧
    (∃ (s : State) (new : DevState), s.dev ≠ new ∧ s.act.log.frozen = false) ∧
    (∃ (s : State) (new : DevState), s.dev ≠ new ∧ (new = .tripped ∨ new = .lockout)) :=
  ⟨⟨up .idle, .idle, by decide +kernel⟩,
   ⟨(up .idle).modLog fun l => { l with frozen := true }, by decide +kernel⟩,
   ⟨up .idle, .ready, by decide +kernel⟩,
   ⟨up .forming, .tripped, by decide +kernel⟩⟩

theorem witness_TransportsComplete :
    (∃ (s : State) (clocked : Nat) (bytes : List Byte), s.answers = true ∧ s.act.host.csLow = true ∧ clocked ≤ 2 ∧ s.act.host.hunt = false ∧
       by8 bytes 0 = 0xA5 ∧ (12 + rd bytes 6 2 ≤ bytes.length ∨ 4096 < rd bytes 6 2) ∧ (by8 bytes 1 / 64 = 0 → s.act.host.spi0.length < 4) ∧
       (by8 bytes 1 / 64 ≠ 0 → s.act.host.spiN.length < 32 ∧ s.act.host.spiUsed + 12 + rd bytes 6 2 ≤ 16384)) ∧
    (∃ (s : State) (bytes : List Byte), s.answers = true ∧ s.act.host.csLow = true ∧ s.act.host.hunt = false ∧ by8 bytes 0 = 0xA5 ∧
       12 + rd bytes 6 2 ≤ bytes.length ∧ by8 bytes 1 / 64 = 0 ∧ 4 ≤ s.act.host.spi0.length) ∧
    (∃ (s : State) (net : Net) (bytes : List Byte) (ok : Bool), s.answers = true ∧ s.ipOf net ≠ 0 ∧ s.act.net.ports[net].link = true ∧ ok = true ∧
       by8 bytes 0 = 0xA5 ∧ bytes.length = 12 + rd bytes 6 2) ∧
    (∃ (s : State) (net : Net) (bytes : List Byte) (ok : Bool), s.answers = true ∧ s.ipOf net ≠ 0 ∧ s.act.net.ports[net].link = true ∧ (ok = false ∨
       by8 bytes 0 ≠ 0xA5 ∨ bytes.length < 12)) ∧
    (∃ (s : State) (it : QItem) (st : Nat) (op : Nat) (flags : Nat) (r : Req) (c : Fin 4), it.req.session = .spi ∧ s.act.host.twins = [] ∧
       (it.req.noReply = true ∧ (st = ST_OK ∨ st = ST_PENDING)) ∧ (opcodes.find? fun x => x.1 == op) = some (op, some c.val) ∧ r.cls = c.val ∧
       flags / 2 % 32 = 0 ∧ s.dev ≠ .boot ∧ s.act.host.queues[c].length < queueRoom c.val) ∧
    (∃ (s : State) (it : QItem) (st : Nat), it.req.session = .spi ∧ s.act.host.twins = [] ∧ (¬(it.req.noReply = true ∧ (st = ST_OK ∨ st = ST_PENDING))) ∧
       it.req.cls = 0) ∧
    (∃ (s : State) (it : QItem) (st : Nat), it.req.session = .spi ∧ s.act.host.twins = [] ∧ (¬(it.req.noReply = true ∧ (st = ST_OK ∨ st = ST_PENDING))) ∧
       it.req.cls ≠ 0) ∧
    (∃ (b : List Byte) (op : Nat), 4096 < rd b 6 2 ∧ (opcodes.find? fun x => x.1 == op) = none) ∧
    (∃ (b : List Byte) (op : Nat) (r : Req) (c : _), rd b 6 2 ≤ 4096 ∧ rd b (8 + rd b 6 2) 4 ≠ crc32 ((b.drop 1).take (7 + rd b 6 2)) ∧
       (opcodes.find? fun x => x.1 == op) = some (op, some c) ∧ r.cls ≠ c) ∧
    (∃ (op : Nat) (flags : Nat) (r : Req) (c : _), (opcodes.find? fun x => x.1 == op) = some (op, some c) ∧ r.cls = c ∧ flags / 2 % 32 ≠ 0) ∧
    (∃ (s : State) (op : Nat) (flags : Nat) (r : Req) (c : _), (opcodes.find? fun x => x.1 == op) = some (op, some c) ∧ r.cls = c ∧ flags / 2 % 32 = 0 ∧
       s.dev = .boot ∧ bootOpcode op = false) :=
  ⟨⟨(up .idle).modHost fun h => { h with csLow := true }, 2, [0xA5, 0, 0x40, 0, 0, 0, 0, 0, 0, 0, 0, 0], by decide +kernel⟩,
   ⟨(up .idle).modHost fun h => { h with csLow := true, spi0 := List.replicate 4 ⟨⟨.spi, 0, 0, 0, 0, 0, false, false, false, []⟩, 0⟩ }, [0xA5, 0, 0x40, 0,
     0, 0, 0, 0, 0, 0, 0, 0], by decide +kernel⟩,
   ⟨(upWith [(P_IPV4_B, 1)] .idle).modNet fun x => { x with ports := vset x.ports 1 { link := true } }, 1, [0xA5, 0, 0x40, 0, 0, 0, 0, 0, 0, 0, 0, 0], true,
     by decide +kernel⟩,
   ⟨(upWith [(P_IPV4_B, 1)] .idle).modNet fun x => { x with ports := vset x.ports 1 { link := true } }, 1, zeros 11, true, by decide +kernel⟩,
   ⟨up .idle, { op := 0x41, req := { cls := 1, noReply := true } }, ST_PENDING, 0xCE, 0, { cls := 3 }, 3, by decide +kernel⟩,
   ⟨up .idle, { op := 0x40, req := { cls := 0, noReply := true } }, ST_BAD_LENGTH, by decide +kernel⟩,
   ⟨up .idle, { op := 0x41, req := rq [] }, ST_OK, by decide +kernel⟩,
   ⟨[0xA5, 0x40, 0x02, 0xFF, 0, 0, 0x01, 0x10], 0xFF, by decide +kernel⟩,
   ⟨[0xA5, 0x40, 0x02, 0xFF, 0, 0, 0, 0, 0, 0, 0, 0], 0x40, rq [], 0, by decide +kernel⟩,
   ⟨0x41, 2, rq [], 1, by decide +kernel⟩,
   ⟨up .boot, 0x41, 0, rq [], 1, by decide +kernel⟩⟩

theorem witness_NetEventsComplete :
    (∃ (s : State) (u : State) (net : Net) (b : List Byte), s.dev ≠ .standby ∧ s.act.net.ports[net].link = true ∧
       u = s.onNetPort net (fun p => { p with rxFrames := satInc 32 p.rxFrames }) ∧ rdBe b 6 6 = Config.mac (otherNet net).val) ∧
    (∃ (s : State) (u : State) (net : Net) (b : List Byte), s.dev ≠ .standby ∧ s.act.net.ports[net].link = true ∧
       u = s.onNetPort net (fun p => { p with rxFrames := satInc 32 p.rxFrames }) ∧ rdBe b 6 6 ≠ Config.mac (otherNet net).val ∧ frameClass b ≤ 5) ∧
    (∃ (s : State) (u : State) (net : Net) (b : List Byte) (room : Bool), s.dev ≠ .standby ∧ s.act.net.ports[net].link = true ∧
       u = s.onNetPort net (fun p => { p with rxFrames := satInc 32 p.rxFrames }) ∧ rdBe b 6 6 ≠ Config.mac (otherNet net).val ∧ (room = true ∨
       5 < frameClass b) ∧ (prpTrailer b = none ∨ s.par P_PRP_EN ≠ 1) ∧ (u.claimFrame net b).2 = true) ∧
    (∃ (s : State) (u : State) (net : Net) (b : List Byte) (room : Bool), s.dev ≠ .standby ∧ s.act.net.ports[net].link = true ∧
       u = s.onNetPort net (fun p => { p with rxFrames := satInc 32 p.rxFrames }) ∧ rdBe b 6 6 ≠ Config.mac (otherNet net).val ∧ (room = true ∨
       5 < frameClass b) ∧ (prpTrailer b = none ∨ s.par P_PRP_EN ≠ 1) ∧ (u.claimFrame net b).2 = false) ∧
    (∃ (s : State) (u : State) (net : Net) (b : List Byte) (room : Bool) (q : Nat), s.dev ≠ .standby ∧ s.act.net.ports[net].link = true ∧
       u = s.onNetPort net (fun p => { p with rxFrames := satInc 32 p.rxFrames }) ∧ rdBe b 6 6 ≠ Config.mac (otherNet net).val ∧ (room = true ∨
       5 < frameClass b) ∧ prpTrailer b = some q ∧ s.par P_PRP_EN = 1 ∧ etherType b ≠ 0x88F7 ∧ etherType b ≠ 0x88B5 ∧
       (u.act.net.prp net s.clk.now (rdBe b 6 6) q).2 = true) ∧
    (∃ (s : State) (net : Net), s.dev ≠ .standby ∧ s.act.net.ports[net].link = false) ∧
    (∃ (s : State) (net : Net), s.dev ≠ .standby ∧ s.act.net.ports[net].link = true) ∧
    (∃ (s : State) (net : Net) (handle : Nat) (f : TxFrame), s.act.net.tx = [f] ∧ f.handle = handle ∧ f.status[net] = 1 ∧ f.started[net] = false ∧ (∀ l,
       f.launch = some l → l ≤ s.act.ptp.ns ∧ s.act.ptp.ns ≤ l + 100000) ∧ s.act.net.ports[net].link = true) ∧
    (∃ (s : State) (net : Net) (handle : Nat) (f : TxFrame), s.act.net.tx = [f] ∧ f.handle = handle ∧ f.status[net] = 1 ∧ f.started[net] = false ∧ (∀ l,
       f.launch = some l → l ≤ s.act.ptp.ns ∧ s.act.ptp.ns ≤ l + 100000) ∧ s.act.net.ports[net].link = false) ∧
    (∃ (s : State) (handle : Nat) (f : TxFrame) (busy : Bool), s.act.net.tx = [f] ∧ f.handle = handle ∧ (busy = true ∨ (∃ l, f.launch = some l ∧
       (s.act.ptp.ns < l ∨ l + 100000 < s.act.ptp.ns)))) ∧
    (∃ (s : State) (net : Net) (handle : Nat) (f : TxFrame), s.act.net.tx = [f] ∧ f.handle = handle ∧ f.status[net] = 1 ∧ f.started[net] = true ∧
       5 * f.startedAt[net] + 16 * (8 + (s.wireFrame net f).length + 4) ≤ 5 * s.clk.now) ∧
    (∃ (s : State) (net : Net) (handle : Nat) (f : TxFrame) (l : Nat), s.act.net.tx = [f] ∧ f.handle = handle ∧ f.status[net] = 1 ∧ f.started[net] = false ∧
       f.launch = some l ∧ l + 100000 < s.act.ptp.ns) :=
  ⟨⟨netUp [], (netUp []).onNetPort 0 (fun p => { p with rxFrames := satInc 32 p.rxFrames }), 0, zeros 6 ++ be 6 (Config.mac (otherNet 0).val),
     by decide +kernel, by decide +kernel, rfl, own_source 0⟩,
   ⟨netUp [], (netUp []).onNetPort 0 (fun p => { p with rxFrames := satInc 32 p.rxFrames }), 0, foreignFrame 0 0x1234, by decide +kernel, by decide +kernel,
     rfl, foreign_source _ _, by decide +kernel⟩,
   ⟨netUp [], (netUp []).onNetPort 0 (fun p => { p with rxFrames := satInc 32 p.rxFrames }), 0, foreignFrame 0 0x88B6, true, by decide +kernel,
     by decide +kernel, rfl, foreign_source _ _, Or.inl rfl, Or.inl (by decide +kernel), by decide +kernel⟩,
   ⟨netUp [], (netUp []).onNetPort 0 (fun p => { p with rxFrames := satInc 32 p.rxFrames }), 0, foreignFrame 0 0x1234, true, by decide +kernel,
     by decide +kernel, rfl, foreign_source _ _, Or.inl rfl, Or.inl (by decide +kernel), by decide +kernel⟩,
   ⟨twinSeen, twinSeen.onNetPort 0 (fun p => { p with rxFrames := satInc 32 p.rxFrames }), 0, twinFrame, true, 5, by decide +kernel, by decide +kernel, rfl,
     twin_source, Or.inl rfl, by decide +kernel, by decide +kernel, by decide +kernel, by decide +kernel, twin_seen⟩,
   ⟨up .idle, 1, by decide +kernel⟩,
   ⟨netUp [], 1, by decide +kernel⟩,
   ⟨sending (aFrame false), 1, 7, aFrame false, rfl, rfl, rfl, rfl, fun l h => by cases Option.some.inj (show some 0 = some l from h); decide +kernel,
     by decide +kernel⟩,
   ⟨noLink (aFrame false), 1, 7, aFrame false, rfl, rfl, rfl, rfl, fun l h => by cases Option.some.inj (show some 0 = some l from h); decide +kernel,
     by decide +kernel⟩,
   ⟨sending (aFrame false), 7, aFrame false, true, rfl, rfl, Or.inl rfl⟩,
   ⟨later 1000000 (sending (aFrame true)), 1, 7, aFrame true, by decide +kernel⟩,
   ⟨(sending (aFrame false)).modPtp fun p => { p with clock := 200000 * 2 ^ 32 }, 1, 7, aFrame false, 0, by decide +kernel⟩⟩

theorem witness_PtpPeersComplete :
    (∃ (s : State) (net : Net) (measured : Int) (asym : Int) (offset : Int), s.dev ≠ .standby ∧ s.parN P_PTP_PROFILE ≠ 0 ∧
       s.act.net.ports[net].link = true ∧ asym = s.par (if net = 0 then P_ASYM_A else P_ASYM_B) ∧ offset = measured - asym ∧
       s.act.ptp.ports[net].portState ≠ psSlave ∧ s.act.ptp.ports[net].best = none ∧ s.parN P_PTP_PROFILE = 1) ∧
    (∃ (s : State) (net : Net) (measured : Int) (asym : Int) (offset : Int), s.dev ≠ .standby ∧ s.parN P_PTP_PROFILE ≠ 0 ∧
       s.act.net.ports[net].link = true ∧ asym = s.par (if net = 0 then P_ASYM_A else P_ASYM_B) ∧ offset = measured - asym ∧
       s.act.ptp.ports[net].portState = psSlave ∧ s.act.ptp.state = .uncalibrated ∧ 10000 < offset.natAbs) ∧
    (∃ (s : State) (net : Net) (measured : Int) (asym : Int) (offset : Int), s.dev ≠ .standby ∧ s.parN P_PTP_PROFILE ≠ 0 ∧
       s.act.net.ports[net].link = true ∧ asym = s.par (if net = 0 then P_ASYM_A else P_ASYM_B) ∧ offset = measured - asym ∧
       s.act.ptp.ports[net].portState = psSlave ∧ s.act.ptp.state = .uncalibrated ∧ offset.natAbs ≤ 10000 ∧ offset.natAbs ≤ s.parN P_PTP_LOCK_WIN ∧
       s.parN P_PTP_LOCK_N ≤ s.act.ptp.inWin + 1) ∧
    (∃ (s : State) (net : Net) (measured : Int) (asym : Int) (offset : Int), s.dev ≠ .standby ∧ s.parN P_PTP_PROFILE ≠ 0 ∧
       s.act.net.ports[net].link = true ∧ asym = s.par (if net = 0 then P_ASYM_A else P_ASYM_B) ∧ offset = measured - asym ∧
       s.act.ptp.ports[net].portState = psSlave ∧ s.act.ptp.state = .locked ∧ s.parN P_PTP_UNLOCK_WIN < offset.natAbs ∧ s.act.ptp.outWin = 2) ∧
    (∃ (s : State) (t0 : _), s.dev ≠ .standby ∧ s.act.ptp.ports[s.act.ptp.sel].heardAt = some t0 ∧ t0 + s.announceTicks ≤ s.clk.now) ∧
    (∃ (s : State), s.dev ≠ .standby ∧ s.act.ptp.state = .holdover ∧ s.act.ptp.holdAt + msTicks (1000 * s.parN P_PTP_HOLDOVER_T) ≤ s.clk.now) ∧
    (∃ (s : State) (net : Net), s.dev ≠ .standby ∧ s.act.net.ports[net].link = true ∧ s.parN P_PTP_PROFILE = 2 ∧ s.act.ptp.ports[net].portState = psSlave) ∧
    (∃ (s : State) (net : Net), s.dev ≠ .standby ∧ s.act.net.ports[net].link = true ∧ s.parN P_PTP_PROFILE ≠ 0 ∧ s.act.ptp.state = .master) ∧
    (∃ (s : State), s.dev ≠ .standby ∧ s.par P_SYNT_EN = 1 ∧ s.parN P_PTP_PROFILE ≠ 0 ∧ s.act.ptp.state = .locked ∧ (∀ t0,
       s.act.ptp.syntAt = some t0 → t0 + 4000 ≤ s.clk.now)) ∧
    (∃ (s : State) (n : Net), s.awake = true ∧ s.parN P_SITE_ID ≠ 0 ∧ (∀ t0, s.act.net.annAt = some t0 → t0 + 40000000 ≤ s.clk.now) ∧
       s.act.net.ports[n].link = true) ∧
    (∃ (s : State) (b : List Byte), s.dev ≠ .standby ∧ b.length = 64 ∧ rd b 60 4 = crc32c (b.take 60) ∧ rd b 0 2 = 1 ∧ rd b 2 2 ≠ s.parN P_SITE_ID) ∧
    (∃ (s : State) (b : List Byte) (u : Fin 32), s.dev ≠ .standby ∧ b.length = 64 ∧ rd b 60 4 = crc32c (b.take 60) ∧ rd b 0 2 = 1 ∧
       rd b 2 2 = s.parN P_SITE_ID ∧ by8 b 4 = u.val + 1 ∧ by8 b 4 ≠ s.parN P_UNIT_ID ∧ s.act.net.peers[u].known = false) ∧
    (∃ (s : State) (b : List Byte) (u : Fin 32), s.dev ≠ .standby ∧ b.length = 64 ∧ rd b 60 4 = crc32c (b.take 60) ∧ rd b 0 2 = 1 ∧
       rd b 2 2 = s.parN P_SITE_ID ∧ by8 b 4 = u.val + 1 ∧ by8 b 4 = s.parN P_UNIT_ID) ∧
    (∃ (s : State) (unit : Fin 32), s.act.net.peers[unit].known = true ∧ s.act.net.peers[unit].usedAt + msTicks 350 ≤ s.clk.now) :=
  ⟨⟨netUp [(P_PTP_PROFILE, 1)], 0, 0, 0, 0, by decide +kernel⟩,
   ⟨slaved .uncalibrated, 0, -10001, 0, -10001, by decide +kernel⟩,
   ⟨(slaved .uncalibrated).modPtp fun p => { p with inWin := 255 }, 0, 100, 0, 100, by decide +kernel⟩,
   ⟨(slaved .locked).modPtp fun p => { p with outWin := 2 }, 0, 10000, 0, 10000, by decide +kernel⟩,
   ⟨later (10 ^ 12) ((up .idle).modPtp fun p => { p with ports := Vector.replicate 2 { heardAt := some 0 } }), 0, by decide +kernel⟩,
   ⟨later (10 ^ 15) ((up .idle).modPtp fun p => { p with state := .holdover }), by decide +kernel⟩,
   ⟨(netUp [(P_PTP_PROFILE, 2)]).modPtp fun p => { p with ports := vset p.ports 0 { portState := psSlave } }, 0, by decide +kernel⟩,
   ⟨(netUp [(P_PTP_PROFILE, 1)]).modPtp fun p => { p with state := .master }, 0, by decide +kernel⟩,
   ⟨(netUp [(P_PTP_PROFILE, 1), (P_SYNT_EN, 1)]).modPtp fun p => { p with state := .locked }, by decide +kernel, by decide +kernel, by decide +kernel,
     by decide +kernel, fun _ h => nomatch h⟩,
   ⟨netUp [(P_SITE_ID, 1)], 0, by decide +kernel, by decide +kernel, fun t0 h => (nomatch h), by decide +kernel⟩,
   ⟨netUp [(P_SITE_ID, 2)], annFrame 1, by decide +kernel⟩,
   ⟨netUp [(P_SITE_ID, 1), (P_UNIT_ID, 2)], annFrame 1, 0, by decide +kernel⟩,
   ⟨netUp [(P_SITE_ID, 1), (P_UNIT_ID, 1)], annFrame 1, 0, by decide +kernel⟩,
   ⟨later (10 ^ 12) ((netUp []).modNet fun x => { x with peers := vset x.peers 31 { known := true } }), 31, by decide +kernel⟩⟩

theorem witness_CommandFrameComplete :
    (∃ (s : State) (sender : Hd), s.dev ≠ .standby ∧ s.bw.token ≠ some sender) ∧
    (∃ (s : State) (k : Shoal) (sender : Hd) (f : _), s.dev ≠ .standby ∧ s.bw.token = some sender ∧ s.frameFields k = some f) ∧
    (∃ (s : State) (k : Shoal) (sender : Hd) (m : Shoal), s.dev ≠ .standby ∧ s.bw.token = some sender ∧ s.frameFields k = none ∧ m ≠ k ∧
       s.shoals[k].safeRegion = false ∧ s.clocks.hd[sender].bypass = false) ∧
    (∃ (s : State) (k : Shoal) (sender : Hd) (j : Fin 3), s.dev ≠ .standby ∧ s.bw.token = some sender ∧ (s.life (portOf k j)).trips.any Trip.forces = true) ∧
    (∃ (s : State) (sender : Hd), s.dev ≠ .standby ∧ s.bw.token = some sender ∧ s.clocks.hd[sender].bypass = true) ∧
    (∃ (s : State) (k : Shoal) (sender : Hd) (j : Fin 3) (d : _) (tag : _), s.dev ≠ .standby ∧ s.bw.token = some sender ∧
       s.clocks.hd[sender].bypass = false ∧ (s.life (portOf k j)).trips.any Trip.forces = false ∧ s.firm.dutyOut[portOf k j] = some (d, tag) ∧
       tag = (s.pwm[portOf k j].idx + 1) % 256 ∧ 20 ≤ s.ticksToBoundary (portOf k j)) ∧
    (∃ (s : State) (k : Shoal) (sender : Hd) (p : Port), s.dev ≠ .standby ∧ s.bw.token = some sender ∧ shoalOf p ≠ k) :=
  ⟨⟨up .forming, 1, by decide +kernel⟩,
   ⟨(up .forming).modFirm fun m => { m with launch := Vector.replicate 4 [⟨0, 0, 0, 0⟩] }, 0, 0, ⟨0, 0, 0, 0⟩, by decide +kernel⟩,
   ⟨up .forming, 0, 0, 1, by decide +kernel⟩,
   ⟨withLife { trips := [.host] } (up .forming), 0, 0, 0, by decide +kernel⟩,
   ⟨(up .forming).modClocks fun c => { c with hd := Vector.replicate 2 { bypass := true } }, 0, by decide +kernel⟩,
   ⟨(up .forming).modFirm fun m => { m with dutyOut := Vector.replicate 12 (some (Vector.replicate 4 0, 1)) }, 0, 0, 0, Vector.replicate 4 0, 1,
     by decide +kernel⟩,
   ⟨up .forming, 3, 0, 0, by decide +kernel⟩⟩

theorem witness_ApplyTickComplete :
    (∃ (s : State) (k : Shoal) (f : StepFields) (rest : List StepFields) (m : Shoal), s.shoals[k].fields = f :: rest ∧ s.act.host.awaiting = [] ∧
       fieldsDue s.shoals[k].tick f.angle.applyTick = true ∧ s.clampInc f.angle.incNew ≠ f.angle.incNew ∧ m ≠ k) ∧
    (∃ (s : State) (k : Shoal) (f : StepFields) (rest : List StepFields), s.shoals[k].fields = f :: rest ∧ s.act.host.awaiting = [] ∧
       fieldsDue s.shoals[k].tick f.angle.applyTick = true ∧ 0 < lagOf s.shoals[k].tick f.angle.applyTick) ∧
    (∃ (s : State) (k : Shoal) (f : StepFields) (rest : List StepFields), s.shoals[k].fields = f :: rest ∧ s.act.host.awaiting = [] ∧
       fieldsDue s.shoals[k].tick f.angle.applyTick = true ∧ 5000000 < f.angle.tune.natAbs) ∧
    (∃ (s : State) (k : Shoal), (∀ f ∈ s.shoals[k].fields, fieldsDue s.shoals[k].tick f.angle.applyTick = false) ∧ s.act.host.awaiting = []) ∧
    (∃ (s : State) (k : Shoal) (d : Int) (p : Port), d ≠ 0 ∧ s.pwmRunning k = true ∧ 2 ^ 44 < s.parN P_CARRIER_N * d.natAbs ∧ shoalOf p = k ∧
       (s.life p).admitted = true) ∧
    (∃ (s : State) (k : Shoal) (d : Int), (s.pwmRunning k = false ∨ s.parN P_CARRIER_N * d.natAbs ≤ 2 ^ 44)) :=
  ⟨⟨fields ⟨0, 0, 0, 0⟩, 0, ⟨⟨0, 0, 0, 0⟩, [], 0⟩, [], 3, by decide +kernel⟩,
   ⟨fields ⟨0, 2 ^ 32 - 1, 0, 0⟩, 0, ⟨⟨0, 2 ^ 32 - 1, 0, 0⟩, [], 0⟩, [], by decide +kernel⟩,
   ⟨fields ⟨0, 0, 0, 6000000⟩, 0, ⟨⟨0, 0, 0, 6000000⟩, [], 0⟩, [], by decide +kernel⟩,
   ⟨fields ⟨0, 800, 0, 0⟩, 0, by decide +kernel⟩,
   ⟨slipping, 3, 2 ^ 45, 9, by decide +kernel⟩,
   ⟨up .idle, 0, 0, by decide +kernel⟩⟩

theorem witness_TideEventsComplete :
    (∃ (s : State) (e : Fin 128) (x : TideEntry), s.awake = true ∧ s.shoals[tideShoal e].tides[tideComp e] = x ∧
       s.shoals[tideShoal e].tideOld.lookup (tideComp e).val = none ∧ x.enable = true ∧ x.armed = true ∧ x.block = none ∧
       crosses x.angle (s.refOf (tideShoal e) x.ref s.shoals[tideShoal e].accPrev) (s.refOf (tideShoal e) x.ref s.shoals[tideShoal e].acc) = true ∧
       s.shoals[tideShoal e].anchored = false ∧ s.shoals[tideShoal e].holding = false ∧ 2 ≤ x.action) ∧
    (∃ (s : State) (e : Fin 128) (x : TideEntry), s.awake = true ∧ s.shoals[tideShoal e].tides[tideComp e] = x ∧
       s.shoals[tideShoal e].tideOld.lookup (tideComp e).val = none ∧ x.enable = true ∧ x.armed = true ∧ x.block = none ∧
       crosses x.angle (s.refOf (tideShoal e) x.ref s.shoals[tideShoal e].accPrev) (s.refOf (tideShoal e) x.ref s.shoals[tideShoal e].acc) = true ∧
       s.shoals[tideShoal e].anchored = false ∧ s.shoals[tideShoal e].holding = false ∧ x.action < 2) ∧
    (∃ (s : State) (e : Fin 128) (x : TideEntry), s.awake = true ∧ s.shoals[tideShoal e].tides[tideComp e] = x ∧
       s.shoals[tideShoal e].tideOld.lookup (tideComp e).val = none ∧ x.enable = true ∧ x.armed = true ∧ x.block = none ∧
       crosses x.angle (s.refOf (tideShoal e) x.ref s.shoals[tideShoal e].accPrev) (s.refOf (tideShoal e) x.ref s.shoals[tideShoal e].acc) = true ∧
       s.shoals[tideShoal e].anchored = false ∧ s.shoals[tideShoal e].holding = true ∧ 2 ≤ x.action ∧ x.action ≤ 7) ∧
    (∃ (s : State) (e : Fin 128) (x : TideEntry), s.awake = true ∧ s.shoals[tideShoal e].tides[tideComp e] = x ∧
       s.shoals[tideShoal e].tideOld.lookup (tideComp e).val = none ∧ x.enable = true ∧ x.armed = true ∧ x.block = none ∧
       crosses x.angle (s.refOf (tideShoal e) x.ref s.shoals[tideShoal e].accPrev) (s.refOf (tideShoal e) x.ref s.shoals[tideShoal e].acc) = true ∧
       s.shoals[tideShoal e].anchored = false ∧ s.shoals[tideShoal e].holding = true ∧ x.action = 1) ∧
    (∃ (s : State) (e : Fin 128) (x : TideEntry), s.awake = true ∧ s.shoals[tideShoal e].tides[tideComp e] = x ∧
       s.shoals[tideShoal e].tideOld.lookup (tideComp e).val = none ∧ x.enable = true ∧ x.armed = true ∧ x.block = none ∧
       crosses x.angle (s.refOf (tideShoal e) x.ref s.shoals[tideShoal e].accPrev) (s.refOf (tideShoal e) x.ref s.shoals[tideShoal e].acc) = true ∧
       s.shoals[tideShoal e].anchored = true ∧ 4 ≤ x.action ∧ x.action ≤ 6) ∧
    (∃ (s : State) (e : Fin 128) (x : TideEntry), s.awake = true ∧ s.shoals[tideShoal e].tides[tideComp e] = x ∧
       s.shoals[tideShoal e].tideOld.lookup (tideComp e).val = none ∧ (x.enable = false ∨ x.armed = false ∨ x.block.isSome = true ∨
       crosses x.angle (s.refOf (tideShoal e) x.ref s.shoals[tideShoal e].accPrev) (s.refOf (tideShoal e) x.ref s.shoals[tideShoal e].acc) = false)) ∧
    (∃ (s : State) (e : Fin 128) (x : TideEntry), s.awake = true ∧ s.shoals[tideShoal e].tides[tideComp e] = x ∧
       s.shoals[tideShoal e].tideOld.lookup (tideComp e).val = none ∧ x.enable = true ∧ x.gated = true ∧ x.armed = false ∧ s.gatePassed x = true ∧
       s.act.ptp.valid = true ∧ (s.par P_COORD_TIDE ≠ 1 ∨ (tideComp e).val < 8 ∨ s.act.net.disagrees = false)) ∧
    (∃ (s : State) (e : Fin 128) (x : TideEntry), s.awake = true ∧ s.shoals[tideShoal e].tides[tideComp e] = x ∧
       s.shoals[tideShoal e].tideOld.lookup (tideComp e).val = none ∧ x.enable = true ∧ x.gated = true ∧ x.armed = false ∧ s.gatePassed x = true ∧
       s.act.ptp.valid = false) ∧
    (∃ (s : State) (e : Fin 128) (x : TideEntry), s.awake = true ∧ s.shoals[tideShoal e].tides[tideComp e] = x ∧
       s.shoals[tideShoal e].tideOld.lookup (tideComp e).val = none ∧ x.gateSec * 1000000000 + x.gateNs > s.act.ptp.sec * 1000000000 + s.act.ptp.subNs) ∧
    (∃ (s : State) (k : Shoal) (ev : TideEvent) (rest : List TideEvent), s.awake = true ∧ s.shoals[k].events = ev :: rest ∧ ev.action = 6) ∧
    (∃ (s : State) (k : Shoal) (ev : TideEvent) (rest : List TideEvent), s.awake = true ∧ s.shoals[k].events = ev :: rest ∧ ev.action = 7) :=
  ⟨⟨tided 8 { angle := 1, enable := true, armed := true, action := 2 }, 8, { angle := 1, enable := true, armed := true, action := 2 }, by decide +kernel⟩,
   ⟨tided 8 { angle := 1, enable := true, armed := true, action := 1 }, 8, { angle := 1, enable := true, armed := true, action := 1 }, by decide +kernel⟩,
   ⟨(tided 8 { angle := 1, enable := true, armed := true, action := 7 }).modShoal 0 fun h => { h with holding := true }, 8,
     { angle := 1, enable := true, armed := true, action := 7 }, by decide +kernel⟩,
   ⟨(tided 8 { angle := 1, enable := true, armed := true, action := 1 }).modShoal 0 fun h => { h with holding := true }, 8,
     { angle := 1, enable := true, armed := true, action := 1 }, by decide +kernel⟩,
   ⟨(tided 8 { angle := 1, enable := true, armed := true, action := 5 }).modShoal 0 fun h => { h with anchored := true }, 8,
     { angle := 1, enable := true, armed := true, action := 5 }, by decide +kernel⟩,
   ⟨tided 8 {}, 8, {}, by decide +kernel⟩,
   ⟨(tided 8 { enable := true, gated := true }).modPtp fun p => { p with state := .locked }, 8, { enable := true, gated := true }, by decide +kernel⟩,
   ⟨tided 8 { enable := true, gated := true }, 8, { enable := true, gated := true }, by decide +kernel⟩,
   ⟨tided 8 { gateSec := 1 }, 8, { gateSec := 1 }, by decide +kernel⟩,
   ⟨(up .idle).modShoal 0 fun h => { h with events := [⟨8, 6, 0, 0, 0, 0⟩] }, 0, ⟨8, 6, 0, 0, 0, 0⟩, [], by decide +kernel⟩,
   ⟨(up .idle).modShoal 0 fun h => { h with events := [⟨8, 7, 0, 0, 0, 0⟩] }, 0, ⟨8, 7, 0, 0, 0, 0⟩, [], by decide +kernel⟩⟩

theorem witness_CarrierBoundaryComplete :
    (∃ (s : State) (p : Port) (q : Port), s.awake = true ∧ s.pwm[p].block = none ∧ s.carrierWraps p = true ∧ p ≠ 0 ∧ q ≠ p) ∧
    (∃ (s : State) (p : Port), s.awake = true ∧ (s.pwm[p].block.isSome = true ∨ s.carrierWraps p = false)) :=
  ⟨⟨(upWith [(PP_CARRIER_OFFSET 1, 0)] .idle).modShoal 0 fun h => { h with accPrev := 2 ^ 48 - 1 }, 1, 2, by decide +kernel⟩,
   ⟨up .idle, 1, by decide +kernel⟩⟩

theorem witness_PulsesComplete :
    (∃ (s : State) (p : Port) (k : Leg) (g : Gen), s.pwm[p].legs[k] = g ∧ g.risePending = true ∧ g.phase = .low ∧
       s.pwm[p].counted (prescale (s.parN P_CARRIER_N) s.fNom) g.tOn = true) ∧
    (∃ (s : State) (p : Port) (k : Leg) (g : Gen), s.pwm[p].legs[k] = g ∧ g.fallPending = true ∧ g.risePending = false ∧ g.phase = .high ∧
       s.pwm[p].counted (prescale (s.parN P_CARRIER_N) s.fNom) g.tOff = true) ∧
    (∃ (s : State) (p : Port) (k : Leg) (g : Gen), s.pwm[p].legs[k] = g ∧ g.phase = .riseDelay ∧
       edgeTime s.shoals[shoalOf p].dlLock (g.delayFrom + s.pwm[p].dr k) / 64 ≤ s.clk.now) ∧
    (∃ (s : State) (p : Port) (k : Leg) (g : Gen), s.pwm[p].legs[k] = g ∧ g.phase = .fallDelay ∧
       edgeTime s.shoals[shoalOf p].dlLock (g.delayFrom + s.pwm[p].df k) / 64 ≤ s.clk.now) ∧
    (∃ (s : State) (p : Port) (k : Leg) (g : Gen), s.pwm[p].legs[k] = g ∧ g.h = true ∧ g.phase = .high ∧ g.fallPending = false ∧
       g.hOnAt + s.pwm[p].bsOnT * 64 ≤ s.clk.now * 64 ∧ (s.clk.now - s.pwm[p].boundaryAt) * 64 + s.pwm[p].refreshTime k < s.pwm[p].tPred) ∧
    (∃ (s : State) (p : Port) (k : Leg) (g : Gen), s.pwm[p].legs[k] = g ∧ g.phase = .refreshLow ∧
       edgeTime s.shoals[shoalOf p].dlLock (g.lOnAt + s.pwm[p].bsPulseT) / 64 ≤ s.clk.now) ∧
    (∃ (s : State) (p : Port) (k : Leg) (g : Gen) (q : Port) (j : Leg) (c : Instr), s.pwm[p].legs[k] = g ∧ (q ≠ p ∨ j ≠ k) ∧ c ∈ [.pwmEdge p k true,
       .pwmEdge p k false, .gateTurnOnDelay p k true, .gateTurnOnDelay p k false, .bsRefresh p k, .bsPulseEnd p k]) ∧
    (∃ (s : State) (p : Port), (s.life p).trips.any Trip.forces = true ∨ s.pwm[p].lines.trip = true) ∧
    (∃ (s : State) (p : Port), s.pwm[p].safe = false) ∧
    (∃ (s : State) (m : Shoal), s.shoals[m].dlLock = true) :=
  ⟨⟨legGen { risePending := true }, 0, 0, { risePending := true }, by decide +kernel⟩,
   ⟨legGen { fallPending := true, phase := .high }, 0, 0, { fallPending := true, phase := .high }, by decide +kernel⟩,
   ⟨later (10 ^ 9) (legGen { phase := .riseDelay }), 0, 0, { phase := .riseDelay }, by decide +kernel⟩,
   ⟨later (10 ^ 9) (legGen { phase := .fallDelay }), 0, 0, { phase := .fallDelay }, by decide +kernel⟩,
   ⟨(later 1000000 (legGen { phase := .high, h := true })).modPwm 0 fun w => { w with tPred := 2000000, boundaryAt := 1000000 }, 0, 0,
     { phase := .high, h := true }, by decide +kernel⟩,
   ⟨later (10 ^ 9) (legGen { phase := .refreshLow }), 0, 0, { phase := .refreshLow }, by decide +kernel⟩,
   ⟨legGen {}, 0, 0, {}, 0, 3, .bsPulseEnd 0 0, by decide +kernel⟩,
   ⟨withLife { trips := [.host] } (up .forming), 0, by decide +kernel⟩,
   ⟨up .forming, 0, by decide +kernel⟩,
   ⟨(up .forming).modShoal 0 fun h => { h with dlLock := true }, 0, by decide +kernel⟩⟩

theorem witness_EngineStepsComplete :
    (∃ (s : State) (p : Port), s.awake = true ∧ s.act.engine.run = true ∧ (s.takePort p).firm.meas[p].valid = false) ∧
    (∃ (s : State) (p : Port) (x : _) (t0 : Nat), s.firm.steps[p].pred = some x ∧ s.stepping p = true ∧ (s.portPar p).specEn = true ∧
       s.firm.steps[p].spec = none ∧ s.firm.steps[p].recompute = false ∧ s.firm.steps[p].arrived = false ∧ s.firm.steps[p].inside = false ∧
       s.firm.steps[p].dropped = false ∧ s.act.engine.running = some (p, false, t0) ∧ t0 ≤ s.clk.now) ∧
    (∃ (s : State) (p : Port) (t0 : Nat), s.stepping p = true ∧ s.firm.steps[p].recompute = true ∧ s.firm.steps[p].dropped = false ∧
       s.act.engine.running = some (p, true, t0) ∧ t0 ≤ s.clk.now) ∧
    (∃ (s : State) (p : Port), (s.firm.steps[p].committed = true ∨ s.firm.steps[p].passed = false ∨ 240 < s.ticksToBoundary p)) ∧
    (∃ (s : State) (p : Port), s.stepping p = true ∧ s.firm.steps[p].committed = false ∧ s.firm.steps[p].passed = true ∧ s.ticksToBoundary p ≤ 240 ∧
       3 ≤ s.firm.steps[p].lateRun + 1) ∧
    (∃ (s : State) (p : Port), s.stepping p = true ∧ s.firm.steps[p].committed = false ∧ s.firm.steps[p].passed = true ∧ s.ticksToBoundary p ≤ 240 ∧
       s.firm.steps[p].lateRun + 1 < 3) ∧
    (∃ (s : State) (p : Port) (leg : Nat) (code : Int), s.firm.steps[p].oc = some (leg, code)) :=
  ⟨⟨(up .forming).modDec 0 fun d => { d with head := some 0, sampleAt := some 1 }, 0, by decide +kernel⟩,
   ⟨working (some (0, false, 0)) (stepOn { pred := some (Vector.replicate 3 0, Vector.replicate 3 0, 0) }), 0, (Vector.replicate 3 0, Vector.replicate 3 0,
     0), 0, by decide +kernel⟩,
   ⟨working (some (0, true, 0)) (stepOn { recompute := true, arrived := true }), 0, 0, by decide +kernel⟩,
   ⟨stepOn { committed := true }, 0, by decide +kernel⟩,
   ⟨(stepOn { passed := true, lateRun := 2 }).modShoal 0 fun h => { h with acc := 2 ^ 48 - 2 ^ 16 }, 0, by decide +kernel⟩,
   ⟨(stepOn { passed := true, lateRun := 1 }).modShoal 0 fun h => { h with acc := 2 ^ 48 - 2 ^ 16 }, 0, by decide +kernel⟩,
   ⟨stepOn { oc := some (3, 5) }, 0, 3, 5, by decide +kernel⟩⟩

theorem witness_IslandLinksComplete :
    (∃ (s : State) (l : Link) (slot : DownSlot) (noise : List Byte) (b : List Byte) (m : Link), s.dev ≠ .standby ∧ b = noisy (s.downlink l slot) noise ∧
       s.sk[l].good = true ∧ frameGood 0xB3 l b 8 s.sk[l].dlSeq = true ∧ l ≠ linkG ∧ (bit (by8 b 2) 7 = false ∨ bit (by8 b 2) 6 = true) ∧ m ≠ l ∧
       s.ul[l].txSeq < 256) ∧
    (∃ (s : State) (l : Link) (slot : DownSlot) (noise : List Byte) (b : List Byte), s.dev ≠ .standby ∧ b = noisy (s.downlink l slot) noise ∧
       s.sk[l].good = true ∧ frameGood 0xB3 l b 8 s.sk[l].dlSeq = true ∧ l = linkG) ∧
    (∃ (s : State) (l : Link) (slot : DownSlot) (noise : List Byte) (b : List Byte), s.dev ≠ .standby ∧ b = noisy (s.downlink l slot) noise ∧
       s.sk[l].good = true ∧ frameGood 0xB3 l b 8 s.sk[l].dlSeq = false ∧ 3 ≤ s.sk[l].dlRun) ∧
    (∃ (s : State) (l : Link) (slot : DownSlot) (noise : List Byte) (b : List Byte), s.dev ≠ .standby ∧ b = noisy (s.downlink l slot) noise ∧
       s.sk[l].good = false) ∧
    (∃ (s : State) (l : Link) (streams : List Byte) (noise : List Byte) (b : List Byte) (m : Link), s.dev ≠ .standby ∧ s.sk[l].good = true ∧
       b = noisy (s.sk[l].uplink l streams (s.rdData l)) noise ∧ frameGood 0xD5 l b 44 s.ul[l].seq = true ∧ l ≠ linkG ∧ m ≠ l) ∧
    (∃ (s : State) (l : Link) (streams : List Byte) (noise : List Byte) (b : List Byte) (p : Port), s.dev ≠ .standby ∧ s.sk[l].good = true ∧
       b = noisy (s.sk[l].uplink l streams (s.rdData l)) noise ∧ frameGood 0xD5 l b 44 s.ul[l].seq = false ∧ s.ul[l].run = 3 ∧ s.awake = true ∧
       portOfLink l = some p) :=
  ⟨⟨linkUp, 0, .none, [], noisy (linkUp.downlink 0 .none) [], 12, by decide +kernel⟩,
   ⟨linkUpG, 12, .none, [], noisy (linkUpG.downlink 12 .none) [], by decide +kernel⟩,
   ⟨skOn { good := true, dlSeq := some 1, dlRun := 3 }, 0, .none, [], noisy ((skOn { good := true, dlSeq := some 1, dlRun := 3 }).downlink 0 .none) [],
     by decide +kernel⟩,
   ⟨up .idle, 0, .none, [], noisy ((up .idle).downlink 0 .none) [], by decide +kernel⟩,
   ⟨linkUp, 0, [], [], noisy (linkUp.sk[(0 : Link)].uplink 0 [] (linkUp.rdData 0)) [], 1, by decide +kernel⟩,
   ⟨linkUp.modUl 0 (fun u => { u with run := 3 }), 0, [], [1], noisy (linkUp.sk[(0 : Link)].uplink 0 [] (linkUp.rdData 0)) [1], 0, by decide +kernel⟩⟩

theorem witness_InterlockComplete :
    (∃ (s : State) (p : Port) (g : Gate) (k : Skerry), s.sk[linkOf p] = k ∧ k.offDemand (legOfGate g) = false ∧ k.gates[g].on = false ∧
       k.gates[g].soft = false ∧ k.gates[otherGate g].on = false ∧ k.gates[otherGate g].held = none ∧ (∀ a : Nat,
       k.gates[otherGate g].offAt = some a → 32 ≤ s.clk.now - a)) ∧
    (∃ (s : State) (p : Port) (g : Gate) (k : Skerry) (at_ : Nat), s.sk[linkOf p] = k ∧ k.offDemand (legOfGate g) = false ∧ k.gates[g].on = false ∧
       k.gates[g].soft = false ∧ k.gates[otherGate g].on = false ∧ k.gates[otherGate g].held = none ∧ k.gates[otherGate g].offAt = some at_ ∧
       s.clk.now - at_ < 32 ∧ s.clk.now - at_ < 31) ∧
    (∃ (s : State) (p : Port) (g : Gate) (k : Skerry), s.sk[linkOf p] = k ∧ k.offDemand (legOfGate g) = false ∧ k.gates[g].on = false ∧
       k.gates[g].soft = false ∧ k.gates[otherGate g].on = true ∧ k.gates[otherGate g].chanAt ≠ some s.clk.now) ∧
    (∃ (s : State) (p : Port) (g : Gate) (k : Skerry), s.sk[linkOf p] = k ∧ (k.offDemand (legOfGate g) = true ∨ k.gates[g].soft = true) ∧
       k.gates[g].on = false) ∧
    (∃ (s : State) (p : Port) (g : Gate) (k : Skerry), s.sk[linkOf p] = k ∧ k.gates[g].on = true) ∧
    (∃ (s : State) (p : Port) (g : Gate) (k : Skerry), s.sk[linkOf p] = k ∧ k.gates[g].held.isSome = true ∧ k.gates[g].chan = true ∧
       k.gates[g].soft = false ∧ k.offDemand (legOfGate g) = false ∧ k.gates[otherGate g].on = false ∧ (∀ a : Nat,
       k.gates[otherGate g].offAt = some a → 32 ≤ s.clk.now - a)) :=
  ⟨⟨withSk armedSk (up .forming), 0, 0, armedSk, rfl, by decide +kernel, by decide +kernel, by decide +kernel, by decide +kernel, by decide +kernel,
     fun _ h => nomatch h⟩,
   ⟨gated { offAt := some 0 }, 0, 0, { armedSk with gates := vset armedSk.gates 1 { offAt := some 0 } }, 0, by decide +kernel⟩,
   ⟨gated { on := true }, 0, 0, { armedSk with gates := vset armedSk.gates 1 { on := true } }, by decide +kernel⟩,
   ⟨up .forming, 0, 7, {}, by decide +kernel⟩,
   ⟨gated { on := true }, 0, 1, { armedSk with gates := vset armedSk.gates 1 { on := true } }, by decide +kernel⟩,
   ⟨gated { held := some 32, chan := true }, 0, 1, { armedSk with gates := vset armedSk.gates 1 { held := some 32, chan := true } }, rfl, by decide +kernel,
     by decide +kernel, by decide +kernel, by decide +kernel, by decide +kernel, fun _ h => nomatch h⟩⟩

theorem witness_ProtectionComplete :
    (∃ (s : State) (p : Port) (g : Gate) (k : Skerry), s.sk[linkOf p] = k ∧ k.good = true ∧ k.gates[g].on = true ∧
       k.gates[g].onAt + (s.parN (PP_DESAT_BLANK p) + 20) ≤ s.clk.now ∧ s.awake = true ∧ k.legs[legOfGate g].latch = 0 ∧ s.act.log.frozen = false ∧
       2 ≤ (s.firm.legFaults[Machine.legNo p (legOfGate g)].filter fun t => decide (s.clk.now - t < msTicks 60000)).length) ∧
    (∃ (s : State) (p : Port) (g : Gate) (k : Skerry), s.sk[linkOf p] = k ∧ k.good = true ∧ k.gates[g].on = true ∧ k.gates[g].onAt + 32 ≤ s.clk.now ∧
       s.awake = true ∧ k.legs[legOfGate g].latch = 0 ∧ s.act.log.frozen = false) ∧
    (∃ (s : State) (p : Port) (g : Gate) (k : Skerry), s.sk[linkOf p] = k ∧ k.good = true ∧ (k.gates[g].on = false ∨ s.clk.now < k.gates[g].onAt + 32)) ∧
    (∃ (s : State) (p : Port) (g : Gate) (k : Skerry) (a : Nat), s.sk[linkOf p] = k ∧ k.good = true ∧ k.gates[g].offAt = some a ∧ a + 340 ≤ s.clk.now) ∧
    (∃ (s : State) (p : Port) (g : Gate) (k : Skerry) (a : Nat), s.sk[linkOf p] = k ∧ k.good = true ∧ k.gates[g].offAt = some a ∧ s.clk.now < a + 340) ∧
    (∃ (s : State) (p : Port) (i : Leg) (k : Skerry) (h : Gate), s.sk[linkOf p] = k ∧ k.good = true ∧ legOfGate h = i ∧ k.legs[i].hiz = false) :=
  ⟨⟨later (10 ^ 9) ((gated { on := true }).modFirm fun m => { m with legFaults := Vector.replicate 48 [10 ^ 9, 10 ^ 9] }), 0, 1,
     { armedSk with gates := vset armedSk.gates 1 { on := true } }, by decide +kernel⟩,
   ⟨later 32 (gated { on := true }), 0, 1, { armedSk with gates := vset armedSk.gates 1 { on := true } }, by decide +kernel⟩,
   ⟨gated {}, 0, 1, { armedSk with gates := vset armedSk.gates 1 {} }, by decide +kernel⟩,
   ⟨later 340 (gated { offAt := some 0 }), 0, 1, { armedSk with gates := vset armedSk.gates 1 { offAt := some 0 } }, 0, by decide +kernel⟩,
   ⟨gated { offAt := some 0 }, 0, 1, { armedSk with gates := vset armedSk.gates 1 { offAt := some 0 } }, 0, by decide +kernel⟩,
   ⟨gated { on := true }, 0, 0, { armedSk with gates := vset armedSk.gates 1 { on := true } }, 1, by decide +kernel⟩⟩

theorem witness_PermitComplete :
    (∃ (s : State) (l : Link) (count : Nat) (kind : Kind) (chan : Bool) (noise : Nat) (word : Nat) (w : Nat), s.sk[l].good = true ∧
       s.bw.ports[l].onLine[0] = true ∧ s.bw.ports[l].sent.headD 0 = count ∧ s.bw.ports[l].kind = kind ∧ count < 256 ∧
       s.sk[l].chans[0].count = some ((count + 255) % 256) ∧ kind ≠ .run ∧ s.bw.ports[l].onLine[(if chan then 1 else 0 : Fin 2)] = true ∧
       word = (if chan then permitWord (s.bw.ports[l].sent.headD 0) s.bw.ports[l].kind ^^^ 0xFFFF else permitWord (s.bw.ports[l].sent.headD 0) s.bw.ports[l].kind) ^^^ noise % 2 ^ 16 ∧
       w = (if chan then (word ^^^ 0xFFFF) % 2 ^ 16 else word % 2 ^ 16) ∧ crc4 (w / 16) ≠ w % 16) ∧
    (∃ (s : State) (l : Link) (count : Nat) (kind : Kind), s.sk[l].good = true ∧ s.bw.ports[l].onLine[0] = true ∧ s.bw.ports[l].sent.headD 0 = count ∧
       s.bw.ports[l].kind = kind ∧ count < 256 ∧ s.sk[l].chans[0].count = some ((count + 255) % 256) ∧ (kind = .off ∨ kind = .unlock)) ∧
    (∃ (s : State) (l : Link) (count : Nat) (kind : Kind), s.sk[l].good = true ∧ s.bw.ports[l].onLine[0] = true ∧ s.bw.ports[l].sent.headD 0 = count ∧
       s.bw.ports[l].kind = kind ∧ count < 256 ∧ s.sk[l].chans[0].count = some ((count + 255) % 256) ∧ kind ≠ .unlock) ∧
    (∃ (s : State) (l : Link) (chan : Bool), s.bw.ports[l].onLine[(if chan then 1 else 0 : Fin 2)] = false ∧ s.sk[l].permitGone s.clk.now = false) ∧
    (∃ (s : State) (l : Link) (n : Fin 2), s.sk[l].good = true ∧ s.sk[l].permit = true ∧ s.sk[l].chans[n].validAt + 8000 ≤ s.clk.now) ∧
    (∃ (s : State) (p : Port) (t0 : Nat) (t1 : Nat), s.sk[linkOf p].coilsLost = some t0 ∧ t0 + 20000 ≤ s.clk.now ∧ s.sk[linkOf p].latchLost = some t1 ∧
       t1 + 20000 ≤ s.clk.now) ∧
    (∃ (s : State) (p : Port) (t0 : Nat), s.sk[linkOf p].coilsLost = some t0 ∧ t0 + 20000 ≤ s.clk.now ∧ s.awake = true ∧ s.anyClosed p = true ∧
       (s.life p).life.connected = true) ∧
    (∃ (s : State) (p : Port) (n : Fin 2), s.sk[linkOf p].coils[n].pullAt + msTicks (10 * s.parN (PP_COIL_PULL_T p)) ≤ s.clk.now) ∧
    (∃ (s : State) (p : Port), s.sk[linkOf p].latchOn = true ∧ s.latchClear p = false) ∧
    (∃ (s : State) (p : Port), s.sk[linkOf p].latchOn = true ∧ s.sk[linkOf p].latchAt + msTicks 10000 ≤ s.clk.now) :=
  ⟨⟨permitLine 0 .off 255, 0, 0, .off, true, 1, (permitWord 0 .off ^^^ 0xFFFF) ^^^ 1, (((permitWord 0 .off ^^^ 0xFFFF) ^^^ 1) ^^^ 0xFFFF) % 2 ^ 16,
     by decide +kernel⟩,
   ⟨permitLine 255 .unlock 254, 0, 255, .unlock, by decide +kernel⟩,
   ⟨permitLine 255 .run 254, 0, 255, .run, by decide +kernel⟩,
   ⟨up .idle, 0, false, by decide +kernel⟩,
   ⟨later 8000 (skOn { good := true, permit := true }), 0, 0, by decide +kernel⟩,
   ⟨later 20000 (skOn { coilsLost := some 0, latchLost := some 0 }), 0, 0, 0, by decide +kernel⟩,
   ⟨later 20000 (withLife { life := .precharging } (skOn { good := true, coilsLost := some 0, coils := Vector.replicate 2 { fb := true } })), 0, 0,
     by decide +kernel⟩,
   ⟨later (10 ^ 12) (up .idle), 0, 1, by decide +kernel⟩,
   ⟨skOn { latchOn := true, gateEn := true }, 0, by decide +kernel⟩,
   ⟨later (10 ^ 12) (skOn { latchOn := true }), 0, by decide +kernel⟩⟩

theorem witness_ContactorCanComplete :
    (∃ (s : State) (p : Port) (closed : Bool), s.sk[linkOf p].good = true ∧ closed = true ∧ s.sk[linkOf p].diag.state = 1) ∧
    (∃ (s : State) (p : Port) (n : Fin 2), s.sk[linkOf p].good = true ∧ s.sk[linkOf p].coils[n].fb ≠ s.sk[linkOf p].coils[n].cmd ∧
       s.sk[linkOf p].coils[n].cmdAt + msTicks (10 * s.parN (PP_COIL_FB_T p)) ≤ s.clk.now ∧ s.sk[linkOf p].coils[n].fb = true) ∧
    (∃ (s : State) (p : Port) (n : Fin 2), s.sk[linkOf p].good = true ∧ s.sk[linkOf p].coils[n].fb ≠ s.sk[linkOf p].coils[n].cmd ∧
       s.sk[linkOf p].coils[n].cmdAt + msTicks (10 * s.parN (PP_COIL_FB_T p)) ≤ s.clk.now ∧ s.sk[linkOf p].coils[n].fb = false) ∧
    (∃ (s : State) (p : Port) (n : Fin 2), s.sk[linkOf p].good = true ∧ s.sk[linkOf p].coils[n].fb ≠ s.sk[linkOf p].coils[n].cmd ∧
       s.sk[linkOf p].coils[n].cmdAt + msTicks (10 * s.parN (PP_COIL_FB_T p)) ≤ s.clk.now ∧ (s.life p).life.connected = true) ∧
    (∃ (s : State) (p : Port), s.sk[linkOf p].good = true ∧ s.sk[linkOf p].diag.state = 1 ∧
       s.sk[linkOf p].diag.itemAt + s.sk[linkOf p].diag.itemTicks (s.parN (PP_ISO_SETTLE p)) ≤ s.clk.now) ∧
    (∃ (s : State) (p : Port), s.sk[linkOf p].good = true ∧ s.awake = true ∧ s.sk[linkOf p].canBusOff = false) ∧
    (∃ (s : State) (p : Port), s.sk[linkOf p].good = true ∧ s.sk[linkOf p].canBusOff = false ∧ 0 < s.sk[linkOf p].canWhole) ∧
    (∃ (s : State) (p : Port), s.sk[linkOf p].good = true ∧ s.sk[linkOf p].busOffHeld = false) ∧
    (∃ (s : State) (p : Port), s.sk[linkOf p].good = true ∧ s.sk[linkOf p].busOffHeld = true) :=
  ⟨⟨skOn { good := true, diag := { state := 1 } }, 0, true, by decide +kernel⟩,
   ⟨later (10 ^ 12) (skOn { good := true, coils := Vector.replicate 2 { fb := true } }), 0, 1, by decide +kernel⟩,
   ⟨later (10 ^ 12) (skOn { good := true, coils := Vector.replicate 2 { cmd := true } }), 0, 1, by decide +kernel⟩,
   ⟨later (10 ^ 12) (withLife { life := .releasing } (skOn { good := true, coils := Vector.replicate 2 { cmd := true } })), 0, 1, by decide +kernel⟩,
   ⟨later (10 ^ 12) (skOn { good := true, diag := { state := 1 } }), 0, by decide +kernel⟩,
   ⟨skOn { good := true }, 0, by decide +kernel⟩,
   ⟨skOn { good := true, canTx := [⟨false, false, false, false, 1, []⟩], canWhole := 1 }, 0, by decide +kernel⟩,
   ⟨skOn { good := true, canBusOff := true, busOffs := [0, 0, 0] }, 0, by decide +kernel⟩,
   ⟨skOn { good := true, canBusOff := true, busOffs := [0, 0, 0, 0] }, 0, by decide +kernel⟩⟩

theorem witness_PortEventsComplete :
    (∃ (s : State) (p : Port) (cls : LoopClass), s.awake = true ∧ (s.life p).loop ≠ cls.code ∧ cls = .fault) ∧
    (∃ (s : State) (p : Port) (cls : LoopClass), s.awake = true ∧ (s.life p).loop ≠ cls.code ∧ cls = .openLoop ∧ (s.life p).life ≠ .empty ∧
       s.anyClosed p = true) ∧
    (∃ (s : State) (p : Port) (cls : LoopClass) (q : Port), s.awake = true ∧ (s.life p).loop ≠ cls.code ∧ q ≠ p) ∧
    (∃ (s : State) (p : Port), s.awake = true ∧ (s.life p).life = .empty ∧ (s.life p).loop = 1 ∧
       (s.life p).loopAt + msTicks (10 * s.parN (PP_PLUG_DEBOUNCE p)) ≤ s.clk.now) ∧
    (∃ (s : State) (p : Port) (sig : Fin 16) (h : sig.val < 8), s.awake = true ∧ (s.bmsMap p).any (fun e => decide (e.signal = sig.val ∧ e.timeout ≠ 0 ∧
       (s.life p).signals[(⟨sig.val, h⟩ : Fin 8)].storedAt + msTicks e.timeout ≤ s.clk.now)) = true) ∧
    (∃ (s : State) (p : Port), s.awake = true ∧ (s.life p).life ∈ [.precharging, .charged, .admitted] ∧ s.signalsLost p = true ∧ s.gatesAreOff p = false) ∧
    (∃ (s : State) (p : Port), s.awake = true ∧ (s.life p).life ∈ [.precharging, .charged, .admitted] ∧ s.signalsLost p = true ∧ s.gatesAreOff p = true) ∧
    (∃ (s : State) (p : Port) (t0 : Nat), s.awake = true ∧ (s.life p).life = .precharging ∧ (s.life p).fb0At = some t0 ∧
       t0 + msTicks (10 * s.parN (PP_PRECHG_T p)) ≤ s.clk.now ∧ (s.life p).ck1 = false) ∧
    (∃ (s : State) (p : Port) (c : Nat) (t0 : Nat), s.awake = true ∧ (s.life p).atZero = some (c, t0) ∧ t0 + msTicks 100 ≤ s.clk.now) ∧
    (∃ (s : State) (p : Port), s.awake = true ∧ (s.life p).life = .discharging ∧
       (s.life p).dischargeAt + msTicks (1000 * s.parN (PP_DISCHARGE_T p)) ≤ s.clk.now) :=
  ⟨⟨up .idle, 11, .fault, by decide +kernel⟩,
   ⟨withLife { life := .plugged, loop := 1 } (skOn { good := true, coils := Vector.replicate 2 { fb := true } }), 0, .openLoop, by decide +kernel⟩,
   ⟨up .idle, 0, .closed, 11, by decide +kernel⟩,
   ⟨later (10 ^ 12) (withLife { loop := 1 } (up .idle)), 0, by decide +kernel⟩,
   ⟨later (10 ^ 12) ((up .idle).modCfg fun c => { c with committed := { c.committed with maps := vset c.committed.maps 0 [⟨7, 0, 0, 8, 10, 1, 1, 0⟩] } }),
     0, 7, by decide, by decide +kernel⟩,
   ⟨withLife { life := .admitted } ((up .forming).modPwm 0 fun w => { w with gatesEn := true }), 0, by decide +kernel⟩,
   ⟨withLife { life := .admitted } (up .ready), 0, by decide +kernel⟩,
   ⟨later (10 ^ 12) (withLife { life := .precharging, fb0At := some 0 } (up .ready)), 0, 0, by decide +kernel⟩,
   ⟨later (10 ^ 9) (withLife { life := .faulted, atZero := some (0, 0) } (up .ready)), 0, 0, 0, by decide +kernel⟩,
   ⟨later (10 ^ 15) (withLife { life := .discharging } (up .ready)), 0, by decide +kernel⟩⟩

theorem witness_FieldEventsComplete :
    (∃ (s : State) (n : Fin 16), s.shore.outs[n].driven = true ∧ s.shore.outs[n].changedAt + usTicks 1200 ≤ s.clk.now) ∧
    (∃ (s : State) (n : Fin 16) (v : Nat), s.shore.outs[n].driven = true ∧ bit (s.parN P_OUT_TEST_EN) n.val = true ∧ s.shore.outs[n].jointNext = false ∧
       bit v n.val = false) ∧
    (∃ (s : State) (n : Fin 16) (v : Nat), s.shore.outs[n].driven = true ∧ bit (s.parN P_OUT_TEST_EN) n.val = true ∧ s.shore.outs[n].jointNext = true ∧
       bit v n.val = true) ∧
    (∃ (s : State) (n : Fin 16), s.shore.ok = true ∧ s.shore.outs[n].driven = false ∧ s.shore.outs[n].suspect = false ∧
       s.shore.outs[n].changedAt + usTicks 1200 ≤ s.clk.now) ∧
    (∃ (s : State) (n : Fin 16), s.shore.outs[n].suspect = true ∧ s.shore.outs[n].suspectUntil ≤ s.clk.now) ∧
    (∃ (s : State) (n : Fin 16), s.shore.outs[n].driven = false ∧ s.shore.outs[n].changedAt + msTicks 100 ≤ s.clk.now) ∧
    (∃ (s : State) (v : Nat) (h : Hd), s.shore.sag = false ∧ v < 1800 ∧ v < 1200 ∧ s.awake = true ∧ s.shore.powered = true ∧ s.bw.token ≠ some h) ∧
    (∃ (s : State) (n : Fin 16) (v : Nat), s.shore.sag = true ∧ s.shore.powered = true ∧ 1950 < v ∧ s.shore.sagAt + msTicks 10 ≤ s.clk.now ∧
       bit (s.parN P_SAG_LATCH) n.val = true ∧ s.shore.outs[n].demand = true) ∧
    (∃ (s : State) (v : Nat), s.shore.powered = false ∧ 1200 ≤ v) ∧
    (∃ (s : State), s.shore.silent = false ∧ s.shore.powered = true ∧ s.shore.lastFrame + usTicks 75 ≤ s.clk.now) ∧
    (∃ (s : State) (n : Fin 16), s.awake = true ∧ s.shore.hostSilent = false ∧ s.shore.hostAt + msTicks (10 * s.parN P_HOST_TIMEOUT) ≤ s.clk.now ∧
       s.owned n.val = false ∧ s.parN (P_OUT_SAFE n.val) ≠ 2) ∧
    (∃ (s : State) (n : Fin 16), s.awake = true ∧ s.shore.hostSilent = false ∧ s.shore.hostAt + msTicks (10 * s.parN P_HOST_TIMEOUT) ≤ s.clk.now ∧
       (s.owned n.val = true ∨ s.parN (P_OUT_SAFE n.val) = 2)) ∧
    (∃ (s : State) (i : Fin 4), bit (s.parN P_COUNT_EN) i.val = true ∧ s.shore.inValid = true) ∧
    (∃ (s : State) (n : Fin 16) (level : Bool), s.shore.powered = true ∧ s.shore.ins[n].level ≠ level ∧
       s.shore.ins[n].changedAt + usTicks (max 5 (100 * s.parN (P_IN_FILTER n))) ≤ s.clk.now) ∧
    (∃ (s : State) (h : Hd), s.awake = true ∧ s.shore.powered = true ∧ s.bw.token = some h) :=
  ⟨⟨later (usTicks 1200) (outOn [] { driven := true }), 15, by decide +kernel⟩,
   ⟨outOn [(P_OUT_TEST_EN, 0x8000)] { driven := true }, 15, 0, by decide +kernel⟩,
   ⟨outOn [(P_OUT_TEST_EN, 0x8000)] { driven := true, jointNext := true }, 15, 0x8000, by decide +kernel⟩,
   ⟨later (usTicks 1200) (outOn [] {}), 15, by decide +kernel⟩,
   ⟨outOn [] { suspect := true }, 15, by decide +kernel⟩,
   ⟨later (msTicks 100) (outOn [] {}), 15, by decide +kernel⟩,
   ⟨up .idle, 1199, 1, by decide +kernel⟩,
   ⟨later (msTicks 10) ((outOn [(P_SAG_LATCH, 0x8000)] { demand := true }).modShore fun h => { h with sag := true }), 15, 1951, by decide +kernel⟩,
   ⟨(up .idle).modShore fun h => { h with powered := false }, 1200, by decide +kernel⟩,
   ⟨later (usTicks 75) ((up .idle).modShore fun h => { h with silent := false }), by decide +kernel⟩,
   ⟨later (10 ^ 15) (up .idle), 15, by decide +kernel⟩,
   ⟨later (10 ^ 15) (upWith [(P_BRK_CLOSE_OUT, 15)] .idle), 15, by decide +kernel⟩,
   ⟨upWith [(P_COUNT_EN, 8)] .idle, 3, by decide +kernel⟩,
   ⟨later (10 ^ 12) (up .idle), 0, true, by decide +kernel⟩,
   ⟨up .idle, 0, by decide +kernel⟩⟩

theorem witness_PanelSupplyComplete :
    (∃ (s : State) (k : Fin 4) (v : Nat) (tb : Int) (l : Link) (m : Link), s.lookout.pads[k] = false ∧ s.dev ≠ .standby ∧ s.heart.vsupLow = false ∧
       v < 10 * s.parN P_VSUP_WARN ∧ s.heart.lockedOut = false ∧ 1150 ≤ tb ∧ s.sk[l].good = false ∧ s.heart.isoAt[l] = none ∧ m ≠ l) ∧
    (∃ (s : State) (k : Fin 4), s.lookout.pads[k] = false ∧ s.dev = .standby) ∧
    (∃ (s : State) (k : Fin 4), s.lookout.padAt[k] + msTicks 60000 < s.clk.now) ∧
    (∃ (s : State) (r : Fin 16) (u : WakeRule), s.dev = .standby ∧ s.lookout.rules[r.val]? = some u ∧ bit s.lookout.latched r.val = false ∧
       s.lookout.meets u s.clk.now = true ∧ u.action = 2) ∧
    (∃ (s : State) (r : Fin 16) (u : WakeRule), s.dev = .standby ∧ s.lookout.rules[r.val]? = some u ∧ bit s.lookout.latched r.val = false ∧
       s.lookout.meets u s.clk.now = true ∧ u.action = 1) ∧
    (∃ (s : State) (v : Nat), s.dev ≠ .standby ∧ s.heart.vsupLow = true ∧ 10 * s.parN P_VSUP_WARN + 50 < v) ∧
    (∃ (v : Nat), 9000 ≤ v) ∧
    (∃ (s : State) (v : Nat) (l : Link), v < 8500 ∧ s.heart.iinAt + msTicks 10 ≤ s.clk.now ∧ s.dev ≠ .standby ∧ s.sk[l].good = false ∧
       s.heart.isoAt[l] = none ∧ s.heart.downAt[l] + msTicks 10 ≤ s.clk.now) ∧
    (∃ (s : State), s.heart.lockedOut = true) ∧
    (∃ (s : State) (v : Nat) (tb : Int), s.heart.lockedOut = false ∧ 1600 ≤ v ∧ tb ≤ 1050) ∧
    (∃ (s : State) (v : Nat) (tb : Int), s.heart.lockedOut = false ∧ (v < 1600 ∨ 1050 < tb)) ∧
    (∃ (s : State) (tb : Int), s.heart.lockedOut = false ∧ 950 < tb) ∧
    (∃ (s : State) (tb : Int), s.heart.lockedOut = false ∧ tb < 930) ∧
    (∃ (s : State) (l : Link) (t0 : Nat), s.dev ≠ .standby ∧ s.heart.isoAt[l] = some t0 ∧ t0 + msTicks 1000 ≤ s.clk.now) ∧
    (∃ (s : State) (l : Link) (m : Link), s.sk[l].good = true ∧ m ≠ l) :=
  ⟨⟨up .idle, 0, 0, 1150, 0, 12, by decide +kernel⟩,
   ⟨up .standby, 0, by decide +kernel⟩,
   ⟨later (10 ^ 15) (up .idle), 0, by decide +kernel⟩,
   ⟨waiting 2, 0, { source := 0, cond := 1, filter := 0, action := 2 }, by decide +kernel⟩,
   ⟨waiting 1, 0, { source := 0, cond := 1, filter := 0, action := 1 }, by decide +kernel⟩,
   ⟨(up .idle).modHeart fun h => { h with vsupLow := true }, 60000, by decide +kernel⟩,
   ⟨9000, by decide +kernel⟩,
   ⟨later (10 ^ 9) (up .idle), 0, 0, by decide +kernel⟩,
   ⟨(up .idle).modHeart fun h => { h with lockedOut := true }, by decide +kernel⟩,
   ⟨up .idle, 1600, 1050, by decide +kernel⟩,
   ⟨up .idle, 1599, 1050, by decide +kernel⟩,
   ⟨up .idle, 951, by decide +kernel⟩,
   ⟨up .idle, 929, by decide +kernel⟩,
   ⟨later (10 ^ 12) ((up .idle).modHeart fun h => { h with isoAt := Vector.replicate 13 (some 0) }), 0, 0, by decide +kernel⟩,
   ⟨skOn { good := true }, 0, 12, by decide +kernel⟩⟩

theorem witness_MeterEventsComplete :
    (∃ (s : State) (p : Port) (m : Meter) (sent : List Byte) (b : List Byte) (noise : List Byte) (q : Nat), s.meter = m ∧ m.powered = true ∧
       s.ul[linkOf p].msub = some sent ∧ noisy sent noise = b ∧ mcrc p b = rdBe b 7 2 ∧ m.ports[p].resync = none ∧ m.ports[p].mseq = some q ∧
       rdBe b 0 2 = (q + 1) % 65536) ∧
    (∃ (s : State) (p : Port) (m : Meter) (sent : List Byte) (b : List Byte) (noise : List Byte) (q : Nat), s.meter = m ∧ m.powered = true ∧
       s.ul[linkOf p].msub = some sent ∧ noisy sent noise = b ∧ mcrc p b = rdBe b 7 2 ∧ m.ports[p].resync = none ∧ m.ports[p].mseq = some q ∧
       rdBe b 0 2 ≠ (q + 1) % 65536) ∧
    (∃ (s : State) (p : Port) (m : Meter) (sent : List Byte) (b : List Byte) (noise : List Byte) (e : Nat), s.meter = m ∧ m.powered = true ∧
       s.ul[linkOf p].msub = some sent ∧ noisy sent noise = b ∧ mcrc p b = rdBe b 7 2 ∧ m.ports[p].resync = some (some e) ∧ rdBe b 0 2 = (e + 1) % 65536) ∧
    (∃ (s : State) (p : Port) (m : Meter) (sent : List Byte) (b : List Byte) (noise : List Byte), s.meter = m ∧ m.powered = true ∧
       s.ul[linkOf p].msub = some sent ∧ noisy sent noise = b ∧ mcrc p b ≠ rdBe b 7 2) ∧
    (∃ (s : State) (p : Port) (m : Meter) (addr : Nat) (n : Meter), s.meter = m ∧ m.powered = true ∧ s.ul[linkOf p].msub = none ∧
       (m.ports[p].slotAt.all fun t => decide (t + usTicks 1 ≤ s.clk.now)) = true ∧ (m.secAt.all fun t => decide (t + msTicks 1000 ≤ s.clk.now)) = true ∧
       addr % 0x10000 ≠ 0 ∧ n.powered = false) ∧
    (∃ (s : State) (p : Port) (m : Meter) (iv : Interval), s.meter = m ∧ m.powered = true ∧ m.ports[p].opening = some iv ∧
       iv.startedAt + m.sessTicks ≤ s.clk.now ∧ m.live.hasOpen p = false ∧ m.live.sessions.length < 4096) ∧
    (∃ (s : State) (p : Port) (m : Meter) (iv : Interval) (x : SessionRec), s.meter = m ∧ m.powered = true ∧ m.ports[p].closing = some iv ∧
       iv.startedAt + m.sessTicks ≤ s.clk.now ∧ m.live.sessions = [x] ∧ x.opened = true ∧ x.port = p.val) ∧
    (∃ (s : State) (p : Port) (m : Meter) (imp : Nat) (exp_ : Nat) (sec : Nat) (x : SessionRec), s.meter = m ∧ m.powered = true ∧
       m.ports[p].lastValid = some (imp, exp_, sec) ∧ heldFor s.clk.now (msTicks 1000) m.ports[p].validAt = true ∧ m.live.sessions = [x] ∧ x.opened = true ∧
       x.port = p.val) ∧
    (∃ (s : State) (m : Meter) (addr : Nat), s.meter = m ∧ m.powered = true ∧ addr % 0x10000 = 0) :=
  ⟨⟨subbed (subFrame 0 0) (onePort { mseq := some 0xFFFF }), 0, onePort { mseq := some 0xFFFF }, subFrame 0 0, subFrame 0 0, [], 0xFFFF, by decide +kernel⟩,
   ⟨subbed (subFrame 0 0) (onePort { mseq := some 0 }), 0, onePort { mseq := some 0 }, subFrame 0 0, subFrame 0 0, [], 0, by decide +kernel⟩,
   ⟨subbed (subFrame 0 0) (onePort { resync := some (some 0xFFFF) }), 0, onePort { resync := some (some 0xFFFF) }, subFrame 0 0, subFrame 0 0, [], 0xFFFF,
     by decide +kernel⟩,
   ⟨subbed (zeros 9) (onePort {}), 0, onePort {}, zeros 9, zeros 9, [], by decide +kernel⟩,
   ⟨metered (onePort {}), 0, onePort {}, 0xFFC, {}, by decide +kernel⟩,
   ⟨later (10 ^ 12) (metered (onePort { opening := some anInterval })), 0, onePort { opening := some anInterval }, anInterval, by decide +kernel⟩,
   ⟨later (10 ^ 12) (metered { onePort { closing := some anInterval } with live := { sessions := [aSession] } }), 0,
     { onePort { closing := some anInterval } with live := { sessions := [aSession] } }, anInterval, aSession, by decide +kernel⟩,
   ⟨later (10 ^ 12) (metered { onePort { lastValid := some (1, 2, 3), validAt := some 0 } with live := { sessions := [aSession] } }), 0,
     { onePort { lastValid := some (1, 2, 3), validAt := some 0 } with live := { sessions := [aSession] } }, 1, 2, 3, aSession, by decide +kernel⟩,
   ⟨metered (onePort {}), onePort {}, 0x10000, by decide +kernel⟩⟩

theorem witness_SealComplete :
    (∃ (s : State) (m : Meter) (x : SessionRec) (v : Verification), s.meter = m ∧ m.coverOpen = false ∧ x.opened = true ∧ (m.auth = false ∨
       m.coverOpen = false ∨ sealedOk m.params v.params = false) ∧ heldFor s.clk.now (msTicks 3600000) m.lockAt = false ∧ s.dev ≠ .standby ∧ m.absent = true ∧
       m.powered = true) ∧
    (∃ (s : State) (m : Meter), s.meter = m ∧ m.coverOpen = true ∧ m.powered = true ∧ m.authFails < 3) ∧
    (∃ (s : State) (m : Meter), s.meter = m ∧ m.coverOpen = true ∧ 3 ≤ m.authFails) ∧
    (∃ (s : State) (m : Meter), s.meter = m ∧ m.powered = true ∧ m.auth = true) ∧
    (∃ (s : State) (m : Meter) (v : Verification), s.meter = m ∧ m.powered = true ∧ m.auth = true ∧ m.coverOpen = true ∧ sealedOk m.params v.params = true ∧
       v.key = none) ∧
    (∃ (s : State) (m : Meter), s.meter = m ∧ heldFor s.clk.now (msTicks 3600000) m.lockAt = true) ∧
    (∃ (s : State) (m : Meter), s.meter = m ∧ s.dev ≠ .standby ∧ m.absent = false) :=
  ⟨⟨metered (onePort {}), onePort {}, aSession, { params := [], key := none, keyId := 0, moduleSerial := 0, date := 0, toolId := 0 }, by decide +kernel⟩,
   ⟨metered { onePort {} with coverOpen := true, authFails := 2 }, { onePort {} with coverOpen := true, authFails := 2 }, by decide +kernel⟩,
   ⟨metered { onePort {} with coverOpen := true, authFails := 3 }, { onePort {} with coverOpen := true, authFails := 3 }, by decide +kernel⟩,
   ⟨metered { onePort {} with auth := true }, { onePort {} with auth := true }, by decide +kernel⟩,
   ⟨metered { onePort {} with auth := true, coverOpen := true }, { onePort {} with auth := true, coverOpen := true },
     { params := [], key := none, keyId := 0, moduleSerial := 0, date := 0, toolId := 0 }, by decide +kernel⟩,
   ⟨later (10 ^ 15) (metered { onePort {} with lockAt := some 0 }), { onePort {} with lockAt := some 0 }, by decide +kernel⟩,
   ⟨metered { onePort {} with absent := false }, { onePort {} with absent := false }, by decide +kernel⟩⟩

theorem witness_SealedStaysSealed :
    (∃ (c : Instr) (s : State) (t : State), exec c s = .next t ∧ (∀ v, c ≠ .verifyCommit v)) ∧
    (∃ (c : Instr) (s : State) (t : State), exec c s = .next t ∧ c ≠ .coverOpen) :=
  ⟨⟨.resetNRelease, up .idle, after .resetNRelease (up .idle), rfl, fun _ h => nomatch h⟩,
   ⟨.resetNRelease, up .idle, after .resetNRelease (up .idle), rfl, fun h => nomatch h⟩⟩

theorem witness_SafetyInputsComplete :
    (∃ (s : State) (n : Fin 8) (c : Fin 2) (mv : Int) (us : Nat) (lv : Bool), s.bw.inputs[n].chans[c].reads mv = lv ∧ s.bw.par (P_SI_MODE n) ≠ 0 ∧
       lv ≠ inactiveLevel (s.bw.par (P_SI_MODE n)) c ∧ filtered (s.bw.par (P_SI_MODE n)) (s.bw.par (P_SI_FILTER n)) us true = true ∧
       s.bw.par (P_SI_ACTION n) = 2) ∧
    (∃ (s : State) (n : Fin 8) (c : Fin 2) (mv : Int) (us : Nat) (lv : Bool), s.bw.inputs[n].chans[c].reads mv = lv ∧ (s.bw.par (P_SI_MODE n) = 0 ∨
       lv = inactiveLevel (s.bw.par (P_SI_MODE n)) c ∨ filtered (s.bw.par (P_SI_MODE n)) (s.bw.par (P_SI_FILTER n)) us true = false)) ∧
    (∃ (s : State) (n : Fin 8) (c : Fin 2) (mv : Int) (lv : Bool), s.bw.inputs[n].chans[c].reads mv = lv ∧ s.bw.par (P_SI_MODE n) ≠ 0 ∧
       s.bw.inputs[n].discFault = false ∧ heldFor s.clk.now (msTicks (s.bw.par (P_SI_DISC_T n))) s.bw.inputs[n].differFrom = true) ∧
    (∃ (s : State) (n : Fin 8) (c : Fin 2) (mv : Int) (lv : Bool) (tp : Fin 4), s.bw.inputs[n].chans[c].reads mv = lv ∧ s.bw.inputs[n].differFrom = none ∧
       s.bw.tpFault[tp] = false) ∧
    (∃ (s : State) (n : Fin 8) (c : Fin 2) (mv : Int) (lv : Bool), s.bw.inputs[n].chans[c].reads mv = lv) ∧
    (∃ (s : State) (n : Fin 8) (c : Fin 2) (mv : Int) (lv : Bool), s.bw.inputs[n].chans[c].reads mv = lv ∧ s.bw.laneDiffer = 5 ∧ s.bw.laneFault = false) ∧
    (∃ (s : State) (n : Fin 8) (c : Fin 2) (mv : Int) (lv : Bool), s.bw.inputs[n].chans[c].reads mv = lv ∧ s.bw.laneDiffer < 5) ∧
    (∃ (s : State) (n : Fin 8) (c : Fin 2) (mv : Int) (lv : Bool), s.bw.inputs[n].chans[c].reads mv = lv ∧ s.dev = .boot ∧ s.bw.started = false) ∧
    (∃ (s : State) (n : Fin 8) (c : Fin 2) (mv : Int) (us : Nat) (lv : Bool), s.bw.inputs[n].chans[c].reads mv = lv ∧ s.bw.par (P_SI_MODE n) ≠ 0 ∧
       lv ≠ inactiveLevel (s.bw.par (P_SI_MODE n)) c ∧ filtered (s.bw.par (P_SI_MODE n)) (s.bw.par (P_SI_FILTER n)) us true = true ∧
       s.bw.inputs[n].chans.toList.any (·.demand) = false ∧ s.act.log.frozen = false ∧ s.dev ≠ .standby ∧ s.dev ≠ .boot) :=
  ⟨⟨bwPar [(P_SI_MODE 7, 1), (P_SI_ACTION 7, 2)], 7, 1, 0, 1000000, false, by decide +kernel⟩,
   ⟨up .idle, 0, 0, 0, 0, false, by decide +kernel⟩,
   ⟨later (10 ^ 12) ((bwPar [(P_SI_MODE 7, 1)]).modBw fun b => { b with inputs := Vector.replicate 8 { differFrom := some 0 } }), 7, 0, 0, false,
     by decide +kernel⟩,
   ⟨up .idle, 7, 0, 0, false, 3, by decide +kernel⟩,
   ⟨up .idle, 7, 0, 12000, true, by decide +kernel⟩,
   ⟨(up .idle).modBw fun b => { b with laneDiffer := 5 }, 0, 0, 0, false, by decide +kernel⟩,
   ⟨(up .idle).modBw fun b => { b with laneDiffer := 4 }, 0, 0, 0, false, by decide +kernel⟩,
   ⟨(up .boot).modBw fun b => { b with started := false }, 0, 0, 0, false, by decide +kernel⟩,
   ⟨bwPar [(P_SI_MODE 7, 1)], 7, 1, 4999, 1000000, false, by decide +kernel⟩⟩

theorem witness_SafetyLinksComplete :
    (∃ (s : State) (l : Link) (noise : Nat) (w : Nat) (h : Hd), s.sk[l].returnWord (decide (l = linkG)) ^^^ noise % 2 ^ 48 = w ∧ s.sk[l].good = false ∧
       s.clk.now < s.bw.ports[l].lastAt + usTicks 20 ∧ s.bw.token = some h ∧ s.clk.now < s.bw.requestAt + msTicks 2) ∧
    (∃ (s : State) (l : Link) (noise : Nat) (w : Nat), s.sk[l].returnWord (decide (l = linkG)) ^^^ noise % 2 ^ 48 = w ∧ s.sk[l].good = true ∧
       s.bw.ports[l].validWord w = false) ∧
    (∃ (s : State) (l : Link) (noise : Nat) (w : Nat), s.sk[l].returnWord (decide (l = linkG)) ^^^ noise % 2 ^ 48 = w ∧ s.sk[l].good = true ∧
       portOfLink l = none ∧ s.bw.ports[l].validWord w = true) ∧
    (∃ (s : State) (l : Link) (p : Port) (noise : Nat) (w : Nat) (m : Link), s.sk[l].returnWord (decide (l = linkG)) ^^^ noise % 2 ^ 48 = w ∧
       s.sk[l].good = true ∧ portOfLink l = some p ∧ s.bw.ports[l].validWord w = true ∧ m ≠ l) ∧
    (∃ (s : State) (l : Link) (noise : Nat) (w : Nat), s.sk[l].returnWord (decide (l = linkG)) ^^^ noise % 2 ^ 48 = w ∧
       s.bw.ports[l].lastAt + usTicks 20 ≤ s.clk.now ∧ portOfLink l = none ∧ s.bw.ports[l].lossTold = false) ∧
    (∃ (s : State) (l : Link) (p : Port) (noise : Nat) (w : Nat), s.sk[l].returnWord (decide (l = linkG)) ^^^ noise % 2 ^ 48 = w ∧
       s.bw.ports[l].lastAt + usTicks 20 ≤ s.clk.now ∧ portOfLink l = some p ∧ s.bw.ports[l].returnLost = false) ∧
    (∃ (s : State) (l : Link) (noise : Nat) (w : Nat) (h : Hd) (ok : Bool), s.sk[l].returnWord (decide (l = linkG)) ^^^ noise % 2 ^ 48 = w ∧ (ok = false ∨
       s.bw.token ≠ some h)) ∧
    (∃ (s : State) (l : Link) (noise : Nat) (w : Nat), s.sk[l].returnWord (decide (l = linkG)) ^^^ noise % 2 ^ 48 = w ∧
       s.bw.requestAt + msTicks 2 ≤ s.clk.now) ∧
    (∃ (s : State) (l : Link) (p : Port) (noise : Nat) (w : Nat), s.sk[l].returnWord (decide (l = linkG)) ^^^ noise % 2 ^ 48 = w ∧
       s.bw.ports[linkOf p].chDisc = false ∧ s.bw.ports[linkOf p].differFrom.toList.any (heldFor s.clk.now (msTicks (s.bw.par P_SL_DISC_T))) = true) ∧
    (∃ (s : State) (l : Link) (p : Port) (noise : Nat) (w : Nat), s.sk[l].returnWord (decide (l = linkG)) ^^^ noise % 2 ^ 48 = w ∧
       s.bw.ports[linkOf p].sdcFb = false ∧ s.bw.ports[linkOf p].kind = .off ∧ s.bw.ports[linkOf p].offAt + msTicks (10 * s.bw.par P_SDC_FB_T) ≤ s.clk.now ∧
       (s.bw.ports[linkOf p].fb0Open = false ∨ s.bw.ports[linkOf p].fb1Open = false)) ∧
    (∃ (b : Breakwater), b.lockout = true ∧ b.sdcMod = true) :=
  ⟨⟨up .idle, 0, 0, ({} : Skerry).returnWord false, 0, by decide +kernel⟩,
   ⟨skOn { good := true }, 0, 0, ({} : Skerry).returnWord false, by decide +kernel⟩,
   ⟨sentWord, 12, 0, ({} : Skerry).returnWord true, by decide +kernel⟩,
   ⟨sentWord, 0, 0, 0, ({} : Skerry).returnWord false, 12, by decide +kernel⟩,
   ⟨later 8000 (up .idle), 12, 0, ({} : Skerry).returnWord true, by decide +kernel⟩,
   ⟨later 8000 (up .idle), 0, 0, 0, ({} : Skerry).returnWord false, by decide +kernel⟩,
   ⟨up .idle, 0, 0, ({} : Skerry).returnWord false, 1, true, by decide +kernel⟩,
   ⟨later (msTicks 2) (up .idle), 0, 0, ({} : Skerry).returnWord false, by decide +kernel⟩,
   ⟨later (10 ^ 12) ((up .idle).modBwPort 0 fun b => { b with differFrom := Vector.replicate 3 (some 0) }), 0, 0, 0, ({} : Skerry).returnWord false,
     by decide +kernel⟩,
   ⟨later (10 ^ 12) (up .idle), 0, 0, 0, ({} : Skerry).returnWord false, by decide +kernel⟩,
   ⟨({ lockout := true, sdcMod := true } : Breakwater), by decide +kernel⟩⟩

theorem witness_SafetyResetComplete :
    (∃ (s : State) (at_ : Nat), s.bw.press = some (at_, true) ∧ s.bw.commissionWait = false ∧ s.bw.resetArmed = true ∧ msTicks 300 ≤ s.clk.now - at_ ∧
       s.clk.now - at_ ≤ msTicks 3000 ∧ s.bw.resettable s.clk.now false = true ∧ s.dev = .lockout) ∧
    (∃ (s : State) (at_ : Nat), s.bw.press = some (at_, true) ∧ s.bw.commissionWait = false ∧ s.bw.resetArmed = true ∧ msTicks 300 ≤ s.clk.now - at_ ∧
       s.clk.now - at_ ≤ msTicks 3000 ∧ s.bw.resettable s.clk.now false = true ∧ s.dev ≠ .lockout) ∧
    (∃ (s : State) (at_ : Nat), s.bw.press = some (at_, true) ∧ s.bw.commissionWait = false ∧ s.bw.resetArmed = true ∧ s.clk.now - at_ < msTicks 300) ∧
    (∃ (s : State), s.bw.press = none) ∧
    (∃ (s : State) (at_ : Nat), s.bw.press = some (at_, false)) ∧
    (∃ (s : State) (at_ : Nat), s.bw.press = some (at_, true) ∧ s.bw.commissionWait = true ∧ msTicks 300 ≤ s.clk.now - at_ ∧
       s.clk.now - at_ ≤ msTicks 3000 ∧ s.clk.now ≤ s.bw.commissionAt + msTicks 30000) ∧
    (∃ (s : State) (at_ : Nat), s.bw.press = some (at_, true) ∧ s.bw.resetArmed = true ∧ at_ + msTicks 3000 < s.clk.now) ∧
    (∃ (s : State) (at_ : Nat) (b : Bool), s.bw.press = some (at_, b) ∧ s.clk.now ≤ at_ + msTicks 3000) ∧
    (∃ (s : State) (at_ : Nat) (b : Bool), s.bw.press = some (at_, b) ∧ s.bw.stuckFault = false ∧ at_ + msTicks 10000 < s.clk.now) ∧
    (∃ (s : State) (at_ : Nat) (b : Bool), s.bw.press = some (at_, b) ∧ s.clk.now ≤ at_ + msTicks 10000) ∧
    (∃ (s : State) (at_ : Nat), s.bw.resetArmed = true ∧ (s.bw.press = none ∨ s.bw.press = some (at_, false)) ∧ s.bw.armedAt + msTicks 30000 ≤ s.clk.now) ∧
    (∃ (s : State), s.bw.commissionWait = true ∧ s.bw.commissionAt + msTicks 30000 ≤ s.clk.now) ∧
    (∃ (s : State), s.clk.now < s.bw.commissionAt + msTicks 30000) :=
  ⟨⟨later (msTicks 300) (pressed .lockout), 0, by decide +kernel⟩,
   ⟨later (msTicks 3000) (pressed .tripped), 0, by decide +kernel⟩,
   ⟨later (msTicks 300 - 1) (pressed .lockout), 0, by decide +kernel⟩,
   ⟨(up .lockout).modBw fun b => { b with resetArmed := true }, by decide +kernel⟩,
   ⟨(pressed .lockout).modBw fun b => { b with press := some (0, false) }, 0, by decide +kernel⟩,
   ⟨later (msTicks 300) ((pressed .lockout).modBw fun b => { b with commissionWait := true }), 0, by decide +kernel⟩,
   ⟨later (msTicks 3000 + 1) (pressed .lockout), 0, by decide +kernel⟩,
   ⟨later (msTicks 3000) (pressed .lockout), 0, true, by decide +kernel⟩,
   ⟨later (msTicks 10000 + 1) (pressed .lockout), 0, true, by decide +kernel⟩,
   ⟨later (msTicks 10000) (pressed .lockout), 0, true, by decide +kernel⟩,
   ⟨later (msTicks 30000) ((up .lockout).modBw fun b => { b with resetArmed := true }), 0, by decide +kernel⟩,
   ⟨later (msTicks 30000) ((up .lockout).modBw fun b => { b with commissionWait := true }), by decide +kernel⟩,
   ⟨up .lockout, by decide +kernel⟩⟩

theorem witness_SafetyMessagesComplete :
    (∃ (s : State) (b : List Byte), s.bw.token.isSome = true ∧ s.bw.sourceOf b = none) ∧
    (∃ (s : State) (b : List Byte) (j : Fin 4), s.bw.token.isSome = true ∧ s.bw.sourceOf b = some j ∧ s.bw.sources[j].pending = none ∧
       0 < (rd b 4 4 + 2 ^ 32 - s.bw.sources[j].lastSeq) % 2 ^ 32 ∧ (rd b 4 4 + 2 ^ 32 - s.bw.sources[j].lastSeq) % 2 ^ 32 ≤ 2 ^ 31) ∧
    (∃ (s : State) (b : List Byte) (j : Fin 4), s.bw.token.isSome = true ∧ s.bw.sourceOf b = some j ∧
       (rd b 4 4 + 2 ^ 32 - s.bw.sources[j].lastSeq) % 2 ^ 32 = 0 ∨ 2 ^ 31 < (rd b 4 4 + 2 ^ 32 - s.bw.sources[j].lastSeq) % 2 ^ 32) ∧
    (∃ (s : State) (net : Net) (b : List Byte) (j : Fin 4) (c : MsgCopy), s.bw.token.isSome = true ∧ s.bw.sourceOf b = some j ∧
       s.bw.sources[j].pending = some c ∧ c.net ≠ net ∧ c.seq = rd b 4 4 ∧ c.bytes = b ∧ s.clk.now - c.at_ ≤ msTicks 10 ∧
       0 < (rd b 4 4 + 2 ^ 32 - s.bw.sources[j].lastSeq) % 2 ^ 32 ∧ (rd b 4 4 + 2 ^ 32 - s.bw.sources[j].lastSeq) % 2 ^ 32 ≤ 2 ^ 31 ∧ bit (by8 b 8) 0 = true) ∧
    (∃ (s : State) (net : Net) (b : List Byte) (j : Fin 4) (c : MsgCopy), s.bw.token.isSome = true ∧ s.bw.sourceOf b = some j ∧
       s.bw.sources[j].pending = some c ∧ c.net ≠ net ∧ c.seq = rd b 4 4 ∧ (c.bytes ≠ b ∨ msTicks 10 < s.clk.now - c.at_) ∧
       0 < (rd b 4 4 + 2 ^ 32 - s.bw.sources[j].lastSeq) % 2 ^ 32 ∧ (rd b 4 4 + 2 ^ 32 - s.bw.sources[j].lastSeq) % 2 ^ 32 ≤ 2 ^ 31) ∧
    (∃ (s : State) (j : Fin 4) (c : MsgCopy), s.bw.sources[j].pending = some c ∧ c.at_ + msTicks 10 < s.clk.now) ∧
    (∃ (s : State) (j : Fin 4) (c : MsgCopy), s.bw.sources[j].pending = some c ∧ s.clk.now ≤ c.at_ + msTicks 10) ∧
    (∃ (s : State) (j : Fin 4), s.bw.par (P_SM_RX_ID j) ≠ 0 ∧ s.bw.sources[j].timedOut = false ∧
       s.bw.sources[j].lastAt + msTicks (s.bw.par (P_SM_RX_TIMEOUT j)) ≤ s.clk.now) ∧
    (∃ (s : State), s.bw.par P_SM_OWN_ID ≠ 0 ∧ s.bw.token.isSome = true ∧ s.bw.txAt + msTicks (s.bw.par P_SM_TX_PERIOD) ≤ s.clk.now) ∧
    (∃ (s : State), s.clk.now < s.bw.txAt + msTicks (s.bw.par P_SM_TX_PERIOD)) ∧
    (∃ (s : State), s.bw.token = none) :=
  ⟨⟨up .idle, [], by decide +kernel⟩,
   ⟨source {}, aMessage, 3, by decide +kernel⟩,
   ⟨source { lastSeq := 1 }, aMessage, 3, by decide +kernel⟩,
   ⟨source { pending := some ⟨1, 1, aMessage, 0⟩ }, 0, aMessage, 3, ⟨1, 1, aMessage, 0⟩, by decide +kernel⟩,
   ⟨source { pending := some ⟨1, 1, [], 0⟩ }, 0, aMessage, 3, ⟨1, 1, [], 0⟩, by decide +kernel⟩,
   ⟨later (msTicks 10 + 1) (source { pending := some ⟨1, 1, [], 0⟩ }), 3, ⟨1, 1, [], 0⟩, by decide +kernel⟩,
   ⟨later (msTicks 10) (source { pending := some ⟨1, 1, [], 0⟩ }), 3, ⟨1, 1, [], 0⟩, by decide +kernel⟩,
   ⟨later (10 ^ 15) (source {}), 3, by decide +kernel⟩,
   ⟨later (10 ^ 15) (bwPar [(P_SM_OWN_ID, 1)]), by decide +kernel⟩,
   ⟨bwPar [(P_SM_OWN_ID, 1)], by decide +kernel⟩,
   ⟨(up .idle).modBw (fun b => { b with token := none }), by decide +kernel⟩⟩

theorem witness_BusStepCompletes :
    (∃ (s : State), s.awake = true ∧ s.act.engine.run = true ∧ s.act.host.awaiting = []) ∧
    (∃ (s : State), (s.awake = false ∨ s.act.engine.run = false)) ∧
    (∃ (s : State), (s.par P_CLOCK_TRIM - s.clocks.trim).natAbs ≤ 20000) :=
  ⟨⟨up .forming, by decide +kernel⟩,
   ⟨up .boot, by decide +kernel⟩,
   ⟨upWith [(P_CLOCK_TRIM, 20000)] .idle, by decide +kernel⟩⟩

theorem witness_RideEventsComplete :
    (∃ (s : State), heldFor s.clk.now (msTicks (s.lawN P_FAULT_CLEAR_T)) s.firm.ride.voltIn = true ∧ s.firm.ride.fault = true) ∧
    (∃ (s : State) (p : Port), s.firm.ride.voltIn = none ∧ heldFor s.clk.now 0 (s.firm.ride.realign.map (·.2.2)) = false ∧ (s.fbClosed p 0 = false ∨
       s.fbClosed p 1 = false ∨ (s.lawN (PP_V_DC_MIN p) : Rat) ≤ s.vdcVolts p ∨ s.firm.shares[p].lowFrom = none) ∧
       (ratAbs (s.idcAmps p) ≤ s.dcLimit p * (1 + (s.lawN (PP_BMS_MARGIN p) : Rat) / 100) ∨ s.firm.shares[p].overFrom = none)) ∧
    (∃ (s : State) (t : Nat), s.firm.ride.voltIn = some t ∧ s.clk.now < t + msTicks (s.lawN P_FAULT_CLEAR_T)) ∧
    (∃ (s : State), heldFor s.clk.now 0 (s.firm.ride.realign.map (·.2.2)) = true) ∧
    (∃ (s : State) (p : Port) (q : Port), s.awake = true ∧ s.fbClosed p 0 = true ∧ s.fbClosed p 1 = true ∧ s.vdcVolts p < s.lawN (PP_V_DC_MIN p) ∧
       heldFor s.clk.now (msTicks 10) s.firm.shares[p].lowFrom = true ∧ q ≠ p) ∧
    (∃ (s : State) (p : Port) (q : Port), s.awake = true ∧ s.partakes p = true ∧
       s.dcLimit p * (1 + (s.lawN (PP_BMS_MARGIN p) : Rat) / 100) < ratAbs (s.idcAmps p) ∧
       heldFor s.clk.now (msTicks (s.lawN (PP_BMS_OVER_T p))) s.firm.shares[p].overFrom = true ∧ q ≠ p) :=
  ⟨⟨later (10 ^ 12) ((up .forming).modRide fun r => { r with voltIn := some 0, fault := true }), by decide +kernel⟩,
   ⟨up .forming, 0, by decide +kernel⟩,
   ⟨(up .forming).modRide fun r => { r with voltIn := some 0 }, 0, by decide +kernel⟩,
   ⟨(up .forming).modRide fun r => { r with realign := some (0, 0, 0) }, by decide +kernel⟩,
   ⟨later (msTicks 10) ((contactorsOn { vdc := 0 } .releasing).modShare 0 fun x => { x with lowFrom := some 0 }), 0, 11, by decide +kernel⟩,
   ⟨later (10 ^ 12) ((contactorsOn { idc := 100000 } .admitted).modShare 0 fun x => { x with overFrom := some 0 }), 0, 11, by decide +kernel⟩⟩

theorem witness_BlackStartSyncComplete :
    (∃ (s : State), s.firm.seq.bsPending = true ∧ s.firm.seq.bsFrom + msTicks (s.lawN P_BS_DEAD_T) ≤ s.clk.now) ∧
    (∃ (s : State), s.clk.now < s.firm.seq.bsFrom + msTicks (s.lawN P_BS_DEAD_T) ∧ s.clk.now < s.firm.seq.armedAt + msTicks (1000 * s.lawN P_SYNC_TIMEOUT)) ∧
    (∃ (s : State) (g : Nat) (n : Nat), s.firm.seq.bsPending = true ∧ s.firm.seq.bsAnchored = false ∧ s.firm.seq.bsGate = some g ∧
       s.firm.seq.bsPassed = true ∧ s.act.ptp.valid = true ∧
       (roundUpHalf (((g * 2 ^ 32 : Int) - s.act.ptp.clock : Int) / ((10737418240 + s.act.ptp.adj : Int) : Rat))).toNat = n ∧ 800 ≤ n ∧ n < 2 ^ 31) ∧
    (∃ (s : State) (g : Nat), s.firm.seq.bsPending = true ∧ s.firm.seq.bsAnchored = false ∧ s.firm.seq.bsGate = some g ∧ (s.firm.seq.bsPassed = false ∨
       s.act.ptp.valid = false)) ∧
    (∃ (s : State) (p : Port), s.firm.seq.bsPending = true ∧ s.dev = .ready ∧ s.bsEnableDue = true ∧ s.firm.seq.bsPassed = true ∧
       (s.firm.seq.bsGate = none ∨ s.firm.seq.bsAnchored = true) ∧ (s.life p).admitted = true ∧ (s.life p).trips = []) ∧
    (∃ (s : State) (g : Nat), s.firm.seq.bsPending = true ∧ s.dev = .ready ∧ s.bsEnableDue = true ∧ s.firm.seq.bsGate = some g ∧
       (s.firm.seq.bsPassed = false ∨ s.firm.seq.bsAnchored = false)) ∧
    (∃ (s : State), s.bsEnableDue = false) ∧
    (∃ (s : State), s.dev = .forming ∧ s.firm.sub = .blackStart ∧ s.firm.seq.ramp = .bsUp ∧ heldFor s.clk.now (msTicks 100) s.firm.seq.holdSince = true) ∧
    (∃ (s : State), s.dev = .forming ∧ s.firm.sub = .blackStart ∧ s.firm.seq.ramp = .bsUp ∧
       s.firm.seq.bsEnableAt + 3 * msTicks (s.lawN P_BS_RAMP_T) ≤ s.clk.now) ∧
    (∃ (s : State), s.clk.now < s.firm.seq.bsEnableAt + 3 * msTicks (s.lawN P_BS_RAMP_T)) ∧
    (∃ (s : State), s.firm.seq.armed = true ∧ s.firm.seq.closeAt = none ∧ s.firm.seq.armedAt + msTicks (1000 * s.lawN P_SYNC_TIMEOUT) ≤ s.clk.now) ∧
    (∃ (s : State), s.dev = .sync ∧ heldFor s.clk.now (msTicks (s.lawN P_BRK_FB_TIMEOUT)) s.firm.seq.closeAt = true) ∧
    (∃ (s : State), s.dev = .sync ∧ heldFor s.clk.now (msTicks 100) s.firm.seq.gridLow = true ∧ s.firm.seq.ramp = .none) ∧
    (∃ (s : State), s.firm.seq.ramp.falling = true ∧ s.dev.runs = true ∧ s.firm.seq.rampAt + msTicks (s.lawN P_STOP_RAMP_T) ≤ s.clk.now) ∧
    (∃ (s : State), s.firm.seq.ramp.falling = true ∧ s.dev.runs = true ∧ s.firm.seq.rampAt + msTicks (s.lawN P_STOP_RAMP_T) ≤ s.clk.now ∧
       s.firm.seq.ramp = .stopParallel) ∧
    (∃ (s : State), (s.firm.seq.ramp.falling = false ∨ s.dev.runs = false ∨ s.clk.now < s.firm.seq.rampAt + msTicks (s.lawN P_STOP_RAMP_T))) :=
  ⟨⟨later (10 ^ 12) (seqOn .ready { bsPending := true }), by decide +kernel⟩,
   ⟨up .idle, by decide +kernel⟩,
   ⟨(seqOn .ready { bsPending := true, bsGate := some 2000, bsPassed := true }).modPtp fun p => { p with state := .locked }, 2000, 800, by decide +kernel⟩,
   ⟨seqOn .ready { bsPending := true, bsGate := some 7 }, 7, by decide +kernel⟩,
   ⟨withLife { life := .admitted } ((seqOn .ready { bsPending := true, bsPassed := true }).modShoal 0 fun h => { h with accPrev := 2 ^ 48 - 1 }), 0,
     by decide +kernel⟩,
   ⟨seqOn .ready { bsPending := true, bsGate := some 0 }, 0, by decide +kernel⟩,
   ⟨up .ready, by decide +kernel⟩,
   ⟨later (msTicks 100) ((seqOn .forming { ramp := .bsUp, holdSince := some 0 }).modFirm fun m => { m with sub := .blackStart }), by decide +kernel⟩,
   ⟨later (10 ^ 15) ((seqOn .forming { ramp := .bsUp }).modFirm fun m => { m with sub := .blackStart }), by decide +kernel⟩,
   ⟨up .forming, by decide +kernel⟩,
   ⟨later (10 ^ 15) (seqOn .sync { armed := true }), by decide +kernel⟩,
   ⟨later (10 ^ 15) (seqOn .sync { armed := true, closeAt := some 0 }), by decide +kernel⟩,
   ⟨later (msTicks 100) (seqOn .sync { gridLow := some 0 }), by decide +kernel⟩,
   ⟨later (10 ^ 15) (seqOn .forming { ramp := .gridLost }), by decide +kernel⟩,
   ⟨later (10 ^ 15) (seqOn .forming { ramp := .stopParallel }), by decide +kernel⟩,
   ⟨seqOn .forming {}, by decide +kernel⟩⟩

theorem witness_CaptureEventsComplete :
    (∃ (s : State) (f : CapFire), s.act.cap.due = some f) ∧
    (∃ (s : State), s.capInstant = true ∧ s.act.cap.due = none ∧ s.act.cap.ended = false ∧ s.act.cap.state = .triggered) ∧
    (∃ (s : State), s.capInstant = true ∧ s.act.cap.due = none ∧ s.act.cap.ended = false ∧ s.act.cap.state = .armed ∧ s.act.cap.hit s.capSet = none ∧
       s.act.cap.sets.length ≤ s.act.cap.cfg.pre) ∧
    (∃ (s : State) (f : CapFire), s.capInstant = true ∧ s.act.cap.due = none ∧ s.act.cap.ended = false ∧ s.act.cap.state = .armed ∧
       s.act.cap.hit s.capSet = some f) ∧
    (∃ (s : State) (m : Fin 4), s.capInstant = false ∧ s.act.cap.violates m = false ∧ (s.act.cap.ended = false ∨ s.act.cap.state ≠ .triggered)) ∧
    (∃ (s : State) (m : Fin 4) (k : CapMask), s.act.cap.masks[m] = some k ∧ s.act.cap.violates m = true) ∧
    (∃ (s : State), s.act.cap.state = .triggered ∧ s.act.cap.ended = true) ∧
    (∃ (s : State), s.act.cap.state = .done ∧ s.act.cap.cfg.mode = 1 ∧ s.act.cap.doneAt + usTicks (max s.act.cap.cfg.holdoff 1000) ≤ s.clk.now) ∧
    (∃ (s : State) (d : CapStream), s.act.cap.state = .streaming ∧ s.act.cap.stream = some d ∧ s.act.cap.ended = false ∧
       360 / max 1 s.act.cap.streamed.length ≤ s.act.cap.fifo.length) ∧
    (∃ (s : State) (d : CapStream) (k : CapSet), s.act.cap.state = .streaming ∧ s.act.cap.stream = some d ∧ s.act.cap.ended = false ∧
       s.act.cap.fifo.head? = some k ∧ s.ptpNow < k.ptp + 1000000 ∧ s.act.cap.fifo.length < 360 / max 1 s.act.cap.streamed.length) ∧
    (∃ (s : State), s.act.trace.state = .armed ∧ s.act.trace.trig ≠ 0 ∧ s.act.trace.hit = true) :=
  ⟨⟨capOn { due := some ⟨0, false, false⟩ }, ⟨0, false, false⟩, by decide +kernel⟩,
   ⟨later 400 (capOn { state := .triggered }), by decide +kernel⟩,
   ⟨later 400 (capOn { state := .armed }), by decide +kernel⟩,
   ⟨later 400 (capOn { state := .armed, fire := some ⟨0, true, false⟩, evalFrom := some 0 }), ⟨0, true, false⟩, by decide +kernel⟩,
   ⟨up .idle, 0, by decide +kernel⟩,
   ⟨capOn { state := .triggered, cfg := { sel := 0x80000000 :: List.replicate 31 0 }, masks := Vector.replicate 4 (some ⟨0, true, true, [(0, 0), (1000, 0)]⟩), sets := [⟨[⟨true, 10⟩], 0, 0⟩] },
     3, ⟨0, true, true, [(0, 0), (1000, 0)]⟩, by decide +kernel⟩,
   ⟨capOn { state := .triggered, ended := true }, by decide +kernel⟩,
   ⟨later (10 ^ 9) (capOn { state := .done, cfg := { mode := 1 } }), by decide +kernel⟩,
   ⟨capOn { state := .streaming, stream := some ⟨3, 5, 1, 2, 1⟩, fifo := List.replicate 360 ⟨[], 0, 0⟩ }, ⟨3, 5, 1, 2, 1⟩, by decide +kernel⟩,
   ⟨capOn { state := .streaming, stream := some ⟨3, 5, 1, 2, 1⟩, fifo := [⟨[], 0, 0⟩] }, ⟨3, 5, 1, 2, 1⟩, ⟨[], 0, 0⟩, by decide +kernel⟩,
   ⟨(up .idle).modTrace fun t => { t with state := .armed, trig := 1, hit := true }, by decide +kernel⟩⟩

theorem witness_MirrorComplete :
    (∃ (s : State), s.awake = true ∧ s.active = true ∧ s.act.pair.alive = true ∧ s.act.pair.slot = 0 ∧ s.hl[s.peer].pair.role.listens = true ∧
       s.hl[s.peer].pair.slotGot = false ∧ s.hl[s.peer].pair.missRun = 0) ∧
    (∃ (s : State) (f : MirrorFrame) (m : _), s.mirror = some f ∧ s.hl[s.peer].pair.role.listens = true ∧ (s.hl[s.peer].pair.lastSeq = none ∨ (∃ q,
       s.hl[s.peer].pair.lastSeq = some q ∧ f.seq = (q + 1) % 2 ^ 32)) ∧ f.firm = some m) ∧
    (∃ (s : State) (f : MirrorFrame), s.mirror = some f ∧ s.hl[s.peer].pair.role.listens = true ∧ (s.hl[s.peer].pair.lastSeq = none ∨ (∃ q,
       s.hl[s.peer].pair.lastSeq = some q ∧ f.seq = (q + 1) % 2 ^ 32)) ∧ f.firm = none) ∧
    (∃ (s : State) (a : MirrorAckFrame), s.ack = some a ∧ s.active = true ∧ s.act.pair.launched.contains a.seq = true) ∧
    (∃ (s : State), s.awake = true ∧ s.hl[s.peer].pair.role.listens = true ∧ s.hl[s.peer].pair.slotGot = true) ∧
    (∃ (s : State), s.awake = true ∧ s.hl[s.peer].pair.role.listens = true ∧ s.hl[s.peer].pair.slotGot = false ∧ s.hl[s.peer].pair.missRun = 1 ∧
       s.hl[s.peer].pair.eligible = true) ∧
    (∃ (s : State), s.awake = true ∧ s.hl[s.peer].pair.role.listens = true ∧ s.hl[s.peer].pair.slotGot = false ∧ s.hl[s.peer].pair.missRun = 1 ∧
       s.hl[s.peer].pair.eligible = false) :=
  ⟨⟨up .idle, by decide +kernel⟩,
   ⟨mirroring (some {}), aMirror (some {}), {}, rfl, by decide +kernel, Or.inl (by decide +kernel), rfl⟩,
   ⟨mirroring none, aMirror none, rfl, by decide +kernel, Or.inl (by decide +kernel), rfl⟩,
   ⟨{ (up .idle).modPair 0 (fun p => { p with launched := [7] }) with ack := some anAck }, anAck, by decide +kernel⟩,
   ⟨(up .idle).modPair 1 fun p => { p with slotGot := true }, by decide +kernel⟩,
   ⟨(up .idle).modPair 1 fun p => { p with missRun := 1, ineligSelftest := false, ineligResync := false }, by decide +kernel⟩,
   ⟨(up .idle).modPair 1 fun p => { p with missRun := 1 }, by decide +kernel⟩⟩

theorem witness_TakeoverCompletes :
    (∃ (s : State) (h : Hd) (g : Hd), g ≠ h ∧ s.dev ≠ .standby ∧ s.bootHeld = false ∧ s.hl[h].pair.claim = true ∧ s.hl[g].pair.claim = false ∧
       s.bw.token = none) ∧
    (∃ (s : State) (h : Hd) (g : Hd), g ≠ h ∧ s.dev ≠ .standby ∧ s.bootHeld = false ∧ s.hl[h].pair.claim = true ∧ s.hl[g].pair.claim = true ∧
       s.bw.token = none) ∧
    (∃ (s : State) (h : Hd) (g : Hd), g ≠ h ∧ s.dev ≠ .standby ∧ s.dev ≠ .boot ∧ s.hl[h].pair.claim = true ∧ s.bw.token = some g ∧
       s.hl[g].pair.alive = false) ∧
    (∃ (s : State) (h : Hd) (g : Hd), g ≠ h ∧ s.dev ≠ .standby ∧ s.hl[h].pair.claim = true ∧ s.bw.token = some g ∧ s.hl[g].pair.alive = true ∧
       s.active = true ∧ s.hl[s.peer].pair.claim = true) ∧
    (∃ (s : State) (h : Hd) (g : Hd) (c : _), g ≠ h ∧ (s.hl[h].pair.claim = false ∨ s.bootHeld = true ∧ s.bw.token = none) ∧
       (s.act.pair.tookShoals.all id = false ∨ s.act.pair.tookShore = false ∨ s.act.pair.tookBw = false) ∧ s.carrierWraps 0 = false ∧ c ∈ [FailCause.watchdog,
       FailCause.ecc] ∧ s.active = true ∧ s.act.pair.peerEligible = true) ∧
    (∃ (s : State) (h : Hd) (g : Hd) (c : Nat), g ≠ h ∧ s.bw.token.isSome = true ∧ s.act.pair.role.listens = true ∧ s.act.pair.claimCause = c ∧ (c = 1 ∨
       c = 2) ∧ s.act.pair.tookShoals.all id = true ∧ s.act.pair.tookShore = true ∧ s.act.pair.tookBw = true ∧ s.hl[s.peer].pair.role = .active) ∧
    (∃ (s : State) (h : Hd) (g : Hd), g ≠ h ∧ s.awake = true ∧ s.bw.token.isSome = true ∧ s.hl[s.peer].pair.role.listens = true ∧
       s.hl[s.peer].pair.eligible = false ∧ s.hl[s.peer].pair.missRun = 2 ∧ s.bw.hlLost = true ∧ s.bw.hlLostAt + msTicks 2 ≤ s.clk.now ∧
       s.act.pair.alive = false) ∧
    (∃ (s : State) (h : Hd) (g : Hd), g ≠ h ∧ s.active = true ∧ s.act.pair.handover = true ∧ s.act.pair.alive = true ∧ s.carrierWraps 0 = true) ∧
    (∃ (s : State) (h : Hd) (g : Hd), g ≠ h ∧ s.act.pair.peerEligible = false) :=
  ⟨⟨{ (up .forming).modPair 1 (fun p => { p with claim := true }) with bw := { started := true } }, 1, 0, by decide +kernel⟩,
   ⟨{ ((up .forming).modPair 1 fun p => { p with claim := true }).modPair 0 (fun p => { p with claim := true }) with bw := { started := true } }, 1, 0,
     by decide +kernel⟩,
   ⟨((up .forming).modPair 1 fun p => { p with claim := true }).modPair 0 fun p => { p with alive := false }, 1, 0, by decide +kernel⟩,
   ⟨(up .forming).modPair 1 fun p => { p with claim := true }, 1, 0, by decide +kernel⟩,
   ⟨up .forming, 1, 0, .watchdog, by decide +kernel⟩,
   ⟨(tokenMoved 1).modPair 0 fun p => { p with tookShoals := Vector.replicate 4 true, tookShore := true, tookBw := true }, 1, 0, 1, by decide +kernel⟩,
   ⟨later (msTicks 2) ((((up .forming).modPair 0 fun p => { p with alive := false }).modPair 1 fun p => { p with missRun := 2 }).modBw fun b => { b with hlLost := true }),
     1, 0, by decide +kernel⟩,
   ⟨((up .forming).modPair 0 fun p => { p with handover := true }).modShoal 0 fun h => { h with accPrev := 2 ^ 48 - 1 }, 1, 0, by decide +kernel⟩,
   ⟨(up .forming).modPair 0 fun p => { p with peerEligible := false }, 1, 0, by decide +kernel⟩⟩

theorem witness_ResyncCompletes :
    (∃ (s : State) (b : Headland), s.hl[s.peer] = b ∧ s.awake = true ∧ b.pair.role = .resync ∧ b.pair.lastSeq.isSome = true ∧
       b.pair.hashSelf = b.pair.hashPeer ∧ b.safetyCrc = b.pair.safetyPeer) ∧
    (∃ (s : State) (b : Headland), s.hl[s.peer] = b ∧ (b.pair.hashSelf ≠ b.pair.hashPeer ∨ b.safetyCrc ≠ b.pair.safetyPeer)) ∧
    (∃ (s : State) (b : Headland), s.hl[s.peer] = b ∧ s.awake = true ∧ b.pair.role = .resync ∧ b.matched = false ∧ s.act.pair.transfer = true ∧
       b.pair.resyncAt + msTicks 2000 ≤ s.clk.now) ∧
    (∃ (s : State) (b : Headland), s.hl[s.peer] = b ∧ s.clk.now < b.pair.resyncAt + msTicks 2000) ∧
    (∃ (s : State) (b : Headland), s.hl[s.peer] = b ∧ s.awake = true ∧ s.active = true ∧ b.pair.role = .resync ∧ b.pair.resyncAt + msTicks 10000 ≤ s.clk.now) ∧
    (∃ (s : State) (b : Headland), s.hl[s.peer] = b ∧ (∀ w ∈ s.act.host.awaiting, w.acked = true ∨ s.clk.now < w.since + msTicks 10)) ∧
    (∃ (s : State) (b : Headland) (w : AwaitAck), s.hl[s.peer] = b ∧ s.act.host.awaiting = [w] ∧ w.acked = false ∧ w.item.op ≠ 0x28 ∧
       w.since + msTicks 10 ≤ s.clk.now ∧ b.pair.role = .standby) :=
  ⟨⟨peerIs { role := .resync, lastSeq := some 0, safetyPeer := safetyCrcOf [] },
     { (up .idle).hl[1] with pair := { role := .resync, lastSeq := some 0, safetyPeer := safetyCrcOf [] } }, rfl, rfl, rfl, rfl, rfl, rfl⟩,
   ⟨peerIs { role := .resync, hashPeer := 1 }, { (up .idle).hl[1] with pair := { role := .resync, hashPeer := 1 } }, by decide +kernel⟩,
   ⟨later (msTicks 2000) resyncing, resyncing.hl[(1 : Hd)], by decide +kernel⟩,
   ⟨resyncing, resyncing.hl[(1 : Hd)], by decide +kernel⟩,
   ⟨later (msTicks 10000) resyncing, resyncing.hl[(1 : Hd)], by decide +kernel⟩,
   ⟨up .idle, (up .idle).hl[1], by decide +kernel⟩,
   ⟨later (msTicks 10) ((up .idle).modHost fun h => { h with awaiting := [aWait] }), (up .idle).hl[1], aWait, by decide +kernel⟩⟩

theorem witness_ClocksCheckUnitsComplete :
    (∃ (s : State) (k : Shoal) (p : Port) (d : ClockDie) (e : Int), s.clocks.shoal[k].state = .locked ∧ shoalOf p ≠ k ∧ (s.dev = .standby ∨
       (s.clocks.get d).state ≠ .acquiring ∨ s.par P_PLL_LOCK_WIN < e.natAbs)) ∧
    (∃ (s : State) (d : ClockDie) (u : Fin 8) (bytes : List Byte) (c : CrcUnit), (s.clocks.get d).state ≠ .locked ∧ s.dev ≠ .standby ∧
       s.clocks.refLost = false ∧ s.clk.now < s.clocks.refLostAt + 16384 ∧ s.act.crc[u] = c ∧ c.snooped bytes = none ∧ c.snoop ≠ 6) ∧
    (∃ (s : State), s.clocks.hd[s.hd].state = .locked ∧ s.act.pair.peerEligible = false) ∧
    (∃ (s : State), s.clocks.hd[s.hd].state = .locked ∧ s.act.pair.peerEligible = true ∧ s.clocks.hd[s.peer].state = .locked) ∧
    (∃ (s : State), (s.dev = .standby ∨ s.clocks.refLost = true)) ∧
    (∃ (s : State), s.clocks.refLost = true ∧ s.clocks.refLostAt + 16384 ≤ s.clk.now) ∧
    (∃ (s : State) (k : Shoal) (e : Int), s.dev ≠ .standby ∧ s.clocks.shoal[k].state = .acquiring ∧ (e.natAbs : Int) ≤ s.par P_PLL_LOCK_WIN ∧
       s.clocks.shoal[k].acqAt + 16 * s.parN P_PLL_LOCK_CYCLES ≤ s.clk.now) ∧
    (∃ (s : State) (u : Fin 8) (bytes : List Byte) (c : CrcUnit) (v : CrcUnit) (x : List Byte × Nat) (w : Fin 8), s.act.crc[u] = c ∧
       c.snooped bytes = some x ∧ { c with reg := c.init }.feed x.1 = v ∧ w ≠ u) ∧
    (∃ (s : State) (u : Fin 8) (bytes : List Byte) (c : CrcUnit) (v : CrcUnit), s.act.crc[u] = c ∧ c.snoop = 6 ∧
       { c with reg := c.init }.feed ((if bit c.flags 2 then le 4 c.arg else []) ++ bytes) = v) :=
  ⟨⟨locked .idle, 0, 11, .headland 1, -5, by decide +kernel⟩,
   ⟨up .idle, .shoal 3, 7, [], {}, by decide +kernel⟩,
   ⟨(locked .forming).modPair 0 fun p => { p with peerEligible := false }, by decide +kernel⟩,
   ⟨locked .forming, by decide +kernel⟩,
   ⟨up .standby, by decide +kernel⟩,
   ⟨later 16384 ((up .idle).modClocks fun c => { c with refLost := true }), by decide +kernel⟩,
   ⟨later (10 ^ 12) (up .idle), 3, 0, by decide +kernel⟩,
   ⟨snooping { snoop := 4, frames := 1 }, 7, zeros 8, { snoop := 4, frames := 1 },
     { ({ snoop := 4, frames := 1 } : CrcUnit) with reg := crcRun 32 0x04C11DB7 true 0xFFFFFFFF (zeros 4), result := crc32 (zeros 4) }, (zeros 4, 0), 0,
     by decide +kernel⟩,
   ⟨snooping { snoop := 6 }, 7, [0x31], { snoop := 6 },
     { ({ snoop := 6 } : CrcUnit) with reg := crcRun 32 0x04C11DB7 true 0xFFFFFFFF [0x31], result := crc32 [0x31] }, by decide +kernel⟩⟩

theorem witness_StartUpCompletes :
    (∃ (n : Nat), (maybeBelow n 550 || maybeAbove n 4200) = false) ∧
    (∃ (s : State) (n : Nat), s.dev ≠ .standby ∧ (maybeBelow n 550 || maybeAbove n 4200) = true ∧ (s.dev ≠ .boot ∨ s.bw.token ≠ none)) ∧
    (∃ (s : State) (n : Nat), s.dev = .standby ∧ (maybeBelow n 550 || maybeAbove n 4200) = true ∧ s.lookout.waking = false ∧ (s.dev ≠ .boot ∨
       s.bootHeld = true)) ∧
    (∃ (s : State) (n : Nat) (cause : PowerCause), s.dev = .standby ∧ (cause = .vsupRise ∧ 590 < n ∧ n ≤ 4200) ∨ (cause = .overvoltageEnd ∧
       s.heart.lockedOut = true ∧ 590 < n ∧ n < 4100)) ∧
    (∃ (s : State), s.dev = .standby ∧ s.lookout.waking = true ∧ s.heart.lockedOut = false) ∧
    (∃ (n : Nat), n ≤ 590) ∧
    (∃ (s : State) (h : Hd), s.dev = .boot ∧ s.heart.resetN = false ∧ s.bw.token = none ∧ s.hl[h].pair.role = .boot ∧ s.hl[h].pair.selfFails < 2 ∧
       s.hl[h].pair.ineligSelftest = true) ∧
    (∃ (s : State) (h : Hd), 2 ≤ s.hl[h].pair.selfFails) ∧
    (∃ (s : State), s.dev = .boot ∧ s.bw.token = none ∧ s.heart.resetN = false ∧ s.bootAt + msTicks 1000 ≤ s.clk.now) ∧
    (∃ (s : State), s.dev = .boot ∧ s.bootHeld = false ∧ s.active = true ∧ s.bw.started = true ∧ s.heart.resetN = false ∧
       (s.bootAt + msTicks 1000 ≤ s.clk.now ∨ (∀ l : Link, s.sk[l].good = true → 16 ≤ s.ul[l].good)) ∧ 2 ≤ s.resetKind) ∧
    (∃ (s : State), s.dev = .boot ∧ s.bootHeld = false ∧ s.active = true ∧ s.bw.started = true ∧ s.heart.resetN = false ∧
       (s.bootAt + msTicks 1000 ≤ s.clk.now ∨ (∀ l : Link, s.sk[l].good = true → 16 ≤ s.ul[l].good)) ∧ s.resetKind < 2 ∧ s.bw.par P_START_LOCKED = 1) ∧
    (∃ (s : State), s.dev = .boot ∧ s.bootHeld = false ∧ s.active = true ∧ s.bw.started = true ∧ s.heart.resetN = false ∧
       (s.bootAt + msTicks 1000 ≤ s.clk.now ∨ (∀ l : Link, s.sk[l].good = true → 16 ≤ s.ul[l].good)) ∧ s.resetKind < 2 ∧ s.bw.par P_START_LOCKED ≠ 1 ∧
       s.bw.demanded = false) ∧
    (∃ (s : State), s.dev = .boot ∧ s.bootHeld = false ∧ s.active = true ∧ s.bw.started = true ∧ s.heart.resetN = false ∧
       (s.bootAt + msTicks 1000 ≤ s.clk.now ∨ (∀ l : Link, s.sk[l].good = true → 16 ≤ s.ul[l].good))) ∧
    (∃ (s : State) (l : Link), s.clk.now < s.bootAt + msTicks 1000 ∧ s.sk[l].good = true ∧ s.ul[l].good < 16) :=
  ⟨⟨1000, by decide +kernel⟩,
   ⟨up .idle, 0, by decide +kernel⟩,
   ⟨up .standby, 0, by decide +kernel⟩,
   ⟨up .standby, 4200, .vsupRise, by decide +kernel⟩,
   ⟨(up .standby).modLookout fun l => { l with waking := true }, by decide +kernel⟩,
   ⟨590, by decide +kernel⟩,
   ⟨State.reset, 1, by decide +kernel⟩,
   ⟨(up .boot).modPair 1 fun p => { p with selfFails := 2 }, 1, by decide +kernel⟩,
   ⟨later (msTicks 1000) State.reset, by decide +kernel⟩,
   ⟨{ up .boot with resetKind := 2 }, by decide +kernel⟩,
   ⟨(up .boot).modBw fun b => { b with params := [(P_START_LOCKED, 1)] }, by decide +kernel⟩,
   ⟨(up .boot).modBw fun b => { b with params := [(P_START_LOCKED, 0)] }, by decide +kernel⟩,
   ⟨up .boot, by decide +kernel⟩,
   ⟨withSk { good := true } (up .boot), 0, by decide +kernel⟩⟩

theorem witness_GatesStayApart :
    ∃ (s : State) (t : State), s.gatesFit = true ∧ Steps s t :=
  ⟨State.reset, State.reset.tick.beginCycle, by decide +kernel, rfl⟩

theorem witness_IdleTick :
    (∃ (s : State) (t : State), s.pending = [] ∧ Steps s t ∧ s.dev = .standby) ∧
    (∃ (s : State) (t : State), s.pending = [] ∧ Steps s t ∧ s.awake = true) ∧
    (∃ (s : State) (t : State), s.pending = [] ∧ Steps s t ∧ s.awake = true) :=
  ⟨⟨up .standby, (up .standby).tick.beginCycle, rfl, rfl, rfl⟩,
   ⟨up .idle, (up .idle).tick.beginCycle, rfl, rfl, rfl⟩,
   ⟨up .idle, (up .idle).tick.beginCycle, rfl, rfl, rfl⟩⟩

theorem witness_EnergyOnlyGrows :
    ∃ (s : State) (t : State), s.meter.keepsEnergy ∧ Steps s t :=
  ⟨State.reset, State.reset.tick.beginCycle, fun _ _ => ⟨rfl, rfl⟩, rfl⟩

theorem witness_LockoutHolds :
    ∃ (c : Instr) (s : State) (t : State), exec c s = .next t ∧ s.bw.lockout = true ∧ t.bw.lockout = false :=
  ⟨.resetRelease, later (msTicks 300) (pressed .lockout), after .resetRelease (later (msTicks 300) (pressed .lockout)), rfl, rfl, by decide +kernel⟩


/-! ### Worked examples of the spec -/

/-- Table 2.1. -/
theorem test_inc_values : incOf 45 = 31665935 ∧ incOf (498 / 10) = 35043635 ∧ incOf 50 = 35184372 ∧ incOf 55 = 38702809 ∧
    incOf 54 = 37999122 ∧ incOf 60 = 42221247 ∧ incOf 66 = 46443371 := by decide +kernel
/-- R49 with the bounds of Table 2.1. -/
theorem test_inc_clamp : (up .idle).clampInc 0 = 31665935 ∧ (up .idle).clampInc (2 ^ 32 - 1) = 38702809 ∧
    (upWith [(P_F_NOM, 60)] .idle).clampInc 0 = 37999122 := by decide +kernel
/-- The numbering example of 00_scope.md: leg 29 is phase b of port 7, in region 2. -/
theorem test_leg_number : legNo 7 1 = 29 ∧ (shoalOf 7).val = 2 := by decide
/-- The default offset of port 5 (the interleave example of 02_angle_time.md). -/
theorem test_carrier_offset : ParamStore.get [] (PP_CARRIER_OFFSET 5) = 27307 := by decide +kernel
/-- One period of leg 16, Table 6.2. -/
theorem test_period : predictedPeriod 400 35184372 = 1280000 ∧ commandedHigh 0xC123 1280000 = 965684 ∧ (1280000 - 965684) / 2 = 157158 ∧
    157158 = 2455 * 64 + 38 ∧ 157158 + 965684 = 17544 * 64 + 26 := by decide +kernel
/-- The minimum pulse and the carry of leg 8, Table 6.3. -/
theorem test_minimum_pulse : commandedHigh 0x0AC0 256000 = 10750 ∧ minimumPulse 5120 7680 7680 10750 256000 = 0 ∧
    wantedHigh 0x09C0 256000 10750 = 20500 ∧ minimumPulse 5120 7680 7680 20500 256000 = 20500 := by decide +kernel
/-- The refresh of leg 21: w_r is 1,800 ns = 46,080 steps. -/
theorem test_refresh_time : ({ minPulse := 5120, bsPulseT := 25600, dRise := (7680, 7680), dFall := (7680, 7680) } : Pwm).refreshTime 0 = 46080 := by
  decide
/-- The stores of 05_control_engine.md: 0.75 of a step rounds to 1, minus a quarter to 0. -/
theorem test_q15_store : q15Code (3 / 4 / 32768) = 1 ∧ q15Code (-1 / 4 / 32768) = 0 := by decide +kernel
/-- Big-endian BMS fields (the example after R292). -/
theorem test_big_endian_field : endByte 7 16 = 1 ∧ endByte 3 12 = 1 ∧
    ({ signal := 0, flags := 1, start := 7, length := 16, timeout := 10, id := 0, scale := 1, offset := 0 } : MapEntry).raw [0x12, 0x34] = some 0x1234 ∧
    ({ signal := 0, flags := 1, start := 3, length := 12, timeout := 10, id := 0, scale := 1, offset := 0 } : MapEntry).raw [0xAB, 0xCD] = some 0xBCD := by
  decide +kernel
/-- The values of R445's example on the wire: MIN_PULSE of 200 ns as 80, DLY_R_PH of 300 ns as 300,000, BRK_FB_IN unassigned as 255. -/
theorem test_wire_values : paramToWire (ParamStore.get [] P_MIN_PULSE) = 80 ∧ paramToWire (ParamStore.get [] (PP_DLY_R_PH 0)) = 300000 ∧
    paramToWire (ParamStore.get [] P_BRK_FB_IN) = 255 := by decide +kernel
/-- Table 14.6: WRITE_PARAM of H_INERTIA = 5.50 s. -/
theorem test_write_param : (after (.writeParam (rq [0x01, 0, 0, 0, 0x10, 0x20, 0, 0, 0x26, 0x02, 0, 0])) (up .idle)).act.cfg.pendingSet.params.get
    P_H_INERTIA = 550 := by decide +kernel
/-- Table 15.6a: the TIDE_SET request of entry 9 reaches the class 2 queue with its SEQ. -/
def tideRequest (cls : Byte) : List Byte :=
  let b := [cls, 0x28, 0xFF, 0x31, 0, 0x14, 0, 0x09, 0, 0, 0, 0xBC, 0x96, 0x90, 0xFF, 0x00, 0x03, 0x00, 0x84] ++ zeros 8
  [0xA5] ++ b ++ le 4 (crc32 b)
def spiUp : State := (up .idle).modHost fun h => { h with csLow := true }
theorem test_tide_request : (((after (.spiRequest (tideRequest 0x80)) spiUp).act.host.queues[2]).map fun i => (i.op, i.req.seq, i.req.payload.length)) =
    [(0x28, 0x0031, 20)] := by decide +kernel
/-- The same request sent with class 1 is refused with BAD_CLASS. -/
theorem test_tide_bad_class : (after (.spiRequest (tideRequest 0x40)) spiUp).act.host.spiN.map (fun x => x.reply.status) = [ST_BAD_CLASS] := by
  decide +kernel
/-- Word 1 of the entry is 0x8400_0300: FIELD_SET of output 3, one-shot, on REF 0x0. -/
theorem test_tide_entry : (after (.tideSet (rq ((tideRequest 0x80).drop 8 |>.take 20))) (up .idle)).act.cfg.tides[9] =
    { angle := 0xFF9096BC, enable := true, action := 4, arg := 3 } := by decide +kernel
/-- R464: TRIP of port 5 sets its host trip and no other port's. -/
theorem test_trip : ((after (.trip (rq [] 5)) (up .forming)).life 5).trips = [.host] ∧ ((after (.trip (rq [] 5)) (up .forming)).life 4).trips = [] := by
  decide +kernel
/-- R464: TARGET 0x0C is refused with BAD_PARAMETER. -/
theorem test_trip_group : (after (.trip (rq [] 0x0C)) (up .forming)).act.host.spiN.map (fun x => x.reply.status) = [ST_BAD_PARAMETER] := by
  decide +kernel
/-- R543: the units hold the CRC-32 definition of R428 at reset. -/
theorem test_crc_reset : ({} : CrcUnit).feed ((List.range 9).map fun i => BitVec.ofNat 8 (0x31 + i)) =
    { ({} : CrcUnit) with reg := 0x9B63D02C, result := 0xCBF43926 } := by decide +kernel
/-- R368: the safety permit's KIND codes and a word's check. -/
theorem test_lockout_at_reset : State.reset.bw.lockout = true ∧ State.reset.dev = .boot := by decide

/-! ### Ill-formed commands are refused -/

theorem test_ill_formed_requests : ([.nop { cls := 4 }, .identify { cls := 4 }, .getStatus { cls := 4 }, .setStateStandby { cls := 4 }, .setStateIdle { cls := 4 },
    .setStateReady { cls := 4 }, .setStateSync { cls := 4 }, .setStateService { cls := 4 }, .moduleReset { cls := 4 },
    .headlandReset { cls := 4 }, .readParam { cls := 4 }, .writeParam { cls := 4 }, .commitParams { cls := 4 }, .paramDiscard { cls := 4 },
    .readReg { cls := 4 }, .writeReg { cls := 4 }, .setDispatch { cls := 4 }, .blackStart { cls := 4 }, .syncClose { cls := 4 },
    .tideSet { cls := 4 }, .tideGet { cls := 4 }, .portAdmit { cls := 4 }, .portRelease { cls := 4 }, .packCanSend { cls := 4 },
    .packCanRead { cls := 4 }, .bmsMapLoad { cls := 4 }, .bmsMapRead { cls := 4 }, .trip { cls := 4 }, .clearTrip { cls := 4 },
    .gateDiag { cls := 4 }, .envelopeLoad { cls := 4 }, .envelopeRead { cls := 4 }, .capConfig { cls := 4 }, .capTrigger { cls := 4 },
    .capMaskLoad { cls := 4 }, .capArm { cls := 4 }, .capForce { cls := 4 }, .capStatus { cls := 4 }, .capRead { cls := 4 },
    .capMeasRead { cls := 4 }, .capStream { cls := 4 }, .logFreeze { cls := 4 }, .logWindow { cls := 4 }, .logCursor { cls := 4 },
    .logUnfreeze { cls := 4 }, .timeGet { cls := 4 }, .peerRead { cls := 4 }, .netSend { cls := 4 }, .netTxStatus { cls := 4 },
    .fieldStatus { cls := 4 }, .fieldOut { cls := 4 }, .fieldCountRead { cls := 4 }, .panelStatus { cls := 4 }, .wakeRulesLoad { cls := 4 },
    .wakeRulesRead { cls := 4 }, .safetyStatus { cls := 4 }, .safetyResetArm { cls := 4 }, .safetyParamWrite { cls := 4 },
    .safetyCommission { cls := 4 }, .meterRead { cls := 4 }, .sessionRead { cls := 4 }, .meterInfo { cls := 4 }, .pairStatus { cls := 4 },
    .pairHandover { cls := 4 }, .clockStatus { cls := 4 }, .pwmResume { cls := 4 }, .adcUrgent { cls := 4 }, .adcStart { cls := 4 },
    .crcConfig { cls := 4 }, .crcValueRead { cls := 4 }, .crcValueWrite { cls := 4 }, .crcFeed { cls := 4 }, .traceConfig { cls := 4 },
    .traceArm { cls := 4 }, .traceRead { cls := 4 }] : List Instr).all (fun i => !i.wf) = true := by decide +kernel
theorem test_ill_formed_fields : [.nop { target := 0x100 }, .nop { seq := 0x10000 }, .nop { payload := zeros 4097 }].all (fun i => !Instr.wf i) = true := by
  decide +kernel
theorem test_ill_formed_transport : [.spiCsRise (2 ^ 32) 0, .spiRequest (zeros 4109), .udpDatagram 0 (2 ^ 32) 0 [] true, .udpDatagram 0 0 (2 ^ 16) [] true,
    .udpDatagram 0 0 0 (zeros 4109) true, .ethernetFrameReceive 0 (zeros 1523) true true, .udpReassemblyTimeout 0 (2 ^ 32) 0,
    .udpReassemblyTimeout 0 0 (2 ^ 16)].all (fun i => !Instr.wf i) = true := by decide +kernel
theorem test_ill_formed_network : [.ptpSync 0 0 (2 ^ 32), .ptpAnnounce 0 ⟨256, 0, 0, 0, 0, 0, 0⟩, .ptpAnnounce 0 ⟨0, 256, 0, 0, 0, 0, 0⟩,
    .ptpAnnounce 0 ⟨0, 0, 256, 0, 0, 0, 0⟩, .ptpAnnounce 0 ⟨0, 0, 0, 2 ^ 16, 0, 0, 0⟩, .ptpAnnounce 0 ⟨0, 0, 0, 0, 256, 0, 0⟩,
    .ptpAnnounce 0 ⟨0, 0, 0, 0, 0, 2 ^ 64, 0⟩, .ptpAnnounce 0 ⟨0, 0, 0, 0, 0, 0, 2 ^ 16⟩, .netLaunch 0 (2 ^ 32) false, .netTxComplete 0 (2 ^ 32),
    .netLateDrop 0 (2 ^ 32), .peerAnnouncement 0 (zeros 1501)].all (fun i => !Instr.wf i) = true := by decide +kernel
theorem test_ill_formed_links : [.dlLock 0 (2 ^ 12), .uplinkFrame 0 (zeros 22) (zeros 48), .uplinkFrame 0 (zeros 23) (zeros 47),
    .downlinkFrame 0 .none (zeros 11), .downlinkFrame 0 (.write (2 ^ 10) 0) (zeros 12), .downlinkFrame 0 (.write 0 (2 ^ 32)) (zeros 12),
    .downlinkFrame 0 (.read (2 ^ 10)) (zeros 12), .permitWordReceive 0 false (2 ^ 16), .returnWord 0 (2 ^ 48)].all (fun i => !Instr.wf i) = true := by
  decide +kernel
theorem test_ill_formed_port : [.canFrameReceive 0 ⟨false, false, false, false, 2 ^ 11, []⟩, .canFrameReceive 0 ⟨true, false, false, false, 2 ^ 29, []⟩,
    .canFrameReceive 0 ⟨false, false, false, false, 0, zeros 9⟩, .canFrameReceive 0 ⟨false, true, false, false, 0, zeros 9⟩, .adcEntryDone [],
    .adcUrgentDone [0, 0, 0], .metrologySubframe 0 (zeros 8), .cartridgeReadRequest false (2 ^ 32) true, .verifyCommit ⟨[], none, 2 ^ 32, 0, 0, 0⟩,
    .verifyCommit ⟨[], none, 0, 2 ^ 32, 0, 0⟩, .verifyCommit ⟨[], none, 0, 0, 2 ^ 32, 0⟩, .verifyCommit ⟨[], none, 0, 0, 0, 2 ^ 32⟩,
    .siTestPulse 0 true []].all (fun i => !Instr.wf i) = true := by decide +kernel
theorem test_ill_formed_module : [.safetyInputDemand 0 0 (2 ^ 31) 0, .safetyInputDemand 0 0 0 (2 ^ 32), .safetyInputInactive 0 0 (-(2 ^ 31) - 1) 0,
    .safetyInputInactive 0 0 0 (2 ^ 32), .safetyMessage 0 (zeros 15), .fieldTestPulse 0 (2 ^ 16) true, .fieldSag (2 ^ 16),
    .fieldRestored (2 ^ 16), .vsupLockout (2 ^ 16), .vsupLow (2 ^ 16), .vsupOk (2 ^ 16), .iinLimit (2 ^ 16), .gateBudgetUpdate (2 ^ 16) 0,
    .gateBudgetUpdate 0 (2 ^ 15), .gateBudgetUpdate 0 (-(2 ^ 15) - 1), .powerUp .vsupRise (2 ^ 16), .fieldSidePowerUp (2 ^ 16),
    .iinLimitRelease (2 ^ 16)].all (fun i => !Instr.wf i) = true := by decide +kernel

/-! ### The host's entry points -/

/-- No row of the opcode table gives bits: a word spells no command, and none is placed. -/
theorem test_no_words : decodeTableWord 8 0 = none ∧ (up .idle).withFetchWord 8 0 = up .idle := ⟨rfl, rfl⟩
/-- R468, R489: a record in memory is read under the configuration that its arming found; a channel that was not streamed holds nothing. -/
theorem test_recordKept :
    let sel := 0x80000000 :: 0x80000100 :: List.replicate 30 0
    let c : Cap := { state := .done, recordCfg := { length := 1, sel := sel }, sets := [⟨[⟨true, 5⟩, ⟨true, 6⟩], 0, 0⟩] }
    let d : Cap := { c with recordCfg := { c.recordCfg with mode := 2 }, recordStream := some ⟨1, 0, 0, 1, 2⟩ }
    c.asRecorded.channelOf 0 = [(0, ⟨true, 5⟩)] ∧ d.asRecorded.channelOf 0 = [] ∧ d.asRecorded.channelOf 1 = [(0, ⟨true, 6⟩)] := by
  decide +kernel

/-- R206, R588: a delay is held as the whole picosecond nearest to its step of 625/16 ps; 79,981 ps are 2048 steps, 80 ns. -/
theorem test_heldValue : heldValue (PP_DLY_R_PH 0) 79981 = 80000 ∧ heldValue (PP_DLY_R_PH 0) 300001 = 300000 ∧ heldValue P_CARRIER_N 300001 = 300001 := by
  decide +kernel
/-- On an empty queue the block lets one tick pass and the next cycle begin; with a command in front it executes that command. -/
theorem test_step_idle : step (up .idle) = .next (up .idle).tick.beginCycle := rfl
theorem test_step_front : step ((up .idle).enqueueFront .coverClose) = exec .coverClose (up .idle) := rfl


end Sys2Proof.Tests
end

section
/-! The register and trace commands (R18 to R20, R177 to R182, R450, R451): fields of a request, how a host command's answer
becomes its reply, the bits of a mask, and the obligation O19. -/
namespace Sys2Proof.Machine

/-! ### Requests of three fields -/

theorem rd_le_skip (n v off k : Nat) (rest : List Byte) : rd (le n v ++ rest) (n + off) k = rd rest off k := by
  simpa using rd_append_right (le n v) rest off k

section Fields
variable {bs : List Byte} {a b c x y z : Nat} (h : bs = le a x ++ le b y ++ le c z)
include h

theorem length_of_fields : bs.length = a + b + c := by simp [h, Nat.add_assoc]

theorem rd_field_first (hx : x < 256 ^ a) : rd bs 0 a = x := by
  rw [h, List.append_assoc, rd_le, Nat.mod_eq_of_lt hx]

theorem rd_field_second (hy : y < 256 ^ b) : rd bs a b = y := by
  calc rd bs a b = rd (le a x ++ (le b y ++ le c z)) (a + 0) b := by rw [h, List.append_assoc, Nat.add_zero]
    _ = y := by rw [rd_le_skip, rd_le, Nat.mod_eq_of_lt hy]

theorem rd_field_third (hz : z < 256 ^ c) : rd bs (a + b) c = z := by
  calc rd bs (a + b) c = rd (le a x ++ (le b y ++ (le c z ++ []))) (a + (b + 0)) c := by
        rw [h, List.append_assoc, List.append_nil, Nat.add_zero]
    _ = z := by rw [rd_le_skip, rd_le_skip, rd_le, Nat.mod_eq_of_lt hz]

end Fields

/-! ### From a command's answer to its reply -/

section Answers
variable {s : State} {op : Nat} {r : Req} {f : State → Ans}

/-- A device command that its own checks let through executes and is answered OK. -/
theorem State.host_answered_ok {effect : State → State} {payload : State → List Byte} (hh : s.hears op r) (ht : r.target = 0xFF)
    (hf : f (s.begin_ op r).1 = (effect (s.begin_ op r).1).ok (payload (s.begin_ op r).1)) :
    s.host op r .device f = s.answered op r effect payload := by
  obtain ⟨ha, hq, hb⟩ := hh
  rw [s.host_runs op r .device f ha hq hb ((Targets.device_takes _).mpr ht), hf]
  rfl

/-- A device command that its own checks refuse is answered with their status, and has no effect. -/
theorem State.host_answered_err {st : Nat} (hh : s.hears op r) (ht : r.target = 0xFF)
    (hf : f (s.begin_ op r).1 = (s.begin_ op r).1.err st) : s.host op r .device f = s.answered op r unchanged noPayload st := by
  obtain ⟨ha, hq, hb⟩ := hh
  rw [s.host_runs op r .device f ha hq hb ((Targets.device_takes _).mpr ht), hf]
  rfl

/-- Past BOOT, a request whose turn has come is heard whatever its opcode. -/
theorem State.hears_of_not_boot (ha : s.answers = true) (hd : s.dev ≠ .boot) (hq : s.inTurn op r = true) : s.hears op r :=
  ⟨ha, hq, fun h => absurd h hd⟩

end Answers

@[simp] theorem State.begin_inPeerBlock (s : State) (op : Nat) (r : Req) (addr : Nat) :
    (s.begin_ op r).1.inPeerBlock addr = s.inPeerBlock addr := by
  simp [State.inPeerBlock]

/-! ### The bits of a mask -/

theorem bit_eq_testBit (w i : Nat) : bit w i = w.testBit i := by
  rw [bit, Nat.testBit_eq_decide_div_mod_eq, beq_eq_decide]

theorem maskOf_succ (n : Nat) (f : Nat → Bool) : maskOf (n + 1) f = 2 ^ n * (f n).toNat + maskOf n f := by
  simp only [maskOf, List.range_succ, List.foldl_append, List.foldl_cons, List.foldl_nil]
  cases f n <;> simp [Nat.add_comm]

theorem maskOf_lt (n : Nat) (f : Nat → Bool) : maskOf n f < 2 ^ n := by
  induction n with
  | zero => simp [maskOf]
  | succ n ih =>
    rw [maskOf_succ, Nat.pow_succ]
    have := Bool.toNat_le (f n)
    nlinarith

theorem bit_maskOf (n : Nat) (f : Nat → Bool) (i : Nat) : bit (maskOf n f) i = (decide (i < n) && f i) := by
  rw [bit_eq_testBit]
  induction n with
  | zero => simp [maskOf]
  | succ n ih =>
    rw [maskOf_succ, Nat.testBit_two_pow_mul_add _ (maskOf_lt n f), ih, Nat.testBit_bool_toNat]
    rcases Nat.lt_trichotomy i n with hlt | rfl | hgt
    · simp [hlt, Nat.lt_succ_of_lt hlt]
    · simp
    · have hout : ¬ i < n + 1 := by omega
      have hpos : i - n ≠ 0 := by omega
      simp [Nat.lt_asymm hgt, hout, hpos]

/-! ### Write-1-to-clear words of Lookout and Heartwood (R20, R451) -/

theorem Lookout.bit_clear_fired (k : Lookout) (c : Nat → Bool) {i : Nat} (hi : i < 16) :
    bit (k.clear 0x004 c).fired i = (bit k.fired i && !c i) := by
  simp [Lookout.clear, bit_maskOf, hi]

theorem Heartwood.bit_clear_isoFault (x : Heartwood) (c : Nat → Bool) (i : Nat) :
    bit (x.clear 0x00C c).isoFault i = (decide (i < 13) && bit x.isoFault i && !c i) := by
  simp [Heartwood.clear, bit_maskOf, Bool.and_assoc]

/-- The address of a block of its own names the word it stands for; below 0x10000 it names one of the token holder's block. -/
theorem State.canonical_of_le (s : State) {a : Nat} (h : 0x10000 ≤ a) : s.canonical a = a := if_neg (by omega)

section
variable {a : Nat} (s : State) (mask value : Nat)

theorem State.writeWord_lookout (hlo : 0x320000 ≤ a) (hhi : a < 0x330000) :
    s.writeWord a mask value =
      s.modLookout fun k => k.clear (a - 0x320000) fun i => bit (mask &&& value) i && s.stood a i := by
  simp only [State.writeWord, s.canonical_of_le (show 0x10000 ≤ a by omega)]
  rw [if_neg (by omega), dif_neg (by omega), dif_neg (by omega), if_neg (by omega), if_pos ⟨hlo, hhi⟩]

theorem State.writeWord_heart (hlo : 0x330000 ≤ a) (hhi : a < 0x340000) :
    s.writeWord a mask value =
      s.modHeart fun x => x.clear (a - 0x330000) fun i => bit (mask &&& value) i && s.stood a i := by
  simp only [State.writeWord, s.canonical_of_le (show 0x10000 ≤ a by omega)]
  rw [if_neg (by omega), dif_neg (by omega), dif_neg (by omega), if_neg (by omega), if_neg (by omega), if_pos ⟨hlo, hhi⟩]

end

/-! ### READ_REG and WRITE_REG -/

theorem exec_readReg (r : Req) (s : State) : exec (.readReg r) s = .next (s.host 0x18 r .device (readRegAns r.payload)) := rfl
theorem exec_writeReg (r : Req) (s : State) : exec (.writeReg r) s = .next (s.host 0x19 r .device (writeRegAns r.payload)) := rfl

section Regs
variable {b : List Byte} {u : State} {addr mask value count base size : Nat}

/-- The words that a READ_REG of an aligned address below the Tide gauge's block answers. -/
theorem readRegAns_ok (hb : b = le 4 addr ++ le 2 count ++ zeros 2) (hlt : addr < 2 ^ 32) (hc : count < 65536) (hpos : 1 ≤ count)
    (hal : addr % 4 = 0) (hblk : blockOf addr = some (base, size)) (hpeer : u.inPeerBlock addr = false) (hlow : addr < 0x400000) :
    readRegAns b u = (u.readWords addr (min (min count 1022) ((base + size - addr) / 4))).1.ok
      (le 2 (min (min count 1022) ((base + size - addr) / 4)) ++ zeros 2 ++
        words (u.readWords addr (min (min count 1022) ((base + size - addr) / 4))).2) := by
  have hz : b = le 4 addr ++ le 2 count ++ le 2 0 := hb
  have haddr : rd b 0 4 = addr := rd_field_first hz hlt
  have hcount : rd b 4 2 = count := rd_field_second hz hc
  have hrest : rd b 6 2 = 0 := rd_field_third hz (by norm_num)
  have hlen : b.length = 8 := length_of_fields hz
  have h0 : count ≠ 0 := by omega
  have hne : addr ≠ 0x400000 := by omega
  have hbelow : ¬ 0x400000 ≤ addr := by omega
  simp [readRegAns, haddr, hcount, hrest, hlen, h0, hal, hblk, hpeer, hbelow, hne]

theorem readRegAns_unaligned (hlen : b.length = 8) (hal : rd b 0 4 % 4 ≠ 0) : readRegAns b u = u.err ST_BAD_PARAMETER := by
  simp [readRegAns, hlen, hal]

theorem writeRegAns_unaligned (hlen : b.length = 12) (hal : rd b 0 4 % 4 ≠ 0) : writeRegAns b u = u.err ST_BAD_PARAMETER := by
  simp [writeRegAns, hlen, hal]

theorem writeRegAns_ok (hb : b = le 4 addr ++ le 4 mask ++ le 4 value) (hlt : addr < 2 ^ 32) (hm : mask < 2 ^ 32) (hv : value < 2 ^ 32)
    (hal : addr % 4 = 0) (hblk : (blockOf addr).isSome = true) (hopen : ¬(0x300000 ≤ addr ∧ addr < 0x310000)) (hlow : addr < 0x400000)
    (hpeer : u.inPeerBlock addr = false) : writeRegAns b u = (u.writeWord addr mask value).ok := by
  have haddr : rd b 0 4 = addr := rd_field_first hb hlt
  have hmask : rd b 4 4 = mask := rd_field_second hb hm
  have hvalue : rd b 8 4 = value := rd_field_third hb hv
  have hlen : b.length = 12 := length_of_fields hb
  have hknown : (blockOf addr).isNone = false := by simpa using hblk
  have hbelow : ¬ 0x400000 ≤ addr := by omega
  simp [writeRegAns, haddr, hmask, hvalue, hlen, hal, hknown, decide_eq_false hopen, hbelow, hpeer]

/-- Breakwater's block is sealed. -/
theorem writeRegAns_sealed (hb : b = le 4 addr ++ le 4 mask ++ le 4 value) (hlt : addr < 2 ^ 32)
    (hal : addr % 4 = 0) (hblk : (blockOf addr).isSome = true) (hlo : 0x300000 ≤ addr) (hhi : addr < 0x310000) :
    writeRegAns b u = u.err ST_SEALED := by
  have haddr : rd b 0 4 = addr := rd_field_first hb hlt
  have hlen : b.length = 12 := length_of_fields hb
  have hknown : (blockOf addr).isNone = false := by simpa using hblk
  simp [writeRegAns, haddr, hlen, hal, hknown, hlo, hhi]

end Regs

/-! ### TRACE_CONFIG, TRACE_ARM, TRACE_READ -/

theorem exec_traceConfig (r : Req) (s : State) :
    exec (.traceConfig r) s = .next (s.host 0xCC r .device (traceConfigAns r.payload)) := rfl
theorem exec_traceArm (r : Req) (s : State) : exec (.traceArm r) s = .next (s.host 0xCD r .device (traceArmAns r.payload)) := rfl
theorem exec_traceRead (r : Req) (s : State) : exec (.traceRead r) s = .next (s.host 0xCE r .device (traceReadAns r.payload)) := rfl

section Trace
variable {b : List Byte} {u : State} {sel : List Nat} {ch start count : Nat}

theorem traceConfigAns_ok (hd : u.dev ≠ .boot) (harm : u.act.trace.state ≠ .armed) (htrig : u.act.trace.state ≠ .triggered)
    (hlen : b.length = 40) (hsel : ((List.range 16).map fun c => rd b (8 + 2 * c) 2) = sel) (hok : sel.all traceSelOk = true)
    (hpace : by8 b 0 ≤ 1) (hport : by8 b 0 = 0 → by8 b 1 ≤ 0xB) (hdiv : 1 ≤ rd b 2 2) (hdiv' : rd b 2 2 ≤ 256) (hpre : rd b 4 2 ≤ 8191)
    (hsrc : by8 b 6 ≤ 5) (harg : by8 b 7 ≤ (if by8 b 6 = 1 ∨ by8 b 6 = 5 then 7 else if by8 b 6 = 0 then 255 else 11)) :
    traceConfigAns b u = (u.modTrace fun _ =>
      { pace := by8 b 0, pacePort := by8 b 1, div := rd b 2 2, pre := rd b 4 2, trig := by8 b 6, trigArg := by8 b 7, sel := sel }).ok := by
  have hform : ¬(rd b 2 2 = 0 ∨ 1 < by8 b 0 ∨ 5 < by8 b 6) := by omega
  have hrange : ¬(256 < rd b 2 2 ∨ 8191 < rd b 4 2 ∨ (by8 b 0 = 0 ∧ 0xB < by8 b 1) ∨
      (if by8 b 6 = 1 ∨ by8 b 6 = 5 then 7 else if by8 b 6 = 0 then 255 else 11) < by8 b 7) := by omega
  have hidle : ¬(u.act.trace.state = .armed ∨ u.act.trace.state = .triggered) := by simp [harm, htrig]
  simp only [traceConfigAns, hsel, hok, decide_eq_false hd, decide_eq_false hidle, decide_eq_false hform, decide_eq_false hrange, hlen]
  rfl

theorem traceArmAns_ok (hb : b = []) (hon : u.act.trace.sel.any selOn = true) :
    traceArmAns b u = (u.modTrace fun t => { t with state := .armed, words := [], fire := false, hit := false }).ok := by
  simp only [traceArmAns, hb, hon]
  rfl

theorem traceReadAns_ok (hb : b = le 1 ch ++ le 2 start ++ le 2 count) (hch : ch ≤ 15) (hst : start ≤ 8191) (hpos : 1 ≤ count)
    (hc : count < 65536) (hon : selOn (u.act.trace.sel.getD ch 0) = true) (hdone : u.act.trace.state = .done) :
    traceReadAns b u = u.ok (le 2 (min (min count 1022) (8192 - start)) ++ le 2 u.act.trace.pre ++ le 4 u.act.trace.trigStep ++
      ((u.act.trace.words.drop start).take (min (min count 1022) (8192 - start))).flatMap fun w => le 4 (w.getD ch 0)) := by
  have hchan : by8 b 0 = ch := by rw [hb, List.append_assoc, by8_le]; omega
  have hstart : rd b 1 2 = start := rd_field_second hb (by omega)
  have hcount : rd b 3 2 = count := rd_field_third hb hc
  have hlen : b.length = 5 := length_of_fields hb
  have h0 : count ≠ 0 := by omega
  have hrange : ¬(15 < ch ∨ 8191 < start) := by omega
  simp only [traceReadAns, hchan, hstart, hcount, hlen, decide_eq_false h0, decide_eq_false hrange, hon, hdone]
  simp

end Trace

/-! ### The obligation -/

theorem addrBlocks_aligned : ∀ x ∈ addrBlocks, x.1 % 4 = 0 ∧ x.2 % 4 = 0 := by decide

/-- Settles O19: each command's own checks let it through or refuse it, and its answer becomes its reply; a write of RULE_FIRED or of
the island faults keeps the bits that its clearing mask leaves. Which bits were set within the same cycle is the model's reading of
R20, through `State.stood` (log 110). -/
theorem registersTraceComplete : Obligations.RegistersTraceComplete := by
  refine ⟨fun s r ha ht => ⟨?read, ?write, ?config, ?arm, ?traceRead, ?unaligned, addrBlocks_aligned⟩, ?w1c, ?sealed⟩
  case read =>
    intro addr count base size hp hlt hc hpos hal hblk hpeer hlow hq
    refine ⟨_, (exec_readReg r s).trans (congrArg _ (State.host_answered_ok ⟨ha, hq, fun _ => rfl⟩ ht ?_)), rfl⟩
    exact readRegAns_ok hp hlt hc hpos hal hblk (by simpa using hpeer) hlow
  case write =>
    intro addr mask value base size hp hd hlt hm hv hal hblk hopen hlow hpeer hq
    refine (exec_writeReg r s).trans (congrArg _ (State.host_answered_ok (State.hears_of_not_boot ha hd hq) ht ?_))
    exact writeRegAns_ok hp hlt hm hv hal (by simp [hblk]) hopen hlow (by simpa using hpeer)
  case config =>
    intro sel hd harm htrig hlen hsel hok hpace hport hdiv hdiv' hpre hsrc harg hq
    refine (exec_traceConfig r s).trans (congrArg _ (State.host_answered_ok (State.hears_of_not_boot ha hd hq) ht ?_))
    exact traceConfigAns_ok (by simpa using hd) (by simpa using harm) (by simpa using htrig) hlen hsel hok hpace hport hdiv hdiv' hpre hsrc harg
  case arm =>
    intro hd hp hon hq
    refine (exec_traceArm r s).trans (congrArg _ (State.host_answered_ok (State.hears_of_not_boot ha hd hq) ht ?_))
    exact traceArmAns_ok hp (by simpa using hon)
  case traceRead =>
    intro ch start count hp hd hch hst hpos hc hon hdone hq
    refine (exec_traceRead r s).trans (congrArg _ (State.host_answered_ok (State.hears_of_not_boot ha hd hq) ht ?_))
    exact traceReadAns_ok hp hch hst hpos hc (by simpa using hon) (by simpa using hdone)
  case unaligned =>
    intro hal
    refine ⟨fun hlen hq => (exec_readReg r s).trans (congrArg _ ?_), fun hlen hd hq => (exec_writeReg r s).trans (congrArg _ ?_)⟩
    · exact State.host_answered_err ⟨ha, hq, fun _ => rfl⟩ ht (readRegAns_unaligned hlen hal)
    · exact State.host_answered_err (State.hears_of_not_boot ha hd hq) ht (writeRegAns_unaligned hlen hal)
  case w1c =>
    intro s mask value i hi
    rw [s.writeWord_lookout mask value (by norm_num) (by norm_num), s.writeWord_heart mask value (by norm_num) (by norm_num)]
    exact ⟨Lookout.bit_clear_fired _ _ hi, Heartwood.bit_clear_isoFault _ _ i⟩
  case sealed =>
    intro s r addr mask value ha hd ht hp hlt hal hblk hlo hhi hq
    refine (exec_writeReg r s).trans (congrArg _ (State.host_answered_err (State.hears_of_not_boot ha hd hq) ht ?_))
    exact writeRegAns_sealed hp hlt hal hblk hlo hhi

end Sys2Proof.Machine
end

section
/-! The tide events (R62 to R68, R420): what a crossing entry, an entry's gate and an event frame do, what each leaves as it was,
and the obligation O27. -/
namespace Sys2Proof.Machine

/-! ### Dies of the switching path -/

/-- The dies between a command link and a port's gates: Shoals, generators, Skerries. One value, so that one lemma says of an operation
that it leaves all three. -/
def State.switching (s : State) : Vector ShoalSt 4 × Vector Pwm 12 × Vector Skerry 13 := (s.shoals, s.pwm, s.sk)

section Switching
variable (s : State)

@[simp] theorem State.raiseTick_switching (tick : Nat) (e : Event) : (s.raiseTick tick e).switching = s.switching := by
  unfold State.raiseTick
  split <;> rfl

@[simp] theorem State.raise_switching (code source arg0 arg1 : Nat) (data : List Nat) :
    (s.raise code source arg0 arg1 data).switching = s.switching := s.raiseTick_switching _ _

@[simp] theorem State.modFirm_switching (f : Firm → Firm) : (s.modFirm f).switching = s.switching := rfl

theorem State.raise_shoals (code source arg0 arg1 : Nat) (data : List Nat) : (s.raise code source arg0 arg1 data).shoals = s.shoals :=
  congrArg Prod.fst (s.raise_switching code source arg0 arg1 data)

/-- FORMING keeps the laws running: besides STATE_CHANGE only the firmware's state is written. -/
@[simp] theorem State.setDev_forming_switching (cause : Nat) : (s.setDev .forming cause).switching = s.switching := by
  by_cases h : s.dev = .forming
  · simp [State.setDev, h]
  · simp [State.setDev, h, DevState.runs, State.raiseAs]

@[simp] theorem State.breakerSeen_switching (closed : Bool) : (s.breakerSeen closed).switching = s.switching := by
  unfold State.breakerSeen
  split
  · simp [State.raiseSync, State.enterForming, State.setMode, State.modSeq]
  · rfl

@[simp] theorem State.tideField_switching (n : Nat) (v : Bool) (at_ entry : Nat) :
    (s.tideField n v at_ entry).switching = s.switching := by
  simp only [State.tideField]
  repeat' split
  all_goals rfl

/-- Whatever its action, an event frame acts at the Headland and at Shore only. -/
@[simp] theorem State.tideEvent_switching (ev : TideEvent) : (s.tideEvent ev).switching = s.switching := by
  simp only [State.tideEvent]
  split_ifs
  · rfl
  · rfl
  · simp [State.modSeq]
  · simp
  · simp
  · rfl
  · simp
  · rfl

end Switching

/-! ### TIDE_CROSSING -/

section Crossing
variable {s : State} {e : Fin 128} {x : TideEntry}

/-- The entry once it has acted (R63): counted, blocked for half a turn, and still armed if it is periodic. -/
def TideEntry.fired (x : TideEntry) : TideEntry :=
  { x with fireCount := (x.fireCount + 1) % 256, block := some (2 ^ 31), enable := x.periodic, armed := x.periodic }

/-- The event frame of a crossing (R62). -/
def State.crossingEvent (s : State) (e : Fin 128) (x : TideEntry) : TideEvent :=
  ⟨e.val, x.action, x.arg, thetaOf s.shoals[tideShoal e].acc, s.shoals[tideShoal e].tick, (s.act.ptp.clock : Rat) / 2 ^ 32⟩

/-- The Shoal on which an entry has acted: its comparator holds the fired entry, and actions from 2 on queue an event frame. -/
def ShoalSt.afterAct (h : ShoalSt) (e : Fin 128) (x : TideEntry) (ev : TideEvent) : ShoalSt :=
  { h with
    tides := vset h.tides (tideComp e) x.fired, events := if 2 ≤ x.action then insertEvent ev h.events else h.events }

theorem State.modShoal_modShoal (s : State) (k : Shoal) (f g : ShoalSt → ShoalSt) :
    (s.modShoal k f).modShoal k g = s.modShoal k fun h => g (f h) := by
  simp [State.modShoal, vmod, vset]

/-- A sample marks decimators and nothing else. -/
theorem State.tideSample_dec (s : State) (k : Shoal) (port : Nat) : ∃ d, s.tideSample k port = { s with dec := d } := by
  simp only [State.tideSample]
  split_ifs
  all_goals exact ⟨_, rfl⟩

/-- An entry that its Shoal holds acts on that Shoal and on the decimators, and on no other state. -/
theorem State.tideAct_held (s : State) (e : Fin 128) (x : TideEntry) :
    ∃ d, s.tideAct e x false = { s with shoals := vmod s.shoals (tideShoal e) (·.afterAct e x (s.crossingEvent e x)), dec := d } := by
  have hcases : x.action = 0 ∨ x.action = 1 ∨ 2 ≤ x.action := by omega
  obtain h0 | h1 | h2 := hcases
  · exact ⟨s.dec, by simp [State.tideAct, ShoalSt.afterAct, TideEntry.fired, h0, State.modShoal]⟩
  · obtain ⟨d, hd⟩ := (s.modShoal (tideShoal e) (·.afterAct e x (s.crossingEvent e x))).tideSample_dec (tideShoal e) x.port
    refine ⟨d, Eq.trans ?_ hd⟩
    simp [State.tideAct, ShoalSt.afterAct, TideEntry.fired, h1]
  · have h0 : x.action ≠ 0 := by omega
    have h1 : x.action ≠ 1 := by omega
    refine ⟨s.dec, ?_⟩
    simp only [State.tideAct, if_neg h0, if_neg h1, State.modShoal_modShoal]
    simp only [State.modShoal, ShoalSt.afterAct, if_pos h2]
    rfl

/-- The reference of an entry passes its ANGLE on this tick (R63). -/
def State.passesAngle (s : State) (e : Fin 128) (x : TideEntry) : Bool :=
  crosses x.angle (s.refOf (tideShoal e) x.ref s.shoals[tideShoal e].accPrev) (s.refOf (tideShoal e) x.ref s.shoals[tideShoal e].acc)

/-- The Shoal skips an action (R65, R66): 2 to 7 while it holds, 4 to 6 on the tick of a re-anchor. -/
def ShoalSt.skips (h : ShoalSt) (action : Nat) : Bool :=
  (h.holding && decide (2 ≤ action ∧ action ≤ 7)) || (h.anchored && decide (4 ≤ action ∧ action ≤ 6))

section Skips
variable {h : ShoalSt} {action : Nat}

theorem ShoalSt.skips_holding (hhold : h.holding = true) (h2 : 2 ≤ action) (h7 : action ≤ 7) : h.skips action = true := by
  simp [ShoalSt.skips, hhold, h2, h7]

theorem ShoalSt.skips_anchored (hanch : h.anchored = true) (h4 : 4 ≤ action) (h6 : action ≤ 6) : h.skips action = true := by
  simp [ShoalSt.skips, hanch, h4, h6]

theorem ShoalSt.not_skips_free (hanch : h.anchored = false) (hhold : h.holding = false) : h.skips action = false := by
  simp [ShoalSt.skips, hanch, hhold]

theorem ShoalSt.not_skips_sample : h.skips 1 = false := by simp [ShoalSt.skips]

end Skips

variable (hx : s.shoals[tideShoal e].tides[tideComp e] = x) (hold : s.shoals[tideShoal e].tideOld.lookup (tideComp e).val = none)
include hx hold

theorem exec_tideCrossing_idle (hidle : x.enable = false ∨ x.armed = false ∨ x.block.isSome = true ∨ s.passesAngle e x = false) :
    exec (.tideCrossing e) s = .next s := by
  have hguard : (!s.awake || !x.enable || !x.armed || x.block.isSome || !s.passesAngle e x) = true := by
    obtain h | h | h | h := hidle <;> simp [h]
  change execTideCrossing e s = _
  simp only [execTideCrossing, hold, Option.getD_none, hx]
  exact if_pos hguard

variable (hawake : s.awake = true) (hen : x.enable = true) (harm : x.armed = true) (hblock : x.block = none)
  (hpass : s.passesAngle e x = true)
include hawake hen harm hblock hpass

/-- An entry whose reference passes its ANGLE is skipped or acts. -/
theorem exec_tideCrossing_passed :
    exec (.tideCrossing e) s =
      if s.shoals[tideShoal e].skips x.action then .next (s.raise 0x12 e.val x.action) else .next (s.tideAct e x false) := by
  have hguard : ¬(!s.awake || !x.enable || !x.armed || x.block.isSome || !s.passesAngle e x) = true := by
    simp [hawake, hen, harm, hblock, hpass]
  change execTideCrossing e s = _
  simp only [execTideCrossing, hold, Option.getD_none, hx]
  exact if_neg hguard

theorem exec_tideCrossing_skipped (hskip : s.shoals[tideShoal e].skips x.action = true) :
    exec (.tideCrossing e) s = .next (s.raise 0x12 e.val x.action) := by
  rw [exec_tideCrossing_passed hx hold hawake hen harm hblock hpass, if_pos hskip]

theorem exec_tideCrossing_acts (hact : s.shoals[tideShoal e].skips x.action = false) :
    exec (.tideCrossing e) s = .next (s.tideAct e x false) := by
  rw [exec_tideCrossing_passed hx hold hawake hen harm hblock hpass, hact]
  rfl

end Crossing

/-! ### TIDE_GATE_ARM -/

section GateArm
variable {s : State} {e : Fin 128} {x : TideEntry}

/-- An entry is written into its comparator. -/
def State.holdTide (s : State) (e : Fin 128) (x : TideEntry) : State :=
  s.modShoal (tideShoal e) fun h => { h with tides := vset h.tides (tideComp e) x }

variable (hx : s.shoals[tideShoal e].tides[tideComp e] = x)
include hx

theorem exec_tideGateArm_early (hgate : s.gatePassed x = false) : exec (.tideGateArm e) s = .next s := by
  have hguard : (!s.awake || !x.enable || !x.gated || x.armed || !s.gatePassed x) = true := by simp [hgate]
  change execTideGateArm e s = _
  simp only [execTideGateArm, hx]
  exact if_pos hguard

variable (hawake : s.awake = true) (hen : x.enable = true) (hgated : x.gated = true) (harm : x.armed = false)
  (hgate : s.gatePassed x = true)
include hawake hen hgated harm hgate

theorem exec_tideGateArm_arms (hvalid : s.act.ptp.valid = true)
    (hcoord : s.par P_COORD_TIDE ≠ 1 ∨ (tideComp e).val < 8 ∨ s.act.net.disagrees = false) :
    exec (.tideGateArm e) s = .next (s.holdTide e { x with armed := true }) := by
  have hagree : ¬(s.par P_COORD_TIDE = 1 ∧ 8 ≤ (tideComp e).val ∧ s.act.net.disagrees = true) := by
    rintro ⟨hp, hc, hd⟩
    obtain h | h | h := hcoord
    · exact h hp
    · omega
    · simp [h] at hd
  change execTideGateArm e s = _
  simp only [execTideGateArm, hx, hawake, hen, hgated, harm, hgate, hvalid, if_neg hagree]
  rfl

theorem exec_tideGateArm_unlocked (hvalid : s.act.ptp.valid = false) :
    exec (.tideGateArm e) s = .next ((s.holdTide e { x with enable := false }).raise 0x13 e.val 1) := by
  change execTideGateArm e s = _
  simp only [execTideGateArm, hx, hawake, hen, hgated, harm, hgate, hvalid]
  rfl

end GateArm

/-! ### EVENT_FRAME -/

section EventFrame
variable {s : State} {k : Shoal} {ev : TideEvent} {rest : List TideEvent}

theorem State.tideEvent_flag (s : State) (h : ev.action = 6) : ∃ at_, s.tideEvent ev =
    s.modFirm fun m => { m with flagWait := m.flagWait ++ [(ev.arg, at_)] } :=
  ⟨_, by simp only [State.tideEvent, h]; rfl⟩

theorem State.tideEvent_log (s : State) (h : ev.action = 7) :
    s.tideEvent ev = s.raiseTick ev.tick { code := 0x14, source := ev.arg, arg0 := ev.theta, arg1 := ev.entry } := by
  simp [State.tideEvent, h]

/-- The oldest event frame of a Shoal leaves its queue and acts. -/
theorem exec_eventFrame_cons (hawake : s.awake = true) (hev : s.shoals[k].events = ev :: rest) :
    exec (.eventFrame k) s = .next ((s.modShoal k fun h => { h with events := rest }).tideEvent ev) := by
  change execEventFrame k s = _
  simp only [execEventFrame, hev]
  exact congrArg _ (if_pos hawake)

theorem insertEvent_perm (ev : TideEvent) (l : List TideEvent) : (insertEvent ev l).Perm (ev :: l) := by
  induction l with
  | nil => exact .refl _
  | cons y ys ih =>
    unfold insertEvent
    split
    · exact .refl _
    · exact (ih.cons y).trans (.swap ev y ys)

end EventFrame

/-! ### The obligation -/

/-- Settles O27: an entry whose reference passes its ANGLE is skipped or acts, and acts on its own Shoal and the decimators alone; an
event frame acts on nothing of the switching path. When the anchored flag stands, and between which ticks a pass is tested, are the
model's readings of R63 and R65 (logs 31 and 36). -/
theorem tideEventsComplete : Obligations.TideEventsComplete := by
  refine ⟨fun s e x hawake hx hold => ⟨fun hen harm hblock hpass => ⟨?acts, ?holding, ?anchored⟩, ?idle, ?gate, ?early, ?raised⟩, ?frame,
    insertEvent_perm⟩
  case acts =>
    intro hanch hhold
    obtain ⟨d, hact⟩ := s.tideAct_held e x
    refine ⟨_, (exec_tideCrossing_acts hx hold hawake hen harm hblock hpass (ShoalSt.not_skips_free hanch hhold)).trans (by rw [hact]), ?_⟩
    simp only [Fin.getElem_fin, vmod_same, ShoalSt.afterAct, vset_same, TideEntry.fired]
    exact ⟨trivial, trivial, trivial, rfl, fun h2 => ⟨s.crossingEvent e x, if_pos h2, rfl, rfl, rfl, rfl⟩,
      fun h1 => if_neg (by omega), trivial, trivial, trivial, trivial⟩
  case holding =>
    intro hanch hhold
    refine ⟨fun h2 h7 => exec_tideCrossing_skipped hx hold hawake hen harm hblock hpass (ShoalSt.skips_holding hhold h2 h7), ?_⟩
    intro h1
    obtain ⟨d, hact⟩ := s.tideAct_held e x
    refine ⟨_, exec_tideCrossing_acts hx hold hawake hen harm hblock hpass (h1 ▸ ShoalSt.not_skips_sample), rfl, ?_⟩
    simp [hact, ShoalSt.afterAct, TideEntry.fired]
  case anchored =>
    exact fun hanch h4 h6 =>
      exec_tideCrossing_skipped hx hold hawake hen harm hblock hpass (ShoalSt.skips_anchored hanch h4 h6)
  case idle => exact exec_tideCrossing_idle hx hold
  case gate =>
    intro hen hgated harm hgate
    exact ⟨exec_tideGateArm_arms hx hawake hen hgated harm hgate, exec_tideGateArm_unlocked hx hawake hen hgated harm hgate⟩
  case early => exact fun h => exec_tideGateArm_early hx (decide_eq_false (by omega))
  case raised => exact s.raise_shoals ..
  case frame =>
    intro s k ev rest hawake hev
    obtain ⟨hshoals, hpwm, hsk⟩ : _ ∧ _ ∧ _ := by
      simpa [State.switching] using (s.modShoal k fun h => { h with events := rest }).tideEvent_switching ev
    refine ⟨_, exec_eventFrame_cons hawake hev, by simp [hshoals], fun h6 => ?_, State.tideEvent_log _, hsk, hpwm⟩
    obtain ⟨at_, hflag⟩ := State.tideEvent_flag (s.modShoal k fun h => { h with events := rest }) h6
    simp [hflag]

end Sys2Proof.Machine
end

section
/-! The auxiliary converter and the pair's two commands (R267 to R280, R394, R395): what a trigger, a sequence's start, the end of an
entry and the end of an urgent conversion do to the converter, what a reply leaves as it was, and the obligation O20. -/
namespace Sys2Proof.Machine

/-! ### What a reply leaves as it was -/

section Reply
variable {α : Type} {g : State → α}

section
variable (hnet : ∀ (s : State) (f : NetIf → NetIf), g (s.modNet f) = g s)
include hnet

theorem State.send_keeps (s : State) (n : Net) (o : Out) : g (s.send n o) = g s :=
  (hnet _ _).trans (hnet _ _)

theorem State.prpNext_keeps (s : State) : g s.prpNext = g s := by
  unfold State.prpNext
  split
  · exact hnet _ _
  · rfl

variable (hhost : ∀ (s : State) (f : HostIf → HostIf), g (s.modHost f) = g s)
include hhost

/-- A reply goes to the host interface or to a network: what neither can change stays. -/
theorem State.deliver_keeps (s : State) (req : Req) (txn : Nat) (r : Reply) : g (s.deliver req txn r) = g s := by
  have hout : ∀ (t : State) (n : Net) (o : Out), g (if t.act.net.ports[n].link then t.send n o else t) = g t := by
    intro t n o
    split
    · exact State.send_keeps hnet t n o
    · rfl
  unfold State.deliver
  split
  · rfl
  · split
    · exact hhost _ _
    · split
      · exact (State.prpNext_keeps hnet _).trans ((hout _ _ _).trans (hout _ _ _))
      · exact State.send_keeps hnet _ _ _

/-- Keeping a reply and sending it to the request and its twins changes the host interface and the networks alone (R436). -/
theorem State.reply_keeps (s : State) (it : QItem) (status : Nat) (payload : List Byte) : g (s.reply it status payload) = g s := by
  have htwins : ∀ (twins : List QItem) (r : QItem → Reply) (t : State), g (twins.foldl (fun t w =>
      (t.deliver w.req w.txn (r w)).modHost fun h => { h with replays := satInc 16 h.replays }) t) = g t := by
    intro twins r
    induction twins with
    | nil => exact fun _ => rfl
    | cons w ws ih => exact fun t => (ih _).trans ((hhost _ _).trans (State.deliver_keeps hnet hhost _ _ _ _))
  exact (htwins _ _ _).trans ((hhost _ _).trans ((hhost _ _).trans (State.deliver_keeps hnet hhost _ _ _ _)))

end

variable (s : State) (it : QItem) (status : Nat) (payload : List Byte)

@[simp] theorem State.reply_adc : (s.reply it status payload).act.adc = s.act.adc :=
  State.reply_keeps (g := fun t => t.act.adc) (by simp) (by simp) s it status payload
@[simp] theorem State.reply_firm : (s.reply it status payload).firm = s.firm :=
  State.reply_keeps (g := State.firm) (by simp) (by simp) s it status payload
@[simp] theorem State.reply_freeCount : (s.reply it status payload).freeCount = s.freeCount :=
  State.reply_keeps (g := State.freeCount) (by simp) (by simp) s it status payload

end Reply

/-! ### Triggers (R271, R272) -/

/-- Updates of the converter that agree on it as it stands are one. -/
theorem State.modAdc_congr {s : State} {f g : Adc → Adc} (h : f s.act.adc = g s.act.adc) : s.modAdc f = s.modAdc g :=
  congrArg (fun x => { s with hl := vset s.hl s.hd { s.act with adc := x } }) h

section Trigger
variable {a : Adc} {rank entry startAt : Nat}

theorem Adc.trigger_running (h : a.running = true) : a.trigger rank entry startAt = a.overrun := by
  simp [Adc.trigger, h]

theorem Adc.trigger_free (hrun : a.running = false) (hfree : a.scheduled = none) : a.trigger rank entry startAt =
    { a with scheduled := some (entry, rank), entry := entry % 32, startAt := startAt, shifted := false } := by
  simp [Adc.trigger, hrun, hfree]

end Trigger

theorem exec_adcTimer_due {s : State} (hawake : s.awake = true) (hT : (s.adcPar P_ADC_TIMER_T).toNat ≠ 0)
    (hpast : s.act.adc.timerAt + 400 * (s.adcPar P_ADC_TIMER_T).toNat ≤ s.clk.now) :
    exec .adcTimer s = .next (s.modAdc fun a =>
      { a.trigger 1 (s.adcPar P_ADC_TIMER_ENTRY).toNat (s.clk.now + s.adcDelay) with timerAt := s.clk.now }) := by
  have hdue : s.adcTimerDue = true := by
    simp [State.adcTimerDue, hawake, hT, usTicks, Nat.mul_comm _ 400, hpast]
  exact congrArg _ (if_pos hdue)

/-! ### ADC_SEQ_START, ADC_ENTRY_DONE (R269 to R274) -/

/-- The converter as a scheduled sequence starts from an entry: waiting urgent requests interrupt it after one slot. -/
def Adc.started (a : Adc) (entry now : Nat) : Adc :=
  { a with scheduled := none, running := true, entry := entry % 32, restarted := false, shifted := decide (a.startAt < now)
           between := false, resuming := !a.urgent.isEmpty, slotAt := if a.urgent.isEmpty then now else now + slotTicks }

theorem exec_adcSeqStart_starts {s : State} {x : Nat × Nat} (hawake : s.awake = true) (hx : s.act.adc.scheduled = some x)
    (hat : s.act.adc.startAt ≤ s.clk.now) : exec .adcSeqStart s = .next (s.modAdc fun a => a.started x.1 s.clk.now) := by
  refine congrArg _ ((if_pos hawake).trans (State.modAdc_congr ?_))
  simp only [hx]
  exact if_neg (by omega)

/-- The converter once an entry's word is written: the sequence ends, or its next entry follows behind the waiting urgent requests. -/
def Adc.afterEntry (a : Adc) (e : Fin 36) (word now : Nat) (ends : Bool) : Adc :=
  let a1 := { a.write e word with restarted := false, slotAt := now }
  if ends then { a1 with running := false, shifted := false, seqCount := (a1.seqCount + 1) % 256 }
  else { a1 with entry := e.val + 1, resuming := !a.urgent.isEmpty, between := !a.urgent.isEmpty, shifted := a1.shifted || !a.urgent.isEmpty }

section Entry
variable (a : Adc) (e : Fin 36) (word now : Nat) (ends : Bool)

@[simp] theorem Adc.afterEntry_results : (a.afterEntry e word now ends).results = vset a.results e word := by
  cases ends <;> rfl
@[simp] theorem Adc.afterEntry_fresh : (a.afterEntry e word now ends).fresh = vset a.fresh e true := by
  cases ends <;> rfl

end Entry

/-- The running entry's slots are over: its word is written, and the sequence goes on or ends. -/
theorem exec_adcEntryDone_writes {s : State} {codes : List Int} {e : Fin 36} (he : e.val < 32) (hawake : s.awake = true)
    (hrun : s.act.adc.running = true) (hres : s.act.adc.resuming = false) (hentry : s.act.adc.entry = e.val) {w : Nat}
    (hw : w = (s.adcPar (P_ADC_SEQ e.val)).toNat) (hover : s.act.adc.slotAt + 200 * 2 ^ bitsOf w 14 13 ≤ s.clk.now) :
    exec (.adcEntryDone codes) s = .next (s.modAdc fun a => a.afterEntry e
      (s.adcResult (w % 32) (adcSlots (bitsOf w 14 13) codes) s.act.adc.shifted s.act.adc.seqCount) s.clk.now
      (bit w 15 || decide (e.val = 31))) := by
  subst hw
  have hmod : s.act.adc.entry % 32 = e.val := by omega
  have hslots : s.act.adc.slotsOver s.clk.now (bitsOf (s.adcPar (P_ADC_SEQ e.val)).toNat 14 13) = true := decide_eq_true hover
  change execAdcEntryDone codes s = _
  simp only [execAdcEntryDone, hmod, hawake, hrun, hres, hslots]
  rfl

/-! ### ADC_URGENT_DONE (R273, R276) -/

/-- The converter once its oldest urgent request's word is written: an interrupted sequence resumes when none is left. -/
def Adc.afterUrgent (a : Adc) (rest : List Urgent) (word now : Nat) : Adc :=
  let a1 := { a.write ⟨32 + a.urgentNo % 4, by omega⟩ word with urgent := rest, urgentNo := (a.urgentNo + 1) % 4, slotAt := now }
  if rest.isEmpty && a.resuming then { a1 with resuming := false, restarted := !a.between, between := false, shifted := true } else a1

/-- The word of an urgent request's input (R274, R276). -/
def State.urgentWord (s : State) (u : Urgent) (codes : List Int) : Nat :=
  s.adcResult u.input (adcSlots u.avg codes) false (u.item.req.seq % 256)

/-- A free value has been read (log 23). -/
def State.freeRead (s : State) : State := { s with freeCount := s.freeCount + 1 }

section
variable (s : State) (a : Adc) (rest : List Urgent) (word now : Nat)

@[simp] theorem Adc.afterUrgent_urgent : (a.afterUrgent rest word now).urgent = rest := by
  unfold Adc.afterUrgent
  split <;> rfl
@[simp] theorem Adc.afterUrgent_urgentNo : (a.afterUrgent rest word now).urgentNo = (a.urgentNo + 1) % 4 := by
  unfold Adc.afterUrgent
  split <;> rfl

@[simp] theorem State.freeRead_act : s.freeRead.act = s.act := rfl
@[simp] theorem State.freeRead_firm : s.freeRead.firm = s.firm := rfl
@[simp] theorem State.freeRead_freeCount : s.freeRead.freeCount = s.freeCount + 1 := rfl

end

section UrgentDone
variable {s : State} {codes : List Int}

theorem exec_adcUrgentDone_nil (h : s.act.adc.urgent = []) : exec (.adcUrgentDone codes) s = .next s := by
  change execAdcUrgentDone codes s = _
  simp only [execAdcUrgentDone, h]

/-- While an entry converts, no urgent request completes. -/
theorem exec_adcUrgentDone_converting (hrun : s.act.adc.running = true) (hres : s.act.adc.resuming = false) :
    exec (.adcUrgentDone codes) s = .next s := by
  cases hq : s.act.adc.urgent with
  | nil => exact exec_adcUrgentDone_nil hq
  | cons u rest =>
    change execAdcUrgentDone codes s = _
    simp [execAdcUrgentDone, hq, hrun, hres]

/-- The oldest urgent request completes: it leaves the queue, the converter writes its word, a free value is read for NEW, and its reply
is formed. -/
theorem exec_adcUrgentDone_replies {u : Urgent} {rest : List Urgent} (hawake : s.awake = true) (hq : s.act.adc.urgent = u :: rest)
    (hover : s.act.adc.slotAt + 200 * 2 ^ u.avg ≤ s.clk.now) (hfree : s.act.adc.running = false ∨ s.act.adc.resuming = true)
    (hbefore : s.act.adc.scheduled = none ∨ s.clk.now ≤ s.act.adc.startAt) :
    exec (.adcUrgentDone codes) s = .next ((s.modAdc fun a => a.afterUrgent rest (s.urgentWord u codes) s.clk.now).freeRead.reply u.item ST_OK
      (le 4 (s.urgentWord u codes + Config.freeValue s.freeCount % 2 * 2 ^ 31))) := by
  have hslots : s.act.adc.slotsOver s.clk.now u.avg = true := decide_eq_true hover
  have hidle : (s.act.adc.running && !s.act.adc.resuming) = false := by
    rcases hfree with h | h <;> simp [h]
  have hwait : (s.act.adc.scheduled.isSome && decide (s.act.adc.startAt < s.clk.now)) = false := by
    rcases hbefore with h | h <;> simp [h]
  change execAdcUrgentDone codes s = _
  simp only [execAdcUrgentDone, hq, hawake, hslots, hidle, hwait]
  rfl

end UrgentDone

/-! ### ADC_PARAM_APPLY (R280) -/

theorem exec_adcParamApply (s : State) :
    exec .adcParamApply s = .next (s.modAdc fun a => if a.idle then { a with inForce := none } else a) := rfl

/-! ### ADC_URGENT, ADC_START (R273, R276, R277) -/

theorem exec_adcUrgent (r : Req) (s : State) : exec (.adcUrgent r) s = .next (s.hostItem 0xC4 r .device (adcUrgentAns r.payload)) := rfl
theorem exec_adcStart (r : Req) (s : State) : exec (.adcStart r) s = .next (s.host 0xC5 r .device (adcStartAns r.payload)) := rfl

/-- The converter once an urgent request has joined the queue's end: it interrupts the entry that converts, at the end of
the slot in which it came, or waits its turn. -/
def Adc.queued (a : Adc) (u : Urgent) (now : Nat) : Adc :=
  let interrupts := a.running && !a.restarted && !a.resuming && a.urgent.isEmpty
  let at_ := if interrupts then a.slotAt + ceilDiv (now - a.slotAt) slotTicks * slotTicks
    else if a.running || !a.urgent.isEmpty then a.slotAt else now
  { a with urgent := a.urgent ++ [u], slotAt := at_, resuming := a.resuming || interrupts, between := a.between && !interrupts }

section Commands
variable {b : List Byte} {u : State}

theorem adcUrgentAns_queues {it : QItem} (hlen : b.length = 2) (hin : by8 b 0 ≤ 23) (havg : by8 b 1 ≤ 3) (hroom : u.act.adc.urgent.length < 4) :
    adcUrgentAns b it u = { st := u.modAdc fun a => a.queued ⟨by8 b 0, by8 b 1, it⟩ u.clk.now, later := true } := by
  simp only [adcUrgentAns, decide_eq_false (not_not.mpr hlen), decide_eq_false hin.not_gt, decide_eq_false havg.not_gt,
    decide_eq_false hroom.not_ge]
  rfl

/-- An accepted urgent request waits in the converter's queue: its reply is formed when its conversion completes. -/
theorem exec_adcUrgent_queues {s : State} {r : Req} (hh : s.hears 0xC4 r) (ht : r.target = 0xFF) (hlen : r.payload.length = 2)
    (hin : by8 r.payload 0 ≤ 23) (havg : by8 r.payload 1 ≤ 3) (hroom : s.act.adc.urgent.length < 4) :
    exec (.adcUrgent r) s = .next ((s.begin_ 0xC4 r).1.modAdc fun a =>
      a.queued ⟨by8 r.payload 0, by8 r.payload 1, (s.begin_ 0xC4 r).2⟩ s.clk.now) := by
  obtain ⟨ha, hq, hb⟩ := hh
  rw [exec_adcUrgent, s.hostItem_runs 0xC4 r .device _ ha hq hb ((Targets.device_takes _).mpr ht),
    adcUrgentAns_queues hlen hin havg (by simpa using hroom), Ans.finish_later _ _ rfl, State.begin_clk]

theorem adcStartAns_length (hlen : b.length ≠ 1) : adcStartAns b u = u.err ST_BAD_LENGTH := by
  simp [adcStartAns, hlen]

theorem adcStartAns_range (hlen : b.length = 1) (hentry : 31 < by8 b 0) : adcStartAns b u = u.err ST_OUT_OF_RANGE := by
  simp [adcStartAns, hlen, hentry]

theorem adcStartAns_busy (hlen : b.length = 1) (hentry : by8 b 0 ≤ 31)
    (hbusy : u.act.adc.scheduled.isSome = true ∨ u.act.adc.running = true) : adcStartAns b u = u.err ST_BUSY := by
  have hb : (u.act.adc.scheduled.isSome || u.act.adc.running) = true := by simpa using hbusy
  simp [adcStartAns, hlen, decide_eq_false hentry.not_gt, hb]

theorem adcStartAns_ok (hlen : b.length = 1) (hentry : by8 b 0 ≤ 31) (hfree : u.act.adc.scheduled = none) (hrun : u.act.adc.running = false) :
    adcStartAns b u = (u.modAdc fun a => a.trigger 2 (by8 b 0) (u.clk.now + u.adcDelay)).ok := by
  simp [adcStartAns, hlen, decide_eq_false hentry.not_gt, hfree, hrun]

end Commands

/-! ### PAIR_STATUS, PAIR_HANDOVER (R394, R395) -/

theorem exec_pairStatus (r : Req) (s : State) :
    exec (.pairStatus r) s = .next (s.host 0xB0 r .any (pairStatusAns r.target r.payload)) := rfl
theorem exec_pairHandover (r : Req) (s : State) :
    exec (.pairHandover r) s = .next (s.host 0xB1 r .any (pairHandoverAns r.target r.payload)) := rfl

/-- A command that checks TARGET itself, let through by its checks, executes and is answered OK. -/
theorem State.host_any_answered_ok {s : State} {op : Nat} {r : Req} {f : State → Ans} {effect : State → State} {payload : State → List Byte}
    (hh : s.hears op r) (hf : f (s.begin_ op r).1 = (effect (s.begin_ op r).1).ok (payload (s.begin_ op r).1)) :
    s.host op r .any f = s.answered op r effect payload := by
  obtain ⟨ha, hq, hb⟩ := hh
  rw [s.host_runs op r .any f ha hq hb rfl, hf]
  rfl

@[simp] theorem State.begin_peerAcked (s : State) (op : Nat) (r : Req) : (s.begin_ op r).1.peerAcked = s.peerAcked := by
  simp [State.peerAcked]

section PairCommands
variable {b : List Byte} {t : Nat} {u : State}

theorem pairStatusAns_ok (hd : u.dev ≠ .boot) (ht : t = 0xFF) (hb : b = []) : pairStatusAns t b u =
    u.ok (u.ownWords [0x900, 0x904, 0x908, 0x90C, 0x910, 0x914] ++ if u.peerAcked then words u.act.pair.peerWords else zeros 24) := by
  cases hack : u.act.pair.lastAck with
  | none => simp [pairStatusAns, State.peerAcked, hack, hd, ht, hb]
  | some at_ => simp [pairStatusAns, State.peerAcked, hack, hd, ht, hb]

theorem pairHandoverAns_ok (hboot : u.dev ≠ .boot) (hstandby : u.dev ≠ .standby) (hpeer : u.act.pair.peerEligible = true)
    (hno : u.act.pair.handover = false) (ht : t = 0xFF) (hb : b = []) :
    pairHandoverAns t b u = (u.modPair u.hd fun p => { p with handover := true }).ok := by
  simp [pairHandoverAns, hboot, hstandby, hpeer, hno, ht, hb]

end PairCommands

/-! ### The obligation -/

/-- Settles O20: each command's own checks let it through or refuse it, and its answer becomes its reply; each event of the converter
acts on the converter alone, but for the reply of an urgent request. That the free values advance with NEW of that reply is the model's
choice (log 23). -/
theorem adcPairComplete : Obligations.AdcPairComplete := by
  refine ⟨fun s r ha hd ht => ⟨?urgent, ?start, ?status, ?handover, ?cls, ?badLength, ?range, ?busy⟩,
    fun s codes => ⟨?timer, ?seqStart, ?entryDone, ?urgentDone, fun hrun hres => exec_adcUrgentDone_converting hrun hres,
      fun hq => exec_adcUrgentDone_nil hq, ?apply, ?keep⟩⟩
  case urgent =>
    intro hlen hin havg hroom hq
    obtain ⟨q, hhost⟩ := s.begin_host 0xC4 r
    exact ⟨_, exec_adcUrgent_queues (State.hears_of_not_boot ha hd hq) ht hlen hin havg hroom, by simp [Adc.queued, hhost]⟩
  case start =>
    intro hlen hentry hfree hrun hq
    refine (exec_adcStart r s).trans (congrArg _ (State.host_answered_ok (State.hears_of_not_boot ha hd hq) ht ?_))
    exact adcStartAns_ok hlen hentry (by simpa using hfree) (by simpa using hrun)
  case status =>
    rintro hp _ rfl hq
    refine (exec_pairStatus r s).trans (congrArg _ (State.host_any_answered_ok (State.hears_of_not_boot ha hd hq) ?_))
    simpa [unchanged] using pairStatusAns_ok (u := (s.begin_ 0xB0 r).1) (by simpa using hd) ht hp
  case handover =>
    intro hstandby hpeer hno hp hq
    refine (exec_pairHandover r s).trans (congrArg _ (State.host_any_answered_ok (State.hears_of_not_boot ha hd hq) ?_))
    simpa [noPayload] using pairHandoverAns_ok (u := (s.begin_ 0xB1 r).1) (by simpa using hd) (by simpa using hstandby) (by simpa using hpeer)
      (by simpa using hno) ht hp
  case cls => decide
  case badLength =>
    intro hlen hq
    exact (exec_adcStart r s).trans
      (congrArg _ (State.host_answered_err (State.hears_of_not_boot ha hd hq) ht (adcStartAns_length hlen)))
  case range =>
    intro hlen hentry hq
    exact (exec_adcStart r s).trans
      (congrArg _ (State.host_answered_err (State.hears_of_not_boot ha hd hq) ht (adcStartAns_range hlen hentry)))
  case busy =>
    intro hlen hentry hbusy hq
    exact (exec_adcStart r s).trans (congrArg _ (State.host_answered_err (State.hears_of_not_boot ha hd hq) ht
      (adcStartAns_busy hlen hentry (by simpa using hbusy))))
  case timer =>
    intro hawake hT hpast
    refine ⟨fun hrun hfree => ?_, fun hrun => ⟨_, exec_adcTimer_due hawake hT hpast, ?_⟩⟩
    · rw [exec_adcTimer_due hawake hT hpast]
      exact congrArg _ (State.modAdc_congr (by simp only [Adc.trigger_free hrun hfree]))
    · simp [Adc.trigger_running hrun, Adc.overrun]
  case seqStart =>
    intro x hawake hx hat
    exact ⟨_, exec_adcSeqStart_starts hawake hx hat, by simp [Adc.started]⟩
  case entryDone =>
    intro e w he hawake hrun hres hentry hw hover
    refine ⟨_, exec_adcEntryDone_writes he hawake hrun hres hentry hw hover, by simp, by simp, fun i hi => ?_, fun hend => ?_,
      fun hmore hlt => ?_⟩
    · simp [vset_other _ _ _ _ hi.symm]
    · have hends : (bit w 15 || decide (e.val = 31)) = true := by simpa using hend
      simp [hends, Adc.afterEntry, Adc.write]
    · have hends : (bit w 15 || decide (e.val = 31)) = false := by simp [hmore, hlt.ne]
      simp [hends, Adc.afterEntry, Adc.write, hrun]
  case urgentDone =>
    intro u rest hawake hq hover hfree hbefore
    exact ⟨_, exec_adcUrgentDone_replies hawake hq hover hfree hbefore, by simp⟩
  case apply =>
    intro hidle
    exact (exec_adcParamApply s).trans (congrArg _ (State.modAdc_congr (if_pos hidle)))
  case keep =>
    intro hidle
    exact ⟨_, exec_adcParamApply s, by simp [hidle]⟩

end Sys2Proof.Machine
end

section
/-! The safety and metering commands (R322 to R326, R362, R368, R369, R373): what each command's own checks let through, the shape of its
reply, and the obligation O15. -/
namespace Sys2Proof.Machine

/-! ### From a command's answer to its reply -/

/-- A command that is heard and takes its TARGET is answered with what its own checks let through, whatever the status. -/
theorem State.host_answered {s : State} {op : Nat} {r : Req} {k : Targets} {f : State → Ans} {effect : State → State}
    {payload : State → List Byte} {status : Nat} (hh : s.hears op r) (ht : targetRefusal k r.target = none)
    (hf : f (s.begin_ op r).1 =
      { st := effect (s.begin_ op r).1, status := status, payload := payload (s.begin_ op r).1 }) :
    s.host op r k f = s.answered op r effect payload status := by
  obtain ⟨ha, hq, hb⟩ := hh
  rw [s.host_runs op r k f ha hq hb ht, hf]
  rfl

/-! ### Safety commands -/

theorem exec_safetyStatus (r : Req) (s : State) :
    exec (.safetyStatus r) s = .next (s.host 0x90 r .device (safetyStatusAns r.payload)) := rfl
theorem exec_safetyResetArm (r : Req) (s : State) :
    exec (.safetyResetArm r) s = .next (s.host 0x91 r .any (safetyArmAns r.target r.payload)) := rfl
theorem exec_safetyParamWrite (r : Req) (s : State) :
    exec (.safetyParamWrite r) s = .next (s.host 0x92 r .device (safetyWriteAns r.payload)) := rfl
theorem exec_safetyCommission (r : Req) (s : State) :
    exec (.safetyCommission r) s = .next (s.host 0x93 r .device (safetyCommissionAns r.payload)) := rfl

section Safety
variable {b : List Byte} {u : State}

theorem safetyStatusAns_ok (hb : b = []) : safetyStatusAns b u = u.ok (words ((wordRange 0x000 0x058).map u.bwWord)) := by
  simp [safetyStatusAns, hb]

theorem safetyArmAns_ok (hstands : u.bw.lockout = true ∨ u.bw.anyPortLockout = true) (hcan : u.bw.resettable u.clk.now true = true)
    (hb : b = []) : safetyArmAns 0xFF b u =
      ((u.modBw fun x => { x with resetArmed := true, armedAt := u.clk.now }).raise 0x93 0x30).ok := by
  have hlock : (u.bw.lockout || u.bw.anyPortLockout) = true := by simpa using hstands
  simp [safetyArmAns, hlock, hcan, hb]

/-- Every entry names a safety parameter and gives it a value that it admits, so no entry is refused. -/
theorem safetyWriteAns_ok {count : Nat} (hdev : u.dev = .service) (hlen : b.length = 4 + 8 * count) (hcount : by8 b 0 = count)
    (hpos : 0 < count) (hmax : count ≤ 32) (hzero : rd b 1 3 = 0)
    (hes : ∀ e ∈ paramEntries b count, e.2.1 = 0 ∧ safetyNumbers.contains e.1 = true ∧ paramAdmits e.1 (paramOfWire e.1 e.2.2) = true)
    (hwait : u.bw.commissionWait = false) :
    safetyWriteAns b u = (u.modBw fun x => { x with pending := x.pending.setAll (paramEntries b count) }).ok := by
  have hnamed : (paramEntries b count).any (fun e => decide (e.2.1 ≠ 0) || !safetyNumbers.contains e.1) = false := by
    refine List.any_eq_false.mpr fun e he => ?_
    obtain ⟨hz, hn, _⟩ := hes e he
    rw [hz, hn]
    decide
  have hadmitted : (paramEntries b count).any (fun e => !paramAdmits e.1 (paramOfWire e.1 e.2.2)) = false := by
    refine List.any_eq_false.mpr fun e he => ?_
    obtain ⟨_, _, ha⟩ := hes e he
    rw [ha]
    decide
  simp only [safetyWriteAns, hcount, hnamed, hadmitted, hdev, hlen, hzero, hwait, decide_eq_false hmax.not_gt,
    decide_eq_false (show ¬(count = 0 ∨ (0 : Nat) ≠ 0) by omega)]
  simp

theorem safetyCommissionAns_pending (hdev : u.dev = .service) (hlen : b.length = 4) (hwait : u.bw.commissionWait = false)
    (hcrc : rd b 0 4 = safetyCrcOf u.bw.pending) (hchecks : safetyChecks u.bw.pending u.act.cfg.committed.params = true) :
    safetyCommissionAns b u =
      { st := u.modBw fun x => { x with commissionWait := true, commissionAt := u.clk.now }, status := ST_PENDING } := by
  simp [safetyCommissionAns, hdev, hlen, hwait, hcrc, hchecks]

end Safety

/-! ### Metering commands -/

theorem exec_meterRead (r : Req) (s : State) :
    exec (.meterRead r) s = .next (s.host 0xA0 r .any (meterReadAns r.target r.payload)) := rfl
theorem exec_sessionRead (r : Req) (s : State) :
    exec (.sessionRead r) s = .next (s.host 0xA1 r .any (sessionReadAns r.target r.payload)) := rfl
theorem exec_meterInfo (r : Req) (s : State) :
    exec (.meterInfo r) s = .next (s.host 0xA2 r .any (meterInfoAns r.target r.payload)) := rfl

section Metering
variable {b : List Byte} {u : State}

/-- None of the refusals that the metering commands share holds: the cartridge is present, the length is the command's, and TARGET is a port
or all. -/
theorem meterRefusals_none {len t : Nat} {info : Bool} (habsent : u.meter.absent = false) (hlen : b.length = len)
    (ht : t ≤ 0x0B ∨ t = 0xFF) (hinfo : info = true → t = 0xFF) :
    meterRefusals u len info t b = [(false, ST_STATE_FORBIDS), (false, ST_BAD_LENGTH), (false, ST_BAD_PARAMETER), (false, ST_OUT_OF_RANGE)] := by
  have hslot : t ≠ 0x0C := by omega
  have hknown : t ≤ 0x0C ∨ t = 0xFF := by omega
  cases info with
  | false => simp [meterRefusals, habsent, hlen, hslot, hknown]
  | true => simp [meterRefusals, habsent, hlen, hinfo rfl]

variable (habsent : u.meter.absent = false) (hpowered : u.meter.powered = true)
include habsent hpowered

theorem meterReadAns_port (p : Port) (hlen : b.length = 4) :
    meterReadAns p.val b u = u.noteSeal.ok (u.meter.readPayload [p] (rd b 0 4) ++ u.ptpStamp) := by
  have hone : p.val ≠ 0xFF := by omega
  have hport : (⟨p.val % 12, by omega⟩ : Port) = p := Fin.ext (Nat.mod_eq_of_lt p.isLt)
  simp [meterReadAns, meterRefusals_none habsent hlen (Or.inl (Nat.le_of_lt_succ p.isLt)), hpowered, hone, hport]

theorem meterReadAns_all (hlen : b.length = 4) :
    meterReadAns 0xFF b u = u.noteSeal.ok (u.meter.readPayload (List.finRange 12) (rd b 0 4) ++ u.ptpStamp) := by
  simp [meterReadAns, meterRefusals_none habsent hlen (Or.inr rfl), hpowered]

theorem sessionReadAns_ok {t : Nat} (ht : t ≤ 0x0B ∨ t = 0xFF) (hlen : b.length = 9) (hcount : by8 b 8 ≠ 0) :
    sessionReadAns t b u =
      u.ok (u.meter.sessionPayload (if t = 0xFF then none else some t) (rd b 0 4) (rd b 4 4) (by8 b 8) ++ u.ptpStamp) := by
  simp [sessionReadAns, meterRefusals_none habsent hlen ht, hpowered, hcount]

theorem meterInfoAns_ok (hb : b = []) :
    meterInfoAns 0xFF b u = u.noteSeal.ok (words ((wordRange 0x000 0x02C).map u.meter.word)) := by
  have hlen : b.length = 0 := by simp [hb]
  simp [meterInfoAns, meterRefusals_none habsent hlen (Or.inr rfl), hpowered]

end Metering

theorem words_length (ws : List Nat) : (words ws).length = 4 * ws.length := by
  simp [words, List.length_flatMap, Nat.mul_comm]

/-- Without a key the cartridge names none and signs nothing (R322). -/
theorem Meter.unkeyed {m : Meter} (h : m.key = none) : m.keyIdOut = 0 ∧ ∀ bs : List Byte, m.tag bs = zeros 32 := by
  simp [Meter.keyIdOut, Meter.tag, h]

/-! ### The obligation -/

/-- Settles O15: each command's own checks let it through, and its answer becomes its reply. -/
theorem safetyMeterCommandsComplete : Obligations.SafetyMeterCommandsComplete := by
  refine ⟨fun s r ha hd ht => ⟨?status, ?arm, ?write, ?commission⟩,
    fun s r ha hd habsent hpowered => ⟨?port, ?all, ?session, ?info, Meter.unkeyed, ?size⟩⟩
  case status =>
    intro hp hq
    refine (exec_safetyStatus r s).trans (congrArg _ (State.host_answered_ok (State.hears_of_not_boot ha hd hq) ht ?_))
    exact safetyStatusAns_ok hp
  case arm =>
    intro hp hstands hcan hq
    refine (exec_safetyResetArm r s).trans (congrArg _ (State.host_any_answered_ok (State.hears_of_not_boot ha hd hq) ?_))
    rw [ht]
    exact safetyArmAns_ok (by simpa using hstands) (by simpa using hcan) hp
  case write =>
    intro count hdev hlen hcount hpos hmax hzero hes hwait hq
    refine (exec_safetyParamWrite r s).trans (congrArg _ (State.host_answered_ok (State.hears_of_not_boot ha hd hq) ht ?_))
    exact safetyWriteAns_ok (by simpa using hdev) hlen hcount hpos hmax hzero hes (by simpa using hwait)
  case commission =>
    intro hdev hlen hwait hcrc hchecks hq
    refine (exec_safetyCommission r s).trans (congrArg _ (State.host_answered (State.hears_of_not_boot ha hd hq)
      ((Targets.device_takes _).mpr ht) ?_))
    simpa [noPayload] using safetyCommissionAns_pending (u := (s.begin_ 0x93 r).1) (by simpa using hdev) hlen (by simpa using hwait)
      (by simpa using hcrc) (by simpa using hchecks)
  case port =>
    intro p ht hlen hq
    refine (exec_meterRead r s).trans (congrArg _ (State.host_any_answered_ok (State.hears_of_not_boot ha hd hq) ?_))
    rw [ht]
    exact meterReadAns_port (by simpa using habsent) (by simpa using hpowered) p hlen
  case all =>
    intro ht hlen hq
    refine (exec_meterRead r s).trans (congrArg _ (State.host_any_answered_ok (State.hears_of_not_boot ha hd hq) ?_))
    rw [ht]
    exact meterReadAns_all (by simpa using habsent) (by simpa using hpowered) hlen
  case session =>
    intro ht hlen hcount hq
    refine (exec_sessionRead r s).trans (congrArg _ (State.host_any_answered_ok (State.hears_of_not_boot ha hd hq) ?_))
    exact sessionReadAns_ok (by simpa using habsent) (by simpa using hpowered) ht hlen hcount
  case info =>
    intro ht hp hq
    refine (exec_meterInfo r s).trans (congrArg _ (State.host_any_answered_ok (State.hears_of_not_boot ha hd hq) ?_))
    rw [ht]
    exact meterInfoAns_ok (by simpa using habsent) (by simpa using hpowered) hp
  case size =>
    rw [words_length, List.length_map]
    rfl

end Sys2Proof.Machine
end

section
/-! What leaves the cartridge as it is (R308, R328): every operation and command but the cartridge's own events, the reads that note
SEAL_STATE, the comparison of MODULE_SERIAL and the loss of supply. One lemma per operation, in the order of the model's files. -/
namespace Sys2Proof.Machine

/-! ### Branches and folds -/

/-- A view that every step of a fold keeps, the fold keeps. -/
theorem foldl_view {σ α β : Type} {v : σ → β} {f : σ → α → σ} (h : ∀ t x, v (f t x) = v t) (l : List α) (s : σ) :
    v (l.foldl f s) = v s := by
  induction l generalizing s with
  | nil => rfl
  | cons x xs ih => exact (ih _).trans (h s x)

@[simp] theorem State.ite_meter (c : Prop) [Decidable c] (a b : State) :
    (if c then a else b).meter = if c then a.meter else b.meter := apply_ite State.meter c a b
@[simp] theorem State.dite_meter (c : Prop) [Decidable c] (a : c → State) (b : ¬c → State) :
    (if h : c then a h else b h).meter = if h : c then (a h).meter else (b h).meter := apply_dite State.meter c a b
@[simp] theorem State.ite_fst {β : Type} (c : Prop) [Decidable c] (a b : State × β) :
    (if c then a else b).1 = if c then a.1 else b.1 := apply_ite Prod.fst c a b
@[simp] theorem Ans.ite_st (c : Prop) [Decidable c] (a b : Ans) : (if c then a else b).st = if c then a.st else b.st :=
  apply_ite Ans.st c a b

@[simp] theorem foldl_meter {α : Type} (f : State → α → State) (l : List α) (s : State) (h : ∀ t x, (f t x).meter = t.meter) :
    (l.foldl f s).meter = s.meter := foldl_view h l s
theorem foldl_fst_meter {α β : Type} (f : State × β → α → State × β) (l : List α) (s : State × β)
    (h : ∀ t x, (f t x).1.meter = t.1.meter) : (l.foldl f s).1.meter = s.1.meter := foldl_view (v := fun t => t.1.meter) h l s

variable (s : State)

@[simp] theorem State.eachPort_meter (f) (h : ∀ t x, (f t x).meter = t.meter) : (s.eachPort f).meter = s.meter := foldl_meter _ _ _ h
@[simp] theorem State.eachOf_meter (k f) (h : ∀ t x, (f t x).meter = t.meter) : (s.eachOf k f).meter = s.meter :=
  foldl_meter _ _ _ fun t _ => h t _

/-! ### Replies and the execution of a host command -/

@[simp] theorem State.send_meter (n o) : (s.send n o).meter = s.meter := rfl
@[simp] theorem State.prpNext_meter : s.prpNext.meter = s.meter := State.prpNext_keeps (g := State.meter) (by simp) s
@[simp] theorem State.deliver_meter (req txn r) : (s.deliver req txn r).meter = s.meter :=
  State.deliver_keeps (g := State.meter) (by simp) (by simp) s req txn r
@[simp] theorem State.reply_meter (it status payload) : (s.reply it status payload).meter = s.meter :=
  State.reply_keeps (g := State.meter) (by simp) (by simp) s it status payload
@[simp] theorem State.noteLatency_meter (it) : (s.noteLatency it).meter = s.meter := by simp [State.noteLatency]
@[simp] theorem State.refuseEarly_meter (op r st) : (s.refuseEarly op r st).meter = s.meter := by simp [State.refuseEarly]
@[simp] theorem Ans.finish_meter (a : Ans) (it : QItem) : (a.finish it).meter = a.st.meter := by simp [Ans.finish]

/- In parentheses, so that simp takes the next three for rewrites with a proof term and not for definitional ones: those it does not use
while it discharges the premise of a lemma below. -/
@[simp] theorem State.ok_st (p) : (s.ok p).st = s := (rfl)
@[simp] theorem State.err_st (p) : (s.err p).st = s := (rfl)
@[simp] theorem State.okAck_st (p) : (s.okAck p).st = s := (rfl)

/-- A view of the cartridge that the effect of a command keeps, its refusals keep too. -/
theorem State.check_view {α : Type} (v : Meter → α) (rs f) (h : v (f s).st.meter = v s.meter) :
    v (s.check rs f).st.meter = v s.meter := by
  unfold State.check
  split
  · rfl
  · exact h

/-- A host command keeps a view of the cartridge that its own effect keeps: taking the request and forming the reply do not reach the
cartridge. -/
theorem State.hostItem_view {α : Type} (v : Meter → α) (op r k f) (h : ∀ it u, v (f it u).st.meter = v u.meter) :
    v (s.hostItem op r k f).meter = v s.meter := by
  simp only [State.hostItem]
  split
  · rfl
  · split
    · exact congrArg v ((State.refuseEarly_meter ..).trans (s.begin_meter op r))
    · split <;> simp [h]

@[simp] theorem State.check_meter (rs f) (h : (f s).st.meter = s.meter) : (s.check rs f).st.meter = s.meter := s.check_view id rs f h
@[simp] theorem State.hostItem_meter (op r k f) (h : ∀ it u, (f it u).st.meter = u.meter) :
    (s.hostItem op r k f).meter = s.meter := s.hostItem_view id op r k f h
@[simp] theorem State.host_meter (op r k f) (h : ∀ u, (f u).st.meter = u.meter) : (s.host op r k f).meter = s.meter :=
  s.hostItem_view id op r k _ fun _ => h

/-- A state that a command answers holds the cartridge of the state it found. -/
def KeepsMeter (s : State) (r : Res) : Prop := ∀ t, r = .next t → t.meter = s.meter

@[simp] theorem keepsMeter_next (t : State) : KeepsMeter s (.next t) ↔ t.meter = s.meter :=
  ⟨fun h => h t rfl, fun h _ ht => Host.Outcome.next.inj ht ▸ h⟩
@[simp] theorem keepsMeter_ite (c : Prop) [Decidable c] (a b : Res) :
    KeepsMeter s (if c then a else b) ↔ if c then KeepsMeter s a else KeepsMeter s b := by split <;> rfl

/-! ### Shared operations: events, trips, device state -/

@[simp] theorem State.raiseTick_meter (tick e) : (s.raiseTick tick e).meter = s.meter := by simp [State.raiseTick]
@[simp] theorem State.raiseAs_meter (e) : (s.raiseAs e).meter = s.meter := by simp [State.raiseAs]
@[simp] theorem State.raise_meter (code source arg0 arg1 data) : (s.raise code source arg0 arg1 data).meter = s.meter := by
  simp [State.raise]
@[simp] theorem State.noteStores_meter (q15s q31s) : (s.noteStores q15s q31s).meter = s.meter := by simp [State.noteStores]
@[simp] theorem State.traceSource_meter (trig arg) : (s.traceSource trig arg).meter = s.meter := by simp [State.traceSource]
@[simp] theorem State.tripPort_meter (p t) : (s.tripPort p t).meter = s.meter := by simp [State.tripPort]
@[simp] theorem State.tripAdmitted_meter (t) : (s.tripAdmitted t).meter = s.meter := by simp [State.tripAdmitted]
@[simp] theorem State.abortBlackStart_meter (cause) : (s.abortBlackStart cause).meter = s.meter := by simp [State.abortBlackStart]
@[simp] theorem State.gatesOut_meter : s.gatesOut.meter = s.meter := by simp [State.gatesOut]
@[simp] theorem State.endFault_meter : s.endFault.meter = s.meter := by simp [State.endFault]
@[simp] theorem State.leaveLive_meter : s.leaveLive.meter = s.meter := by simp [State.leaveLive]
@[simp] theorem State.setDev_meter (new cause) : (s.setDev new cause).meter = s.meter := by
  unfold State.setDev
  (repeat' split) <;> simp
@[simp] theorem State.moduleTrip_meter (t cause) : (s.moduleTrip t cause).meter = s.meter := by simp [State.moduleTrip]
@[simp] theorem State.settle_meter : s.settle.meter = s.meter := by
  unfold State.settle
  split <;> simp
@[simp] theorem State.settleTripped_meter : s.settleTripped.meter = s.meter := by
  unfold State.settleTripped
  split <;> simp
@[simp] theorem State.dropSnaps_meter (base size) : (s.dropSnaps base size).meter = s.meter := by simp [State.dropSnaps]
@[simp] theorem State.failHeadland_meter (h) : (s.failHeadland h).meter = s.meter := by simp [State.failHeadland]

/-! ### Decimators and auxiliary converter -/

@[simp] theorem State.applyDec_meter : s.applyDec.meter = s.meter := by simp [State.applyDec]
@[simp] theorem State.feedLink_meter (l bytes bad) : (s.feedLink l bytes bad).meter = s.meter := by simp [State.feedLink]
@[simp] theorem State.ntcStep_meter (p) : (s.ntcStep p).meter = s.meter := by
  simp only [State.ntcStep]
  split <;> simp

/-! ### Clock loops and check-value units -/

@[simp] theorem State.regionSafe_meter (k) : (s.regionSafe k).meter = s.meter :=
  State.eachOf_meter _ _ _ fun _ _ => rfl
@[simp] theorem State.stopRegion_meter (k) : (s.stopRegion k).meter = s.meter := by simp [State.stopRegion]
@[simp] theorem State.stopAll_meter : s.stopAll.meter = s.meter := by simp [State.stopAll]
@[simp] theorem State.seedLoops_meter : s.seedLoops.meter = s.meter := by simp [State.seedLoops]
@[simp] theorem State.toBypass_meter (d cause) : (s.toBypass d cause).meter = s.meter := by
  simp only [State.toBypass]
  split <;> simp
@[simp] theorem execPllLossOfLock_keepsMeter (die) : KeepsMeter s (execPllLossOfLock die s) := by simp [execPllLossOfLock]
@[simp] theorem execReferenceLoss_keepsMeter : KeepsMeter s (execReferenceLoss s) := by simp [execReferenceLoss]
@[simp] theorem execReferenceReturn_keepsMeter : KeepsMeter s (execReferenceReturn s) := by simp [execReferenceReturn]
@[simp] theorem execPllRelock_keepsMeter (die phaseErr) : KeepsMeter s (execPllRelock die phaseErr s) := by
  unfold execPllRelock
  split <;> simp
@[simp] theorem execCrcSnoopFrame_keepsMeter (u bytes) : KeepsMeter s (execCrcSnoopFrame u bytes s) := by simp [execCrcSnoopFrame]
@[simp] theorem execCrcRegionPass_keepsMeter (u bytes) : KeepsMeter s (execCrcRegionPass u bytes s) := by simp [execCrcRegionPass]

/-! ### Pulse generators -/

@[simp] theorem State.dutyEntry_meter (p d tag) : (s.dutyEntry p d tag).meter = s.meter := by simp [State.dutyEntry]
@[simp] theorem State.holdBoundary_meter (k) : (s.holdBoundary k).meter = s.meter := by simp [State.holdBoundary]
@[simp] theorem State.safeRegionOver_meter (k) : (s.safeRegionOver k).meter = s.meter := by simp [State.safeRegionOver]
@[simp] theorem execPwmEdge_keepsMeter (p k rise) : KeepsMeter s (execPwmEdge p k rise s) := by simp [execPwmEdge]
@[simp] theorem execGateTurnOnDelay_keepsMeter (p k high) : KeepsMeter s (execGateTurnOnDelay p k high s) := by simp [execGateTurnOnDelay]
@[simp] theorem execBsRefresh_keepsMeter (p k) : KeepsMeter s (execBsRefresh p k s) := by simp [execBsRefresh]
@[simp] theorem execBsPulseEnd_keepsMeter (p k) : KeepsMeter s (execBsPulseEnd p k s) := by simp [execBsPulseEnd]
@[simp] theorem execGateOffDemand_keepsMeter (p k src) : KeepsMeter s (execGateOffDemand p k src s) := by
  unfold execGateOffDemand
  split <;> simp
@[simp] theorem execDlUnlock_keepsMeter (k) : KeepsMeter s (execDlUnlock k s) := by
  simp only [execDlUnlock, keepsMeter_next]
  split
  · exact (State.raise_meter ..).trans (State.eachOf_meter _ _ _ fun _ _ => rfl)
  · rfl
@[simp] theorem execDlLock_keepsMeter (k code) : KeepsMeter s (execDlLock k code s) := by simp [execDlLock]

/-! ### The tick -/

@[simp] theorem State.tick_meter : s.tick.meter = s.meter := by simp [State.tick]

/-! ### Command-link frames and the tide table -/

@[simp] theorem State.reportHold_meter (k) : (s.reportHold k).meter = s.meter := by simp [State.reportHold]
@[simp] theorem State.framePort_meter (p c) : (s.framePort p c).meter = s.meter := by
  simp only [State.framePort]
  split <;> simp
@[simp] theorem State.frameSent_meter (k) : (s.frameSent k).meter = s.meter := by simp [State.frameSent]
@[simp] theorem State.takeFrame_meter (k) : (s.takeFrame k).meter = s.meter := by simp [State.takeFrame]
@[simp] theorem execCommandLinkFrame_keepsMeter (k sender crcOk) : KeepsMeter s (execCommandLinkFrame k sender crcOk s) := by
  simp [execCommandLinkFrame]
@[simp] theorem State.moveBlocks_meter (old k) : (s.moveBlocks old k).meter = s.meter :=
  State.eachOf_meter _ _ _ fun _ _ => rfl
@[simp] theorem State.holderTune_meter : s.holderTune.meter = s.meter := by
  unfold State.holderTune
  split <;> simp
@[simp] theorem State.applyReplicas_meter : s.applyReplicas.meter = s.meter := by simp [State.applyReplicas]
@[simp] theorem State.tideEffect_meter (k c e) : (s.tideEffect k c e).meter = s.meter := by simp [State.tideEffect]
@[simp] theorem State.reportAnchor_meter (k d) : (s.reportAnchor k d).meter = s.meter := by simp [State.reportAnchor]
@[simp] theorem State.applyShoal_meter (k) : (s.applyShoal k).meter = s.meter := by
  unfold State.applyShoal
  dsimp only
  split
  · rfl
  · refine (foldl_meter _ _ _ fun t x => State.tideEffect_meter ..).trans ?_
    rw [State.modShoal_meter, State.ite_meter, State.modPair_meter, ite_self, State.reportAnchor_meter, State.modClocks_meter,
      State.moveBlocks_meter]
    rfl
@[simp] theorem State.applyTick_meter (k) : (s.applyTick k).meter = s.meter := by simp [State.applyTick]
@[simp] theorem State.tideSample_meter (k port) : (s.tideSample k port).meter = s.meter := by simp [State.tideSample]
@[simp] theorem State.tideAct_meter (e x old) : (s.tideAct e x old).meter = s.meter := by simp [State.tideAct]
@[simp] theorem execTideCrossing_keepsMeter (e) : KeepsMeter s (execTideCrossing e s) := by simp [execTideCrossing]
@[simp] theorem execTideGateArm_keepsMeter (e) : KeepsMeter s (execTideGateArm e s) := by simp [execTideGateArm]

/-! ### PTP, networks, peers -/

@[simp] theorem State.ptpSelect_meter (f) : (s.ptpSelect f).meter = s.meter := by simp [State.ptpSelect]
@[simp] theorem execPtpSync_keepsMeter (net offset meanDelay) : KeepsMeter s (execPtpSync net offset meanDelay s) := by
  simp [execPtpSync]
  (repeat' split) <;> simp
@[simp] theorem execPtpAnnounce_keepsMeter (net d) : KeepsMeter s (execPtpAnnounce net d s) := by simp [execPtpAnnounce]
@[simp] theorem execPtpAnnounceTimeout_keepsMeter : KeepsMeter s (execPtpAnnounceTimeout s) := by simp [execPtpAnnounceTimeout]
@[simp] theorem execPtpHoldoverExpire_keepsMeter : KeepsMeter s (execPtpHoldoverExpire s) := by simp [execPtpHoldoverExpire]
@[simp] theorem execPtpMessageSend_keepsMeter (net m) : KeepsMeter s (execPtpMessageSend net m s) := by simp [execPtpMessageSend]
@[simp] theorem execSyntStep_keepsMeter : KeepsMeter s (execSyntStep s) := by simp [execSyntStep]
@[simp] theorem execNetLinkUp_keepsMeter (net) : KeepsMeter s (execNetLinkUp net s) := by simp [execNetLinkUp]
@[simp] theorem execNetLinkDown_keepsMeter (net) : KeepsMeter s (execNetLinkDown net s) := by simp [execNetLinkDown]
@[simp] theorem State.ipFrame_meter (net bs) : (s.ipFrame net bs).1.meter = s.meter := by simp [State.ipFrame]
@[simp] theorem State.claimFrame_meter (net bs) : (s.claimFrame net bs).1.meter = s.meter := by simp [State.claimFrame]
@[simp] theorem State.onNetPort_meter (net f) : (s.onNetPort net f).meter = s.meter := by simp [State.onNetPort]
@[simp] theorem execEthernetFrameReceive_keepsMeter (net bytes fcsOk room) : KeepsMeter s (execEthernetFrameReceive net bytes fcsOk room s) := by
  simp [execEthernetFrameReceive]
@[simp] theorem execUdpReassemblyTimeout_keepsMeter (net src ident) : KeepsMeter s (execUdpReassemblyTimeout net src ident s) := by
  simp [execUdpReassemblyTimeout]
@[simp] theorem execNetLaunch_keepsMeter (net handle busy) : KeepsMeter s (execNetLaunch net handle busy s) := by
  unfold execNetLaunch
  split <;> simp
@[simp] theorem execNetTxComplete_keepsMeter (net handle) : KeepsMeter s (execNetTxComplete net handle s) := by
  unfold execNetTxComplete
  split <;> simp
@[simp] theorem execNetLateDrop_keepsMeter (net handle) : KeepsMeter s (execNetLateDrop net handle s) := by
  unfold execNetLateDrop
  split <;> simp
@[simp] theorem execPeerAnnounceSend_keepsMeter : KeepsMeter s (execPeerAnnounceSend s) := by simp [execPeerAnnounceSend]
@[simp] theorem State.peerAbort_meter : s.peerAbort.meter = s.meter := by
  unfold State.peerAbort
  split <;> simp
@[simp] theorem State.reportDiffs_meter (unit p ch) : (s.reportDiffs unit p ch).meter = s.meter := by simp [State.reportDiffs]
@[simp] theorem execPeerAnnouncement_keepsMeter (net payload) : KeepsMeter s (execPeerAnnouncement net payload s) := by
  simp only [execPeerAnnouncement]
  (repeat' split) <;> simp
@[simp] theorem execPeerLost_keepsMeter (unit) : KeepsMeter s (execPeerLost unit s) := by simp [execPeerLost]

/-! ### Acceptance of requests -/

@[simp] theorem State.enqueue_meter (op req flags) : (s.enqueue op req flags).meter = s.meter := by
  unfold State.enqueue
  split <;> simp
@[simp] theorem State.hostHeard_meter : s.hostHeard.meter = s.meter := by simp [State.hostHeard]
@[simp] theorem State.acceptGood_meter (op req flags) : (s.acceptGood op req flags).meter = s.meter := by
  simp only [State.acceptGood]
  (repeat' split) <;> simp
@[simp] theorem State.accept_meter (key net b) : (s.accept key net b).1.meter = s.meter := by simp [State.accept]
@[simp] theorem execSpiCsFall_keepsMeter : KeepsMeter s (execSpiCsFall s) := by simp [execSpiCsFall]
@[simp] theorem execSpiCsRise_keepsMeter (clocked unfinished) : KeepsMeter s (execSpiCsRise clocked unfinished s) := by simp [execSpiCsRise]
@[simp] theorem execSpiRequest_keepsMeter (bytes) : KeepsMeter s (execSpiRequest bytes s) := by simp [execSpiRequest]
@[simp] theorem execUdpDatagram_keepsMeter (net ip port bytes checksumOk) : KeepsMeter s (execUdpDatagram net ip port bytes checksumOk s) := by
  simp [execUdpDatagram]

/-! ### Events of the auxiliary converter -/

@[simp] theorem execAdcTimer_keepsMeter : KeepsMeter s (execAdcTimer s) := by simp [execAdcTimer]
@[simp] theorem execAdcSeqStart_keepsMeter : KeepsMeter s (execAdcSeqStart s) := by simp [execAdcSeqStart]
@[simp] theorem execAdcEntryDone_keepsMeter (codes) : KeepsMeter s (execAdcEntryDone codes s) := by simp [execAdcEntryDone]
@[simp] theorem execAdcUrgentDone_keepsMeter (codes) : KeepsMeter s (execAdcUrgentDone codes s) := by
  unfold execAdcUrgentDone
  split <;> simp
@[simp] theorem adcUrgentAns_meter (b it) : (adcUrgentAns b it s).st.meter = s.meter := State.check_meter _ _ _ rfl
@[simp] theorem execAdcUrgent_keepsMeter (r) : KeepsMeter s (execAdcUrgent r s) := by simp [execAdcUrgent]
@[simp] theorem execAdcStart_keepsMeter (r) : KeepsMeter s (execAdcStart r s) := by simp [execAdcStart, adcStartAns]
@[simp] theorem execAdcParamApply_keepsMeter : KeepsMeter s (execAdcParamApply s) := by simp [execAdcParamApply]

/-! ### Strandline -/

@[simp] theorem State.capTrigger_meter : s.capTrigger.meter = s.meter := by
  simp only [State.capTrigger]
  split <;> simp
@[simp] theorem execCapTriggerFire_keepsMeter : KeepsMeter s (execCapTriggerFire s) := by simp [execCapTriggerFire]
@[simp] theorem execCapSampleInstant_keepsMeter : KeepsMeter s (execCapSampleInstant s) := by simp [execCapSampleInstant]
@[simp] theorem execCapMaskHit_keepsMeter (m) : KeepsMeter s (execCapMaskHit m s) := by
  simp only [execCapMaskHit]
  split <;> simp
@[simp] theorem State.capFinish_meter : s.capFinish.meter = s.meter := by simp [State.capFinish]
@[simp] theorem execCapDone_keepsMeter : KeepsMeter s (execCapDone s) := by simp [execCapDone]
@[simp] theorem execCapRearm_keepsMeter : KeepsMeter s (execCapRearm s) := by simp [execCapRearm]
@[simp] theorem execStreamDatagram_keepsMeter : KeepsMeter s (execStreamDatagram s) := by
  simp only [execStreamDatagram]
  split <;> simp
@[simp] theorem State.modCapCfg_meter (f) : (s.modCapCfg f).meter = s.meter := by simp [State.modCapCfg]
@[simp] theorem capMaskLoadAns_meter (b) : (capMaskLoadAns b s).st.meter = s.meter := by
  unfold capMaskLoadAns
  dsimp only
  (repeat' split) <;> rfl
@[simp] theorem execCapConfig_keepsMeter (r) : KeepsMeter s (execCapConfig r s) := by simp [execCapConfig, capConfigAns]
@[simp] theorem execCapTrigger_keepsMeter (r) : KeepsMeter s (execCapTrigger r s) := by simp [execCapTrigger, capTriggerAns]
@[simp] theorem execCapMaskLoad_keepsMeter (r) : KeepsMeter s (execCapMaskLoad r s) := by simp [execCapMaskLoad]
@[simp] theorem execCapArm_keepsMeter (r) : KeepsMeter s (execCapArm r s) := by simp [execCapArm, capArmAns]
@[simp] theorem execCapForce_keepsMeter (r) : KeepsMeter s (execCapForce r s) := by simp [execCapForce, capForceAns]
@[simp] theorem execCapStatus_keepsMeter (r) : KeepsMeter s (execCapStatus r s) := by simp [execCapStatus, capStatusAns]
@[simp] theorem execCapRead_keepsMeter (r) : KeepsMeter s (execCapRead r s) := by simp [execCapRead, capReadAns]
@[simp] theorem execCapMeasRead_keepsMeter (r) : KeepsMeter s (execCapMeasRead r s) := by simp [execCapMeasRead, capMeasReadAns]
@[simp] theorem execCapStream_keepsMeter (r) : KeepsMeter s (execCapStream r s) := by simp [execCapStream, capStreamAns]

/-! ### Shore, Lookout, Heartwood -/

@[simp] theorem State.shoreLine_meter : s.shoreLine.meter = s.meter := by simp [State.shoreLine]
@[simp] theorem State.tideField_meter (n v at_ entry) : (s.tideField n v at_ entry).meter = s.meter := by simp [State.tideField]
@[simp] theorem execFieldOverload_keepsMeter (n) : KeepsMeter s (execFieldOverload n s) := by simp [execFieldOverload]
@[simp] theorem State.explainSuspects_meter (n readback) : (s.explainSuspects n readback).meter = s.meter := by simp [State.explainSuspects]
@[simp] theorem execFieldTestPulse_keepsMeter (n readback abandoned) : KeepsMeter s (execFieldTestPulse n readback abandoned s) := by
  simp [execFieldTestPulse]
@[simp] theorem execFieldSuspect_keepsMeter (n) : KeepsMeter s (execFieldSuspect n s) := by simp [execFieldSuspect]
@[simp] theorem execFieldStuckOn_keepsMeter (n) : KeepsMeter s (execFieldStuckOn n s) := by simp [execFieldStuckOn]
@[simp] theorem execFieldStuckClear_keepsMeter (n) : KeepsMeter s (execFieldStuckClear n s) := by simp [execFieldStuckClear]
@[simp] theorem execFieldSag_keepsMeter (vfield) : KeepsMeter s (execFieldSag vfield s) := by simp [execFieldSag]
@[simp] theorem execFieldRestored_keepsMeter (vfield) : KeepsMeter s (execFieldRestored vfield s) := by simp [execFieldRestored]
@[simp] theorem execFieldSidePowerUp_keepsMeter (vfield) : KeepsMeter s (execFieldSidePowerUp vfield s) := by simp [execFieldSidePowerUp]
@[simp] theorem execShoreSilence_keepsMeter : KeepsMeter s (execShoreSilence s) := by simp [execShoreSilence]
@[simp] theorem execHostSilence_keepsMeter : KeepsMeter s (execHostSilence s) := by simp [execHostSilence]
@[simp] theorem execCounterEdge_keepsMeter (n) : KeepsMeter s (execCounterEdge n s) := by simp [execCounterEdge]
@[simp] theorem execFieldInputChange_keepsMeter (n level) : KeepsMeter s (execFieldInputChange n level s) := by simp [execFieldInputChange]
@[simp] theorem execPanelTouch_keepsMeter (k) : KeepsMeter s (execPanelTouch k s) := by simp [execPanelTouch]
@[simp] theorem execPadHoldTimeout_keepsMeter (k) : KeepsMeter s (execPadHoldTimeout k s) := by simp [execPadHoldTimeout]
@[simp] theorem execPadRelease_keepsMeter (k) : KeepsMeter s (execPadRelease k s) := by simp [execPadRelease]
@[simp] theorem execWakeRuleFire_keepsMeter (r) : KeepsMeter s (execWakeRuleFire r s) := by
  unfold execWakeRuleFire
  split <;> simp
@[simp] theorem execWakeNLow_keepsMeter : KeepsMeter s (execWakeNLow s) := by simp [execWakeNLow]
@[simp] theorem State.setBudget_meter (vsup tbase) : (s.setBudget vsup tbase).meter = s.meter := by simp [State.setBudget]
@[simp] theorem execGateBudgetUpdate_keepsMeter (vsup tbase) : KeepsMeter s (execGateBudgetUpdate vsup tbase s) := by
  simp [execGateBudgetUpdate]
@[simp] theorem State.heartEvent_meter (code a0) : (s.heartEvent code a0).meter = s.meter := by simp [State.heartEvent]
@[simp] theorem execVsupLow_keepsMeter (vsup) : KeepsMeter s (execVsupLow vsup s) := by simp [execVsupLow]
@[simp] theorem execVsupOk_keepsMeter (vsup) : KeepsMeter s (execVsupOk vsup s) := by simp [execVsupOk]
@[simp] theorem execIinLimit_keepsMeter (iin) : KeepsMeter s (execIinLimit iin s) := by simp [execIinLimit]
@[simp] theorem execIinLimitRelease_keepsMeter (iin) : KeepsMeter s (execIinLimitRelease iin s) := by simp [execIinLimitRelease]
@[simp] theorem execIslandSupplyFault_keepsMeter (l) : KeepsMeter s (execIslandSupplyFault l s) := by simp [execIslandSupplyFault]
@[simp] theorem execIslandSupplyRetry_keepsMeter (l) : KeepsMeter s (execIslandSupplyRetry l s) := by simp [execIslandSupplyRetry]
@[simp] theorem execIslandPowerGood_keepsMeter (l) : KeepsMeter s (execIslandPowerGood l s) := by simp [execIslandPowerGood]
@[simp] theorem execIslandPowerFail_keepsMeter (l) : KeepsMeter s (execIslandPowerFail l s) := by simp [execIslandPowerFail]

/-! ### The parameter set -/

@[simp] theorem State.rehash_meter : s.rehash.meter = s.meter := by simp [State.rehash]

/-! ### Breakwater: faults and lock-out -/

@[simp] theorem State.lockOut_meter (cause) : (s.lockOut cause).meter = s.meter := by
  unfold State.lockOut
  split <;> simp
@[simp] theorem State.safetyFault_meter (code source) : (s.safetyFault code source).meter = s.meter := by simp [State.safetyFault]
@[simp] theorem State.moduleFault_meter (code source) : (s.moduleFault code source).meter = s.meter := by simp [State.moduleFault]
@[simp] theorem State.latchLimits_meter (p) : (s.latchLimits p).meter = s.meter := by simp [State.latchLimits]
@[simp] theorem State.rejectReset_meter (ms) : (s.rejectReset ms).meter = s.meter := by simp [State.rejectReset]
@[simp] theorem State.commission_meter : s.commission.meter = s.meter := by simp [State.commission]
@[simp] theorem State.messageDemand_meter (j sgo sdc ports timeout) : (s.messageDemand j sgo sdc ports timeout).meter = s.meter := by
  simp [State.messageDemand]

/-! ### The parameter group -/

@[simp] theorem writeParamAns_meter (target b) : (writeParamAns target b s).st.meter = s.meter := by
  unfold writeParamAns
  dsimp only
  (repeat' split) <;> rfl
@[simp] theorem State.putInForce_meter (old new) : (s.putInForce old new).meter = s.meter := by simp [State.putInForce]
@[simp] theorem commitAns_meter (b) : (commitAns b s).st.meter = s.meter := by
  refine State.check_meter _ _ _ ?_
  dsimp only
  (repeat' split) <;> simp
@[simp] theorem execReadParam_keepsMeter (r) : KeepsMeter s (execReadParam r s) := by simp [execReadParam, readParamAns]
@[simp] theorem execWriteParam_keepsMeter (r) : KeepsMeter s (execWriteParam r s) := by simp [execWriteParam]
@[simp] theorem execCommitParams_keepsMeter (r) : KeepsMeter s (execCommitParams r s) := by simp [execCommitParams]
@[simp] theorem execParamDiscard_keepsMeter (r) : KeepsMeter s (execParamDiscard r s) := by simp [execParamDiscard]
@[simp] theorem execEnvelopeLoad_keepsMeter (r) : KeepsMeter s (execEnvelopeLoad r s) := by simp [execEnvelopeLoad, envelopeLoadAns]
@[simp] theorem execEnvelopeRead_keepsMeter (r) : KeepsMeter s (execEnvelopeRead r s) := by simp [execEnvelopeRead, envelopeReadAns]
@[simp] theorem execBmsMapLoad_keepsMeter (r) : KeepsMeter s (execBmsMapLoad r s) := by simp [execBmsMapLoad, bmsMapLoadAns]
@[simp] theorem execBmsMapRead_keepsMeter (r) : KeepsMeter s (execBmsMapRead r s) := by simp [execBmsMapRead, bmsMapReadAns]

/-! ### The address map -/

@[simp] theorem State.restartInterval_meter (base trigger) : (s.restartInterval base trigger).meter = s.meter := by
  simp [State.restartInterval]
@[simp] theorem State.readWord_meter (addr) : (s.readWord addr).1.meter = s.meter := by
  simp only [State.readWord]
  split <;> simp
@[simp] theorem State.readWords_meter (a n) : (s.readWords a n).1.meter = s.meter := by
  induction n generalizing s a with
  | zero => rfl
  | succ n ih => exact (ih _ _).trans (by simp)
@[simp] theorem State.clearHead_meter (off c) : (s.clearHead off c).meter = s.meter := by simp [State.clearHead]
@[simp] theorem State.clearShoal_meter (k off c) : (s.clearShoal k off c).meter = s.meter := by
  unfold State.clearShoal
  (repeat' split) <;> simp
@[simp] theorem State.beginCycle_meter : s.beginCycle.meter = s.meter := by simp [State.beginCycle]
@[simp] theorem State.writeWord_meter (addr mask value) : (s.writeWord addr mask value).meter = s.meter := by
  unfold State.writeWord
  dsimp only
  split_ifs
  · exact s.clearHead_meter _ _
  · exact s.clearShoal_meter _ _ _
  · exact s.modSk_meter _ _
  · exact s.modShore_meter _
  · exact s.modLookout_meter _
  · exact s.modHeart_meter _
  · rfl
@[simp] theorem execWriteReg_keepsMeter (r) : KeepsMeter s (execWriteReg r s) := by simp [execWriteReg, writeRegAns]

/-! ### The Ring log -/

@[simp] theorem State.snapshot_meter (set) : (s.snapshot set).1.meter = s.meter := by
  unfold State.snapshot
  refine foldl_fst_meter _ _ _ fun x i => ?_
  dsimp only
  split
  · rfl
  · split <;> rfl
@[simp] theorem State.writeRecord_meter (e) : (s.writeRecord e).meter = s.meter := by simp [State.writeRecord]
@[simp] theorem State.logWrite_meter : s.logWrite.meter = s.meter := by
  simp only [State.logWrite]
  (repeat' split) <;> simp
@[simp] theorem execLogRecordWrite_keepsMeter : KeepsMeter s (execLogRecordWrite s) := by simp [execLogRecordWrite]
@[simp] theorem execOpSecTick_keepsMeter : KeepsMeter s (execOpSecTick s) := by simp [execOpSecTick]
@[simp] theorem execLogFreeze_keepsMeter (r) : KeepsMeter s (execLogFreeze r s) := by simp [execLogFreeze, logFreezeAns]
@[simp] theorem execLogWindow_keepsMeter (r) : KeepsMeter s (execLogWindow r s) := by simp [execLogWindow, logWindowAns]
@[simp] theorem execLogCursor_keepsMeter (r) : KeepsMeter s (execLogCursor r s) := by simp [execLogCursor, logCursorAns]
@[simp] theorem execLogUnfreeze_keepsMeter (r) : KeepsMeter s (execLogUnfreeze r s) := by simp [execLogUnfreeze, logUnfreezeAns]

/-! ### Host commands over field I/O, clocks, safety, time and the tide table -/

@[simp] theorem execFieldStatus_keepsMeter (r) : KeepsMeter s (execFieldStatus r s) := by simp [execFieldStatus, fieldStatusAns]
@[simp] theorem execFieldOut_keepsMeter (r) : KeepsMeter s (execFieldOut r s) := by simp [execFieldOut, fieldOutAns]
@[simp] theorem execFieldCountRead_keepsMeter (r) : KeepsMeter s (execFieldCountRead r s) := by simp [execFieldCountRead, fieldCountAns]
@[simp] theorem execPanelStatus_keepsMeter (r) : KeepsMeter s (execPanelStatus r s) := by simp [execPanelStatus, panelStatusAns]
@[simp] theorem execWakeRulesLoad_keepsMeter (r) : KeepsMeter s (execWakeRulesLoad r s) := by simp [execWakeRulesLoad, wakeLoadAns]
@[simp] theorem execWakeRulesRead_keepsMeter (r) : KeepsMeter s (execWakeRulesRead r s) := by simp [execWakeRulesRead, wakeReadAns]
@[simp] theorem State.pwmResume_meter : s.pwmResume.meter = s.meter := by simp [State.pwmResume]
@[simp] theorem State.crcReply_meter (unit) : (s.crcReply unit).st.meter = s.meter := by simp [State.crcReply]
@[simp] theorem crcValueAns_meter (b) : (crcValueAns b s).st.meter = s.meter := by simp [crcValueAns]
@[simp] theorem execClockStatus_keepsMeter (r) : KeepsMeter s (execClockStatus r s) := by simp [execClockStatus, clockStatusAns]
@[simp] theorem execPwmResume_keepsMeter (r) : KeepsMeter s (execPwmResume r s) := by simp [execPwmResume, pwmResumeAns]
@[simp] theorem execCrcConfig_keepsMeter (r) : KeepsMeter s (execCrcConfig r s) := by simp [execCrcConfig, crcConfigAns]
@[simp] theorem execCrcValueRead_keepsMeter (r) : KeepsMeter s (execCrcValueRead r s) := by simp [execCrcValueRead]
@[simp] theorem execCrcValueWrite_keepsMeter (r) : KeepsMeter s (execCrcValueWrite r s) := by simp [execCrcValueWrite]
@[simp] theorem execCrcFeed_keepsMeter (r) : KeepsMeter s (execCrcFeed r s) := by simp [execCrcFeed, crcFeedAns]
@[simp] theorem safetyCommissionAns_meter (b) : (safetyCommissionAns b s).st.meter = s.meter := State.check_meter _ _ _ rfl
@[simp] theorem execSafetyStatus_keepsMeter (r) : KeepsMeter s (execSafetyStatus r s) := by simp [execSafetyStatus, safetyStatusAns]
@[simp] theorem execSafetyResetArm_keepsMeter (r) : KeepsMeter s (execSafetyResetArm r s) := by simp [execSafetyResetArm, safetyArmAns]
@[simp] theorem execSafetyParamWrite_keepsMeter (r) : KeepsMeter s (execSafetyParamWrite r s) := by
  simp [execSafetyParamWrite, safetyWriteAns]
@[simp] theorem execSafetyCommission_keepsMeter (r) : KeepsMeter s (execSafetyCommission r s) := by simp [execSafetyCommission]
@[simp] theorem execSessionRead_keepsMeter (r) : KeepsMeter s (execSessionRead r s) := by simp [execSessionRead, sessionReadAns]
@[simp] theorem execTimeGet_keepsMeter (r) : KeepsMeter s (execTimeGet r s) := by simp [execTimeGet, timeGetAns]
@[simp] theorem execPeerRead_keepsMeter (r) : KeepsMeter s (execPeerRead r s) := by simp [execPeerRead, peerReadAns]
@[simp] theorem execNetSend_keepsMeter (r) : KeepsMeter s (execNetSend r s) := by simp [execNetSend, netSendAns]
@[simp] theorem execNetTxStatus_keepsMeter (r) : KeepsMeter s (execNetTxStatus r s) := by simp [execNetTxStatus, netTxStatusAns]
@[simp] theorem execTideSet_keepsMeter (r) : KeepsMeter s (execTideSet r s) := by simp [execTideSet, tideSetAns]
@[simp] theorem execTideGet_keepsMeter (r) : KeepsMeter s (execTideGet r s) := by simp [execTideGet, tideGetAns]

/-! ### Events at Breakwater -/

@[simp] theorem execSafetyInputDemand_keepsMeter (n chan mv us) : KeepsMeter s (execSafetyInputDemand n chan mv us s) := by
  simp [execSafetyInputDemand]
@[simp] theorem execSafetyInputInactive_keepsMeter (n chan mv us) : KeepsMeter s (execSafetyInputInactive n chan mv us s) := by
  simp [execSafetyInputInactive]
@[simp] theorem execSiDisc_keepsMeter (n) : KeepsMeter s (execSiDisc n s) := by simp [execSiDisc]
@[simp] theorem execSiTestPulse_keepsMeter (tp inLimits reads) : KeepsMeter s (execSiTestPulse tp inLimits reads s) := by
  simp [execSiTestPulse]
@[simp] theorem execBwLaneCompare_keepsMeter (differ) : KeepsMeter s (execBwLaneCompare differ s) := by simp [execBwLaneCompare]
@[simp] theorem execReturnWord_keepsMeter (l noise) : KeepsMeter s (execReturnWord l noise s) := by
  unfold execReturnWord
  (repeat' split) <;> simp
@[simp] theorem execReturnLost_keepsMeter (l) : KeepsMeter s (execReturnLost l s) := by
  unfold execReturnLost
  split <;> simp
@[simp] theorem execChDisc_keepsMeter (p) : KeepsMeter s (execChDisc p s) := by simp [execChDisc]
@[simp] theorem execSdcFb_keepsMeter (p) : KeepsMeter s (execSdcFb p s) := by simp [execSdcFb]
@[simp] theorem execRequestWord_keepsMeter (from_ crcOk) : KeepsMeter s (execRequestWord from_ crcOk s) := by simp [execRequestWord]
@[simp] theorem execHlLost_keepsMeter : KeepsMeter s (execHlLost s) := by simp [execHlLost]
@[simp] theorem execPermitPatternWord_keepsMeter : KeepsMeter s (execPermitPatternWord s) := by simp [execPermitPatternWord]
@[simp] theorem execPermitWordReceive_keepsMeter (l chan noise) : KeepsMeter s (execPermitWordReceive l chan noise s) := by
  simp [execPermitWordReceive]
@[simp] theorem execSoTestPulse_keepsMeter (m _side readOff) : KeepsMeter s (execSoTestPulse m _side readOff s) := by simp [execSoTestPulse]
@[simp] theorem execResetPressBegin_keepsMeter : KeepsMeter s (execResetPressBegin s) := by simp [execResetPressBegin]
@[simp] theorem execResetRelease_keepsMeter : KeepsMeter s (execResetRelease s) := by
  unfold execResetRelease
  split <;> simp
@[simp] theorem execResetPressTooLong_keepsMeter : KeepsMeter s (execResetPressTooLong s) := by
  unfold execResetPressTooLong
  split <;> simp
@[simp] theorem execResetStuck_keepsMeter : KeepsMeter s (execResetStuck s) := by
  unfold execResetStuck
  split <;> simp
@[simp] theorem execResetArmExpire_keepsMeter : KeepsMeter s (execResetArmExpire s) := by simp [execResetArmExpire]
@[simp] theorem execCommissionTimeout_keepsMeter : KeepsMeter s (execCommissionTimeout s) := by simp [execCommissionTimeout]
@[simp] theorem execSafetyMessage_keepsMeter (net bytes) : KeepsMeter s (execSafetyMessage net bytes s) := by
  simp only [execSafetyMessage]
  (repeat' split) <;> simp
@[simp] theorem execSafetyMsgPendingExpire_keepsMeter (j) : KeepsMeter s (execSafetyMsgPendingExpire j s) := by
  unfold execSafetyMsgPendingExpire
  split <;> simp
@[simp] theorem execSafetyMsgTimeout_keepsMeter (j) : KeepsMeter s (execSafetyMsgTimeout j s) := by simp [execSafetyMsgTimeout]
@[simp] theorem execSafetyMsgSend_keepsMeter : KeepsMeter s (execSafetyMsgSend s) := by simp [execSafetyMsgSend]
@[simp] theorem execBwSelftestEnd_keepsMeter (ok) : KeepsMeter s (execBwSelftestEnd ok s) := by simp [execBwSelftestEnd]

/-! ### Events at a Skerry -/

@[simp] theorem State.onSk_meter (l f) : (s.onSk l f).meter = s.meter := by simp [State.onSk]
@[simp] theorem execEdgeChannelTransition_keepsMeter (p g on) : KeepsMeter s (execEdgeChannelTransition p g on s) := by
  simp [execEdgeChannelTransition]
@[simp] theorem execInterlockHoldEnd_keepsMeter (p g) : KeepsMeter s (execInterlockHoldEnd p g s) := by simp [execInterlockHoldEnd]
@[simp] theorem execGateSupplyLockout_keepsMeter (p k supply locks) : KeepsMeter s (execGateSupplyLockout p k supply locks s) := by
  simp [execGateSupplyLockout]
@[simp] theorem execGateSupplyRelease_keepsMeter (p k supply) : KeepsMeter s (execGateSupplyRelease p k supply s) := by
  simp [execGateSupplyRelease]
@[simp] theorem State.legRepeat_meter (p k) : (s.legRepeat p k).meter = s.meter := by simp [State.legRepeat]
@[simp] theorem State.shorted_meter (p g fast mask) : (s.shorted p g fast mask).meter = s.meter := by simp [State.shorted]
@[simp] theorem execDesatConfirm_keepsMeter (p g) : KeepsMeter s (execDesatConfirm p g s) := by simp [execDesatConfirm]
@[simp] theorem execFastShortConfirm_keepsMeter (p g) : KeepsMeter s (execFastShortConfirm p g s) := by simp [execFastShortConfirm]
@[simp] theorem execSoftTurnOffEnd_keepsMeter (p g) : KeepsMeter s (execSoftTurnOffEnd p g s) := by simp [execSoftTurnOffEnd]
@[simp] theorem execPermitAbsent_keepsMeter (l) : KeepsMeter s (execPermitAbsent l s) := by simp [execPermitAbsent]
@[simp] theorem execCoilPullEnd_keepsMeter (p n) : KeepsMeter s (execCoilPullEnd p n s) := by simp [execCoilPullEnd]
@[simp] theorem execLatchBlocked_keepsMeter (p) : KeepsMeter s (execLatchBlocked p s) := by simp [execLatchBlocked]
@[simp] theorem execLatchTimeout_keepsMeter (p) : KeepsMeter s (execLatchTimeout p s) := by simp [execLatchTimeout]
@[simp] theorem execCanFrameTransmit_keepsMeter (p) : KeepsMeter s (execCanFrameTransmit p s) := by simp [execCanFrameTransmit]
@[simp] theorem execCanBusOff_keepsMeter (p) : KeepsMeter s (execCanBusOff p s) := by simp [execCanBusOff]
@[simp] theorem execCanBusOffRecovery_keepsMeter (p) : KeepsMeter s (execCanBusOffRecovery p s) := by simp [execCanBusOffRecovery]

/-! ### Battery ports -/

@[simp] theorem State.admitFail_meter (p cause) : (s.admitFail p cause).meter = s.meter := by simp [State.admitFail]
@[simp] theorem State.latchOff_meter (p) : (s.latchOff p).meter = s.meter := by simp [State.latchOff]
@[simp] theorem State.openContactors_meter (p) : (s.openContactors p).meter = s.meter := by simp [State.openContactors]
@[simp] theorem State.portFault_meter (p cause) : (s.portFault p cause).meter = s.meter := by
  unfold State.portFault
  split <;> simp
@[simp] theorem State.openWhenOff_meter (p) : (s.openWhenOff p).meter = s.meter := by simp [State.openWhenOff]
@[simp] theorem State.zeroDone_meter (p) : (s.zeroDone p).meter = s.meter := by simp [State.zeroDone]
@[simp] theorem State.enablePort_meter (p) : (s.enablePort p).meter = s.meter := by simp [State.enablePort]
@[simp] theorem State.admitPort_meter (p) : (s.admitPort p).meter = s.meter := by simp [State.admitPort]
@[simp] theorem State.toPlugged_meter (p) : (s.toPlugged p).meter = s.meter := by simp [State.toPlugged]
@[simp] theorem State.toEmpty_meter (p cause) : (s.toEmpty p cause).meter = s.meter := by simp [State.toEmpty]
@[simp] theorem State.requestRelease_meter (p) : (s.requestRelease p).meter = s.meter := by simp [State.requestRelease]
@[simp] theorem State.relatch_meter (p) : (s.relatch p).meter = s.meter := by simp [State.relatch]
@[simp] theorem State.precharge_meter (p) : (s.precharge p).meter = s.meter := by simp [State.precharge]
@[simp] theorem State.toDischarging_meter (p) : (s.toDischarging p).meter = s.meter := by simp [State.toDischarging]
@[simp] theorem State.releasing_meter (p dt) : (s.releasing p dt).meter = s.meter := by simp [State.releasing]
@[simp] theorem State.diagDone_meter (p) : (s.diagDone p).meter = s.meter := by simp [State.diagDone]
@[simp] theorem State.startDiag_meter (p tests) : (s.startDiag p tests).meter = s.meter := by simp [State.startDiag]
@[simp] theorem State.takeRelease_meter (p dt) : (s.takeRelease p dt).meter = s.meter := by
  unfold State.takeRelease
  split <;> simp
@[simp] theorem State.lifeRow_meter (p dt) : (s.lifeRow p dt).meter = s.meter := by
  simp only [State.lifeRow]
  split <;> simp
@[simp] theorem State.portService_meter (p dt) : (s.portService p dt).meter = s.meter := by
  simp [State.portService]
  (repeat' split) <;> simp
@[simp] theorem State.takeLoop_meter (p code) : (s.takeLoop p code).meter = s.meter := by
  unfold State.takeLoop
  (repeat' split) <;> simp
@[simp] theorem execLoopClassReport_keepsMeter (p cls) : KeepsMeter s (execLoopClassReport p cls s) := by simp [execLoopClassReport]
@[simp] theorem execPlugDebounceEnd_keepsMeter (p) : KeepsMeter s (execPlugDebounceEnd p s) := by simp [execPlugDebounceEnd]
@[simp] theorem execBmsSignalStale_keepsMeter (p sig) : KeepsMeter s (execBmsSignalStale p sig s) := by
  unfold execBmsSignalStale
  split <;> simp
@[simp] theorem execBmsLost_keepsMeter (p) : KeepsMeter s (execBmsLost p s) := by simp [execBmsLost]
@[simp] theorem execPrechgTimeout_keepsMeter (p) : KeepsMeter s (execPrechgTimeout p s) := by simp [execPrechgTimeout]
@[simp] theorem execAtZeroTimeout_keepsMeter (p) : KeepsMeter s (execAtZeroTimeout p s) := by simp [execAtZeroTimeout]
@[simp] theorem execReleaseDischargeFail_keepsMeter (p) : KeepsMeter s (execReleaseDischargeFail p s) := by simp [execReleaseDischargeFail]
@[simp] theorem execContactorFbChange_keepsMeter (p n closed) : KeepsMeter s (execContactorFbChange p n closed s) := by
  simp [execContactorFbChange]
@[simp] theorem execContactorFault_keepsMeter (p n) : KeepsMeter s (execContactorFault p n s) := by simp [execContactorFault]
@[simp] theorem execCoilHwDrop_keepsMeter (p) : KeepsMeter s (execCoilHwDrop p s) := by simp [execCoilHwDrop]
@[simp] theorem execDiagItemDone_keepsMeter (p reading) : KeepsMeter s (execDiagItemDone p reading s) := by simp [execDiagItemDone]
@[simp] theorem execCanFrameReceive_keepsMeter (p f) : KeepsMeter s (execCanFrameReceive p f s) := by simp [execCanFrameReceive]
@[simp] theorem execPackCanSend_keepsMeter (r) : KeepsMeter s (execPackCanSend r s) := by simp [execPackCanSend, packCanSendAns]
@[simp] theorem execPackCanRead_keepsMeter (r) : KeepsMeter s (execPackCanRead r s) := by simp [execPackCanRead, packCanReadAns]
@[simp] theorem portAdmitAns_meter (target b) : (portAdmitAns target b s).st.meter = s.meter := by
  refine State.check_meter _ _ _ ?_
  split <;> simp
@[simp] theorem portReleaseAns_meter (target b) : (portReleaseAns target b s).st.meter = s.meter := by
  refine State.check_meter _ _ _ ?_
  split <;> simp
@[simp] theorem execPortAdmit_keepsMeter (r) : KeepsMeter s (execPortAdmit r s) := by simp [execPortAdmit]
@[simp] theorem execPortRelease_keepsMeter (r) : KeepsMeter s (execPortRelease r s) := by simp [execPortRelease]
@[simp] theorem execGateDiag_keepsMeter (r) : KeepsMeter s (execGateDiag r s) := by simp [execGateDiag, gateDiagAns]
@[simp] theorem State.button_meter (p level) : (s.button p level).meter = s.meter := by
  simp only [State.button]
  (repeat' split) <;> simp

/-! ### What a bus step measures and detects -/

@[simp] theorem State.takeGrid_meter (late) : (s.takeGrid late).meter = s.meter := by simp [State.takeGrid]
@[simp] theorem State.measure_meter (dt) : (s.measure dt).meter = s.meter := by simp [State.measure]
@[simp] theorem State.gridTrip_meter (cause) : (s.gridTrip cause).meter = s.meter := by simp [State.gridTrip]
@[simp] theorem State.gridSense_meter : s.gridSense.meter = s.meter := by simp [State.gridSense]
@[simp] theorem State.quantities_meter (dt) : (s.quantities dt).meter = s.meter := by simp [State.quantities]
@[simp] theorem State.beginFault_meter (origin) : (s.beginFault origin).meter = s.meter := by simp [State.beginFault]
@[simp] theorem State.voltEvent_meter : s.voltEvent.meter = s.meter := by simp [State.voltEvent]
@[simp] theorem State.freqEvent_meter : s.freqEvent.meter = s.meter := by simp [State.freqEvent]
@[simp] theorem State.rocofCheck_meter : s.rocofCheck.meter = s.meter := by simp [State.rocofCheck]
@[simp] theorem State.phaseJump_meter : s.phaseJump.meter = s.meter := by
  simp only [State.phaseJump]
  split <;> simp
@[simp] theorem State.instCheck_meter : s.instCheck.meter = s.meter := by
  simp only [State.instCheck]
  split <;> simp
@[simp] theorem State.recovery_meter (old) : (s.recovery old).meter = s.meter := by
  unfold State.recovery
  dsimp only
  (repeat' split) <;> simp
@[simp] theorem State.envStep_meter (n) : (s.envStep n).meter = s.meter := by simp [State.envStep]
@[simp] theorem State.whileLive_meter (f) (h : ∀ u : State, (f u).meter = u.meter) : (s.whileLive f).meter = s.meter := by
  unfold State.whileLive
  split
  · exact h s
  · rfl
@[simp] theorem State.detect_meter (old dt) : (s.detect old dt).meter = s.meter := by simp [State.detect]

/-! ### The module laws of a bus step -/

@[simp] theorem State.startRamp_meter (r) : (s.startRamp r).meter = s.meter := by simp [State.startRamp]
@[simp] theorem State.advanceRamp_meter : s.advanceRamp.meter = s.meter := by
  simp only [State.advanceRamp]
  split <;> simp
@[simp] theorem State.rampDispatch_meter (dt) : (s.rampDispatch dt).meter = s.meter := by simp [State.rampDispatch]
@[simp] theorem State.rotorStep_meter (dt) : (s.rotorStep dt).meter = s.meter := by simp [State.rotorStep]
@[simp] theorem State.sendFields_meter (f step) : (s.sendFields f step).meter = s.meter := by simp [State.sendFields]
@[simp] theorem State.sendAngle_meter : s.sendAngle.meter = s.meter := by simp [State.sendAngle]
@[simp] theorem State.emfStep_meter (dt) : (s.emfStep dt).meter = s.meter := by simp [State.emfStep]
@[simp] theorem State.tviStep_meter (dt) : (s.tviStep dt).meter = s.meter := by simp [State.tviStep]
@[simp] theorem State.currentStep_meter (dt) : (s.currentStep dt).meter = s.meter := by simp [State.currentStep]
@[simp] theorem State.releaseAngle_meter : s.releaseAngle.meter = s.meter := by simp [State.releaseAngle]
@[simp] theorem State.laws_meter (dt) : (s.laws dt).meter = s.meter := by simp [State.laws]

/-! ### Sharing among the ports -/

@[simp] theorem State.availStep_meter (dt) : (s.availStep dt).meter = s.meter := by simp [State.availStep]
@[simp] theorem State.weightStep_meter : s.weightStep.meter = s.meter := by simp [State.weightStep]
@[simp] theorem State.splitStep_meter : s.splitStep.meter = s.meter := State.noteStores_meter ..
@[simp] theorem State.dcOvStep_meter (p) : (s.dcOvStep p).meter = s.meter := by simp [State.dcOvStep]
@[simp] theorem State.dcTimes_meter (p) : (s.dcTimes p).meter = s.meter := by simp [State.dcTimes]
@[simp] theorem State.verdictStep_meter (p) : (s.verdictStep p).meter = s.meter := by simp [State.verdictStep]
@[simp] theorem State.portChecks_meter : s.portChecks.meter = s.meter := by simp [State.portChecks]

/-! ### Port steps of the engine -/

@[simp] theorem State.tracePort_meter (p) : (s.tracePort p).meter = s.meter := by simp [State.tracePort]
@[simp] theorem State.traceBus_meter : s.traceBus.meter = s.meter := by simp [State.traceBus]
@[simp] theorem execTraceTrigger_keepsMeter : KeepsMeter s (execTraceTrigger s) := by simp [execTraceTrigger]
@[simp] theorem execTraceConfig_keepsMeter (r) : KeepsMeter s (execTraceConfig r s) := by simp [execTraceConfig, traceConfigAns]
@[simp] theorem execTraceArm_keepsMeter (r) : KeepsMeter s (execTraceArm r s) := by simp [execTraceArm, traceArmAns]
@[simp] theorem execTraceRead_keepsMeter (r) : KeepsMeter s (execTraceRead r s) := by simp [execTraceRead, traceReadAns]
@[simp] theorem State.spend_meter (cycles) : (s.spend cycles).meter = s.meter := by simp [State.spend]
@[simp] theorem State.engineStart_meter (n : Nat) (s : State) : (State.engineStart n s).meter = s.meter := by
  induction n generalizing s with
  | zero => rfl
  | succ n ih =>
    unfold State.engineStart
    (repeat' split) <;> simp [ih]
@[simp] theorem State.engineNext_meter (p) : (s.engineNext p).meter = s.meter := by simp [State.engineNext]
@[simp] theorem State.nextStep_meter (p arrived) : (s.nextStep p arrived).meter = s.meter := by simp [State.nextStep]
@[simp] theorem State.launchDuty_meter (p) : (s.launchDuty p).meter = s.meter := by simp [State.launchDuty]
@[simp] theorem State.commitSpec_meter (p) : (s.commitSpec p).meter = s.meter := by
  simp only [State.commitSpec]
  split <;> simp
@[simp] theorem State.implausTrip_meter (p check) : (s.implausTrip p check).meter = s.meter := by simp [State.implausTrip]
@[simp] theorem State.neutralStep_meter (p) : (s.neutralStep p).meter = s.meter := by simp [State.neutralStep]
@[simp] theorem State.takePort_meter (p) : (s.takePort p).meter = s.meter := by simp [State.takePort]
@[simp] theorem State.arriveStep_meter (p) : (s.arriveStep p).meter = s.meter := by
  simp only [State.arriveStep]
  (repeat' split) <;> simp
@[simp] theorem execSamplesArrive_keepsMeter (p) : KeepsMeter s (execSamplesArrive p s) := by simp [execSamplesArrive]
@[simp] theorem execSpecStepComplete_keepsMeter (p) : KeepsMeter s (execSpecStepComplete p s) := by
  simp only [execSpecStepComplete]
  split <;> simp
@[simp] theorem execRecomputeComplete_keepsMeter (p) : KeepsMeter s (execRecomputeComplete p s) := by simp [execRecomputeComplete]
@[simp] theorem execCommitDeadline_keepsMeter (p) : KeepsMeter s (execCommitDeadline p s) := by simp [execCommitDeadline]
@[simp] theorem execPortOcTrip_keepsMeter (p) : KeepsMeter s (execPortOcTrip p s) := by
  unfold execPortOcTrip
  split <;> simp
@[simp] theorem State.boundaryStep_meter (p high) : (s.boundaryStep p high).meter = s.meter := by simp [State.boundaryStep]
@[simp] theorem execCarrierBoundary_keepsMeter (p) : KeepsMeter s (execCarrierBoundary p s) := by simp [execCarrierBoundary]

/-! ### The bus step, black start, synchronising and closing -/

@[simp] theorem State.setMode_meter (m) : (s.setMode m).meter = s.meter := by simp [State.setMode]
@[simp] theorem State.modeStep_meter : s.modeStep.meter = s.meter := by simp [State.modeStep]
@[simp] theorem State.allGatesOff_meter : s.allGatesOff.meter = s.meter := by simp [State.allGatesOff]
@[simp] theorem State.enableAll_meter : s.enableAll.meter = s.meter := by simp [State.enableAll]
@[simp] theorem State.enterForming_meter : s.enterForming.meter = s.meter := by simp [State.enterForming]
@[simp] theorem State.putTide_meter (k c f) : (s.putTide k c f).meter = s.meter := by simp [State.putTide]
@[simp] theorem State.sampleEntries_meter : s.sampleEntries.meter = s.meter := by simp [State.sampleEntries]
@[simp] theorem State.stepEntry_meter : s.stepEntry.meter = s.meter := by simp [State.stepEntry]
@[simp] theorem State.closeEntry_meter (on angle) : (s.closeEntry on angle).meter = s.meter := by simp [State.closeEntry]
@[simp] theorem State.blackStartStep_meter : s.blackStartStep.meter = s.meter := by simp [State.blackStartStep]
@[simp] theorem State.bsHoldStep_meter : s.bsHoldStep.meter = s.meter := by simp [State.bsHoldStep]
@[simp] theorem State.closeStep_meter (dt) : (s.closeStep dt).meter = s.meter := by
  simp only [State.closeStep]
  (repeat' split) <;> simp
@[simp] theorem State.syncStep_meter (dt) : (s.syncStep dt).meter = s.meter := by simp [State.syncStep]
@[simp] theorem State.liveStep_meter : s.liveStep.meter = s.meter := by simp [State.liveStep]
@[simp] theorem State.disarm_meter : s.disarm.meter = s.meter := by simp [State.disarm]
@[simp] theorem State.raiseSync_meter (code) : (s.raiseSync code).meter = s.meter := by simp [State.raiseSync]
@[simp] theorem State.breakerSeen_meter (closed) : (s.breakerSeen closed).meter = s.meter := by simp [State.breakerSeen]
@[simp] theorem State.tideEvent_meter (ev) : (s.tideEvent ev).meter = s.meter := by simp [State.tideEvent]
@[simp] theorem execEventFrame_keepsMeter (k) : KeepsMeter s (execEventFrame k s) := by
  unfold execEventFrame
  split <;> simp
@[simp] theorem State.flagStep_meter : s.flagStep.meter = s.meter := by simp [State.flagStep]
@[simp] theorem State.clockTrips_meter : s.clockTrips.meter = s.meter := by simp [State.clockTrips]
@[simp] theorem State.trimStep_meter : s.trimStep.meter = s.meter := by simp [State.trimStep]
@[simp] theorem State.reserve_meter : s.reserve.meter = s.meter := by simp [State.reserve, State.spend]
@[simp] theorem State.beginStep_meter : s.beginStep.meter = s.meter := by simp [State.beginStep]
@[simp] theorem State.lawStep_meter (dt) : (s.lawStep dt).meter = s.meter := by simp [State.lawStep]
@[simp] theorem State.busStep_meter : s.busStep.meter = s.meter := by simp [State.busStep]
@[simp] theorem execBusStep_keepsMeter : KeepsMeter s (execBusStep s) := by simp [execBusStep]
@[simp] theorem execRtFaultOff_keepsMeter : KeepsMeter s (execRtFaultOff s) := by simp [execRtFaultOff]
@[simp] theorem execPjRealignEnd_keepsMeter : KeepsMeter s (execPjRealignEnd s) := by simp [execPjRealignEnd]
@[simp] theorem execPortDcUv_keepsMeter (p) : KeepsMeter s (execPortDcUv p s) := by simp [execPortDcUv]
@[simp] theorem execBmsOvercurrent_keepsMeter (p) : KeepsMeter s (execBmsOvercurrent p s) := by simp [execBmsOvercurrent]
@[simp] theorem execSetDispatch_keepsMeter (r) : KeepsMeter s (execSetDispatch r s) := by simp [execSetDispatch, setDispatchAns]
@[simp] theorem execBlackStart_keepsMeter (r) : KeepsMeter s (execBlackStart r s) := by simp [execBlackStart, blackStartAns]
@[simp] theorem execBsDeadCheckPass_keepsMeter : KeepsMeter s (execBsDeadCheckPass s) := by simp [execBsDeadCheckPass]
@[simp] theorem execBsAnchorLaunch_keepsMeter : KeepsMeter s (execBsAnchorLaunch s) := by
  simp only [execBsAnchorLaunch]
  split <;> simp
@[simp] theorem execBsGateEnable_keepsMeter : KeepsMeter s (execBsGateEnable s) := by simp [execBsGateEnable]
@[simp] theorem execBsDone_keepsMeter : KeepsMeter s (execBsDone s) := by simp [execBsDone]
@[simp] theorem execBsRampTimeout_keepsMeter : KeepsMeter s (execBsRampTimeout s) := by simp [execBsRampTimeout]
@[simp] theorem execSyncClose_keepsMeter (r) : KeepsMeter s (execSyncClose r s) := by simp [execSyncClose, syncCloseAns]
@[simp] theorem execSyncTimeout_keepsMeter : KeepsMeter s (execSyncTimeout s) := by simp [execSyncTimeout]
@[simp] theorem execSyncCloseFail_keepsMeter : KeepsMeter s (execSyncCloseFail s) := by simp [execSyncCloseFail]
@[simp] theorem execSyncGridLost_keepsMeter : KeepsMeter s (execSyncGridLost s) := by simp [execSyncGridLost]
@[simp] theorem execStopRampEnd_keepsMeter : KeepsMeter s (execStopRampEnd s) := by
  simp only [execStopRampEnd]
  (repeat' split) <;> simp
@[simp] theorem State.toReady_meter : s.toReady.meter = s.meter := by simp [State.toReady]
@[simp] theorem State.toSync_meter : s.toSync.meter = s.meter := by simp [State.toSync]
@[simp] theorem State.setStateEffect_meter (named) : (s.setStateEffect named).meter = s.meter := by simp [State.setStateEffect]
@[simp] theorem setStateAns_meter (b) : (setStateAns b s).st.meter = s.meter := by simp [setStateAns]
@[simp] theorem execSetStateStandby_keepsMeter (r) : KeepsMeter s (execSetStateStandby r s) := by simp [execSetStateStandby]
@[simp] theorem execSetStateIdle_keepsMeter (r) : KeepsMeter s (execSetStateIdle r s) := by simp [execSetStateIdle]
@[simp] theorem execSetStateReady_keepsMeter (r) : KeepsMeter s (execSetStateReady r s) := by simp [execSetStateReady]
@[simp] theorem execSetStateSync_keepsMeter (r) : KeepsMeter s (execSetStateSync r s) := by simp [execSetStateSync]
@[simp] theorem execSetStateService_keepsMeter (r) : KeepsMeter s (execSetStateService r s) := by simp [execSetStateService]

/-! ### Identity, status, resets and trips by command -/

@[simp] theorem execNop_keepsMeter (r) : KeepsMeter s (execNop r s) := by simp [execNop]
@[simp] theorem execIdentify_keepsMeter (r) : KeepsMeter s (execIdentify r s) := by simp [execIdentify, identifyAns]
@[simp] theorem execGetStatus_keepsMeter (r) : KeepsMeter s (execGetStatus r s) := by simp [execGetStatus, getStatusAns]
@[simp] theorem resetAns_meter (b) : (resetAns b s).st.meter = s.meter := by simp [resetAns]
@[simp] theorem execModuleReset_keepsMeter (r) : KeepsMeter s (execModuleReset r s) := by simp [execModuleReset]
@[simp] theorem execHeadlandReset_keepsMeter (r) : KeepsMeter s (execHeadlandReset r s) := by simp [execHeadlandReset]
@[simp] theorem State.hostTrip_meter (target) : (s.hostTrip target).meter = s.meter := by simp [State.hostTrip]
@[simp] theorem execTrip_keepsMeter (r) : KeepsMeter s (execTrip r s) := by simp [execTrip, tripAns]
@[simp] theorem State.retestPort_meter (p) : (s.retestPort p).meter = s.meter := by simp [State.retestPort]
@[simp] theorem State.unfault_meter (p) : (s.unfault p).meter = s.meter := by simp [State.unfault]
@[simp] theorem State.clearPort_meter (p) : (s.clearPort p).meter = s.meter := by simp [State.clearPort]
@[simp] theorem State.touchPort_meter (p) : (s.touchPort p).meter = s.meter := by simp [State.touchPort]
@[simp] theorem State.clearOne_meter (p) : (s.clearOne p).1.meter = s.meter := by simp [State.clearOne]
@[simp] theorem clearTripAns_meter (target b) : (clearTripAns target b s).st.meter = s.meter := by
  refine State.check_meter _ _ _ ?_
  have hall := foldl_fst_meter (fun (a : State × Nat × Nat) (p : Port) =>
    ((a.1.clearOne p).1, a.2.1 + 2 ^ p.val * b2n (a.1.clearOne p).2.1, a.2.2 + 2 ^ p.val * b2n (a.1.clearOne p).2.2))
    (List.finRange 12) (s, 0, 0) fun a p => State.clearOne_meter ..
  simp [hall]
@[simp] theorem execClearTrip_keepsMeter (r) : KeepsMeter s (execClearTrip r s) := by simp [execClearTrip]

/-! ### Frames that reach a Shoal and Shore -/

@[simp] theorem State.legEvent_meter (p k codes) : (s.legEvent p k codes).meter = s.meter := by
  unfold State.legEvent
  split <;> simp
@[simp] theorem State.legHiz_meter (p k code) : (s.legHiz p k code).meter = s.meter := by simp [State.legHiz]
@[simp] theorem State.portHizSeen_meter (p state) : (s.portHizSeen p state).meter = s.meter := by simp [State.portHizSeen]
@[simp] theorem State.legStates_meter (p state) : (s.legStates p state).meter = s.meter := by simp [State.legStates]
@[simp] theorem State.dlLossSeen_meter (p loss) : (s.dlLossSeen p loss).meter = s.meter := by simp [State.dlLossSeen]
@[simp] theorem State.uplinkLost_meter (l) : (s.uplinkLost l).meter = s.meter := by
  unfold State.uplinkLost
  (repeat' split) <;> simp
@[simp] theorem State.uplinkBad_meter (l) : (s.uplinkBad l).meter = s.meter := by simp [State.uplinkBad]
@[simp] theorem State.uplinkGood_meter (l bytes) : (s.uplinkGood l bytes).meter = s.meter := by
  unfold State.uplinkGood
  split <;> simp
@[simp] theorem execUplinkFrame_keepsMeter (l streams noise) : KeepsMeter s (execUplinkFrame l streams noise s) := by simp [execUplinkFrame]
@[simp] theorem State.driveLatch_meter (l) : (s.driveLatch l).meter = s.meter := by
  unfold State.driveLatch
  split <;> simp
@[simp] theorem execDownlinkFrame_keepsMeter (l slot noise) : KeepsMeter s (execDownlinkFrame l slot noise s) := by simp [execDownlinkFrame]
@[simp] theorem execLinkFrameTimeout_keepsMeter (l up) : KeepsMeter s (execLinkFrameTimeout l up s) := by simp [execLinkFrameTimeout]
@[simp] theorem State.takeInput_meter (n) : (s.takeInput n).meter = s.meter := by simp [State.takeInput]
@[simp] theorem State.refresh_meter : s.refresh.meter = s.meter := by simp [State.refresh]
@[simp] theorem execShoreRefresh_keepsMeter (from_ crcOk) : KeepsMeter s (execShoreRefresh from_ crcOk s) := by simp [execShoreRefresh]

/-! ### The pair of Headlands -/

@[simp] theorem State.launch_meter (full handover) : (s.launch full handover).meter = s.meter := by simp [State.launch]
@[simp] theorem execMirrorSlotLaunch_keepsMeter : KeepsMeter s (execMirrorSlotLaunch s) := by simp [execMirrorSlotLaunch]
@[simp] theorem State.takeMirror_meter (h f) : (s.takeMirror h f).meter = s.meter := by
  simp only [State.takeMirror]
  split <;> simp
@[simp] theorem execMirrorFrame_keepsMeter (good) : KeepsMeter s (execMirrorFrame good s) := by
  unfold execMirrorFrame
  split <;> simp
@[simp] theorem State.silence_meter (h) : (s.silence h).meter = s.meter := by simp [State.silence]
@[simp] theorem execMirrorSlotEnd_keepsMeter : KeepsMeter s (execMirrorSlotEnd s) := by simp [execMirrorSlotEnd]
@[simp] theorem State.release_meter (w) : (s.release w).meter = s.meter := by simp [State.release]
@[simp] theorem State.releaseAcked_meter : s.releaseAcked.meter = s.meter := by simp [State.releaseAcked]
@[simp] theorem execMirrorAck_keepsMeter (good) : KeepsMeter s (execMirrorAck good s) := by
  unfold execMirrorAck
  split <;> simp
@[simp] theorem execConfigAckTimeout_keepsMeter : KeepsMeter s (execConfigAckTimeout s) := by
  unfold execConfigAckTimeout
  split <;> simp
@[simp] theorem execApplyTick_keepsMeter (k) : KeepsMeter s (execApplyTick k s) := by simp [execApplyTick]
@[simp] theorem State.grant_meter (h) : (s.grant h).meter = s.meter := by
  simp only [State.grant]
  split <;> simp
@[simp] theorem State.takeOver_meter (cause) : (s.takeOver cause).meter = s.meter := by simp [State.takeOver]
@[simp] theorem State.refuseClaim_meter (h) : (s.refuseClaim h).meter = s.meter := by simp [State.refuseClaim]
@[simp] theorem execHeadlandFailure_keepsMeter (cause) : KeepsMeter s (execHeadlandFailure cause s) := by
  unfold execHeadlandFailure
  split <;> simp
@[simp] theorem State.loadSet_meter : s.loadSet.meter = s.meter := by
  simp only [State.loadSet]
  split <;> simp
@[simp] theorem State.firstGrant_meter (h) : (s.firstGrant h).meter = s.meter := by simp [State.firstGrant]
@[simp] theorem execTokenClaim_keepsMeter (h) : KeepsMeter s (execTokenClaim h s) := by
  unfold execTokenClaim
  (repeat' split) <;> simp
@[simp] theorem execTakeoverComplete_keepsMeter : KeepsMeter s (execTakeoverComplete s) := by simp [execTakeoverComplete]
@[simp] theorem execLateClaim_keepsMeter : KeepsMeter s (execLateClaim s) := by
  simp only [execLateClaim]
  (repeat' split) <;> simp
@[simp] theorem execResyncComplete_keepsMeter : KeepsMeter s (execResyncComplete s) := by simp [execResyncComplete]
@[simp] theorem execResyncTimeout_keepsMeter : KeepsMeter s (execResyncTimeout s) := by simp [execResyncTimeout]
@[simp] theorem execResyncRetry_keepsMeter : KeepsMeter s (execResyncRetry s) := by simp [execResyncRetry]
@[simp] theorem execPairHandover_keepsMeter (r) : KeepsMeter s (execPairHandover r s) := by simp [execPairHandover, pairHandoverAns]
@[simp] theorem execHandoverBoundary_keepsMeter : KeepsMeter s (execHandoverBoundary s) := by simp [execHandoverBoundary]
@[simp] theorem execPairStatus_keepsMeter (r) : KeepsMeter s (execPairStatus r s) := by simp [execPairStatus, pairStatusAns]

/-! ### Start-up, resets, standby and memory errors -/

@[simp] theorem State.flushLog_meter : s.flushLog.meter = s.meter := by simp [State.flushLog]
@[simp] theorem State.dieReset_meter : s.dieReset.meter = s.meter := by simp [State.dieReset]
@[simp] theorem State.transferFrom_meter (h) : (s.transferFrom h).meter = s.meter := by simp [State.transferFrom]
@[simp] theorem execHeadlandSelftestEnd_keepsMeter (h failed) : KeepsMeter s (execHeadlandSelftestEnd h failed s) := by
  unfold execHeadlandSelftestEnd
  split <;> simp
@[simp] theorem execBootClaimTimeout_keepsMeter : KeepsMeter s (execBootClaimTimeout s) := by simp [execBootClaimTimeout]
@[simp] theorem State.bootLock_meter : s.bootLock.meter = s.meter := by simp [State.bootLock]
@[simp] theorem State.startDies_meter : s.startDies.meter = s.meter := by simp [State.startDies]
@[simp] theorem State.startSet_meter : s.startSet.meter = s.meter := by simp [State.startSet]
@[simp] theorem State.reportWake_meter : s.reportWake.meter = s.meter := by
  simp only [State.reportWake]
  (repeat' split) <;> simp
@[simp] theorem State.startPeer_meter : s.startPeer.meter = s.meter := by simp [State.startPeer]
@[simp] theorem State.startLoops_meter : s.startLoops.meter = s.meter := by simp [State.startLoops]
@[simp] theorem State.moduleReset_meter (kind) : (s.moduleReset kind).meter = s.meter := by simp [State.moduleReset]
@[simp] theorem execModuleResetBegin_keepsMeter : KeepsMeter s (execModuleResetBegin s) := by simp [execModuleResetBegin]
@[simp] theorem execPeerHeadlandReset_keepsMeter : KeepsMeter s (execPeerHeadlandReset s) := by simp [execPeerHeadlandReset]
@[simp] theorem execResetN_keepsMeter : KeepsMeter s (execResetN s) := by simp [execResetN]
@[simp] theorem execResetNRelease_keepsMeter : KeepsMeter s (execResetNRelease s) := by simp [execResetNRelease]

end Sys2Proof.Machine
end

section
/-! The energy registers of the cartridge (R314 to R316): what a sample does to them, what the cartridge's own events, its reads and the
loss of its supply do, and the obligation O59. -/
namespace Sys2Proof.Machine

/-! ### Registers of the cartridge (R314, R315, R316) -/

theorem accumulate_le (reg acc add : Nat) : reg ≤ (accumulate reg acc add).1 := Nat.le_add_right _ _

/-- A sample's energy goes to one of the two registers, and lowers neither (R314, R315). -/
theorem Energy.add_le (e : Energy) (x : Int) : e.imp ≤ (e.add x).imp ∧ e.exp ≤ (e.add x).exp := by
  unfold Energy.add
  split
  · exact ⟨le_rfl, accumulate_le ..⟩
  split
  · exact ⟨accumulate_le .., le_rfl⟩
  · exact ⟨le_rfl, le_rfl⟩

/-- No register of n stands below the same register of m. -/
def MeterStore.le (m n : MeterStore) : Prop :=
  ∀ p : Port, m.energy[p].imp ≤ n.energy[p].imp ∧ m.energy[p].exp ≤ n.energy[p].exp

theorem MeterStore.le_of_energy {m n : MeterStore} (h : n.energy = m.energy) : m.le n := fun p => by rw [h]; exact ⟨le_rfl, le_rfl⟩

theorem MeterStore.le_trans {l m n : MeterStore} (h1 : l.le m) (h2 : m.le n) : l.le n := fun p =>
  ⟨(h1 p).1.trans (h2 p).1, (h1 p).2.trans (h2 p).2⟩

/-- An operation on one port's energy that lowers neither register. -/
theorem MeterStore.le_vmod {m n : MeterStore} {p : Port} {f : Energy → Energy} (h : n.energy = vmod m.energy p f)
    (hf : ∀ e : Energy, e.imp ≤ (f e).imp ∧ e.exp ≤ (f e).exp) : m.le n := by
  intro q
  rw [h]
  by_cases hq : p = q
  · subst hq
    simpa using hf m.energy[p]
  · simp [vmod_other _ _ _ _ hq]

/-! ### Operations of a powered cartridge -/

/-- From m to n the cartridge keeps its power and lowers no register. -/
def Meter.Counts (m n : Meter) : Prop := n.powered = m.powered ∧ m.live.le n.live

theorem Meter.Counts.of_energy {m n : Meter} (hp : n.powered = m.powered) (he : n.live.energy = m.live.energy) : m.Counts n :=
  ⟨hp, MeterStore.le_of_energy he⟩

theorem Meter.Counts.trans {l m n : Meter} (h1 : l.Counts m) (h2 : m.Counts n) : l.Counts n :=
  ⟨h2.1.trans h1.1, MeterStore.le_trans h1.2 h2.2⟩

/-- What the metering paths hold is none of the registers. -/
theorem Meter.Counts.ports (m : Meter) (ports : Vector MeterPort 12) : m.Counts { m with ports := ports } := .of_energy rfl rfl

theorem Meter.Counts.foldl {α : Type} {f : Meter → α → Meter} (h : ∀ (m : Meter) x, m.Counts (f m x)) (l : List α) (m : Meter) :
    m.Counts (l.foldl f m) := by
  induction l generalizing m with
  | nil => exact .of_energy rfl rfl
  | cons x xs ih => exact (h m x).trans (ih _)

section Samples
variable (m : Meter) (now : Nat) (p : Port)

theorem Meter.sampleOk_counts (dv di : Rat) : m.Counts (m.sampleOk now p dv di) :=
  ⟨rfl, MeterStore.le_vmod rfl fun e => e.add_le _⟩

theorem Meter.sampleGap_counts : m.Counts (m.sampleGap p) :=
  ⟨rfl, MeterStore.le_vmod (f := fun e => { e with gapTotal := satAdd 32 e.gapTotal 5 }) rfl fun _ => ⟨le_rfl, le_rfl⟩⟩

/-- One modulator clock forms a valid sample, discards one, or forms none. -/
theorem Meter.clock_counts (bv bi bad : Bool) : m.Counts (m.clock now p bv bi bad) := by
  simp only [Meter.clock]
  split_ifs
  · exact .ports ..
  · exact (Meter.Counts.ports ..).trans (Meter.sampleOk_counts ..)
  · exact (Meter.Counts.ports ..).trans (Meter.sampleGap_counts ..)

theorem Meter.slot_counts (bytes : Option (List Byte)) : m.Counts (m.slot now p bytes) := by
  simp only [Meter.slot]
  refine (Meter.Counts.foldl (fun m i => ?_) _ m).trans (.ports ..)
  cases bytes with
  | none => exact m.clock_counts ..
  | some bs => exact m.clock_counts ..

theorem Meter.subframe_counts (bytes : List Byte) : m.Counts (m.subframe now p bytes) := by
  have hfed : ∀ ports bs, m.Counts (({ m with ports := ports } : Meter).slot now p bs) := fun _ _ =>
    (Meter.Counts.ports ..).trans (Meter.slot_counts ..)
  simp only [Meter.subframe]
  split_ifs
  · exact hfed _ _
  · exact hfed _ _
  · exact hfed _ _

end Samples

/-! ### What the cartridge holds of its energies -/

/-- The cartridge's power, and the energies that it holds in SRAM and in MRAM. One value, so that one lemma says of an operation that it
leaves all three. -/
def Meter.energies (m : Meter) : Bool × Vector Energy 12 × Vector Energy 12 := (m.powered, m.live.energy, m.mram.energy)

theorem MeterStore.makeRoom_energy (t : MeterStore) : t.makeRoom.energy = t.energy := by
  unfold MeterStore.makeRoom
  split
  · rfl
  · split <;> rfl

section Energies
variable (m : Meter)

@[simp] theorem Meter.closeSession_energies (p : Port) (cause imp exp sec : Nat) :
    (m.closeSession p cause imp exp sec).energies = m.energies := rfl

@[simp] theorem Meter.openSession_energies (p : Port) (iv : Interval) : (m.openSession p iv).energies = m.energies := by
  simp [Meter.openSession, Meter.energies, MeterStore.makeRoom_energy]

/-- Closing the sessions of every port at its registers leaves the energies. -/
theorem Meter.closeAll_energies (cause : Nat) (l : List Port) : (l.foldl (fun (m : Meter) p =>
    let e := m.live.energy[p]
    m.closeSession p cause e.imp e.exp m.live.opSec) m).energies = m.energies :=
  foldl_view (fun m _ => m.closeSession_energies ..) l m

end Energies

/-! ### The cartridge from one state to the next -/

/-- From m to n: an unpowered cartridge's MRAM goes on holding its registers, and then no register falls. -/
def Meter.Grows (m n : Meter) : Prop := m.keepsEnergy → n.keepsEnergy ∧ m.live.le n.live

section Grows
variable {m n : Meter}

theorem Meter.Grows.of_energies (h : n.energies = m.energies) : m.Grows n := by
  obtain ⟨hpower, hlive, hmram⟩ : n.powered = m.powered ∧ n.live.energy = m.live.energy ∧ n.mram.energy = m.mram.energy := by
    simpa [Meter.energies] using h
  exact fun hk => ⟨by simpa [Meter.keepsEnergy, hpower, hlive, hmram] using hk, MeterStore.le_of_energy hlive⟩

theorem Meter.Grows.trans {l m n : Meter} (h1 : l.Grows m) (h2 : m.Grows n) : l.Grows n := fun hk =>
  have hm := h1 hk
  have hn := h2 hm.1
  ⟨hn.1, MeterStore.le_trans hm.2 hn.2⟩

theorem Meter.Grows.refl (m : Meter) : m.Grows m := .of_energies rfl

/-- A powered cartridge may count. -/
theorem Meter.Grows.of_counts (hp : m.powered = true) (h : m.Counts n) : m.Grows n := fun _ =>
  ⟨fun hoff => absurd (h.1.symm.trans hoff) (by simp [hp]), h.2⟩

/-- The last write before the supply ends (R316): MRAM takes the registers as they stand. -/
theorem Meter.Grows.final_write (m : Meter) : m.Grows { m with mram := m.live, powered := false } := fun _ =>
  ⟨fun _ _ => ⟨rfl, rfl⟩, MeterStore.le_of_energy rfl⟩

/-- The supply returns to an unpowered cartridge (R316): the registers that it loads are those that it held. -/
theorem Meter.Grows.powerUp (hoff : m.powered = false) : m.Grows m.powerUp := by
  intro hk
  have hlive : m.powerUp.live.energy = m.mram.energy :=
    congrArg (·.2.1) (({ m with live := m.mram } : Meter).closeAll_energies 2 (List.finRange 12))
  refine ⟨fun h => absurd h (by simp [Meter.powerUp]), fun p => ?_⟩
  obtain ⟨himp, hexp⟩ := hk hoff p
  rw [hlive]
  exact ⟨himp.symm.le, hexp.symm.le⟩

/-- A verification clears GAP_TOTAL and no register (R335, R336). -/
theorem Meter.Grows.verify (hp : m.powered = true) (v : Verification) : m.Grows (m.verify v) := by
  have hclosed := m.closeAll_energies 4 (List.finRange 12)
  refine .of_counts hp ⟨congrArg (·.1) hclosed, fun p => ?_⟩
  have hlive : (m.verify v).live.energy = m.live.energy.map fun (e : Energy) => { e with gapTotal := 0 } :=
    congrArg (·.2.1.map fun (e : Energy) => { e with gapTotal := 0 }) hclosed
  rw [hlive]
  simp

end Grows

/-- The state that a command answers holds a cartridge grown from the one it found. -/
def OnlyGrows (s : State) (r : Res) : Prop := ∀ t, r = .next t → s.meter.Grows t.meter

section
variable {s : State}

theorem OnlyGrows.next {t : State} (h : s.meter.Grows t.meter) : OnlyGrows s (.next t) := by
  rintro _ ⟨⟩
  exact h

theorem OnlyGrows.of_energies {t : State} (h : t.meter.energies = s.meter.energies) : OnlyGrows s (.next t) := .next (.of_energies h)

theorem OnlyGrows.modMeter_energies {f : Meter → Meter} (h : ∀ m, (f m).energies = m.energies) : OnlyGrows s (.next (s.modMeter f)) :=
  .of_energies (h s.meter)

theorem KeepsMeter.onlyGrows {r : Res} (h : KeepsMeter s r) : OnlyGrows s r := fun t ht => h t ht ▸ .refl _

/-- An operation on the cartridge alone that acts only where a condition holds. -/
theorem OnlyGrows.modMeter_ite {c : Meter → Bool} {f : Meter → Meter} (h : c s.meter = true → s.meter.Grows (f s.meter)) :
    OnlyGrows s (.next (s.modMeter fun m => if c m then f m else m)) := by
  refine .next ?_
  change s.meter.Grows (if c s.meter then f s.meter else s.meter)
  split
  · next hc => exact h hc
  · exact .refl _

end

/-! ### The cartridge read (R324, R328, R332, R333) -/

section Reads
variable (s : State)

theorem State.raise_energies (code source arg0 arg1 : Nat) (data : List Nat) :
    (s.raise code source arg0 arg1 data).meter.energies = s.meter.energies := congrArg Meter.energies (s.raise_meter ..)

@[simp] theorem State.noteSeal_energies : s.noteSeal.meter.energies = s.meter.energies := by
  simp only [State.noteSeal]
  split
  · exact State.raise_energies ..
  · rfl

@[simp] theorem State.compareSerial_energies : s.compareSerial.meter.energies = s.meter.energies := by
  simp only [State.compareSerial]
  split_ifs
  · rfl
  · rfl
  · exact State.raise_energies ..

@[simp] theorem State.startMeter_energies : s.startMeter.meter.energies = s.meter.energies := by
  unfold State.startMeter
  split
  · exact s.compareSerial_energies
  · rfl

@[simp] theorem State.countCorrected_energies (d) : (s.countCorrected d).meter.energies = s.meter.energies := by
  cases d <;> rfl

theorem readRegAns_energies (b) : (readRegAns b s).st.meter.energies = s.meter.energies := by
  refine s.check_view _ _ _ ?_
  simp only [State.ok_st, State.readWords_meter]
  split
  · exact s.noteSeal_energies
  · rfl

theorem meterReadAns_energies (target b) : (meterReadAns target b s).st.meter.energies = s.meter.energies :=
  s.check_view _ _ _ s.noteSeal_energies

theorem meterInfoAns_energies (target b) : (meterInfoAns target b s).st.meter.energies = s.meter.energies :=
  s.check_view _ _ _ s.noteSeal_energies

theorem execReadReg_onlyGrows (r) : OnlyGrows s (execReadReg r s) :=
  .of_energies (s.hostItem_view _ _ _ _ _ fun _ u => readRegAns_energies u _)
theorem execMeterRead_onlyGrows (r) : OnlyGrows s (execMeterRead r s) :=
  .of_energies (s.hostItem_view _ _ _ _ _ fun _ u => meterReadAns_energies u _ _)
theorem execMeterInfo_onlyGrows (r) : OnlyGrows s (execMeterInfo r s) :=
  .of_energies (s.hostItem_view _ _ _ _ _ fun _ u => meterInfoAns_energies u _ _)

theorem execCartridgeReadRequest_onlyGrows (write addr crcOk) : OnlyGrows s (execCartridgeReadRequest write addr crcOk s) := by
  refine .of_energies ?_
  split
  · exact State.noteSeal_energies _
  · rfl

theorem execMeterAbsent_onlyGrows : OnlyGrows s (execMeterAbsent s) := by
  unfold execMeterAbsent
  split
  · exact .next (.refl _)
  · exact .of_energies (State.raise_energies ..)

theorem execMeterPresent_onlyGrows : OnlyGrows s (execMeterPresent s) := by
  unfold execMeterPresent
  split
  · exact .next (.refl _)
  · refine .of_energies ?_
    rw [State.noteSeal_energies, State.compareSerial_energies, State.raise_meter]
    rfl

theorem execBootEnd_onlyGrows : OnlyGrows s (execBootEnd s) := by
  unfold execBootEnd
  split
  · exact .next (.refl _)
  · exact .of_energies (by simp)

theorem execSramEccError_onlyGrows (w) : OnlyGrows s (execSramEccError w s) := by
  refine .of_energies ?_
  split
  · split
    · rfl
    · exact s.countCorrected_energies _
  all_goals simp

end Reads

/-! ### Events of the cartridge (R313 to R318, R329 to R331) -/

section Events
variable (s : State)

theorem execMetrologySubframe_onlyGrows (p noise) : OnlyGrows s (execMetrologySubframe p noise s) := by
  unfold execMetrologySubframe
  split
  · exact .next (.refl _)
  · exact .modMeter_ite (s := s.modUl (linkOf p) fun u => { u with msub := none }) (c := (·.powered))
      fun hp => .of_counts hp (Meter.subframe_counts ..)

theorem execMetrologySlotLost_onlyGrows (p) : OnlyGrows s (execMetrologySlotLost p s) :=
  .modMeter_ite fun hc => .of_counts (Bool.and_elim_left (Bool.and_elim_left hc)) (Meter.slot_counts ..)

theorem execSessionOpen_onlyGrows (p) : OnlyGrows s (execSessionOpen p s) := by
  refine .modMeter_energies fun m => ?_
  split
  · split
    · exact Meter.openSession_energies ..
    · rfl
  · rfl

theorem execSessionClose_onlyGrows (p) : OnlyGrows s (execSessionClose p s) := by
  refine .modMeter_energies fun m => ?_
  split
  · split <;> rfl
  · rfl

theorem execSessionGapClose_onlyGrows (p) : OnlyGrows s (execSessionGapClose p s) := by
  refine .modMeter_energies fun m => ?_
  split
  · split <;> rfl
  · rfl

theorem execMeterMramWrite_onlyGrows : OnlyGrows s (execMeterMramWrite s) :=
  .modMeter_ite fun hc => .of_counts (Bool.and_elim_left hc) (.of_energy rfl rfl)

theorem execMeterFinalWrite_onlyGrows : OnlyGrows s (execMeterFinalWrite s) :=
  .modMeter_ite (c := (·.powered)) fun _ => .final_write _

theorem execCartridgePowerUp_onlyGrows : OnlyGrows s (execCartridgePowerUp s) := by
  refine .next ?_
  split
  · exact .refl _
  · next hoff =>
    refine (Meter.Grows.powerUp (by simpa using hoff)).trans (.of_energies ?_)
    dsimp only
    split
    · exact State.compareSerial_energies _
    · rfl

theorem execCoverOpen_onlyGrows : OnlyGrows s (execCoverOpen s) := by
  refine .modMeter_energies fun m => ?_
  split
  · rfl
  · simp only [Meter.energies]
    split <;> rfl

theorem execCoverClose_onlyGrows : OnlyGrows s (execCoverClose s) :=
  .modMeter_energies fun _ => by split <;> rfl

theorem execToolAuthenticate_onlyGrows (ok) : OnlyGrows s (execToolAuthenticate ok s) :=
  .modMeter_energies fun _ => by split_ifs <;> rfl

theorem execToolRead_onlyGrows : OnlyGrows s (execToolRead s) :=
  .modMeter_energies fun _ => by split <;> rfl

theorem execToolPulseSelect_onlyGrows (p dir) : OnlyGrows s (execToolPulseSelect p dir s) :=
  .modMeter_energies fun _ => by split <;> rfl

theorem execVerifyCommit_onlyGrows (v) : OnlyGrows s (execVerifyCommit v s) :=
  .modMeter_ite fun hc => .verify (Bool.and_elim_left (Bool.and_elim_left (Bool.and_elim_left hc))) v

theorem execToolLockoutEnd_onlyGrows : OnlyGrows s (execToolLockoutEnd s) :=
  .modMeter_energies fun _ => by split <;> rfl

end Events

/-! ### Loss of supply (R316, Table 19.2) -/

section Supply
variable (s : State)

theorem State.powerReset_grows : s.meter.Grows s.powerReset.meter := by
  simp only [State.powerReset]
  split
  · exact .final_write _
  · exact .refl _

theorem State.powerDown_grows (cause) : s.meter.Grows (s.powerDown cause).meter := by
  simpa [State.powerDown] using (s.setDev .standby cause).flushLog.powerReset_grows

theorem execEnterStandby_onlyGrows : OnlyGrows s (execEnterStandby s) := by
  refine .next ?_
  split
  · exact s.powerDown_grows 0
  · exact .refl _

theorem execPowerUp_onlyGrows (cause vsup) : OnlyGrows s (execPowerUp cause vsup s) := by
  unfold execPowerUp
  dsimp only
  split
  · exact .next (.refl _)
  · refine .next ?_
    rw [State.setBudget_meter, State.raise_meter, State.seedLoops_meter]
    exact s.powerReset_grows

theorem execVsupLockout_onlyGrows (vsup) : OnlyGrows s (execVsupLockout vsup s) := by
  unfold execVsupLockout
  dsimp only
  split
  · exact .next (.refl _)
  · refine .next ?_
    split
    · exact .refl _
    · simpa using State.powerDown_grows ((s.modHeart _).raise 0xC5 0x33 vsup) 0xC5

end Supply

/-! ### The obligation -/

/-- Every command leaves the cartridge as it is, but for the events of the cartridge itself, what reads it, and loss of supply. -/
theorem exec_onlyGrows (c : Instr) (s : State) : OnlyGrows s (exec c s) := by
  cases c with
  | readReg r => exact execReadReg_onlyGrows s r
  | meterRead r => exact execMeterRead_onlyGrows s r
  | meterInfo r => exact execMeterInfo_onlyGrows s r
  | cartridgeReadRequest w a k => exact execCartridgeReadRequest_onlyGrows s w a k
  | meterAbsent => exact execMeterAbsent_onlyGrows s
  | meterPresent => exact execMeterPresent_onlyGrows s
  | bootEnd => exact execBootEnd_onlyGrows s
  | sramEccError w => exact execSramEccError_onlyGrows s w
  | metrologySubframe p noise => exact execMetrologySubframe_onlyGrows s p noise
  | metrologySlotLost p => exact execMetrologySlotLost_onlyGrows s p
  | sessionOpen p => exact execSessionOpen_onlyGrows s p
  | sessionClose p => exact execSessionClose_onlyGrows s p
  | sessionGapClose p => exact execSessionGapClose_onlyGrows s p
  | meterMramWrite => exact execMeterMramWrite_onlyGrows s
  | meterFinalWrite => exact execMeterFinalWrite_onlyGrows s
  | cartridgePowerUp => exact execCartridgePowerUp_onlyGrows s
  | coverOpen => exact execCoverOpen_onlyGrows s
  | coverClose => exact execCoverClose_onlyGrows s
  | toolAuthenticate ok => exact execToolAuthenticate_onlyGrows s ok
  | toolRead => exact execToolRead_onlyGrows s
  | toolPulseSelect p x => exact execToolPulseSelect_onlyGrows s p x
  | verifyCommit v => exact execVerifyCommit_onlyGrows s v
  | toolLockoutEnd => exact execToolLockoutEnd_onlyGrows s
  | enterStandby => exact execEnterStandby_onlyGrows s
  | powerUp cause vsup => exact execPowerUp_onlyGrows s cause vsup
  | vsupLockout vsup => exact execVsupLockout_onlyGrows s vsup
  | _ => exact KeepsMeter.onlyGrows (by simp [exec])

theorem Steps.meter_grows {s t : State} (h : Steps s t) : s.meter.Grows t.meter := by
  unfold Steps step at h
  split at h
  · obtain rfl := Host.Outcome.next.inj h
    simpa using Meter.Grows.refl s.meter
  · next c rest _ => exact exec_onlyGrows c { s with pending := rest } t h

/-- Settles O59: a step takes the cartridge to one that it may grow to. -/
theorem energyOnlyGrows : Obligations.EnergyOnlyGrows :=
  ⟨fun _ _ hk h => Steps.meter_grows h hk, fun _ _ => ⟨rfl, rfl⟩, fun p => by simp [State.reset]⟩

end Sys2Proof.Machine
end

section
/-! The safety inputs and test pulses (R340, R353 to R361): what a report and the entry into LOCKOUT leave as they were, what a demand
and a module fault write at Breakwater, and the obligation O42. -/
namespace Sys2Proof.Machine

/-! ### Reports: what events and the end of the laws leave -/

/-- From s to t, Breakwater and the device state stay and no event that waits for the Ring log is lost. -/
structure Reports (s t : State) : Prop where
  bw : t.bw = s.bw
  dev : t.dev = s.dev
  queue : s.act.log.queue ⊆ t.act.log.queue

section Reporting
variable {s t u : State}

theorem Reports.refl (s : State) : Reports s s := ⟨rfl, rfl, fun _ h => h⟩

theorem Reports.trans (h : Reports s t) (k : Reports t u) : Reports s u :=
  ⟨k.bw.trans h.bw, k.dev.trans h.dev, fun _ he => k.queue (h.queue he)⟩

theorem Reports.modFirm {f : Firm → Firm} (h : (f s.firm).dev = s.firm.dev) : Reports s (s.modFirm f) :=
  ⟨rfl, h, fun _ h => h⟩

theorem Reports.modHost (f : HostIf → HostIf) : Reports s (s.modHost f) := ⟨rfl, rfl, by simp⟩

variable (s)

/-- A frozen Ring log takes no event; another one takes it behind those that wait (R498). -/
theorem State.raiseTick_queue (tick : Nat) (e : Event) : (s.raiseTick tick e).act.log.queue =
    if s.act.log.frozen then s.act.log.queue else s.act.log.queue ++ [s.stamped tick e] := by
  unfold State.raiseTick
  split <;> simp

theorem State.raiseTick_reports (tick : Nat) (e : Event) : Reports s (s.raiseTick tick e) where
  bw := by unfold State.raiseTick; split <;> rfl
  dev := by unfold State.raiseTick; split <;> rfl
  queue := by
    rw [s.raiseTick_queue]
    split
    · exact fun _ h => h
    · exact List.subset_append_left ..

theorem State.raise_reports (code source arg0 arg1 : Nat) (data : List Nat) : Reports s (s.raise code source arg0 arg1 data) :=
  s.raiseTick_reports _ _

theorem State.abortBlackStart_reports (cause : Nat) : Reports s (s.abortBlackStart cause) := by
  unfold State.abortBlackStart
  split
  · exact (Reports.modFirm rfl).trans (State.raise_reports ..)
  · exact .refl s

theorem State.gatesOut_reports : Reports s s.gatesOut := .modFirm rfl

theorem State.endFault_reports : Reports s s.endFault := by
  unfold State.endFault
  dsimp only
  split
  · exact (Reports.modFirm rfl).trans (State.raise_reports ..)
  · exact .refl s

theorem State.leaveLive_reports : Reports s s.leaveLive :=
  s.endFault_reports.trans ((Reports.modFirm rfl).trans (.modFirm rfl))

end Reporting

/-! ### The lock-out (R360, Table 11.6) -/

section LockOut
variable (s : State)

/-- Entry into LOCKOUT: the device state alone is new, the rest reports (R561, R565). -/
theorem State.setDev_lockout_reports (cause : Nat) (h : s.dev ≠ .lockout) :
    Reports (s.modFirm fun m => { m with dev := .lockout, sub := .none }) (s.setDev .lockout cause) := by
  have hleave (u : State) (c : Prop) [Decidable c] : Reports u (if c then u.leaveLive else u) := by
    split
    · exact u.leaveLive_reports
    · exact .refl u
  simp only [State.setDev, if_neg h]
  exact (State.raiseTick_reports ..).trans ((hleave ..).trans
    ((State.abortBlackStart_reports ..).trans ((State.gatesOut_reports _).trans (.modHost _))))

@[simp] theorem State.setDev_lockout_bw (cause : Nat) : (s.setDev .lockout cause).bw = s.bw := by
  by_cases h : s.dev = .lockout
  · simp [State.setDev, h]
  · exact (s.setDev_lockout_reports cause h).bw

theorem State.setDev_lockout_dev (cause : Nat) : (s.setDev .lockout cause).dev = .lockout := by
  by_cases h : s.dev = .lockout
  · simp [State.setDev, h]
  · exact (s.setDev_lockout_reports cause h).dev

theorem State.setDev_lockout_queue (cause : Nat) : s.act.log.queue ⊆ (s.setDev .lockout cause).act.log.queue := by
  by_cases h : s.dev = .lockout
  · simp [State.setDev, h]
  · exact (s.setDev_lockout_reports cause h).queue

@[simp] theorem State.lockOut_bw (cause : Nat) : (s.lockOut cause).bw =
    { s.bw with lockout := true, resetArmed := false, lockouts := if s.bw.lockout then s.bw.lockouts else satInc 16 s.bw.lockouts } := by
  unfold State.lockOut
  split
  all_goals simp

theorem State.lockOut_dev (cause : Nat) (hs : s.dev ≠ .standby) (hb : s.dev ≠ .boot) : (s.lockOut cause).dev = .lockout := by
  unfold State.lockOut
  split
  case h_1 h => exact absurd h hs
  case h_2 h => exact absurd h hb
  case h_3 h => exact h
  all_goals exact State.setDev_lockout_dev ..

theorem State.lockOut_queue (cause : Nat) : s.act.log.queue ⊆ (s.lockOut cause).act.log.queue := by
  have hsame : (s.modBw fun b => { b with
      lockout := true, resetArmed := false, lockouts := if b.lockout then b.lockouts else satInc 16 b.lockouts }).act = s.act := rfl
  unfold State.lockOut
  rw [← hsame]
  split
  case h_1 | h_2 | h_3 => exact fun _ h => h
  all_goals exact State.setDev_lockout_queue ..

@[simp] theorem State.raise_bw (code source arg0 arg1 : Nat) (data : List Nat) : (s.raise code source arg0 arg1 data).bw = s.bw :=
  (s.raise_reports ..).bw

/-- What a module fault writes at Breakwater (R359, R360): every one locks out, all but RESET_STUCK set sdc_mod. -/
@[simp] theorem State.moduleFault_bw (code source : Nat) : (s.moduleFault code source).bw = { s.bw with
    lockout := true, resetArmed := false, lockouts := if s.bw.lockout then s.bw.lockouts else satInc 16 s.bw.lockouts
    firstCause := if s.bw.firstCause = 0 then code else s.bw.firstCause, sdcMod := if code = 7 then s.bw.sdcMod else true } := by
  by_cases h : code = 7 <;> simp [State.moduleFault, State.safetyFault, h]

end LockOut

/-! ### The safety inputs (R353, R356, R357) -/

/-- Breakwater after a reading of one channel. -/
def Breakwater.sense (b : Breakwater) (now : Nat) (n : Fin 8) (c : Fin 2) (f : SiChan → SiChan) : Breakwater :=
  { b with inputs := vmod b.inputs n fun i => (i.setChan now c f).noteBoth }

/-- Breakwater as a channel comes into demand, before the event and the lock-out (R357). -/
def Breakwater.takeDemand (b : Breakwater) (now : Nat) (n : Fin 8) (c : Fin 2) (level : Bool) : Breakwater :=
  { b.sense now n c fun x => { x with level := level, demand := true } with
    sgoMod := true, sdcMod := b.sdcMod || decide (b.par (P_SI_ACTION n) = 2), resetArmed := false }

section Inputs
variable (b : Breakwater) (s : State) (now : Nat) (n : Fin 8) (c : Fin 2) (f : SiChan → SiChan) (mv : Int) (us : Nat) (level : Bool)

@[simp] theorem Breakwater.sense_chan :
    ((b.sense now n c f).inputs[(n : Nat)]).chans[(c : Nat)] = f b.inputs[(n : Nat)].chans[(c : Nat)] := by
  simp [Breakwater.sense, SafeInput.noteBoth, SafeInput.setChan]

@[simp] theorem Breakwater.sense_discFault :
    ((b.sense now n c f).inputs[(n : Nat)]).discFault = b.inputs[(n : Nat)].discFault := by
  simp [Breakwater.sense, SafeInput.noteBoth, SafeInput.setChan]

@[simp] theorem Breakwater.takeDemand_chan : ((b.takeDemand now n c level).inputs[(n : Nat)]).chans[(c : Nat)] =
    { b.inputs[(n : Nat)].chans[(c : Nat)] with level := level, demand := true } :=
  b.sense_chan now n c _

@[simp] theorem Breakwater.takeDemand_discFault :
    ((b.takeDemand now n c level).inputs[(n : Nat)]).discFault = b.inputs[(n : Nat)].discFault :=
  b.sense_discFault now n c _

/-- The state that a channel's demand leaves before the lock-out: the first channel of its input in demand raises SAFETY_DEMAND. -/
def State.demanded : State :=
  let s1 := s.modBw (·.takeDemand s.clk.now n c level)
  if s.bw.inputs[n].chans.toList.any (·.demand) then s1
  else s1.raise 0x90 n.val (1 + 2 * b2n (decide (s.bw.par (P_SI_ACTION n) = 2))) (2 ^ c.val)

@[simp] theorem State.demanded_bw : (s.demanded n c level).bw = s.bw.takeDemand s.clk.now n c level := by
  simp only [State.demanded]
  split
  · rfl
  · exact State.raise_bw ..

theorem State.demanded_dev : (s.demanded n c level).dev = s.dev := by
  simp only [State.demanded]
  split
  · rfl
  · exact (State.raise_reports ..).dev

/-- The event of a first demand waits for the Ring log unless that is frozen. -/
theorem State.demanded_logs (hw : s.bw.inputs[n].chans.toList.any (·.demand) = false) (hf : s.act.log.frozen = false) :
    ∃ e ∈ (s.demanded n c level).act.log.queue, e.code = 0x90 ∧ e.source = n.val ∧ e.arg1 = 2 ^ c.val := by
  have hact : (s.modBw (·.takeDemand s.clk.now n c level)).act = s.act := rfl
  simp only [State.demanded, hw, State.raise, State.raiseAs, State.raiseTick_queue, hact, hf, Bool.false_eq_true, if_false]
  exact ⟨_, List.mem_append_right _ (List.mem_singleton.mpr rfl), rfl, rfl, rfl⟩

variable {s n c mv us}

/-- A reading that is a demand: the input is used, the level is not its inactive one and has stood for SI_FILTER. -/
theorem exec_safetyInputDemand_acts (hm : s.bw.par (P_SI_MODE n) ≠ 0)
    (hl : s.bw.inputs[n].chans[c].reads mv ≠ inactiveLevel (s.bw.par (P_SI_MODE n)) c)
    (hf : filtered (s.bw.par (P_SI_MODE n)) (s.bw.par (P_SI_FILTER n)) us true = true) :
    exec (.safetyInputDemand n c mv us) s = .next ((s.demanded n c (s.bw.inputs[n].chans[c].reads mv)).lockOut 0x90) := by
  have hno : ¬ (s.bw.par (P_SI_MODE n) = 0 ∨ s.bw.inputs[n].chans[c].reads mv = inactiveLevel (s.bw.par (P_SI_MODE n)) c ∨
      (!filtered (s.bw.par (P_SI_MODE n)) (s.bw.par (P_SI_FILTER n)) us true) = true) := by simp [-Fin.getElem_fin, hm, hl, hf]
  exact if_neg hno

/-- Any other reading only notes the level. -/
theorem exec_safetyInputDemand_level (h : s.bw.par (P_SI_MODE n) = 0 ∨
      s.bw.inputs[n].chans[c].reads mv = inactiveLevel (s.bw.par (P_SI_MODE n)) c ∨
      filtered (s.bw.par (P_SI_MODE n)) (s.bw.par (P_SI_FILTER n)) us true = false) :
    exec (.safetyInputDemand n c mv us) s =
      .next (s.modBw fun b => b.sense s.clk.now n c fun x => { x with level := s.bw.inputs[n].chans[c].reads mv }) :=
  if_pos (h.imp_right (Or.imp_right fun hf => by rw [hf]; rfl))

variable (c mv us) in
/-- A reading ends a demand where it is the inactive level and has stood for SI_FILTER. -/
theorem exec_safetyInputInactive : exec (.safetyInputInactive n c mv us) s =
    .next (s.modBw fun b => b.sense s.clk.now n c fun x =>
      { x with
        level := s.bw.inputs[n].chans[c].reads mv
        demand := x.demand && !(decide (s.bw.inputs[n].chans[c].reads mv = inactiveLevel (s.bw.par (P_SI_MODE n)) c) &&
          filtered (s.bw.par (P_SI_MODE n)) (s.bw.par (P_SI_FILTER n)) us false) }) := rfl

end Inputs

/-- The two channels have differed for SI_DISC_T (R356). -/
theorem exec_siDisc_faults {s : State} {n : Fin 8} (hm : s.bw.par (P_SI_MODE n) ≠ 0) (hd : s.bw.inputs[n].discFault = false)
    (hh : heldFor s.clk.now (msTicks (s.bw.par (P_SI_DISC_T n))) s.bw.inputs[n].differFrom = true) :
    exec (.siDisc n) s = .next ((s.modBw fun b => { b with inputs := vmod b.inputs n fun i =>
      { i with discFault := true, discOk := false, bothSeen := i.chans.toList.all (·.demand) } }).moduleFault 2 n.val) :=
  if_neg (by simp [-Fin.getElem_fin, hm, hd, hh])

/-- Channels that do not differ are no discrepancy. -/
theorem exec_siDisc_idle {s : State} {n : Fin 8} (h : s.bw.inputs[n].differFrom = none) : exec (.siDisc n) s = .next s :=
  if_pos (by simp [-Fin.getElem_fin, h, heldFor])

/-! ### Test pulses (R354, R355, R358) -/

/-- From s to t, what Breakwater knows of its test supplies stays, and a standing lock-out stands. -/
structure KeepsSupplies (s t : State) : Prop where
  good : t.bw.tpGood = s.bw.tpGood
  fault : t.bw.tpFault = s.bw.tpFault
  lockout : s.bw.lockout = true → t.bw.lockout = true

section Supplies
variable {s t u : State}

theorem KeepsSupplies.refl (s : State) : KeepsSupplies s s := ⟨rfl, rfl, id⟩

theorem KeepsSupplies.trans (h : KeepsSupplies s t) (k : KeepsSupplies t u) : KeepsSupplies s u :=
  ⟨k.good.trans h.good, k.fault.trans h.fault, k.lockout ∘ h.lockout⟩

/-- A fault that a pulse finds, or none. -/
theorem KeepsSupplies.found (t : State) (c : Prop) [Decidable c] {f : Breakwater → Breakwater} (code source : Nat)
    (hg : ∀ b, (f b).tpGood = b.tpGood) (hf : ∀ b, (f b).tpFault = b.tpFault) :
    KeepsSupplies t (if c then (t.modBw f).moduleFault code source else t) := by
  split
  · exact ⟨by simpa using hg _, by simpa using hf _, by simp⟩
  · exact .refl t

theorem KeepsSupplies.foldl {α : Type} {f : State → α → State} (h : ∀ t x, KeepsSupplies t (f t x)) (l : List α) (s : State) :
    KeepsSupplies s (l.foldl f s) := by
  induction l generalizing s with
  | nil => exact .refl s
  | cons x xs ih => exact (h s x).trans (ih _)

end Supplies

/-- An input with a channel not pulsed or crossed takes fault 0x01 (R355). -/
def State.judgeInput (s : State) (n : Fin 8) : State :=
  if !s.bw.inputs[n].pulseFault && s.bw.inputs[n].chans.toList.any (·.found) then
    (s.modBw fun b => { b with inputs := vmod b.inputs n fun i => { i with pulseFault := true } }).moduleFault 1 n.val
  else s

theorem State.judgeInput_keeps (s : State) (n : Fin 8) : KeepsSupplies s (s.judgeInput n) :=
  .found s _ _ _ (fun _ => rfl) fun _ => rfl

section Pulse
variable (s : State) (tp : Fin 4) (reads : List (Bool × Bool))

/-- What a pulse reads of its supply, and the fault of that supply: the faults it finds at the inputs and at the reset input leave it. -/
theorem exec_siTestPulse_keeps (ok : Bool) : ∃ u t, exec (.siTestPulse tp ok reads) s = .next t ∧
    u.bw.tpGood = vset s.bw.tpGood tp (if ok then some (s.bw.tpGood[tp].getD s.clk.now) else none) ∧
    u.bw.tpFault = vset s.bw.tpFault tp (s.bw.tpFault[tp] || !ok) ∧
    KeepsSupplies (if ok then u else if s.bw.tpFault[tp] then u else u.moduleFault 3 0xFF) t := by
  refine ⟨_, _, rfl, ?_, ?_,
    .trans (.foldl State.judgeInput_keeps (List.finRange 8) _) (.found _ _ _ _ (fun _ => rfl) fun _ => rfl)⟩
  · rfl
  · rfl

/-- A supply outside its limits: a module fault of it (code 0x03). -/
theorem exec_siTestPulse_outside (h : s.bw.tpFault[tp] = false) : ∃ t, exec (.siTestPulse tp false reads) s = .next t ∧
    t.bw.tpGood[tp] = none ∧ t.bw.tpFault[tp] = true ∧ t.bw.lockout = true := by
  obtain ⟨u, t, ht, hug, huf, hgood, hfault, hlock⟩ := exec_siTestPulse_keeps s tp reads false
  refine ⟨t, ht, ?_, ?_, hlock (by simp [-Fin.getElem_fin, h])⟩
  · simp [hgood, h, hug]
  · simp [hfault, h, huf]

/-- A supply within its limits has been so since it first was; its fault, if any, stands. -/
theorem exec_siTestPulse_within : ∃ t, exec (.siTestPulse tp true reads) s = .next t ∧
    t.bw.tpGood[tp] = some (s.bw.tpGood[tp].getD s.clk.now) ∧ t.bw.tpFault = s.bw.tpFault := by
  obtain ⟨u, t, ht, hug, huf, hgood, hfault, -⟩ := exec_siTestPulse_keeps s tp reads true
  refine ⟨t, ht, ?_, ?_⟩
  · simp [hgood, hug]
  · simp [hfault, huf, vset]

end Pulse

/-- An output with a fault of its own is held off, whatever drives it (R358). -/
theorem Breakwater.driveOuts_fault {b : Breakwater} {m : Fin 4} (h : b.outs[m].fault = true) :
    b.driveOuts.outs[m].fault = true ∧ b.driveOuts.outs[m].on = false := by
  rw [Fin.getElem_fin] at h
  simp [Breakwater.driveOuts, h]

/-- A switch that fails its pulse: a module fault, and the output is off with its own fault (R358, code 0x04). -/
theorem exec_soTestPulse_fails (m : Fin 4) (side : Bool) (s : State) : ∃ t, exec (.soTestPulse m side false) s = .next t ∧
    t.bw.soFault = true ∧ t.bw.outs[m].fault = true ∧ t.bw.outs[m].on = false ∧ t.bw.lockout = true := by
  refine ⟨_, rfl, ?soFault, (Breakwater.driveOuts_fault ?own).1, (Breakwater.driveOuts_fault ?own).2, ?lockout⟩
  case own => simp
  all_goals simp [Breakwater.driveOuts]

/-! ### The comparison of the lanes (R340) and the self-test (R361, R370) -/

section Lanes
variable {s : State}

/-- The sixth comparison in a row that differs is the module fault BW_LANE (code 0x05): R340's 50 µs as the model counts them (log 84). -/
theorem exec_bwLaneCompare_sixth (hn : s.bw.laneDiffer = 5) (hf : s.bw.laneFault = false) :
    ∃ t, exec (.bwLaneCompare true) s = .next t ∧ t.bw.laneFault = true ∧ t.bw.lockout = true :=
  ⟨_, rfl, by simp [hn, hf]⟩

/-- Before the sixth, a comparison that differs is counted alone. -/
theorem exec_bwLaneCompare_counts (hn : s.bw.laneDiffer < 5) : exec (.bwLaneCompare true) s =
    .next (s.modBw fun b => { b with laneDiffer := s.bw.laneDiffer + 1, laneAgree := none }) := by
  have hmin : min 6 (s.bw.laneDiffer + 1) = s.bw.laneDiffer + 1 := by omega
  have hno : ¬ (s.bw.laneDiffer + 1 = 6 ∧ (!s.bw.laneFault) = true) := by omega
  simp only [exec, execBwLaneCompare, hmin, if_neg hno, if_true]

end Lanes

/-- The safety set that the active Headland's MRAM holds; none stored is the empty one. -/
def State.storedSafety (s : State) : ParamStore := (s.act.cfg.safety.map (·.1)).getD []

/-- The state after a passed self-test has loaded that set, which its checks find good or not. -/
def State.loadSafety (s : State) (good : Bool) : State :=
  (s.modBw fun b =>
    { b.startTimes s.clk.now with
      params := s.storedSafety, pending := s.storedSafety, crc := safetyCrcOf s.storedSafety
      cfgValid := good, cfgFault := !good, laneFault := b.laneFault || !true }).rehash

section SelfTest
variable {s : State} (hd : s.dev = .boot) (hs : s.bw.started = false)
include hd hs

/-- The end of a passed self-test loads the stored set; a set that is not good is a module fault (code 0x06). -/
theorem exec_bwSelftestEnd_passed : ∃ good : Bool, exec (.bwSelftestEnd true) s =
    .next (if good then s.loadSafety good else (s.loadSafety good).moduleFault 6 0xFF) :=
  ⟨_, if_neg (by simp [hd, hs])⟩

/-- Good or not, the stored set is in force with its check value, and the safety channel starts. -/
theorem exec_bwSelftestEnd_loads : ∃ t, exec (.bwSelftestEnd true) s = .next t ∧ t.bw.started = true ∧ t.bw.startAt = s.clk.now ∧
    t.bw.requestAt = s.clk.now ∧ t.bw.params = (s.act.cfg.safety.map (·.1)).getD [] ∧ t.bw.crc = safetyCrcOf t.bw.params := by
  obtain ⟨good, h⟩ := exec_bwSelftestEnd_passed hd hs
  refine ⟨_, h, ?_⟩
  cases good with
  | true => exact ⟨rfl, rfl, rfl, rfl, rfl⟩
  | false =>
    rw [if_neg Bool.false_ne_true, State.moduleFault_bw]
    exact ⟨rfl, rfl, rfl, rfl, rfl⟩

end SelfTest

/-! ### The obligation -/

section Complete
variable {s : State} {n : Fin 8} {c : Fin 2} {mv : Int} {us : Nat}

/-- A demand: what it leaves of the input, its modules' demands, and the lock-out. -/
theorem safetyInputDemand_locks (hm : s.bw.par (P_SI_MODE n) ≠ 0)
    (hl : s.bw.inputs[n].chans[c].reads mv ≠ inactiveLevel (s.bw.par (P_SI_MODE n)) c)
    (hf : filtered (s.bw.par (P_SI_MODE n)) (s.bw.par (P_SI_FILTER n)) us true = true) :
    ∃ t, exec (.safetyInputDemand n c mv us) s = .next t ∧ t.bw.inputs[n].chans[c].demand = true ∧
      t.bw.inputs[n].chans[c].level = s.bw.inputs[n].chans[c].reads mv ∧ t.bw.sgoMod = true ∧
      (s.bw.par (P_SI_ACTION n) = 2 → t.bw.sdcMod = true) ∧ t.bw.lockout = true ∧ t.bw.resetArmed = false := by
  refine ⟨_, exec_safetyInputDemand_acts hm hl hf, ?_⟩
  rw [State.lockOut_bw, State.demanded_bw]
  exact ⟨by simp, by simp, rfl, fun ha => by simp [Breakwater.takeDemand, ha], rfl, rfl⟩

/-- A first demand locks the Unyar out with its event, and judges no discrepancy. -/
theorem safetyInputDemand_reports (hm : s.bw.par (P_SI_MODE n) ≠ 0)
    (hl : s.bw.inputs[n].chans[c].reads mv ≠ inactiveLevel (s.bw.par (P_SI_MODE n)) c)
    (hf : filtered (s.bw.par (P_SI_MODE n)) (s.bw.par (P_SI_FILTER n)) us true = true)
    (hw : s.bw.inputs[n].chans.toList.any (·.demand) = false) (hlog : s.act.log.frozen = false)
    (hs : s.dev ≠ .standby) (hb : s.dev ≠ .boot) :
    ∃ t e, exec (.safetyInputDemand n c mv us) s = .next t ∧ t.dev = .lockout ∧ e ∈ t.act.log.queue ∧ e.code = 0x90 ∧
      e.source = n.val ∧ e.arg1 = 2 ^ c.val ∧ t.bw.inputs[n].discFault = s.bw.inputs[n].discFault := by
  obtain ⟨e, he, hcode, hsource, harg⟩ := s.demanded_logs n c (s.bw.inputs[n].chans[c].reads mv) hw hlog
  refine ⟨_, e, exec_safetyInputDemand_acts hm hl hf, State.lockOut_dev _ _ ?_ ?_, State.lockOut_queue _ _ he, hcode, hsource, harg, ?_⟩
  · rwa [State.demanded_dev]
  · rwa [State.demanded_dev]
  · simp

end Complete

/-- Settles O42: a demand and each module fault of the family lock the Unyar out; the other outcomes write Breakwater's own notes alone. -/
theorem safetyInputsComplete : Obligations.SafetyInputsComplete := by
  rintro s n c mv us _ rfl
  refine ⟨safetyInputDemand_locks, fun h => ⟨_, exec_safetyInputDemand_level h, rfl, ?_, ?_, rfl⟩,
    ⟨_, exec_safetyInputInactive c mv us, rfl, ?_, rfl, rfl, rfl⟩, fun hm hd hh => ⟨_, exec_siDisc_faults hm hd hh, ?_, ?_, ?_⟩,
    exec_siDisc_idle, exec_siTestPulse_outside s, exec_siTestPulse_within s, fun m side => exec_soTestPulse_fails m side s,
    fun _ _ => rfl, rfl, exec_bwLaneCompare_sixth, exec_bwLaneCompare_counts, exec_bwSelftestEnd_loads, safetyInputDemand_reports⟩
  all_goals simp

end Sys2Proof.Machine
end

section
/-! The CRC of packets (R428): its value over the nine ASCII digits, the bytes of a reply that it covers, and the obligation O58. -/
namespace Sys2Proof.Machine

/-- "123456789", the bytes over which R428 states the CRC. -/
def checkDigits : List Byte := [0x31, 0x32, 0x33, 0x34, 0x35, 0x36, 0x37, 0x38, 0x39]

/-- The register once the nine digits have run through it, before output reflection and final XOR. -/
theorem crcRun_checkDigits : crcRun 32 0x04C11DB7 true 0xFFFFFFFF checkDigits = 0x9B63D02C := by decide +kernel

theorem crc32_checkDigits : crc32 checkDigits = 0xCBF43926 := by
  calc crc32 checkDigits = crcOut 32 true 0xFFFFFFFF 0x9B63D02C := by rw [crc32, crcRun_checkDigits]
    _ = 0xCBF43926 := by decide

/-- The bytes of a reply between its SYNC and its CRC (R426, Table 14.1). -/
def Reply.covered (r : Reply) : List Byte :=
  le 1 (r.cls * 64 + b2n r.replayed + 2 * b2n r.urgent + 4 * b2n r.normal) ++ le 1 r.op ++ le 1 r.status ++ le 2 r.seq ++
    le 2 r.payload.length ++ r.payload

theorem Reply.bytes_eq (r : Reply) : r.bytes = le 1 0x5A ++ r.covered ++ le 4 (crc32 r.covered) := rfl

/-- Settles O58: the nine digits run the register to a value whose reflection, inverted, is 0xCBF4_3926; and the last four bytes of
a reply are the CRC of the bytes between its SYNC and them. -/
theorem checkValue : Obligations.CheckValue :=
  ⟨crc32_checkDigits, by decide, fun _ => rfl, fun r => ⟨r.covered, r.bytes_eq⟩⟩

end Sys2Proof.Machine
end

section
/-! The identity and status commands (R441, R442, R457 to R459): a request's way into its class queue, what each command's own checks
let through, and the obligation O4. -/
namespace Sys2Proof.Machine

/-! ### NOP, IDENTIFY, GET_STATUS -/

theorem exec_nop (r : Req) (s : State) : exec (.nop r) s = .next (s.host 0x00 r .any fun u => u.ok r.payload) := rfl
theorem exec_identify (r : Req) (s : State) : exec (.identify r) s = .next (s.host 0x01 r .device (identifyAns r.payload)) := rfl
theorem exec_getStatus (r : Req) (s : State) : exec (.getStatus r) s = .next (s.host 0x02 r .device (getStatusAns r.payload)) := rfl

section Reads
variable {b : List Byte} {u : State}

theorem identifyAns_ok (hb : b = []) : identifyAns b u = u.ok u.identity := by
  simp [identifyAns, hb]

theorem getStatusAns_ok (hb : b = []) : getStatusAns b u = (u.modHost fun h => { h with attnSeen := true }).ok u.statusReply := by
  simp [getStatusAns, hb]

theorem State.statusReply_boot (hd : u.dev = .boot) : u.statusReply = le 1 u.stateByte ++ zeros 39 := if_pos hd

end Reads

/-! ### Acceptance into a class queue (Table 14.3, R442) -/

/-- A request of a known opcode in a class that the opcode allows, with no reserved bit set, in a state that accepts the opcode and with
room in its queue, waits last in that queue. -/
theorem State.enqueue_queues {s : State} {op flags : Nat} {r : Req} {row : Nat × Option Nat} {c : Fin 4}
    (hop : (opcodes.find? fun x => x.1 == op) = some row) (hcls : row.2 = none ∨ row.2 = some r.cls) (hflags : flags / 2 % 32 = 0)
    (hboot : s.dev = .boot → bootOpcode op = true) (hc : r.cls = c.val) (hroom : s.act.host.queues[c].length < queueRoom c.val) :
    (s.enqueue op r flags).act.host.queues[c] =
      s.act.host.queues[c] ++ [{ op := op, req := r, at_ := s.clk.now, txn := s.act.host.txn }] := by
  have hclass : ¬(row.2.isSome ∧ row.2 ≠ some r.cls) := by
    rcases hcls with h | h <;> simp [h]
  have hstate : ¬(s.dev = .boot ∧ (!bootOpcode op) = true) := fun h => by simp [hboot h.1] at h
  have hqueue : (⟨r.cls % 4, by omega⟩ : Fin 4) = c := Fin.ext (by simp only [hc]; omega)
  have hfree : ¬ queueRoom r.cls ≤ s.act.host.queues[c].length := by rw [hc]; omega
  simp only [State.enqueue, hop, if_neg hclass, hflags, if_neg hstate, hqueue, if_neg hfree]
  simp

/-! ### The obligation -/

/-- Settles O4: none of a command's own checks refuses it, and its answer becomes its reply; NOP's row of the opcode table names no
class, so its request waits in the class that it names. -/
theorem deviceReadsComplete : Obligations.DeviceReadsComplete := by
  refine ⟨fun s r => ⟨?nop, ?identify, ?status, ?queue⟩, fun s => State.statusReply_boot⟩
  case nop =>
    intro hh
    exact (exec_nop r s).trans (congrArg _ (State.host_any_answered_ok hh rfl))
  case identify =>
    intro hh ht hp
    exact (exec_identify r s).trans (congrArg _ (State.host_answered_ok hh ht (identifyAns_ok hp)))
  case status =>
    intro hh ht hp
    exact (exec_getStatus r s).trans (congrArg _ (State.host_answered_ok hh ht (getStatusAns_ok hp)))
  case queue =>
    intro c hc hroom
    exact ⟨_, State.enqueue_queues (row := (0x00, none)) rfl (.inl rfl) rfl (fun _ => rfl) hc hroom, rfl, rfl⟩

end Sys2Proof.Machine
end

section
/-! The tide table, time and network commands (R411 to R414, R423, R462, R463): what each command's own checks let through, the frame
that NET_SEND queues, and the obligation O12. -/
namespace Sys2Proof.Machine

/-! ### A reply that waits for the standby (R382) -/

/-- A device command that its own checks let through, and whose reply waits for the standby, executes and is held back. -/
theorem State.host_heldBack {s : State} {op : Nat} {r : Req} {f : State → Ans} {effect : State → State} {payload : State → List Byte}
    (hh : s.hears op r) (ht : r.target = 0xFF)
    (hf : f (s.begin_ op r).1 = (effect (s.begin_ op r).1).okAck (payload (s.begin_ op r).1)) :
    s.host op r .device f = s.heldBack op r effect payload := by
  obtain ⟨ha, hq, hb⟩ := hh
  rw [s.host_runs op r .device f ha hq hb ((Targets.device_takes _).mpr ht), hf]
  rfl

/-! ### TIDE_SET and TIDE_GET -/

theorem exec_tideSet (r : Req) (s : State) : exec (.tideSet r) s = .next (s.host 0x28 r .device (tideSetAns r.payload)) := rfl
theorem exec_tideGet (r : Req) (s : State) : exec (.tideGet r) s = .next (s.host 0x29 r .device (tideGetAns r.payload)) := rfl

/-- The entry enters the configuration, and waits at its Shoal for the tick that applies it; a disabled one enters as no entry at all. -/
def State.setTide (s : State) (i : Fin 128) (e : TideEntry) : State :=
  (s.modCfg fun c => { c with tides := vset c.tides i (if e.enable then e else {}) }).modShoal (tideShoal i) fun h =>
    { h with tideWait := h.tideWait ++ [((tideComp i).val, if e.enable then e else {})] }

section Tide
variable {b : List Byte} {u : State} {i : Fin 128} {e : TideEntry}

theorem tideSetAns_ok (hlen : b.length = 20) (hi : i.val = by8 b 0) (hcomp : 8 ≤ by8 b 0 % 32) (hzero : rd b 1 3 = 0)
    (he : tideOf (rd b 4 4) (rd b 8 4) (rd b 12 4) (rd b 16 4) = e) (hgood : e.bad (by8 b 0) = false) :
    tideSetAns b u = (u.setTide i e).okAck := by
  have hrange : ¬ 127 < by8 b 0 := by omega
  have hindex : (⟨by8 b 0 % 128, by omega⟩ : Fin 128) = i := Fin.ext (by simp only [hi]; omega)
  simp only [tideSetAns, he, hlen, hzero, hgood, hindex, decide_eq_false hrange, decide_eq_false hcomp.not_gt]
  rfl

theorem tideGetAns_ok (hlen : b.length = 1) (hi : by8 b 0 = i.val) : tideGetAns b u = u.ok (words u.shoals[tideShoal i].tides[tideComp i].words) := by
  have hrange : ¬ 127 < by8 b 0 := by omega
  have hindex : (⟨by8 b 0 % 128, by omega⟩ : Fin 128) = i := Fin.ext (by simp only [hi]; omega)
  simp only [tideGetAns, hlen, hindex, decide_eq_false hrange]
  rfl

theorem tideGetAns_length (hlen : b.length ≠ 1) : tideGetAns b u = u.err ST_BAD_LENGTH := by
  simp [tideGetAns, hlen]

theorem tideGetAns_range (hlen : b.length = 1) (hentry : 127 < by8 b 0) : tideGetAns b u = u.err ST_OUT_OF_RANGE := by
  simp [tideGetAns, hlen, hentry]

end Tide

/-! ### TIME_GET and PEER_READ -/

theorem exec_timeGet (r : Req) (s : State) : exec (.timeGet r) s = .next (s.host 0x70 r .any (timeGetAns r.target r.payload)) := rfl
theorem exec_peerRead (r : Req) (s : State) : exec (.peerRead r) s = .next (s.host 0x71 r .any (peerReadAns r.target r.payload)) := rfl

section Reads
variable {b : List Byte} {t : Nat} {u : State} (ht : t = 0xFF) (hb : b = [])
include ht hb

theorem timeGetAns_ok : timeGetAns t b u = u.ok (u.ownWords (wordRange 0x0A00 0x0A20)) := by
  simp [timeGetAns, ht, hb]

theorem peerReadAns_ok : peerReadAns t b u = u.ok (u.ownWords (wordRange 0x0B00 0x0CFC)) := by
  simp [peerReadAns, ht, hb]

end Reads

/-! ### Fields behind others in a request -/

section Skip
variable {p q : List Byte} {off n : Nat} (h : p.length ≤ off)
include h

theorem rd_append_of_le : rd (p ++ q) off n = rd q (off - p.length) n := by
  simpa [Nat.add_sub_cancel' h] using rd_append_right p q (off - p.length) n

theorem rdBe_append_of_le : rdBe (p ++ q) off n = rdBe q (off - p.length) n := by
  simpa [Nat.add_sub_cancel' h] using rdBe_append_right p q (off - p.length) n

theorem by8_append_of_le : by8 (p ++ q) off = by8 q (off - p.length) := by
  simp [by8, List.getElem?_append_right h]

end Skip

/-! ### NET_SEND (R411 to R413, R416) -/

/-- What a NET_SEND request says (R411). -/
structure SendRequest where
  nets : Nat
  cls : Nat
  flags : Nat
  handle : Nat
  sec : Nat
  ns : Nat
  frame : List Byte

/-- Taking the next PRP sequence number leaves the queued frames as they are. -/
@[simp] theorem State.prpNext_tx (s : State) : s.prpNext.act.net.tx = s.act.net.tx := by
  unfold State.prpNext
  split
  · simp
  · rfl

namespace SendRequest
variable (x : SendRequest)

/-- The request's payload: the descriptor of Table 13.4, then the frame. -/
def bytes : List Byte :=
  le 1 x.nets ++ le 1 x.cls ++ le 1 x.flags ++ zeros 1 ++ le 4 x.sec ++ le 4 x.ns ++ le 2 x.frame.length ++ le 2 x.handle ++ x.frame

/-- The launch time, in ns. -/
def time : Nat := x.sec * 1000000000 + x.ns

/-- Every field holds a value that NET_SEND admits. -/
structure Valid : Prop where
  nets_pos : 1 ≤ x.nets
  nets_le : x.nets ≤ 3
  cls_le : x.cls ≤ 5
  flags_le : x.flags ≤ 3
  handle_lt : x.handle < 65536
  sec_lt : x.sec < 2 ^ 32
  ns_lt : x.ns < 2 ^ 32
  frame_ge : 14 ≤ x.frame.length
  frame_le : x.frame.length ≤ 1514
  type_open : etherRefused (rdBe x.frame 12 2) = false

/-- The state has room for the frame: its handle is free, no queue that it enters is full, and its launch time is no more than 10 s ahead. -/
structure Admitted (s : State) : Prop where
  handle_free : ∀ t ∈ s.act.net.tx, t.isOf x.handle = false
  room : ∀ n : Net, bit x.nets n.val = true → (s.act.net.tx.filter fun t => decide (t.status[n] = 1)).length < 32
  launch : bit x.flags 0 = true → x.ns ≤ 999999999 ∧ s.act.ptp.valid = true ∧
    x.time ≤ s.act.ptp.sec * 1000000000 + s.act.ptp.subNs + 10000000000

/-- The frame carries a PRP trailer (R416). -/
def trailed (s : State) : Bool := decide (s.par P_PRP_EN = 1) && decide (x.nets = 3) && !bit x.flags 1

/-- The frame that the request queues. -/
def queuedFrame (s : State) : TxFrame :=
  { handle := x.handle, cls := x.cls, launch := if bit x.flags 0 then some x.time else none
    prp := if x.trailed s then some s.act.net.prpSeq else none
    bytes := x.frame, status := #v[b2n (bit x.nets 0), b2n (bit x.nets 1)], started := #v[false, false], late := #v[false, false]
    stamp := #v[(0, 0), (0, 0)] }

/-- The frame queued last, and the earlier one of its handle forgotten. -/
def queued (s : State) : State :=
  s.modNet fun m => { m with tx := m.tx ++ [x.queuedFrame s], txDone := m.txDone.filter fun t => !t.isOf x.handle }

/-- The effect of the request: with a trailer, the PRP sequence number advances too. -/
def sent (s : State) : State := if x.trailed s then (x.queued s).prpNext else x.queued s

theorem bytes_length : x.bytes.length = 16 + x.frame.length := by
  simp only [bytes, List.length_append, le_length, zeros_length]

theorem bytes_drop : x.bytes.drop 16 = x.frame := List.drop_left' (by simp)

theorem bytes_type : rdBe x.bytes 28 2 = rdBe x.frame 12 2 := by
  rw [bytes, rdBe_append_of_le (by simp)]
  simp

theorem bytes_zero : by8 x.bytes 3 = 0 := by
  have hzero : by8 (zeros 1 ++ (le 4 x.sec ++ (le 4 x.ns ++ (le 2 x.frame.length ++ (le 2 x.handle ++ x.frame))))) 0 = 0 := by8_le 0 _
  simpa [bytes, by8_append_of_le] using hzero

section Valid
variable {x : SendRequest} (hx : x.Valid)
include hx

theorem bytes_nets : by8 x.bytes 0 = x.nets := by
  have hlt : x.nets < 256 := hx.nets_le.trans_lt (by norm_num)
  simpa [bytes, by8_append_of_le, by8_le] using hlt

theorem bytes_cls : by8 x.bytes 1 = x.cls := by
  have hlt : x.cls < 256 := hx.cls_le.trans_lt (by norm_num)
  simpa [bytes, by8_append_of_le, by8_le] using hlt

theorem bytes_flags : by8 x.bytes 2 = x.flags := by
  have hlt : x.flags < 256 := hx.flags_le.trans_lt (by norm_num)
  simpa [bytes, by8_append_of_le, by8_le] using hlt

theorem bytes_sec : rd x.bytes 4 4 = x.sec := by
  simpa [bytes, rd_append_of_le, rd_le] using hx.sec_lt

theorem bytes_ns : rd x.bytes 8 4 = x.ns := by
  simpa [bytes, rd_append_of_le, rd_le] using hx.ns_lt

theorem bytes_len : rd x.bytes 12 2 = x.frame.length := by
  have hlt : x.frame.length < 65536 := hx.frame_le.trans_lt (by norm_num)
  simpa [bytes, rd_append_of_le, rd_le] using hlt

theorem bytes_handle : rd x.bytes 14 2 = x.handle := by
  simpa [bytes, rd_append_of_le, rd_le] using hx.handle_lt

end Valid

section Answer
variable {x : SendRequest} {s : State} (hs : x.Admitted s)
include hs

/-- A named network has room for the frame. -/
theorem Admitted.not_full (n : Net) :
    (bit x.nets n.val && decide (32 ≤ (s.act.net.tx.filter fun t => decide (t.status[n] = 1)).length)) = false := by
  cases hn : bit x.nets n.val with
  | false => rfl
  | true => simpa using hs.room n hn

/-- None of the refusals of a held frame's launch time holds. -/
theorem Admitted.launch_admitted : (bit x.flags 0 && decide (999999999 < x.ns)) = false ∧ (bit x.flags 0 && !s.act.ptp.valid) = false ∧
    (bit x.flags 0 && decide (s.act.ptp.sec * 1000000000 + s.act.ptp.subNs + 10000000000 < x.sec * 1000000000 + x.ns)) = false := by
  cases hheld : bit x.flags 0 with
  | false => exact ⟨rfl, rfl, rfl⟩
  | true =>
    obtain ⟨hns, hvalid, htime⟩ := hs.launch hheld
    exact ⟨by simpa using hns, by simpa using hvalid, by simpa [time] using htime⟩

theorem netSendAns_ok (hx : x.Valid) : netSendAns x.bytes s = (x.sent s).ok := by
  obtain ⟨hpos, hnets, hcls, hflags, _, _, _, hmin, hmax, htype⟩ := id hx
  have hlen : ¬(x.bytes.length < 16 ∨ x.bytes.length ≠ 16 + x.frame.length) := by rw [x.bytes_length]; omega
  have hsize : ¬(x.frame.length < 14 ∨ 1514 < x.frame.length) := by omega
  have hform : ¬(x.nets = 0 ∨ 3 < x.nets ∨ 5 < x.cls ∨ 3 < x.flags ∨ (0 : Nat) ≠ 0) := by omega
  have hfree : s.act.net.tx.any (·.isOf x.handle) = false := by simpa using hs.handle_free
  obtain ⟨hns, hvalid, htime⟩ := hs.launch_admitted
  simp only [netSendAns, bytes_nets hx, bytes_cls hx, bytes_flags hx, bytes_zero, bytes_sec hx, bytes_ns hx, bytes_len hx, bytes_handle hx,
    bytes_type, bytes_drop, decide_eq_false hlen, decide_eq_false hsize, decide_eq_false hform, htype, hns, hvalid, htime, hfree,
    hs.not_full 0, hs.not_full 1]
  rfl

/-- Taking the request from its class queue leaves the room as it is. -/
theorem Admitted.begin (op : Nat) (r : Req) : x.Admitted (s.begin_ op r).1 :=
  ⟨by simpa using hs.handle_free, by simpa using hs.room, by simpa using hs.launch⟩

end Answer

/-- With a PRP trailer or without, the frame joins the queue last. -/
theorem sent_tx (x : SendRequest) (s : State) : (x.sent s).act.net.tx = s.act.net.tx ++ [x.queuedFrame s] := by
  cases h : x.trailed s with
  | false => simp [sent, h, queued]
  | true => simp [sent, h, queued]

theorem queuedFrame_begin (x : SendRequest) (s : State) (op : Nat) (r : Req) : x.queuedFrame (s.begin_ op r).1 = x.queuedFrame s := by
  simp [queuedFrame, trailed]

theorem queuedFrame_prp (x : SendRequest) (s : State) : (x.queuedFrame s).prp =
    if s.par P_PRP_EN = 1 ∧ x.nets = 3 ∧ bit x.flags 1 = false then some s.act.net.prpSeq else none := by
  simp [queuedFrame, trailed, and_assoc]

end SendRequest

theorem exec_netSend (r : Req) (s : State) : exec (.netSend r) s = .next (s.host 0x74 r .device (netSendAns r.payload)) := rfl

theorem exec_netSend_sends {x : SendRequest} {s : State} {r : Req} (hh : s.hears 0x74 r) (ht : r.target = 0xFF) (hb : r.payload = x.bytes)
    (hx : x.Valid) (hs : x.Admitted s) :
    exec (.netSend r) s = .next (s.answered 0x74 r (fun _ => x.sent (s.begin_ 0x74 r).1) noPayload) := by
  refine (exec_netSend r s).trans (congrArg _ (State.host_answered_ok hh ht ?_))
  rw [hb]
  exact SendRequest.netSendAns_ok (hs.begin 0x74 r) hx

/-! ### NET_TX_STATUS (R414) -/

theorem exec_netTxStatus (r : Req) (s : State) :
    exec (.netTxStatus r) s = .next (s.host 0x75 r .device (netTxStatusAns r.payload)) := rfl

/-- The reply for a handle: the status of both copies and their stamps, or status 6 where no frame is known by it. -/
def State.txStatus (s : State) (handle : Nat) : List Byte :=
  le 2 handle ++ match (s.act.net.tx ++ s.act.net.txDone).find? (·.isOf handle) with
    | some f => le 1 f.status[0] ++ le 1 f.status[1] ++ words [f.stamp[0].1, f.stamp[0].2, f.stamp[1].1, f.stamp[1].2]
    | none => le 1 6 ++ le 1 6 ++ zeros 16

theorem netTxStatusAns_ok {b : List Byte} {u : State} (hlen : b.length = 2) : netTxStatusAns b u = u.ok (u.txStatus (rd b 0 2)) := by
  have hpass : decide (b.length ≠ 2) = false := by simp [hlen]
  rw [netTxStatusAns, hpass]
  rfl

/-! ### The obligation -/

/-- Settles O12: each command's own checks let it through or refuse it, and its answer becomes its reply, which for TIDE_SET waits for
the standby. -/
theorem tideNetComplete : Obligations.TideNetComplete := by
  intro s r ha hd ht
  have heard {op : Nat} (hq : s.inTurn op r = true) : s.hears op r := State.hears_of_not_boot ha hd hq
  refine ⟨?set, ?get, ?time, ?peers, ?send, ?status, ?getLength, ?getRange⟩
  case set =>
    intro e hlen _ hcomp hzero he hgood i hi hq
    exact (exec_tideSet r s).trans (congrArg _ (State.host_heldBack (heard hq) ht (tideSetAns_ok hlen hi hcomp hzero he hgood)))
  case get =>
    intro i hlen hi hq
    exact (exec_tideGet r s).trans (congrArg _ (State.host_answered_ok (heard hq) ht (tideGetAns_ok hlen hi)))
  case time =>
    intro hp hq
    exact (exec_timeGet r s).trans (congrArg _ (State.host_any_answered_ok (heard hq) (timeGetAns_ok ht hp)))
  case peers =>
    intro hp hq
    exact (exec_peerRead r s).trans (congrArg _ (State.host_any_answered_ok (heard hq) (peerReadAns_ok ht hp)))
  case send =>
    intro nets cls flags handle sec ns frame hp hpos hnets hcls hflags hhandle hsec hns hmin hmax htype hfree hroom hlaunch hq
    refine ⟨_, SendRequest.queuedFrame ⟨nets, cls, flags, handle, sec, ns, frame⟩ s,
      exec_netSend_sends (x := ⟨nets, cls, flags, handle, sec, ns, frame⟩) (heard hq) ht hp
        ⟨hpos, hnets, hcls, hflags, hhandle, hsec, hns, hmin, hmax, htype⟩ ⟨hfree, hroom, hlaunch⟩,
      ?_, rfl, rfl, rfl, rfl, rfl, SendRequest.queuedFrame_prp _ s⟩
    rw [SendRequest.sent_tx, SendRequest.queuedFrame_begin, State.begin_act_net]
  case status =>
    intro hlen hq
    exact (exec_netTxStatus r s).trans (congrArg _ (State.host_answered_ok (heard hq) ht (netTxStatusAns_ok hlen)))
  case getLength =>
    intro hlen hq
    exact (exec_tideGet r s).trans (congrArg _ (State.host_answered_err (heard hq) ht (tideGetAns_length hlen)))
  case getRange =>
    intro hlen hentry hq
    exact (exec_tideGet r s).trans (congrArg _ (State.host_answered_err (heard hq) ht (tideGetAns_range hlen hentry)))

end Sys2Proof.Machine
end

section
/-! The Ring log (R492 to R500): what its four commands' own checks let through, what a further record does to a log, what
LOG_RECORD_WRITE and OP_SEC_TICK do to the token holder's log, and the obligation O17. -/
namespace Sys2Proof.Machine

/-! ### LOG_FREEZE, LOG_UNFREEZE, LOG_WINDOW, LOG_CURSOR -/

theorem exec_logFreeze (r : Req) (s : State) : exec (.logFreeze r) s = .next (s.host 0x60 r .device (logFreezeAns r.payload)) := rfl
theorem exec_logWindow (r : Req) (s : State) : exec (.logWindow r) s = .next (s.host 0x61 r .device (logWindowAns r.payload)) := rfl
theorem exec_logCursor (r : Req) (s : State) : exec (.logCursor r) s = .next (s.host 0x62 r .device (logCursorAns r.payload)) := rfl
theorem exec_logUnfreeze (r : Req) (s : State) :
    exec (.logUnfreeze r) s = .next (s.host 0x63 r .device (logUnfreezeAns r.payload)) := rfl

/-- What two functions do to the token holder's log is the same where they agree on it. -/
theorem State.modLog_congr {s : State} {f g : Log → Log} (h : f s.act.log = g s.act.log) : s.modLog f = s.modLog g := by
  have hact : { s.act with log := f s.act.log } = { s.act with log := g s.act.log } := by rw [h]
  exact congrArg (fun a => { s with hl := vset s.hl s.hd a }) hact

section LogCommands
variable {b : List Byte} {u : State}

theorem logFreezeAns_ok (hb : b = []) : logFreezeAns b u = (u.modLog fun l => { l with frozen := true, post := none }).ok := by
  simp [logFreezeAns, hb]

theorem logUnfreezeAns_ok (hb : b = []) (hfrozen : u.act.log.frozen = true) :
    logUnfreezeAns b u = (u.modLog fun l => { l with frozen := false, post := none, resume := true }).ok := by
  have hpass : decide (b.length ≠ 0) = false := by simp [hb]
  rw [logUnfreezeAns, hpass]
  exact congrArg State.ok (State.modLog_congr (if_pos hfrozen))

theorem logWindowAns_ok (hlen : b.length = 6) (hcount : rd b 4 2 ≠ 0) {rs : List LogRecord}
    (hrs : rs = (u.act.log.records.filter fun x => decide (rd b 0 4 ≤ x.number)).take (min 16 (rd b 4 2))) :
    logWindowAns b u =
      u.ok (le 2 rs.length ++ zeros 2 ++ le 4 u.act.log.oldest ++ le 4 u.act.log.newest ++ rs.flatMap (·.bytes)) := by
  simp [logWindowAns, hlen, hcount, hrs]

theorem logCursorAns_ok (hlen : b.length = 4) (hcursor : rd b 0 4 ≤ u.act.log.newest + 1) :
    logCursorAns b u = (u.modLog fun l => { l with cursor := max (rd b 0 4) l.oldest }).okAck (le 4 (max (rd b 0 4) u.act.log.oldest)) := by
  simp only [logCursorAns, hlen, decide_eq_false hcursor.not_gt]
  rfl

end LogCommands

/-! ### A further record (R496) -/

namespace Log
variable (l : Log) (r : LogRecord)

theorem push_records : (l.push r).records = (l.records ++ [r]).drop (l.records.length + 1 - 32768) := by
  unfold push
  dsimp only

theorem mem_push : r ∈ (l.push r).records := by
  rw [push_records, List.drop_append_of_le_length (by omega)]
  exact List.mem_append_right _ (List.mem_singleton_self r)

theorem length_push_le : (l.push r).records.length ≤ 32768 := by
  rw [push_records, List.length_drop, List.length_append, List.length_singleton]
  omega

/-- A full log gives up its oldest record for the new one (R496). -/
theorem push_full {r0 : LogRecord} {rest : List LogRecord} (hl : l.records = r0 :: rest) (hfull : l.records.length = 32768) :
    (l.push r).records = rest ++ [r] := by
  rw [push_records, hfull, hl, Nat.add_sub_cancel_left]
  rfl

theorem oldest_empty (h : l.records = []) : l.oldest = 1 := by
  simp [oldest, h]

/-! ### The counts of LOG_POST (R498) -/

/-- A further record that counts towards an automatic freeze moves the count and FROZEN alone. -/
theorem countPost_eq : ∃ p f, l.countPost = { l with post := p, frozen := f } := by
  unfold countPost
  split
  · split
    · exact ⟨none, true, rfl⟩
    · exact ⟨_, l.frozen, rfl⟩
  · exact ⟨l.post, l.frozen, rfl⟩

/-- An entry that starts the count sets the count and FROZEN alone. -/
theorem startPost_eq (n : Nat) : ∃ p f, l.startPost n = { l with post := p, frozen := f } := by
  unfold startPost
  split
  · exact ⟨l.post, l.frozen, rfl⟩
  · split
    · exact ⟨l.post, true, rfl⟩
    · exact ⟨some n, l.frozen, rfl⟩

/-- What an event's record leaves of the count: the STATE_CHANGE of an entry starts it (R498). -/
def entered (entry : Bool) (n : Nat) : Log := if entry then l.startPost n else l

theorem entered_eq (entry : Bool) (n : Nat) : ∃ p f, l.entered entry n = { l with post := p, frozen := f } := by
  cases entry with
  | false => exact ⟨l.post, l.frozen, rfl⟩
  | true => exact l.startPost_eq n

section
variable (entry : Bool) (n : Nat)
@[simp] theorem entered_records : (l.entered entry n).records = l.records := by obtain ⟨p, f, h⟩ := l.entered_eq entry n; rw [h]
@[simp] theorem entered_newest : (l.entered entry n).newest = l.newest := by obtain ⟨p, f, h⟩ := l.entered_eq entry n; rw [h]
@[simp] theorem entered_queue : (l.entered entry n).queue = l.queue := by obtain ⟨p, f, h⟩ := l.entered_eq entry n; rw [h]
@[simp] theorem entered_rateDrops : (l.entered entry n).rateDrops = l.rateDrops := by obtain ⟨p, f, h⟩ := l.entered_eq entry n; rw [h]
end

/-! ### The log once a record is written (R494 to R497) -/

/-- The record stands in the log, counts by its code and towards an automatic freeze, and the drops of its code that it tells of are
told. -/
def wrote : Log :=
  { (l.push r).countPost with
    written := setCount l.written r.event.code (countOf l.written r.event.code + 1)
    dropped := l.dropped.filter fun y => y.1 != r.event.code }

@[simp] theorem wrote_records : (l.wrote r).records = (l.push r).records := by
  obtain ⟨p, f, h⟩ := (l.push r).countPost_eq
  rw [wrote, h]
@[simp] theorem wrote_newest : (l.wrote r).newest = r.number := by
  obtain ⟨p, f, h⟩ := (l.push r).countPost_eq
  rw [wrote, h, push]
@[simp] theorem wrote_queue : (l.wrote r).queue = l.queue := by
  obtain ⟨p, f, h⟩ := (l.push r).countPost_eq
  rw [wrote, h, push]

end Log

/-! ### Writing a record (R494, R495) -/

/-- The items that wait for the standby are no part of the log. -/
@[simp] theorem State.modPair_act_log (s : State) (h : Hd) (f : Pair → Pair) : (s.modPair h f).act.log = s.act.log := by
  have hkeeps : (s.modPair h f).act = (s.modHl h fun a => { a with pair := f a.pair }).hl[(s.hd : Nat)] := rfl
  rw [hkeeps]
  by_cases hh : h = s.hd
  · subst hh
    rw [s.modHl_same]
    rfl
  · rw [s.modHl_other h s.hd _ hh]
    rfl

section
variable (s : State) (set : Nat)

/-- A snapshot moves the free-running count alone (R495). -/
theorem State.snapshot_view {β : Type} (v : State → β) (h : ∀ (t : State) (n : Nat), v { t with freeCount := n } = v t) :
    v (s.snapshot set).1 = v s := by
  unfold State.snapshot
  refine foldl_view (v := fun x : State × List Nat => v x.1) (fun x i => ?_) _ _
  dsimp only
  split
  · rfl
  · split
    · exact h _ _
    · rfl

@[simp] theorem State.snapshot_act : (s.snapshot set).1.act = s.act := s.snapshot_view set State.act fun _ _ => rfl
@[simp] theorem State.snapshot_hd : (s.snapshot set).1.hd = s.hd := s.snapshot_view set State.hd fun _ _ => rfl

end

/-- The set that LOG_CTRL of an event's code names is one of the eight of R495. -/
def State.snaps (s : State) (e : Event) : Bool := decide (s.parN (P_LOG_CTRL e.code) % 16 ≤ 7)

/-- DATA of an event's record: its code's further arguments, or the snapshot (R495). -/
def State.recordData (s : State) (e : Event) : List Nat :=
  if s.snaps e then (s.snapshot (s.parN (P_LOG_CTRL e.code) % 16)).2 else e.data

/-- The record that an event becomes: the next number, the token holder as its writer, and the drops of its code (R492, R494, R497). -/
def State.logRecord (s : State) (e : Event) : LogRecord :=
  { number := s.act.log.newest + 1 + s.act.log.gap, event := { e with data := s.recordData e }, writer := s.hd
    suppressed := decide (countOf s.act.log.dropped e.code ≠ 0), snapshot := s.snaps e, dropped := countOf s.act.log.dropped e.code }

/-- Writing an event's record does to the log what the record does, whether or not it is mirrored. -/
theorem State.writeRecord_log (s : State) (e : Event) : (s.writeRecord e).act.log = s.act.log.wrote (s.logRecord e) := by
  unfold State.writeRecord State.logRecord State.recordData State.snaps
  by_cases hs : s.parN (P_LOG_CTRL e.code) % 16 ≤ 7
  · simp [hs, apply_ite State.act, apply_ite Headland.log, Log.wrote]
  · simp [hs, apply_ite State.act, apply_ite Headland.log, Log.wrote]

/-! ### LOG_RECORD_WRITE (R494 to R498) -/

theorem exec_logRecordWrite (s : State) :
    exec .logRecordWrite s = .next (if s.dev = .standby ∨ s.act.pair.role ≠ .active then s else s.logWrite) := rfl

theorem exec_logRecordWrite_active {s : State} (hd : s.dev ≠ .standby) (hr : s.act.pair.role = .active) :
    exec .logRecordWrite s = .next s.logWrite := by
  rw [exec_logRecordWrite, if_neg (by simp [hd, hr])]

theorem exec_logRecordWrite_inactive {s : State} (hr : s.act.pair.role ≠ .active) : exec .logRecordWrite s = .next s := by
  rw [exec_logRecordWrite, if_pos (.inr hr)]

/-- The event LOG_RESUMED, which tells FROZEN_DROPS (R498). -/
def State.resumed (s : State) : Event := s.stamped s.act.replica.tick { code := 0x60, arg0 := s.act.log.frozenDrops }

theorem State.logWrite_resumes {s : State} (h : s.act.log.resume = true) :
    s.logWrite.act.log = { s.act.log.wrote (s.logRecord s.resumed) with resume := false, frozenDrops := 0 } := by
  simp [State.logWrite, h, ← State.writeRecord_log, State.resumed]

/-- Taking the oldest event from the queue. -/
def State.unqueue (s : State) (rest : List Event) : State := s.modLog fun l => { l with queue := rest }

@[simp] theorem State.unqueue_log (s : State) (rest : List Event) : (s.unqueue rest).act.log = { s.act.log with queue := rest } := by
  rw [State.unqueue, State.modLog_act]

section
variable {s : State} {e : Event} {rest : List Event} (hr : s.act.log.resume = false) (hq : s.act.log.queue = e :: rest)
include hr hq

/-- Below the rate of its code, the oldest event is written (R497). -/
theorem State.logWrite_writes (hrate : countOf s.act.log.written e.code < s.parN (P_LOG_CTRL e.code) / 256) :
    s.logWrite.act.log =
      ((s.unqueue rest).act.log.wrote ((s.unqueue rest).logRecord e)).entered e.entry (s.parN P_LOG_POST) := by
  rw [← State.writeRecord_log]
  cases hentry : e.entry <;> simp [State.logWrite, hr, hq, hrate, hentry, Log.entered, State.unqueue]

/-- At the rate of its code, the oldest event is dropped and counted (R497). -/
theorem State.logWrite_drops (hrate : s.parN (P_LOG_CTRL e.code) / 256 ≤ countOf s.act.log.written e.code) :
    s.logWrite.act.log =
      { s.act.log with
        queue := rest
        dropped := setCount s.act.log.dropped e.code (satInc 16 (countOf s.act.log.dropped e.code))
        rateDrops := satInc 32 s.act.log.rateDrops }.entered e.entry (s.parN P_LOG_POST) := by
  cases hentry : e.entry <;> simp [State.logWrite, hr, hq, hrate.not_gt, hentry, Log.entered]

end

/-! ### OP_SEC_TICK (R493, R497) -/

/-- A second counted: OP_SEC moves, and the records written of each code are counted anew. -/
def Log.secondAt (l : Log) (now : Nat) : Log := { l with opSec := (l.opSec + 1) % 2 ^ 32, opAt := now, written := [] }

theorem exec_opSecTick_counts {s : State} (hd : s.dev ≠ .standby) (hdue : s.act.log.opAt + 400000000 ≤ s.clk.now) :
    exec .opSecTick s = .next (s.modBoth fun a => { a with log := a.log.secondAt s.clk.now }) := by
  have hsecond : msTicks 1000 = 400000000 := rfl
  have hcounts : ¬(s.dev = .standby ∨ s.clk.now < s.act.log.opAt + msTicks 1000) := by
    rw [hsecond]
    exact fun h => h.elim hd hdue.not_gt
  exact congrArg _ (if_neg hcounts)

theorem State.modBoth_hl (s : State) (f : Headland → Headland) (h : Hd) : (s.modBoth f).hl[h] = f s.hl[h] := by
  simp [State.modBoth]

/-! ### The obligation -/

/-- Settles O17: each command's own checks let it through and its answer becomes its reply; the oldest event's record, or its drop,
is what `Log.wrote` and the rate of its code make of the log; a record pushed onto a full log leaves the oldest out. -/
theorem ringLogComplete : Obligations.RingLogComplete := by
  refine ⟨fun s r ha hd ht => ?commands, fun s => ⟨?second, ?write, ?drop, ?resumed, exec_logRecordWrite_inactive,
    fun l r0 r rest => l.push_full r, fun l hl _ => l.oldest_empty hl, rfl⟩⟩
  case commands =>
    have heard {op : Nat} (hq : s.inTurn op r = true) : s.hears op r := State.hears_of_not_boot ha hd hq
    refine ⟨?freeze, ?unfreeze, ?window, ?cursor⟩
    case freeze =>
      intro hp hq
      exact (exec_logFreeze r s).trans (congrArg _ (State.host_answered_ok (heard hq) ht (logFreezeAns_ok hp)))
    case unfreeze =>
      intro hp hfrozen hq
      exact (exec_logUnfreeze r s).trans (congrArg _ (State.host_answered_ok (heard hq) ht
        (logUnfreezeAns_ok hp (by simpa using hfrozen))))
    case window =>
      intro hlen hcount rs hrs hq
      exact (exec_logWindow r s).trans (congrArg _ (State.host_answered_ok (heard hq) ht
        (logWindowAns_ok hlen hcount (by simpa using hrs))))
    case cursor =>
      intro hlen hcursor hq
      exact (exec_logCursor r s).trans (congrArg _ (State.host_heldBack (heard hq) ht (logCursorAns_ok hlen (by simpa using hcursor))))
  case second =>
    intro hd hdue
    refine ⟨_, exec_opSecTick_counts hd hdue, fun h => ?_⟩
    rw [State.modBoth_hl]
    exact ⟨rfl, rfl, rfl, rfl⟩
  case write =>
    intro e rest hd hrole hr hq hrate
    refine ⟨_, (s.unqueue rest).logRecord e, exec_logRecordWrite_active hd hrole, ?_⟩
    rw [State.logWrite_writes hr hq hrate]
    refine ⟨by simp, by simp [State.logRecord], by simpa using Log.mem_push _ _, by simp [State.logRecord], rfl, rfl, rfl, rfl, rfl, ?_⟩
    simpa using Or.inl (Log.length_push_le _ _)
  case drop =>
    intro e rest hd hrole hr hq hrate
    refine ⟨_, exec_logRecordWrite_active hd hrole, ?_⟩
    rw [State.logWrite_drops hr hq hrate]
    exact ⟨Log.entered_queue _ _ _, Log.entered_records _ _ _, Log.entered_newest _ _ _, Log.entered_rateDrops _ _ _⟩
  case resumed =>
    intro hd hrole hr
    refine ⟨_, s.logRecord s.resumed, exec_logRecordWrite_active hd hrole, ?_⟩
    rw [State.logWrite_resumes hr]
    exact ⟨Log.wrote_queue _ _, by simpa using Log.mem_push _ _, rfl, rfl, rfl, rfl⟩

end Sys2Proof.Machine
end

section
/-! The clock and check-value commands (Table 15.10, R537, R543 to R550): what each command's own checks let through, the state of a
unit once it is written or fed, and the obligation O14. -/
namespace Sys2Proof.Machine

/-! ### CLOCK_STATUS and PWM_RESUME -/

theorem exec_clockStatus (r : Req) (s : State) :
    exec (.clockStatus r) s = .next (s.host 0xC0 r .device (clockStatusAns r.payload)) := rfl
theorem exec_pwmResume (r : Req) (s : State) : exec (.pwmResume r) s = .next (s.host 0xC1 r .device (pwmResumeAns r.payload)) := rfl

section Clocks
variable {b : List Byte} {u : State} (hb : b = [])
include hb

theorem clockStatusAns_ok : clockStatusAns b u = u.ok (le 1 u.clocks.pllState ++ le 1 u.clocks.bypass ++ zeros 2 ++
    le 4 (sf 32 u.act.ptp.rate) ++ le 4 u.clocks.unlocks ++ le 4 u.clocks.lastUnlock) := by
  simp [clockStatusAns, hb]

/-- With every die locked and none bypassed, the command is let through; it acts where some Shoal's clock stop stands (R537). -/
theorem pwmResumeAns_ok (hbypass : u.clocks.bypass = 0) (hlocked : u.clocks.pllState = 0) :
    pwmResumeAns b u = ((if u.clocks.stop.toList.any id then State.pwmResume else unchanged) u).ok := by
  have hchecks : pwmResumeAns b u = if u.clocks.stop.toList.any id then u.pwmResume.ok else u.ok := by
    simp [pwmResumeAns, hb, hbypass, hlocked]
  rw [hchecks]
  split <;> rfl

end Clocks

/-! ### A check-value unit of the token holder (R543, R544) -/

/-- A change of one unit alone. -/
def State.modCrc (s : State) (i : Fin 8) (f : CrcUnit → CrcUnit) : State := s.modAct fun a => { a with crc := vmod a.crc i f }

section Unit
variable (s : State) (i : Fin 8) (f : CrcUnit → CrcUnit)

@[simp] theorem State.modCrc_same : (s.modCrc i f).act.crc[(i : Nat)] = f s.act.crc[(i : Nat)] := by
  simp [State.modCrc]

/-- A unit's change puts in its place what the change makes of it as it stands. -/
theorem State.modCrc_eq_vset : s.modCrc i f = s.modAct fun a => { a with crc := vset a.crc i (f s.act.crc[(i : Nat)]) } := rfl

/-- The reply with RUNNING and RESULT tells of the unit that UNIT names (R545). -/
theorem State.crcReply_unit : s.crcReply i = s.ok (le 4 s.act.crc[(i : Nat)].reg ++ le 4 s.act.crc[(i : Nat)].out) := by
  simp [State.crcReply]

theorem State.crcReply_modCrc : (s.modCrc i f).crcReply i =
    (s.modCrc i f).ok (le 4 (f s.act.crc[(i : Nat)]).reg ++ le 4 (f s.act.crc[(i : Nat)]).out) := by
  rw [State.crcReply_unit, State.modCrc_same]

end Unit

/-- The unit with a new running value, and the RESULT that follows from it (R545). -/
def CrcUnit.write (x : CrcUnit) (v : Nat) : CrcUnit :=
  let y := { x with reg := v % 2 ^ x.width }
  { y with result := y.out }

/-- The unit as the payload of CRC_CONFIG configures it: its running value starts at INIT (log 98), and no pass is its reference
yet (R547). -/
def CrcUnit.configured (x : CrcUnit) (b : List Byte) : CrcUnit :=
  { x with width := by8 b 1, flags := by8 b 2, snoop := by8 b 3, poly := rd b 4 4, init := rd b 8 4, xorout := rd b 12 4
           reg := rd b 8 4, arg := rd b 16 4, len := rd b 20 4, first := none }

/-! ### CRC_CONFIG, CRC_VALUE, CRC_FEED -/

theorem exec_crcConfig (r : Req) (s : State) : exec (.crcConfig r) s = .next (s.host 0xC8 r .device (crcConfigAns r.payload)) := rfl
theorem exec_crcValueRead (r : Req) (s : State) :
    exec (.crcValueRead r) s = .next (s.host 0xC9 r .device (crcValueAns r.payload)) := rfl
theorem exec_crcValueWrite (r : Req) (s : State) :
    exec (.crcValueWrite r) s = .next (s.host 0xC9 r .device (crcValueAns r.payload)) := rfl
theorem exec_crcFeed (r : Req) (s : State) : exec (.crcFeed r) s = .next (s.host 0xCA r .device (crcFeedAns r.payload)) := rfl

section Crc
variable {b : List Byte} {u : State} {i : Fin 8} (hi : by8 b 0 = i.val)
include hi

/-- The byte UNIT, reduced as the model reduces it, names the unit. -/
theorem crcUnit_of_byte : (⟨by8 b 0 % 8, by omega⟩ : Fin 8) = i := Fin.ext (by simp only [hi]; omega)

theorem crcConfigAns_ok (hlen : b.length = 24) (hmin : 8 ≤ by8 b 1) (hmax : by8 b 1 ≤ 32)
    (hsnoop : snoopOut (by8 b 3) (rd b 16 4) (rd b 20 4) = false) (hsource : by8 b 3 ≤ 6) (hflags : by8 b 2 < 16)
    (hpoly : rd b 4 4 < 2 ^ by8 b 1) (hinit : rd b 8 4 < 2 ^ by8 b 1) (hxor : rd b 12 4 < 2 ^ by8 b 1)
    (hregion : by8 b 3 = 6 → rd b 20 4 ≠ 0) (hfold : foldBad (by8 b 3) (by8 b 2) = false) :
    crcConfigAns b u = (u.modCrc i fun x => x.configured b).ok := by
  have hrange : ¬(7 < by8 b 0 ∨ by8 b 1 < 8 ∨ 32 < by8 b 1) := by omega
  have hform : ¬(6 < by8 b 3 ∨ 16 ≤ by8 b 2) := by omega
  have hfit : ([4, 8, 12].any fun k => decide (2 ^ by8 b 1 ≤ rd b k 4)) = false := by simp [hpoly, hinit, hxor]
  have hsize : (decide (by8 b 3 = 6) && decide (rd b 20 4 = 0)) = false := by simpa using hregion
  simp only [crcConfigAns, hlen, decide_eq_false hrange, hsnoop, hfit, decide_eq_false hform, hsize, hfold, crcUnit_of_byte hi]
  rfl

theorem crcValueAns_reads (hlen : b.length = 6) (hop : by8 b 1 = 0) :
    crcValueAns b u = u.ok (le 4 u.act.crc[(i : Nat)].reg ++ le 4 u.act.crc[(i : Nat)].out) := by
  have hunit : ¬ 7 < by8 b 0 := by omega
  rw [← State.crcReply_unit, ← hi]
  simp only [crcValueAns, hlen, hop, decide_eq_false hunit]
  rfl

/-- A unit that no source snoops takes the value that the host writes. -/
theorem crcValueAns_writes (hlen : b.length = 6) (hop : by8 b 1 = 1) (hfree : u.act.crc[(i : Nat)].snoop = 0) :
    crcValueAns b u = (u.modCrc i fun x => x.write (rd b 2 4)).crcReply i := by
  have hunit : ¬ 7 < by8 b 0 := by omega
  simp only [crcValueAns, hlen, hop, decide_eq_false hunit, crcUnit_of_byte hi, Fin.getElem_fin, hfree]
  rw [hi]
  rfl

theorem crcFeedAns_feeds (hlen : 5 ≤ b.length) (hzero : rd b 1 3 = 0) (hfree : u.act.crc[(i : Nat)].snoop = 0) :
    crcFeedAns b u = (u.modCrc i fun x => x.feed (b.drop 4)).crcReply i := by
  have hunit : ¬ 7 < by8 b 0 := by omega
  simp only [crcFeedAns, hzero, decide_eq_false hunit, decide_eq_false hlen.not_gt, crcUnit_of_byte hi, Fin.getElem_fin, hfree]
  rw [hi]
  rfl

end Crc

/-! ### The obligation -/

/-- Settles O14: each command's own checks let it through and its answer becomes its reply; a written or fed unit's reply tells of the
unit as the command leaves it. That CRC_CONFIG starts the running value at INIT and keeps RESULT and the counts is the model's reading
(log 98). -/
theorem clockCrcComplete : Obligations.ClockCrcComplete := by
  intro s r ha hd ht
  have heard {op : Nat} (hq : s.inTurn op r = true) : s.hears op r := State.hears_of_not_boot ha hd hq
  refine ⟨?status, ?resume, ?config, ?read, ?write, ?feed, fun x bs => ⟨rfl, rfl, rfl⟩⟩
  case status =>
    intro hp hq
    exact (exec_clockStatus r s).trans (congrArg _ (State.host_answered_ok (heard hq) ht (clockStatusAns_ok hp)))
  case resume =>
    intro hp hbypass hlocked hq
    refine (exec_pwmResume r s).trans (congrArg _ (State.host_answered_ok (heard hq) ht ?_))
    simpa [noPayload] using pwmResumeAns_ok (u := (s.begin_ 0xC1 r).1) hp (by simpa using hbypass) (by simpa using hlocked)
  case config =>
    intro i hlen hi hmin hmax hsnoop hsource hflags hpoly hinit hxor hregion hfold hq
    exact (exec_crcConfig r s).trans (congrArg _ (State.host_answered_ok (heard hq) ht
      (crcConfigAns_ok hi hlen hmin hmax hsnoop hsource hflags hpoly hinit hxor hregion hfold)))
  case read =>
    intro i hlen hi hop hq
    exact (exec_crcValueRead r s).trans (congrArg _ (State.host_answered_ok (heard hq) ht (crcValueAns_reads hi hlen hop)))
  case write =>
    rintro i hlen hi hop hfree x rfl hq
    refine (exec_crcValueWrite r s).trans (congrArg _ (State.host_answered_ok (heard hq) ht ?_))
    rw [crcValueAns_writes hi hlen hop (by simpa using hfree), State.crcReply_modCrc, State.modCrc_eq_vset, State.begin_act_crc]
    rfl
  case feed =>
    intro i hlen hi hzero hfree hq
    refine (exec_crcFeed r s).trans (congrArg _ (State.host_answered_ok (heard hq) ht ?_))
    rw [crcFeedAns_feeds hi hlen hzero (by simpa using hfree), State.crcReply_modCrc]
    rfl

end Sys2Proof.Machine
end

section
/-! What every command carries over (R190, R199, R218, R360): the queue behind it, the timebase, gates that keep apart, and a standing
lock-out. One lemma per operation, in the order of the model's files: an operation that reaches none of these leaves `State.carried` as it is,
one that acts on a generator, on a Skerry or on Breakwater's lock-out carries it. -/
namespace Sys2Proof.Machine

/-! ### Gates that keep apart -/

/-- From the gates of one state of a port's legs to those of the next: each gate still fits its leg's phase (R190, R199). -/
def FitsTo (a b : Vector Gen 4) : Prop := (∀ k : Leg, a[k].fits = true) → ∀ k : Leg, b[k].fits = true

/-- From the gates of one state of a Skerry to those of the next: still no leg with both on (R218). -/
def ApartTo (a b : Vector SkGate 8) : Prop :=
  (∀ i : Leg, (a[gateH i].on && a[gateL i].on) = false) → ∀ i : Leg, (b[gateH i].on && b[gateL i].on) = false

@[simp] theorem FitsTo.refl (a : Vector Gen 4) : FitsTo a a := id
@[simp] theorem ApartTo.refl (a : Vector SkGate 8) : ApartTo a a := id
theorem FitsTo.trans {a b c : Vector Gen 4} (hab : FitsTo a b) (hbc : FitsTo b c) : FitsTo a c := hbc ∘ hab
theorem ApartTo.trans {a b c : Vector SkGate 8} (hab : ApartTo a b) (hbc : ApartTo b c) : ApartTo a c := hbc ∘ hab

/-! ### Generators -/

/-- A leg whose gates are both off fits every phase. -/
theorem Gen.fits_of_off {g : Gen} (hh : g.h = false) (hl : g.l = false) : g.fits = true := by simp [Gen.fits, hh, hl]

/-- What a leg's fit depends on (R190, R199). -/
theorem Gen.fits_iff (g : Gen) :
    g.fits = true ↔ (g.h = true → g.phase = .high) ∧ (g.l = true → g.phase = .low ∨ g.phase = .refreshLow) := by
  simp [Gen.fits, imp_iff_not_or]

theorem Gen.fits_of_high {g : Gen} (hl : g.l = false) (hp : g.phase = .high) : g.fits = true := by simp [Gen.fits, hl, hp]
theorem Gen.fits_of_low {g : Gen} (hh : g.h = false) (hp : g.phase = .low ∨ g.phase = .refreshLow) : g.fits = true := by
  simp [Gen.fits, hh, hp]
theorem Gen.high_off {g : Gen} (h : g.fits = true) (hp : g.phase ≠ .high) : g.h = false :=
  Bool.eq_false_iff.2 fun hon => hp (g.fits_iff.1 h |>.1 hon)
theorem Gen.low_off {g : Gen} (h : g.fits = true) (hlow : g.phase ≠ .low) (hrefresh : g.phase ≠ .refreshLow) : g.l = false :=
  Bool.eq_false_iff.2 fun hon => (g.fits_iff.1 h |>.2 hon).elim hlow hrefresh

theorem Gen.fits_congr {g g' : Gen} (hh : g'.h = g.h) (hl : g'.l = g.l) (hp : g'.phase = g.phase) : g'.fits = g.fits := by
  simp [Gen.fits, hh, hl, hp]

theorem Pwm.mask_fits (w : Pwm) (now : Nat) {g : Gen} (h : g.fits = true) : (w.mask now g).fits = true := by
  rw [Gen.fits_iff] at *
  simp only [Pwm.mask, Bool.and_eq_true]
  exact ⟨fun hon => h.1 hon.1, fun hon => h.2 hon.1⟩

theorem Gen.enterLow_fits (at_ : Nat) {g : Gen} (h : g.fits = true) : (g.enterLow at_).fits = true := by
  obtain ⟨hh, hl⟩ := g.fits_iff.1 h
  unfold Gen.enterLow
  rw [Gen.fits_iff]
  split <;> simp_all [Gen.hOff, Gen.lOn]

theorem Gen.enterHigh_fits (at_ : Nat) {g : Gen} (h : g.fits = true) : (g.enterHigh at_).fits = true := by
  obtain ⟨hh, hl⟩ := g.fits_iff.1 h
  unfold Gen.enterHigh
  rw [Gen.fits_iff]
  split <;> simp_all

theorem Gen.deferredRefresh_fits (at_ : Nat) (full : Bool) {g : Gen} (h : g.fits = true) (hp : g.phase = .high) :
    (g.deferredRefresh at_ full).fits = true := by
  obtain ⟨hh, hl⟩ := g.fits_iff.1 h
  exact Gen.fits_of_off rfl (show g.l = false by simpa [hp] using hl)

/-- Where a leg stands as a new period begins, with gates enabled and no safe state (R190, R192, R200). -/
theorem Gen.newPeriod_fits (at_ : Nat) (full : Bool) {g : Gen} (h : g.fits = true) :
    (if g.deferred && decide (g.phase = .high) then g.deferredRefresh at_ full
      else if full then { g.enterHigh at_ with deferred := false } else { g.enterLow at_ with deferred := false }).fits = true := by
  split
  · next hp => exact Gen.deferredRefresh_fits _ _ h (by simpa using (Bool.and_eq_true_iff.1 hp).2)
  · split
    · exact Gen.enterHigh_fits at_ h
    · exact Gen.enterLow_fits at_ h

theorem Pwm.legBoundary_fits (w : Pwm) (now t : Nat) (fine : Bool) (k : Leg) {g : Gen} (h : g.fits = true) :
    (w.legBoundary now t fine k g).fits = true := by
  have same {g' : Gen} (hh : g'.h = g.h) (hl : g'.l = g.l) (hp : g'.phase = g.phase) : g'.fits = true :=
    (Gen.fits_congr hh hl hp).trans h
  unfold Pwm.legBoundary
  cases hs : w.safe
  case true => exact w.mask_fits now (same rfl rfl rfl)
  case false =>
    cases he : w.gatesEn
    case false => exact Gen.fits_of_off rfl rfl
    case true => exact w.mask_fits now ((Gen.fits_congr rfl rfl rfl).trans (Gen.newPeriod_fits (now * 64) _ (same rfl rfl rfl)))

/-- A change of one leg that keeps its fit. -/
theorem FitsTo.vset {a : Vector Gen 4} {k : Leg} {g : Gen} (h : a[k].fits = true → g.fits = true) : FitsTo a (vset a k g) := by
  intro ha j
  by_cases hj : k = j
  · subst hj
    simpa using h (ha k)
  · simpa [vset_other a k j g hj] using ha j

theorem FitsTo.map {a : Vector Gen 4} {f : Gen → Gen} (h : ∀ g : Gen, g.fits = true → (f g).fits = true) : FitsTo a (a.map f) :=
  fun ha k => by simpa using h _ (ha k)

theorem FitsTo.ofFn {a : Vector Gen 4} {f : Leg → Gen} (h : ∀ k : Leg, a[k].fits = true → (f k).fits = true) :
    FitsTo a (Vector.ofFn f) := fun ha k => by simpa using h k (ha k)

@[simp] theorem Pwm.boundary_legs (w : Pwm) (now inc carrierN : Nat) (fine : Bool) :
    FitsTo w.legs (w.boundary now inc carrierN fine).legs := by
  unfold Pwm.boundary
  dsimp only
  split
  · exact .ofFn fun k h => Pwm.legBoundary_fits _ _ _ _ _ (by simpa [Gen.fits] using h)
  · split <;> exact .ofFn fun k h => Pwm.legBoundary_fits _ _ _ _ _ h

@[simp] theorem Pwm.edge_legs (w : Pwm) (ps : Nat) (k : Leg) (rise : Bool) : FitsTo w.legs (w.edge ps k rise).legs := by
  unfold Pwm.edge
  dsimp only
  split
  · split
    · refine .vset fun h => ?_
      split
      · next hp =>
        have hoff : w.legs[k].h = false := Gen.high_off h (by rcases hp with hp | hp <;> rw [hp] <;> decide)
        exact Gen.fits_of_off hoff rfl
      · exact h
    · exact .refl _
  · split
    · refine .vset fun h => ?_
      obtain ⟨hh, hl⟩ := Gen.fits_iff _ |>.1 h
      rw [Gen.fits_iff]
      split <;> simp_all [Gen.hOff]
    · exact .refl _

@[simp] theorem Pwm.turnOn_legs (w : Pwm) (now : Nat) (fine : Bool) (k : Leg) (high : Bool) :
    FitsTo w.legs (w.turnOn now fine k high).legs := by
  unfold Pwm.turnOn
  dsimp only
  by_cases hd : now < edgeTime fine (w.legs[k].delayFrom + if high = true then w.dr k else w.df k) / 64
  · rw [if_pos hd]
    exact .refl _
  · rw [if_neg hd]
    refine .vset fun h => ?_
    split
    · split
      · next hp =>
        have hoff : w.legs[k].l = false := by
          rcases hp with hp | hp <;> exact Gen.low_off h (by rw [hp]; decide) (by rw [hp]; decide)
        exact Gen.fits_of_high hoff rfl
      · exact h
    · have hoff (hp : w.legs[k].phase ≠ .high) : w.legs[k].h = false := Gen.high_off h hp
      split
      · next hp => exact Gen.fits_of_low (hoff (by rw [hp]; decide)) (.inl rfl)
      · split
        · next hp => exact Gen.fits_of_low (hoff (by rw [hp]; decide)) (.inr rfl)
        · exact h

@[simp] theorem Pwm.refresh_legs (w : Pwm) (now : Nat) (k : Leg) : FitsTo w.legs (w.refresh now k).legs := by
  unfold Pwm.refresh
  dsimp only
  split
  · exact .refl _
  · next hon =>
    have hhigh : w.legs[k].phase = .high := by simp_all
    split
    · exact .refl _
    · split
      · exact .vset id
      · refine .vset fun h => ?_
        have hoff : w.legs[k].l = false := Gen.low_off h (by rw [hhigh]; decide) (by rw [hhigh]; decide)
        exact Gen.fits_of_off rfl hoff

@[simp] theorem Pwm.pulseEnd_legs (w : Pwm) (now : Nat) (fine : Bool) (k : Leg) : FitsTo w.legs (w.pulseEnd now fine k).legs := by
  unfold Pwm.pulseEnd
  dsimp only
  split
  · next hp =>
    refine .vset fun h => ?_
    have hoff : w.legs[k].h = false := Gen.high_off h (by rw [hp.1]; decide)
    exact Gen.fits_of_off hoff rfl
  · exact .refl _

@[simp] theorem Pwm.tripNow_legs (w : Pwm) (now : Nat) : FitsTo w.legs (w.tripNow now).legs := by
  refine FitsTo.trans (b := w.legs.map fun g => { g with duty := 0, carry := 0 }) (.map fun g h => h) ?_
  exact .map fun g h => Pwm.mask_fits _ now h

@[simp] theorem Pwm.legHiz_legs (w : Pwm) (now : Nat) (k : Leg) : FitsTo w.legs (w.legHiz now k).legs :=
  .vset fun h => Pwm.mask_fits _ now h

@[simp] theorem Pwm.applySafe_legs (w : Pwm) (now : Nat) (low contactorsOpen : Bool) :
    FitsTo w.legs (w.applySafe now low contactorsOpen).legs := by
  unfold Pwm.applySafe
  split
  · exact .refl _
  · refine .ofFn fun k _ => ?_
    rw [Gen.fits_iff]
    dsimp only
    (repeat' split) <;> simp_all [Gen.hOff, Gen.lOn]

@[simp] theorem Pwm.tick_legs (w : Pwm) (ps : Nat) (step : Int) : (w.tick ps step).legs = w.legs := by
  unfold Pwm.tick
  split <;> rfl

/-! ### Skerries -/

/-- A change that turns no gate on. -/
theorem ApartTo.of_off {a b : Vector SkGate 8} (h : ∀ g : Gate, b[g].on = true → a[g].on = true) : ApartTo a b := fun ha i => by
  have hi := ha i
  rw [Bool.and_eq_false_iff] at hi ⊢
  exact hi.imp (fun off => Bool.eq_false_iff.2 fun hon => Bool.false_ne_true (off.symm.trans (h _ hon)))
    fun off => Bool.eq_false_iff.2 fun hon => Bool.false_ne_true (off.symm.trans (h _ hon))

/-- Every gate off. -/
@[simp] theorem ApartTo.replicate {a : Vector SkGate 8} : ApartTo a (Vector.replicate 8 {}) := .of_off fun g h => by simp at h

theorem ApartTo.map {a : Vector SkGate 8} {f : SkGate → SkGate} (h : ∀ g : SkGate, (f g).on = true → g.on = true) :
    ApartTo a (a.map f) := .of_off fun g hg => h _ (by simpa using hg)

theorem ApartTo.vset {a : Vector SkGate 8} {g : Gate} {x : SkGate} (h : x.on = true → a[g].on = true) : ApartTo a (vset a g x) :=
  .of_off fun j hj => by
    by_cases hg : g = j
    · subst hg
      simpa using h (by simpa using hj)
    · simpa [vset_other a g j x hg] using hj

theorem gateH_ne_gateL (i : Leg) : gateH i ≠ gateL i := by decide +revert
theorem ne_otherGate (g : Gate) : g ≠ otherGate g := by decide +revert
theorem otherGate_gateH (i : Leg) : otherGate (gateH i) = gateL i := by decide +revert
theorem otherGate_gateL (i : Leg) : otherGate (gateL i) = gateH i := by decide +revert

/-- A gate may turn on where the other gate of its leg is off (R218). -/
theorem ApartTo.turnOn {a : Vector SkGate 8} {g : Gate} (x : SkGate) (h : a[otherGate g].on = false) : ApartTo a (Machine.vset a g x) := by
  intro ha i
  have hi := ha i
  rw [Bool.and_eq_false_iff] at hi ⊢
  by_cases hH : g = gateH i
  · subst hH
    refine .inr ?_
    simpa [vset_other a _ _ x (gateH_ne_gateL i), otherGate_gateH] using h
  · by_cases hL : g = gateL i
    · subst hL
      refine .inl ?_
      simpa [vset_other a _ _ x (gateH_ne_gateL i).symm, otherGate_gateL] using h
    · simpa [vset_other a _ _ x hH, vset_other a _ _ x hL] using hi

@[simp] theorem ApartTo.ite {a : Vector SkGate 8} {c : Prop} [Decidable c] {x y : Skerry} (hx : ApartTo a x.gates) (hy : ApartTo a y.gates) :
    ApartTo a (if c then x else y).gates := by
  split
  · exact hx
  · exact hy

section
variable (k : Skerry) (now : Nat)

/-! What several commands do to a Skerry, from any gates before it. -/

section
variable {a : Vector SkGate 8} {k} (h : ApartTo a k.gates)
include h

@[simp] theorem Skerry.gatesOff_gates : ApartTo a (k.gatesOff now).gates := h.trans (.map fun _ h => by simp [SkGate.turnOff] at h)
@[simp] theorem Skerry.legOff_gates (i : Leg) : ApartTo a (k.legOff now i).gates :=
  (h.trans (.vset fun h => by simp [SkGate.turnOff] at h)).trans (.vset fun h => by simp [SkGate.turnOff] at h)
@[simp] theorem Skerry.enterHiz_gates (i : Leg) : ApartTo a (k.enterHiz now i).gates := by
  unfold Skerry.enterHiz
  exact .ite (gatesOff_gates now (legOff_gates now h i)) (legOff_gates now h i)
@[simp] theorem Skerry.modLeg_gates (i : Leg) (f : SkLeg → SkLeg) : ApartTo a (k.modLeg now i f).gates := by
  unfold Skerry.modLeg
  exact .ite (enterHiz_gates now (by exact h) i) (.ite h h)
@[simp] theorem Skerry.setPerms_gates (g c l : Bool) : ApartTo a (k.setPerms now g c l).gates := by
  unfold Skerry.setPerms
  exact .ite h (gatesOff_gates now h)

end

@[simp] theorem Skerry.chanOff_gates (g : Gate) : ApartTo k.gates (k.chanOff now g).gates := .vset fun h => by simp [SkGate.turnOff] at h

@[simp] theorem Skerry.chanOn_gates (g : Gate) : ApartTo k.gates (k.chanOn now g).gates := by
  have hnote : ApartTo k.gates (vmod k.gates g fun x => { x with chan := true, chanAt := some now, held := none }) := .vset id
  unfold Skerry.chanOn
  dsimp only
  split
  · exact hnote
  · split
    · split
      · exact hnote.trans (.vset fun h => by simp at h)
      · exact hnote
    · next hoff =>
      have hon (x : SkGate) : ApartTo k.gates (vset (vmod k.gates g fun x => { x with chan := true, chanAt := some now, held := none }) g x) :=
        hnote.trans (.turnOn x (by simpa [vmod_other _ _ _ _ (ne_otherGate g)] using hoff))
      split
      · exact hnote.trans (.vset id)
      · split
        · split
          · exact hnote.trans (.vset id)
          · exact hon _
        · exact hon _

@[simp] theorem Skerry.holdEnd_gates (g : Gate) : ApartTo k.gates (k.holdEnd now g).gates := by
  unfold Skerry.holdEnd
  dsimp only
  split
  · exact .refl _
  · split
    · next h => exact .turnOn _ (by simp_all)
    · exact .vset id

@[simp] theorem Skerry.shorted_gates (g : Gate) (fast : Bool) (mask : Nat) : ApartTo k.gates (k.shorted now g fast mask).gates := by
  unfold Skerry.shorted
  exact .ite (modLeg_gates now (ApartTo.vset fun h => absurd h Bool.false_ne_true) _ _) (.refl _)

@[simp] theorem Skerry.supplySags_gates (i : Leg) (u : GateSupply) (low : Bool) : (k.supplySags i u low).gates = k.gates := rfl

@[simp] theorem Skerry.supply_gates (i : Leg) (u : GateSupply) (low : Bool) : ApartTo k.gates (k.supply now i u low).gates := by
  unfold Skerry.supply
  refine modLeg_gates now ?_ _ _
  cases u <;> exact .refl _

@[simp] theorem Skerry.permitWord_gates (chan : Bool) (word : Nat) : ApartTo k.gates (k.permitWord now chan word).gates := by
  unfold Skerry.permitWord
  exact .ite (setPerms_gates now (by exact .refl _) _ _ _) (.refl _)

@[simp] theorem Skerry.permitAbsent_gates : ApartTo k.gates (k.permitAbsent now).gates := setPerms_gates now (.refl _) false false false

@[simp] theorem Skerry.abortDiag_gates : k.abortDiag.gates = k.gates := by
  unfold Skerry.abortDiag
  split <;> rfl

@[simp] theorem Skerry.badFrame_gates : ApartTo k.gates (k.badFrame now).gates := by
  unfold Skerry.badFrame
  exact .ite (gatesOff_gates now (.refl _)) (.refl _)

@[simp] theorem Skerry.heard_gates (cmd : Nat) : (k.heard cmd).gates = k.gates := rfl

@[simp] theorem Skerry.command_gates (cmd : Nat) : ApartTo k.gates (k.command now cmd).gates := by
  unfold Skerry.command
  have hoff {c : Bool} {x : Skerry} (hx : ApartTo k.gates x.gates) : ApartTo k.gates (if c then x.gatesOff now else x).gates :=
    .ite (gatesOff_gates now hx) hx
  refine .ite ?_ (hoff (.refl _))
  rw [Skerry.abortDiag_gates]
  exact hoff (.refl _)

@[simp] theorem Skerry.sentFrame_gates : k.sentFrame.gates = k.gates := rfl
@[simp] theorem Skerry.energise_gates (c : Bool) : (k.energise now c).gates = k.gates := by
  unfold Skerry.energise
  split <;> rfl
@[simp] theorem Skerry.hwDrop_gates : (k.hwDrop now).gates = k.gates := rfl
@[simp] theorem Skerry.clearLatches_gates : k.clearLatches.gates = k.gates := rfl
@[simp] theorem Skerry.endBusOff_gates : k.endBusOff.gates = k.gates := by
  unfold Skerry.endBusOff
  split <;> rfl
@[simp] theorem Skerry.clear_gates (off : Nat) (c : Nat → Bool) : (k.clear off c).gates = k.gates := by
  unfold Skerry.clear
  dsimp only
  split
  · rfl
  · split <;> rfl

@[simp] theorem Skerry.takeSlot_gates (isG : Bool) (bytes : List Byte) : (k.takeSlot isG bytes).gates = k.gates := by
  unfold Skerry.takeSlot
  dsimp only
  (repeat' split) <;> simp
@[simp] theorem Skerry.goodFrame_gates (isG : Bool) (bytes : List Byte) : ApartTo k.gates (k.goodFrame isG now bytes).gates := by
  have hslot (x : Skerry) (h : ApartTo k.gates x.gates) : ApartTo k.gates (x.takeSlot isG bytes).gates := by simpa using h
  exact hslot _ (.ite (.refl _) (k.command_gates now _))

@[simp] theorem SkGate.softEnd_on (g : SkGate) : (g.softEnd now).on = g.on := by
  unfold SkGate.softEnd
  split <;> rfl
@[simp] theorem softEnd_gates (g : Gate) : ApartTo k.gates (vmod k.gates g (·.softEnd now)) := .vset fun h => by simpa using h

end

/-! ### What is carried over -/

/-- The view of a state that every command carries over. -/
structure Carried where
  pending : List Instr
  now : Nat
  pwm : Vector Pwm 12
  sk : Vector Skerry 13
  lockout : Bool

def State.carried (s : State) : Carried := ⟨s.pending, s.clk.now, s.pwm, s.sk, s.bw.lockout⟩

/-- From one view to the next: the queue and the timebase stay, gates that fit their phases and keep apart go on doing so, a standing
lock-out stands. -/
structure Carries (a b : Carried) : Prop where
  pending : b.pending = a.pending
  now : b.now = a.now
  pwm : (∀ (p : Port) (k : Leg), a.pwm[p].legs[k].fits = true) → ∀ (p : Port) (k : Leg), b.pwm[p].legs[k].fits = true
  sk : (∀ (l : Link) (i : Leg), (a.sk[l].gates[gateH i].on && a.sk[l].gates[gateL i].on) = false) →
    ∀ (l : Link) (i : Leg), (b.sk[l].gates[gateH i].on && b.sk[l].gates[gateL i].on) = false
  lockout : a.lockout = true → b.lockout = true

@[simp] theorem Carries.refl (a : Carried) : Carries a a := ⟨rfl, rfl, id, id, id⟩
/-- The view with no lock-out to carry over. -/
def Carried.unlocked (a : Carried) : Carried := { a with lockout := false }
theorem Carries.unlocked {a b : Carried} (h : Carries a b) : Carries a.unlocked b :=
  ⟨h.pending, h.now, h.pwm, h.sk, nofun⟩
theorem Carries.trans {a b c : Carried} (hab : Carries a b) (hbc : Carries b c) : Carries a c :=
  ⟨hbc.pending.trans hab.pending, hbc.now.trans hab.now, hbc.pwm ∘ hab.pwm, hbc.sk ∘ hab.sk, hbc.lockout ∘ hab.lockout⟩

end Sys2Proof.Machine
end

section
/-! What every command carries over, operation by operation. -/
namespace Sys2Proof.Machine

/-! ### Updates of the state -/

section
variable (s : State)
@[simp] theorem State.modHl_carried (i : Hd) (f : Headland → Headland) : (s.modHl i f).carried = s.carried := (rfl)
@[simp] theorem State.modAct_carried (f : Headland → Headland) : (s.modAct f).carried = s.carried := (rfl)
@[simp] theorem State.modBoth_carried (f : Headland → Headland) : (s.modBoth f).carried = s.carried := (rfl)
@[simp] theorem State.modLog_carried (f : Log → Log) : (s.modLog f).carried = s.carried := (rfl)
@[simp] theorem State.modHost_carried (f : HostIf → HostIf) : (s.modHost f).carried = s.carried := (rfl)
@[simp] theorem State.modNet_carried (f : NetIf → NetIf) : (s.modNet f).carried = s.carried := (rfl)
@[simp] theorem State.modPtp_carried (f : Ptp → Ptp) : (s.modPtp f).carried = s.carried := (rfl)
@[simp] theorem State.modCap_carried (f : Cap → Cap) : (s.modCap f).carried = s.carried := (rfl)
@[simp] theorem State.modTrace_carried (f : Trace → Trace) : (s.modTrace f).carried = s.carried := (rfl)
@[simp] theorem State.modAdc_carried (f : Adc → Adc) : (s.modAdc f).carried = s.carried := (rfl)
@[simp] theorem State.modCfg_carried (f : Cfg → Cfg) : (s.modCfg f).carried = s.carried := (rfl)
@[simp] theorem State.modPair_carried (i : Hd) (f : Pair → Pair) : (s.modPair i f).carried = s.carried := (rfl)
@[simp] theorem State.modFirm_carried (f : Firm → Firm) : (s.modFirm f).carried = s.carried := (rfl)
@[simp] theorem State.modLife_carried (p : Port) (f : PortLife → PortLife) : (s.modLife p f).carried = s.carried := (rfl)
@[simp] theorem State.modStep_carried (p : Port) (f : PortStep → PortStep) : (s.modStep p f).carried = s.carried := (rfl)
@[simp] theorem State.modShare_carried (p : Port) (f : Share → Share) : (s.modShare p f).carried = s.carried := (rfl)
@[simp] theorem State.modSeq_carried (f : Seq → Seq) : (s.modSeq f).carried = s.carried := (rfl)
@[simp] theorem State.modFlags_carried (f : LawFlags → LawFlags) : (s.modFlags f).carried = s.carried := (rfl)
@[simp] theorem State.modRide_carried (f : Ride → Ride) : (s.modRide f).carried = s.carried := (rfl)
@[simp] theorem State.modShoal_carried (i : Shoal) (f : ShoalSt → ShoalSt) : (s.modShoal i f).carried = s.carried := (rfl)
@[simp] theorem State.modUl_carried (l : Link) (f : UlLink → UlLink) : (s.modUl l f).carried = s.carried := (rfl)
@[simp] theorem State.modDec_carried (l : Link) (f : DecLink → DecLink) : (s.modDec l f).carried = s.carried := (rfl)
@[simp] theorem State.modShore_carried (f : Shore → Shore) : (s.modShore f).carried = s.carried := (rfl)
@[simp] theorem State.modLookout_carried (f : Lookout → Lookout) : (s.modLookout f).carried = s.carried := (rfl)
@[simp] theorem State.modHeart_carried (f : Heartwood → Heartwood) : (s.modHeart f).carried = s.carried := (rfl)
@[simp] theorem State.modClocks_carried (f : Clocks → Clocks) : (s.modClocks f).carried = s.carried := (rfl)
@[simp] theorem State.modMeter_carried (f : Meter → Meter) : (s.modMeter f).carried = s.carried := (rfl)
@[simp] theorem State.modBw_carried (f : Breakwater → Breakwater) (h : ∀ b, (f b).lockout = b.lockout) :
    (s.modBw f).carried = s.carried := by
  simp only [State.carried, State.modBw, h]
@[simp] theorem Breakwater.driveOuts_lockout (b : Breakwater) : b.driveOuts.lockout = b.lockout := (rfl)
@[simp] theorem Breakwater.applyMessages_lockout (b : Breakwater) : b.applyMessages.lockout = b.lockout := (rfl)
@[simp] theorem Breakwater.startTimes_lockout (b : Breakwater) (now : Nat) : (b.startTimes now).lockout = b.lockout := (rfl)
@[simp] theorem State.modBwPort_carried (l : Link) (f : BwPort → BwPort) : (s.modBwPort l f).carried = s.carried := (rfl)

end

section
variable {s : State} {a₀ : Carried} (h : Carries a₀ s.carried)
include h

theorem State.modPwm_carries_at {p : Port} {f : Pwm → Pwm} (hf : FitsTo s.pwm[p].legs (f s.pwm[p]).legs) :
    Carries a₀ (s.modPwm p f).carried := by
  refine h.trans ⟨rfl, rfl, fun (hs : ∀ (p : Port) (i : Leg), s.pwm[p].legs[i].fits = true) q => ?_, id, id⟩
  change ∀ i : Leg, (vmod s.pwm p f)[q].legs[i].fits = true
  by_cases hq : p = q
  · subst hq
    simpa using hf (hs p)
  · simpa [vmod_other _ _ _ _ hq] using hs q

theorem State.modSk_carries_at {l : Link} {f : Skerry → Skerry} (hf : ApartTo s.sk[l].gates (f s.sk[l]).gates) :
    Carries a₀ (s.modSk l f).carried := by
  refine h.trans ⟨rfl, rfl, id,
    fun (hs : ∀ (l : Link) (i : Leg), (s.sk[l].gates[gateH i].on && s.sk[l].gates[gateL i].on) = false) j => ?_, id⟩
  change ∀ i : Leg, ((vmod s.sk l f)[j].gates[gateH i].on && (vmod s.sk l f)[j].gates[gateL i].on) = false
  by_cases hj : l = j
  · subst hj
    simpa using hf (hs l)
  · simpa [vmod_other _ _ _ _ hj] using hs j

@[simp] theorem State.modPwm_carries (p : Port) (f : Pwm → Pwm) (hf : ∀ w, FitsTo w.legs (f w).legs) :
    Carries a₀ (s.modPwm p f).carried := State.modPwm_carries_at h (hf _)
@[simp] theorem State.modSk_carries (l : Link) (f : Skerry → Skerry) (hf : ∀ x, ApartTo x.gates (f x).gates) :
    Carries a₀ (s.modSk l f).carried := State.modSk_carries_at h (hf _)
@[simp] theorem State.modBw_carries (f : Breakwater → Breakwater) (hf : ∀ b, b.lockout = true → (f b).lockout = true) :
    Carries a₀ (s.modBw f).carried := h.trans ⟨rfl, rfl, id, id, hf _⟩

end

/-- A change of one leg, or of every leg, that reaches neither its gates nor its phase. -/
@[simp] theorem FitsTo.vmod_same {a : Vector Gen 4} (k : Leg) (f : Gen → Gen) (hh : ∀ g : Gen, (f g).h = g.h) (hl : ∀ g : Gen, (f g).l = g.l)
    (hp : ∀ g : Gen, (f g).phase = g.phase) : FitsTo a (vmod a k f) := .vset ((Gen.fits_congr (hh _) (hl _) (hp _)).trans ·)
@[simp] theorem FitsTo.map_same {a : Vector Gen 4} (f : Gen → Gen) (hh : ∀ g : Gen, (f g).h = g.h) (hl : ∀ g : Gen, (f g).l = g.l)
    (hp : ∀ g : Gen, (f g).phase = g.phase) : FitsTo a (a.map f) := .map fun g h => (Gen.fits_congr (hh g) (hl g) (hp g)).trans h
@[simp] theorem FitsTo.ite {c : Prop} [Decidable c] {a : Vector Gen 4} {x y : Pwm} (hx : FitsTo a x.legs) (hy : FitsTo a y.legs) :
    FitsTo a (if c then x else y).legs := by
  split
  · exact hx
  · exact hy

/-- A state written out, field by field. -/
@[simp] theorem State.mk_carried (pending clk firm mirrored hl shoals pwm sk ul dec bw shore lookout heart clocks meter bootAt rs mirror ack
    resetKind bootHeld cycle freeCount) :
    (State.mk pending clk firm mirrored hl shoals pwm sk ul dec bw shore lookout heart clocks meter bootAt rs mirror ack resetKind bootHeld
      cycle freeCount).carried = ⟨pending, clk.now, pwm, sk, bw.lockout⟩ := (rfl)
@[simp] theorem State.carried_eta (s : State) : (⟨s.pending, s.clk.now, s.pwm, s.sk, s.bw.lockout⟩ : Carried) = s.carried := (rfl)

/-! ### Branches and folds -/

@[simp] theorem State.ite_carried (c : Prop) [Decidable c] (a b : State) :
    (if c then a else b).carried = if c then a.carried else b.carried := apply_ite State.carried c a b
@[simp] theorem State.dite_carried (c : Prop) [Decidable c] (a : c → State) (b : ¬c → State) :
    (if h : c then a h else b h).carried = if h : c then (a h).carried else (b h).carried := apply_dite State.carried c a b
@[simp] theorem carries_ite (a₀ : Carried) (c : Prop) [Decidable c] (a b : Carried) :
    Carries a₀ (if c then a else b) ↔ if c then Carries a₀ a else Carries a₀ b := by split <;> rfl

@[simp] theorem foldl_carried {α : Type} (f : State → α → State) (l : List α) (s : State) (h : ∀ t x, (f t x).carried = t.carried) :
    (l.foldl f s).carried = s.carried := foldl_view h l s

theorem foldl_fst_carried {α β : Type} (f : State × β → α → State × β) (l : List α) (s : State × β)
    (h : ∀ t x, (f t x).1.carried = t.1.carried) : (l.foldl f s).1.carried = s.1.carried :=
  foldl_view (v := fun t => t.1.carried) h l s

@[simp] theorem foldl_carries {α : Type} {a₀ : Carried} (f : State → α → State) (l : List α) {s : State} (hs : Carries a₀ s.carried)
    (h : ∀ t x, Carries t.carried (f t x).carried) : Carries a₀ (l.foldl f s).carried := by
  induction l generalizing s with
  | nil => exact hs
  | cons x xs ih => exact ih (hs.trans (h s x))
theorem foldl_fst_carries {α β : Type} {a₀ : Carried} (f : State × β → α → State × β) (l : List α) {s : State × β} (hs : Carries a₀ s.1.carried)
    (h : ∀ t x, Carries t.1.carried (f t x).1.carried) : Carries a₀ (l.foldl f s).1.carried := by
  induction l generalizing s with
  | nil => exact hs
  | cons x xs ih => exact ih (hs.trans (h s x))

section
variable (s : State)

@[simp] theorem State.eachPort_carried (f) (h : ∀ t x, (f t x).carried = t.carried) : (s.eachPort f).carried = s.carried :=
  foldl_carried _ _ _ h
@[simp] theorem State.eachOf_carried (i f) (h : ∀ t x, (f t x).carried = t.carried) : (s.eachOf i f).carried = s.carried :=
  foldl_carried _ _ _ fun t _ => h t _
@[simp] theorem State.eachPort_carries {s : State} {a₀ : Carried} (hs : Carries a₀ s.carried) (f)
    (h : ∀ t x, Carries t.carried (f t x).carried) : Carries a₀ (s.eachPort f).carried := foldl_carries _ _ hs h
@[simp] theorem State.eachOf_carries {s : State} {a₀ : Carried} (hs : Carries a₀ s.carried) (i f)
    (h : ∀ t x, Carries t.carried (f t x).carried) : Carries a₀ (s.eachOf i f).carried := foldl_carries _ _ hs fun t _ => h t _

/-! ### Replies and the execution of a host command -/

@[simp] theorem State.begin_carried (op r) : (s.begin_ op r).1.carried = s.carried := by
  obtain ⟨f, h⟩ := s.begin_modHost op r
  rw [h]
  rfl
@[simp] theorem State.send_carried (n o) : (s.send n o).carried = s.carried := (rfl)
@[simp] theorem State.prpNext_carried : s.prpNext.carried = s.carried := State.prpNext_keeps (g := State.carried) (by simp) s
@[simp] theorem State.deliver_carried (req txn r) : (s.deliver req txn r).carried = s.carried :=
  State.deliver_keeps (g := State.carried) (by simp) (by simp) s req txn r
@[simp] theorem State.reply_carried (it status payload) : (s.reply it status payload).carried = s.carried :=
  State.reply_keeps (g := State.carried) (by simp) (by simp) s it status payload
@[simp] theorem State.noteLatency_carried (it) : (s.noteLatency it).carried = s.carried := by simp [State.noteLatency]
@[simp] theorem State.refuseEarly_carried (op r st) : (s.refuseEarly op r st).carried = s.carried := by simp [State.refuseEarly]
@[simp] theorem Ans.finish_carried (a : Ans) (it : QItem) : (a.finish it).carried = a.st.carried := by simp [Ans.finish]

@[simp] theorem State.check_carried (rs f) (h : (f s).st.carried = s.carried) : (s.check rs f).st.carried = s.carried := by
  unfold State.check
  split
  · rfl
  · exact h
@[simp] theorem State.check_carries {s : State} {a₀ : Carried} (hs : Carries a₀ s.carried) (rs f) (h : Carries a₀ (f s).st.carried) :
    Carries a₀ (s.check rs f).st.carried := by
  unfold State.check
  split
  · exact hs
  · exact h

/-- A host command carries over what its own effect does: taking the request and forming the reply reach nothing of it. -/
@[simp] theorem State.hostItem_carries {s : State} {a₀ : Carried} (hs : Carries a₀ s.carried) (op r t f)
    (h : ∀ it u, Carries u.carried (f it u).st.carried) : Carries a₀ (s.hostItem op r t f).carried := by
  simp only [State.hostItem]
  split
  · exact hs
  · split
    · simpa using hs
    · have hb : Carries a₀ (s.begin_ op r).1.carried := by simpa using hs
      split
      · simpa using hb
      · simpa using hb.trans (h _ _)
@[simp] theorem State.host_carries {s : State} {a₀ : Carried} (hs : Carries a₀ s.carried) (op r t f)
    (h : ∀ u, Carries u.carried (f u).st.carried) : Carries a₀ (s.host op r t f).carried := State.hostItem_carries hs op r t _ fun _ => h

/-- A command answers a next state, and that state carries over a view. -/
def CarriesOn (a₀ : Carried) (r : Res) : Prop := ∃ t, r = .next t ∧ Carries a₀ t.carried

theorem CarriesOn.carries {a₀ : Carried} {r : Res} {t : State} (h : CarriesOn a₀ r) (ht : r = .next t) : Carries a₀ t.carried := by
  obtain ⟨u, hu, hcarries⟩ := h
  exact Host.Outcome.next.inj (hu.symm.trans ht) ▸ hcarries

@[simp] theorem carriesOn_next (a₀ : Carried) (t : State) : CarriesOn a₀ (.next t) ↔ Carries a₀ t.carried :=
  ⟨fun h => h.carries rfl, fun h => ⟨t, rfl, h⟩⟩
@[simp] theorem carriesOn_ite (a₀ : Carried) (c : Prop) [Decidable c] (a b : Res) :
    CarriesOn a₀ (if c then a else b) ↔ if c then CarriesOn a₀ a else CarriesOn a₀ b := by split <;> rfl

/-! ### Shared operations: events, trips, device state -/

@[simp] theorem State.raiseTick_carried (tick e) : (s.raiseTick tick e).carried = s.carried := by simp [State.raiseTick]
@[simp] theorem State.raiseAs_carried (e) : (s.raiseAs e).carried = s.carried := by simp [State.raiseAs]
@[simp] theorem State.raise_carried (code source arg0 arg1 data) : (s.raise code source arg0 arg1 data).carried = s.carried := by
  simp [State.raise]
@[simp] theorem State.noteStores_carried (q15s q31s) : (s.noteStores q15s q31s).carried = s.carried := by simp [State.noteStores]
@[simp] theorem State.traceSource_carried (trig arg) : (s.traceSource trig arg).carried = s.carried := by simp [State.traceSource]
@[simp] theorem State.tripPort_carries {s : State} {a₀ : Carried} (h : Carries a₀ s.carried) (p t) : Carries a₀ (s.tripPort p t).carried := by simp [State.tripPort, h]
@[simp] theorem State.tripAdmitted_carries {s : State} {a₀ : Carried} (h : Carries a₀ s.carried) (t) : Carries a₀ (s.tripAdmitted t).carried := by simp [State.tripAdmitted, h]
@[simp] theorem State.abortBlackStart_carried (cause) : (s.abortBlackStart cause).carried = s.carried := by simp [State.abortBlackStart]
@[simp] theorem State.gatesOut_carried : s.gatesOut.carried = s.carried := by simp [State.gatesOut]
@[simp] theorem State.endFault_carried : s.endFault.carried = s.carried := by simp [State.endFault]
@[simp] theorem State.leaveLive_carried : s.leaveLive.carried = s.carried := by simp [State.leaveLive]
@[simp] theorem State.setDev_carried (new cause) : (s.setDev new cause).carried = s.carried := by
  unfold State.setDev
  (repeat' split) <;> simp
@[simp] theorem State.moduleTrip_carries {s : State} {a₀ : Carried} (h : Carries a₀ s.carried) (t cause) : Carries a₀ (s.moduleTrip t cause).carried := by simp [State.moduleTrip, h]
@[simp] theorem State.settle_carried : s.settle.carried = s.carried := by
  unfold State.settle
  split <;> simp
@[simp] theorem State.settleTripped_carried : s.settleTripped.carried = s.carried := by
  unfold State.settleTripped
  split <;> simp
@[simp] theorem State.dropSnaps_carried (base size) : (s.dropSnaps base size).carried = s.carried := by simp [State.dropSnaps]
@[simp] theorem State.failHeadland_carried (h) : (s.failHeadland h).carried = s.carried := by simp [State.failHeadland]

/-! ### Decimators and auxiliary converter -/

@[simp] theorem State.applyDec_carried : s.applyDec.carried = s.carried := by simp [State.applyDec]
@[simp] theorem State.feedLink_carried (l bytes bad) : (s.feedLink l bytes bad).carried = s.carried := by simp [State.feedLink]
@[simp] theorem State.ntcStep_carried (p) : (s.ntcStep p).carried = s.carried := by
  simp only [State.ntcStep]
  split <;> simp

/-! ### Clock loops and check-value units -/

@[simp] theorem State.regionSafe_carries {s : State} {a₀ : Carried} (h : Carries a₀ s.carried) (k) : Carries a₀ (s.regionSafe k).carried :=
  State.eachOf_carries (by simpa using h) _ _ fun t p => by simp
@[simp] theorem State.stopRegion_carries {s : State} {a₀ : Carried} (h : Carries a₀ s.carried) (k) : Carries a₀ (s.stopRegion k).carried := by simp [State.stopRegion, h]
@[simp] theorem State.stopAll_carries {s : State} {a₀ : Carried} (h : Carries a₀ s.carried) : Carries a₀ s.stopAll.carried := by simp [State.stopAll, h]
@[simp] theorem State.seedLoops_carried : s.seedLoops.carried = s.carried := by simp [State.seedLoops]
@[simp] theorem State.toBypass_carries {s : State} {a₀ : Carried} (h : Carries a₀ s.carried) (d cause) : Carries a₀ (s.toBypass d cause).carried := by
  simp only [State.toBypass]
  split <;> simp [h]
@[simp] theorem execPllLossOfLock_carriesOn (die) : CarriesOn s.carried (execPllLossOfLock die s) := by simp [execPllLossOfLock]
@[simp] theorem execReferenceLoss_carriesOn : CarriesOn s.carried (execReferenceLoss s) := by simp [execReferenceLoss]
@[simp] theorem execReferenceReturn_carriesOn : CarriesOn s.carried (execReferenceReturn s) := by simp [execReferenceReturn]
@[simp] theorem execPllRelock_carriesOn (die phaseErr) : CarriesOn s.carried (execPllRelock die phaseErr s) := by
  unfold execPllRelock
  split <;> simp
@[simp] theorem execCrcSnoopFrame_carriesOn (u bytes) : CarriesOn s.carried (execCrcSnoopFrame u bytes s) := by simp [execCrcSnoopFrame]
@[simp] theorem execCrcRegionPass_carriesOn (u bytes) : CarriesOn s.carried (execCrcRegionPass u bytes s) := by simp [execCrcRegionPass]

/-! ### Pulse generators -/

@[simp] theorem State.dutyEntry_carries {s : State} {a₀ : Carried} (h : Carries a₀ s.carried) (p d tag) : Carries a₀ (s.dutyEntry p d tag).carried := by simp [State.dutyEntry, h]
@[simp] theorem State.holdBoundary_carries {s : State} {a₀ : Carried} (h : Carries a₀ s.carried) (k) : Carries a₀ (s.holdBoundary k).carried := by simp [State.holdBoundary, h]
@[simp] theorem State.safeRegionOver_carried (k) : (s.safeRegionOver k).carried = s.carried := by simp [State.safeRegionOver]
@[simp] theorem execPwmEdge_carriesOn (p k rise) : CarriesOn s.carried (execPwmEdge p k rise s) := by simp [execPwmEdge]
@[simp] theorem execGateTurnOnDelay_carriesOn (p k high) : CarriesOn s.carried (execGateTurnOnDelay p k high s) := by simp [execGateTurnOnDelay]
@[simp] theorem execBsRefresh_carriesOn (p k) : CarriesOn s.carried (execBsRefresh p k s) := by simp [execBsRefresh]
@[simp] theorem execBsPulseEnd_carriesOn (p k) : CarriesOn s.carried (execBsPulseEnd p k s) := by simp [execBsPulseEnd]
@[simp] theorem execGateOffDemand_carriesOn (p k src) : CarriesOn s.carried (execGateOffDemand p k src s) := by
  unfold execGateOffDemand
  split <;> simp
@[simp] theorem execDlUnlock_carriesOn (k) : CarriesOn s.carried (execDlUnlock k s) := by
  simp only [execDlUnlock, carriesOn_next]
  split
  · rw [State.raise_carried]
    exact State.eachOf_carries (by simp) _ _ fun t p => by simp
  · simp
@[simp] theorem execDlLock_carriesOn (k code) : CarriesOn s.carried (execDlLock k code s) := by simp [execDlLock]

/-! ### The tick -/

/-- A tick moves the timebase alone of what is carried over, and the counts of the generators (R50, R184). -/
theorem State.tick_carries : Carries { s.carried with now := s.clk.now + 1 } s.tick.carried := by
  have hnow (awake : Bool) : (s.clk.tick awake).now = s.clk.now + 1 := by
    unfold Clk.tick
    dsimp only
    (repeat' split) <;> rfl
  unfold State.tick
  dsimp only
  split
  · exact ⟨rfl, hnow _, id, id, id⟩
  · split
    · exact ⟨rfl, hnow _, id, id, id⟩
    · exact ⟨rfl, hnow _, fun (hs : ∀ (p : Port) (i : Leg), s.pwm[p].legs[i].fits = true) p i => by simpa using hs p i, id, id⟩
/-! ### Command-link frames and the tide table -/

@[simp] theorem State.reportHold_carries {s : State} {a₀ : Carried} (h : Carries a₀ s.carried) (k) : Carries a₀ (s.reportHold k).carried := by simp [State.reportHold, h]
@[simp] theorem State.framePort_carries {s : State} {a₀ : Carried} (h : Carries a₀ s.carried) (p c) : Carries a₀ (s.framePort p c).carried := by
  have htrip : Carries a₀ (if c.trip then s.modPwm p fun w => w.tripNow s.clk.now else s).carried := by simp [h]
  unfold State.framePort
  dsimp only
  split
  · exact State.modPwm_carries (State.dutyEntry_carries htrip _ _ _) _ _ (by simp)
  · exact State.modPwm_carries htrip _ _ (by simp)
@[simp] theorem State.frameSent_carried (k) : (s.frameSent k).carried = s.carried := by simp [State.frameSent]
@[simp] theorem State.takeFrame_carries {s : State} {a₀ : Carried} (h : Carries a₀ s.carried) (k) : Carries a₀ (s.takeFrame k).carried := by
  refine State.reportHold_carries (foldl_carries _ _ ?_ fun t j => by simp) k
  simp [h]
@[simp] theorem execCommandLinkFrame_carriesOn (k sender crcOk) : CarriesOn s.carried (execCommandLinkFrame k sender crcOk s) := by
  simp [execCommandLinkFrame]
@[simp] theorem State.moveBlocks_carries {s : State} {a₀ : Carried} (h : Carries a₀ s.carried) (old k) : Carries a₀ (s.moveBlocks old k).carried := by
  unfold State.moveBlocks
  exact State.eachOf_carries (by simpa using h) _ _ fun t p => State.modPwm_carries (.refl _) _ _ fun w => .refl _
@[simp] theorem State.holderTune_carried : s.holderTune.carried = s.carried := by
  unfold State.holderTune
  split <;> simp
@[simp] theorem State.applyReplicas_carried : s.applyReplicas.carried = s.carried := by simp [State.applyReplicas]
@[simp] theorem State.tideEffect_carried (k c e) : (s.tideEffect k c e).carried = s.carried := by simp [State.tideEffect]
@[simp] theorem State.reportAnchor_carries {s : State} {a₀ : Carried} (h : Carries a₀ s.carried) (k d) : Carries a₀ (s.reportAnchor k d).carried := by simp [State.reportAnchor, h]
@[simp] theorem State.applyShoal_carries {s : State} {a₀ : Carried} (h : Carries a₀ s.carried) (k) : Carries a₀ (s.applyShoal k).carried := by
  unfold State.applyShoal
  dsimp only
  split
  · simpa using h
  · rw [foldl_carried _ _ _ fun t x => State.tideEffect_carried .., State.modShoal_carried, State.ite_carried, State.modPair_carried, ite_self]
    exact State.reportAnchor_carries (by rw [State.modClocks_carried]; exact State.moveBlocks_carries (by simpa using h) _ _) _ _
@[simp] theorem State.applyTick_carries {s : State} {a₀ : Carried} (h : Carries a₀ s.carried) (k) : Carries a₀ (s.applyTick k).carried := by
  simp [State.applyTick, h]
@[simp] theorem State.tideSample_carried (k port) : (s.tideSample k port).carried = s.carried := by simp [State.tideSample]
@[simp] theorem State.tideAct_carried (e x old) : (s.tideAct e x old).carried = s.carried := by simp [State.tideAct]
@[simp] theorem execTideCrossing_carriesOn (e) : CarriesOn s.carried (execTideCrossing e s) := by simp [execTideCrossing]
@[simp] theorem execTideGateArm_carriesOn (e) : CarriesOn s.carried (execTideGateArm e s) := by simp [execTideGateArm]

/-! ### PTP, networks, peers -/

@[simp] theorem State.ptpSelect_carried (f) : (s.ptpSelect f).carried = s.carried := by simp [State.ptpSelect]
@[simp] theorem execPtpSync_carriesOn (net offset meanDelay) : CarriesOn s.carried (execPtpSync net offset meanDelay s) := by
  simp [execPtpSync]
  (repeat' split) <;> simp
@[simp] theorem execPtpAnnounce_carriesOn (net d) : CarriesOn s.carried (execPtpAnnounce net d s) := by simp [execPtpAnnounce]
@[simp] theorem execPtpAnnounceTimeout_carriesOn : CarriesOn s.carried (execPtpAnnounceTimeout s) := by simp [execPtpAnnounceTimeout]
@[simp] theorem execPtpHoldoverExpire_carriesOn : CarriesOn s.carried (execPtpHoldoverExpire s) := by simp [execPtpHoldoverExpire]
@[simp] theorem execPtpMessageSend_carriesOn (net m) : CarriesOn s.carried (execPtpMessageSend net m s) := by simp [execPtpMessageSend]
@[simp] theorem execSyntStep_carriesOn : CarriesOn s.carried (execSyntStep s) := by simp [execSyntStep]
@[simp] theorem execNetLinkUp_carriesOn (net) : CarriesOn s.carried (execNetLinkUp net s) := by simp [execNetLinkUp]
@[simp] theorem execNetLinkDown_carriesOn (net) : CarriesOn s.carried (execNetLinkDown net s) := by simp [execNetLinkDown]
@[simp] theorem State.ipFrame_carried (net bs) : (s.ipFrame net bs).1.carried = s.carried := by simp [State.ipFrame]
@[simp] theorem State.claimFrame_carried (net bs) : (s.claimFrame net bs).1.carried = s.carried := by simp [State.claimFrame]
@[simp] theorem State.onNetPort_carried (net f) : (s.onNetPort net f).carried = s.carried := by simp [State.onNetPort]
@[simp] theorem execEthernetFrameReceive_carriesOn (net bytes fcsOk room) : CarriesOn s.carried (execEthernetFrameReceive net bytes fcsOk room s) := by
  simp [execEthernetFrameReceive]
@[simp] theorem execUdpReassemblyTimeout_carriesOn (net src ident) : CarriesOn s.carried (execUdpReassemblyTimeout net src ident s) := by
  simp [execUdpReassemblyTimeout]
@[simp] theorem execNetLaunch_carriesOn (net handle busy) : CarriesOn s.carried (execNetLaunch net handle busy s) := by
  unfold execNetLaunch
  split <;> simp
@[simp] theorem execNetTxComplete_carriesOn (net handle) : CarriesOn s.carried (execNetTxComplete net handle s) := by
  unfold execNetTxComplete
  split <;> simp
@[simp] theorem execNetLateDrop_carriesOn (net handle) : CarriesOn s.carried (execNetLateDrop net handle s) := by
  unfold execNetLateDrop
  split <;> simp
@[simp] theorem execPeerAnnounceSend_carriesOn : CarriesOn s.carried (execPeerAnnounceSend s) := by simp [execPeerAnnounceSend]
@[simp] theorem State.peerAbort_carried : s.peerAbort.carried = s.carried := by
  unfold State.peerAbort
  split <;> simp
@[simp] theorem State.reportDiffs_carried (unit p ch) : (s.reportDiffs unit p ch).carried = s.carried := by simp [State.reportDiffs]
@[simp] theorem execPeerAnnouncement_carriesOn (net payload) : CarriesOn s.carried (execPeerAnnouncement net payload s) := by
  simp only [execPeerAnnouncement]
  (repeat' split) <;> simp
@[simp] theorem execPeerLost_carriesOn (unit) : CarriesOn s.carried (execPeerLost unit s) := by simp [execPeerLost]

/-! ### Acceptance of requests -/

@[simp] theorem State.enqueue_carried (op req flags) : (s.enqueue op req flags).carried = s.carried := by
  unfold State.enqueue
  split <;> simp
@[simp] theorem State.hostHeard_carried : s.hostHeard.carried = s.carried := by simp [State.hostHeard]
@[simp] theorem State.acceptGood_carried (op req flags) : (s.acceptGood op req flags).carried = s.carried := by
  simp only [State.acceptGood]
  (repeat' split) <;> simp
@[simp] theorem State.accept_carried (key net b) : (s.accept key net b).1.carried = s.carried := by simp [State.accept]
@[simp] theorem execSpiCsFall_carriesOn : CarriesOn s.carried (execSpiCsFall s) := by simp [execSpiCsFall]
@[simp] theorem execSpiCsRise_carriesOn (clocked unfinished) : CarriesOn s.carried (execSpiCsRise clocked unfinished s) := by simp [execSpiCsRise]
@[simp] theorem execSpiRequest_carriesOn (bytes) : CarriesOn s.carried (execSpiRequest bytes s) := by simp [execSpiRequest]
@[simp] theorem execUdpDatagram_carriesOn (net ip port bytes checksumOk) : CarriesOn s.carried (execUdpDatagram net ip port bytes checksumOk s) := by
  simp [execUdpDatagram]

/-! ### Events of the auxiliary converter -/

@[simp] theorem execAdcTimer_carriesOn : CarriesOn s.carried (execAdcTimer s) := by simp [execAdcTimer]
@[simp] theorem execAdcSeqStart_carriesOn : CarriesOn s.carried (execAdcSeqStart s) := by simp [execAdcSeqStart]
@[simp] theorem execAdcEntryDone_carriesOn (codes) : CarriesOn s.carried (execAdcEntryDone codes s) := by simp [execAdcEntryDone]
@[simp] theorem execAdcUrgentDone_carriesOn (codes) : CarriesOn s.carried (execAdcUrgentDone codes s) := by
  unfold execAdcUrgentDone
  split <;> simp
@[simp] theorem adcUrgentAns_carried (b it) : (adcUrgentAns b it s).st.carried = s.carried := State.check_carried _ _ _ rfl
@[simp] theorem execAdcUrgent_carriesOn (r) : CarriesOn s.carried (execAdcUrgent r s) := by simp [execAdcUrgent]
@[simp] theorem execAdcStart_carriesOn (r) : CarriesOn s.carried (execAdcStart r s) := by simp [execAdcStart, adcStartAns]
@[simp] theorem execAdcParamApply_carriesOn : CarriesOn s.carried (execAdcParamApply s) := by simp [execAdcParamApply]

/-! ### Strandline -/

@[simp] theorem State.capTrigger_carried : s.capTrigger.carried = s.carried := by
  simp only [State.capTrigger]
  split <;> simp
@[simp] theorem execCapTriggerFire_carriesOn : CarriesOn s.carried (execCapTriggerFire s) := by simp [execCapTriggerFire]
@[simp] theorem execCapSampleInstant_carriesOn : CarriesOn s.carried (execCapSampleInstant s) := by simp [execCapSampleInstant]
@[simp] theorem execCapMaskHit_carriesOn (m) : CarriesOn s.carried (execCapMaskHit m s) := by
  simp only [execCapMaskHit]
  split <;> simp
@[simp] theorem State.capFinish_carried : s.capFinish.carried = s.carried := by simp [State.capFinish]
@[simp] theorem execCapDone_carriesOn : CarriesOn s.carried (execCapDone s) := by simp [execCapDone]
@[simp] theorem execCapRearm_carriesOn : CarriesOn s.carried (execCapRearm s) := by simp [execCapRearm]
@[simp] theorem execStreamDatagram_carriesOn : CarriesOn s.carried (execStreamDatagram s) := by
  simp only [execStreamDatagram]
  split <;> simp
@[simp] theorem State.modCapCfg_carried (f) : (s.modCapCfg f).carried = s.carried := by simp [State.modCapCfg]
@[simp] theorem capMaskLoadAns_carried (b) : (capMaskLoadAns b s).st.carried = s.carried := by
  unfold capMaskLoadAns
  dsimp only
  (repeat' split) <;> rfl
@[simp] theorem execCapConfig_carriesOn (r) : CarriesOn s.carried (execCapConfig r s) := by simp [execCapConfig, capConfigAns]
@[simp] theorem execCapTrigger_carriesOn (r) : CarriesOn s.carried (execCapTrigger r s) := by simp [execCapTrigger, capTriggerAns]
@[simp] theorem execCapMaskLoad_carriesOn (r) : CarriesOn s.carried (execCapMaskLoad r s) := by simp [execCapMaskLoad]
@[simp] theorem execCapArm_carriesOn (r) : CarriesOn s.carried (execCapArm r s) := by simp [execCapArm, capArmAns]
@[simp] theorem execCapForce_carriesOn (r) : CarriesOn s.carried (execCapForce r s) := by simp [execCapForce, capForceAns]
@[simp] theorem execCapStatus_carriesOn (r) : CarriesOn s.carried (execCapStatus r s) := by simp [execCapStatus, capStatusAns]
@[simp] theorem execCapRead_carriesOn (r) : CarriesOn s.carried (execCapRead r s) := by simp [execCapRead, capReadAns]
@[simp] theorem execCapMeasRead_carriesOn (r) : CarriesOn s.carried (execCapMeasRead r s) := by simp [execCapMeasRead, capMeasReadAns]
@[simp] theorem execCapStream_carriesOn (r) : CarriesOn s.carried (execCapStream r s) := by simp [execCapStream, capStreamAns]

/-! ### Shore, Lookout, Heartwood -/

@[simp] theorem State.shoreLine_carried : s.shoreLine.carried = s.carried := by simp [State.shoreLine]
@[simp] theorem State.tideField_carried (n v at_ entry) : (s.tideField n v at_ entry).carried = s.carried := by simp [State.tideField]
@[simp] theorem execFieldOverload_carriesOn (n) : CarriesOn s.carried (execFieldOverload n s) := by simp [execFieldOverload]
@[simp] theorem State.explainSuspects_carried (n readback) : (s.explainSuspects n readback).carried = s.carried := by simp [State.explainSuspects]
@[simp] theorem execFieldTestPulse_carriesOn (n readback abandoned) : CarriesOn s.carried (execFieldTestPulse n readback abandoned s) := by
  simp [execFieldTestPulse]
@[simp] theorem execFieldSuspect_carriesOn (n) : CarriesOn s.carried (execFieldSuspect n s) := by simp [execFieldSuspect]
@[simp] theorem execFieldStuckOn_carriesOn (n) : CarriesOn s.carried (execFieldStuckOn n s) := by simp [execFieldStuckOn]
@[simp] theorem execFieldStuckClear_carriesOn (n) : CarriesOn s.carried (execFieldStuckClear n s) := by simp [execFieldStuckClear]
@[simp] theorem execFieldSag_carriesOn (vfield) : CarriesOn s.carried (execFieldSag vfield s) := by simp [execFieldSag]
@[simp] theorem execFieldRestored_carriesOn (vfield) : CarriesOn s.carried (execFieldRestored vfield s) := by simp [execFieldRestored]
@[simp] theorem execFieldSidePowerUp_carriesOn (vfield) : CarriesOn s.carried (execFieldSidePowerUp vfield s) := by simp [execFieldSidePowerUp]
@[simp] theorem execShoreSilence_carriesOn : CarriesOn s.carried (execShoreSilence s) := by simp [execShoreSilence]
@[simp] theorem execHostSilence_carriesOn : CarriesOn s.carried (execHostSilence s) := by simp [execHostSilence]
@[simp] theorem execCounterEdge_carriesOn (n) : CarriesOn s.carried (execCounterEdge n s) := by simp [execCounterEdge]
@[simp] theorem execFieldInputChange_carriesOn (n level) : CarriesOn s.carried (execFieldInputChange n level s) := by simp [execFieldInputChange]
@[simp] theorem execPanelTouch_carriesOn (k) : CarriesOn s.carried (execPanelTouch k s) := by simp [execPanelTouch]
@[simp] theorem execPadHoldTimeout_carriesOn (k) : CarriesOn s.carried (execPadHoldTimeout k s) := by simp [execPadHoldTimeout]
@[simp] theorem execPadRelease_carriesOn (k) : CarriesOn s.carried (execPadRelease k s) := by simp [execPadRelease]
@[simp] theorem execWakeRuleFire_carriesOn (r) : CarriesOn s.carried (execWakeRuleFire r s) := by
  unfold execWakeRuleFire
  split <;> simp
@[simp] theorem execWakeNLow_carriesOn : CarriesOn s.carried (execWakeNLow s) := by simp [execWakeNLow]
@[simp] theorem State.setBudget_carried (vsup tbase) : (s.setBudget vsup tbase).carried = s.carried := by simp [State.setBudget]
@[simp] theorem execGateBudgetUpdate_carriesOn (vsup tbase) : CarriesOn s.carried (execGateBudgetUpdate vsup tbase s) := by
  simp [execGateBudgetUpdate]
@[simp] theorem State.heartEvent_carried (code a0) : (s.heartEvent code a0).carried = s.carried := by simp [State.heartEvent]
@[simp] theorem execVsupLow_carriesOn (vsup) : CarriesOn s.carried (execVsupLow vsup s) := by simp [execVsupLow]
@[simp] theorem execVsupOk_carriesOn (vsup) : CarriesOn s.carried (execVsupOk vsup s) := by simp [execVsupOk]
@[simp] theorem execIinLimit_carriesOn (iin) : CarriesOn s.carried (execIinLimit iin s) := by simp [execIinLimit]
@[simp] theorem execIinLimitRelease_carriesOn (iin) : CarriesOn s.carried (execIinLimitRelease iin s) := by simp [execIinLimitRelease]
@[simp] theorem execIslandSupplyFault_carriesOn (l) : CarriesOn s.carried (execIslandSupplyFault l s) := by simp [execIslandSupplyFault]
@[simp] theorem execIslandSupplyRetry_carriesOn (l) : CarriesOn s.carried (execIslandSupplyRetry l s) := by simp [execIslandSupplyRetry]
@[simp] theorem execIslandPowerGood_carriesOn (l) : CarriesOn s.carried (execIslandPowerGood l s) := by simp [execIslandPowerGood]
@[simp] theorem execIslandPowerFail_carriesOn (l) : CarriesOn s.carried (execIslandPowerFail l s) := by simp [execIslandPowerFail]

/-! ### The parameter set -/

@[simp] theorem State.rehash_carried : s.rehash.carried = s.carried := by simp [State.rehash]

/-! ### Breakwater: faults and lock-out -/

@[simp] theorem State.lockOut_carries {s : State} {a₀ : Carried} (h : Carries a₀ s.carried) (cause) : Carries a₀ (s.lockOut cause).carried := by
  unfold State.lockOut
  split <;> simp [h]
@[simp] theorem State.safetyFault_carried (code source) : (s.safetyFault code source).carried = s.carried := by simp [State.safetyFault]
@[simp] theorem State.moduleFault_carries {s : State} {a₀ : Carried} (h : Carries a₀ s.carried) (code source) : Carries a₀ (s.moduleFault code source).carried := by simp [State.moduleFault, h]
@[simp] theorem State.latchLimits_carries {s : State} {a₀ : Carried} (h : Carries a₀ s.carried) (p) : Carries a₀ (s.latchLimits p).carried := by
  refine foldl_carries _ _ h fun t j => ?_
  dsimp only
  split
  · rw [State.raise_carried]
    exact State.tripPort_carries (by simp) _ _
  · simp
@[simp] theorem State.rejectReset_carried (ms) : (s.rejectReset ms).carried = s.carried := by simp [State.rejectReset]
@[simp] theorem State.commission_carries {s : State} {a₀ : Carried} (h : Carries a₀ s.carried) : Carries a₀ s.commission.carried := by simp [State.commission, h]
@[simp] theorem State.messageDemand_carries {s : State} {a₀ : Carried} (h : Carries a₀ s.carried) (j sgo sdc ports timeout) : Carries a₀ (s.messageDemand j sgo sdc ports timeout).carried := by
  simp [State.messageDemand, h]

/-! ### The parameter group -/

@[simp] theorem writeParamAns_carried (target b) : (writeParamAns target b s).st.carried = s.carried := by
  unfold writeParamAns
  dsimp only
  (repeat' split) <;> rfl
@[simp] theorem State.putInForce_carries {s : State} {a₀ : Carried} (h : Carries a₀ s.carried) (old new) : Carries a₀ (s.putInForce old new).carried := by simp [State.putInForce, h]
@[simp] theorem commitAns_carries {s : State} {a₀ : Carried} (h : Carries a₀ s.carried) (b) : Carries a₀ (commitAns b s).st.carried := by
  refine State.check_carries h _ _ ?_
  dsimp only
  (repeat' split) <;> simp [h]
@[simp] theorem execReadParam_carriesOn (r) : CarriesOn s.carried (execReadParam r s) := by simp [execReadParam, readParamAns]
@[simp] theorem execWriteParam_carriesOn (r) : CarriesOn s.carried (execWriteParam r s) := by simp [execWriteParam]
@[simp] theorem execCommitParams_carriesOn (r) : CarriesOn s.carried (execCommitParams r s) := by simp [execCommitParams]
@[simp] theorem execParamDiscard_carriesOn (r) : CarriesOn s.carried (execParamDiscard r s) := by simp [execParamDiscard]
@[simp] theorem execEnvelopeLoad_carriesOn (r) : CarriesOn s.carried (execEnvelopeLoad r s) := by simp [execEnvelopeLoad, envelopeLoadAns]
@[simp] theorem execEnvelopeRead_carriesOn (r) : CarriesOn s.carried (execEnvelopeRead r s) := by simp [execEnvelopeRead, envelopeReadAns]
@[simp] theorem execBmsMapLoad_carriesOn (r) : CarriesOn s.carried (execBmsMapLoad r s) := by simp [execBmsMapLoad, bmsMapLoadAns]
@[simp] theorem execBmsMapRead_carriesOn (r) : CarriesOn s.carried (execBmsMapRead r s) := by simp [execBmsMapRead, bmsMapReadAns]

/-! ### The address map -/

@[simp] theorem State.restartInterval_carried (base trigger) : (s.restartInterval base trigger).carried = s.carried := by
  simp [State.restartInterval]
@[simp] theorem State.readWord_carried (addr) : (s.readWord addr).1.carried = s.carried := by
  simp only [State.readWord]
  split <;> simp
@[simp] theorem State.readWords_carried (a n) : (s.readWords a n).1.carried = s.carried := by
  induction n generalizing s a with
  | zero => rfl
  | succ n ih => exact (ih _ _).trans (by simp)
@[simp] theorem State.clearHead_carried (off c) : (s.clearHead off c).carried = s.carried := by simp [State.clearHead]
@[simp] theorem State.clearShoal_carries {s : State} {a₀ : Carried} (h : Carries a₀ s.carried) (k off c) : Carries a₀ (s.clearShoal k off c).carried := by
  unfold State.clearShoal
  (repeat' split) <;> simp [h]
@[simp] theorem State.beginCycle_carried : s.beginCycle.carried = s.carried := by simp [State.beginCycle]
@[simp] theorem State.writeWord_carries {s : State} {a₀ : Carried} (h : Carries a₀ s.carried) (addr mask value) :
    Carries a₀ (s.writeWord addr mask value).carried := by
  unfold State.writeWord
  dsimp only
  split_ifs
  · simpa using h
  · exact State.clearShoal_carries h _ _ _
  · exact State.modSk_carries h _ _ fun x => by simp
  · simpa using h
  · simpa using h
  · simpa using h
  · exact h
@[simp] theorem execWriteReg_carriesOn (r) : CarriesOn s.carried (execWriteReg r s) := by
  have heffect (u : State) : Carries u.carried (writeRegAns r.payload u).st.carried := State.check_carries (.refl _) _ _ (by simp)
  simp [execWriteReg, heffect]
/-! ### The Ring log -/

@[simp] theorem State.snapshot_carried (set) : (s.snapshot set).1.carried = s.carried := by
  unfold State.snapshot
  refine foldl_fst_carried _ _ _ fun x i => ?_
  dsimp only
  split
  · rfl
  · split <;> rfl
@[simp] theorem State.writeRecord_carried (e) : (s.writeRecord e).carried = s.carried := by simp [State.writeRecord]
@[simp] theorem State.logWrite_carried : s.logWrite.carried = s.carried := by
  simp only [State.logWrite]
  (repeat' split) <;> simp
@[simp] theorem execLogRecordWrite_carriesOn : CarriesOn s.carried (execLogRecordWrite s) := by simp [execLogRecordWrite]
@[simp] theorem execOpSecTick_carriesOn : CarriesOn s.carried (execOpSecTick s) := by simp [execOpSecTick]
@[simp] theorem execLogFreeze_carriesOn (r) : CarriesOn s.carried (execLogFreeze r s) := by simp [execLogFreeze, logFreezeAns]
@[simp] theorem execLogWindow_carriesOn (r) : CarriesOn s.carried (execLogWindow r s) := by simp [execLogWindow, logWindowAns]
@[simp] theorem execLogCursor_carriesOn (r) : CarriesOn s.carried (execLogCursor r s) := by simp [execLogCursor, logCursorAns]
@[simp] theorem execLogUnfreeze_carriesOn (r) : CarriesOn s.carried (execLogUnfreeze r s) := by simp [execLogUnfreeze, logUnfreezeAns]

/-! ### Host commands over field I/O, clocks, safety, time and the tide table -/

@[simp] theorem execFieldStatus_carriesOn (r) : CarriesOn s.carried (execFieldStatus r s) := by simp [execFieldStatus, fieldStatusAns]
@[simp] theorem execFieldOut_carriesOn (r) : CarriesOn s.carried (execFieldOut r s) := by simp [execFieldOut, fieldOutAns]
@[simp] theorem execFieldCountRead_carriesOn (r) : CarriesOn s.carried (execFieldCountRead r s) := by simp [execFieldCountRead, fieldCountAns]
@[simp] theorem execPanelStatus_carriesOn (r) : CarriesOn s.carried (execPanelStatus r s) := by simp [execPanelStatus, panelStatusAns]
@[simp] theorem execWakeRulesLoad_carriesOn (r) : CarriesOn s.carried (execWakeRulesLoad r s) := by simp [execWakeRulesLoad, wakeLoadAns]
@[simp] theorem execWakeRulesRead_carriesOn (r) : CarriesOn s.carried (execWakeRulesRead r s) := by simp [execWakeRulesRead, wakeReadAns]
@[simp] theorem State.pwmResume_carries {s : State} {a₀ : Carried} (h : Carries a₀ s.carried) : Carries a₀ s.pwmResume.carried := by simp [State.pwmResume, h]
@[simp] theorem State.crcReply_carried (unit) : (s.crcReply unit).st.carried = s.carried := by simp [State.crcReply]
@[simp] theorem crcValueAns_carried (b) : (crcValueAns b s).st.carried = s.carried := by simp [crcValueAns]
@[simp] theorem execClockStatus_carriesOn (r) : CarriesOn s.carried (execClockStatus r s) := by simp [execClockStatus, clockStatusAns]
@[simp] theorem execPwmResume_carriesOn (r) : CarriesOn s.carried (execPwmResume r s) := by
  have heffect (u : State) : Carries u.carried (pwmResumeAns r.payload u).st.carried := State.check_carries (.refl _) _ _ (by simp)
  simp [execPwmResume, heffect]
@[simp] theorem execCrcConfig_carriesOn (r) : CarriesOn s.carried (execCrcConfig r s) := by simp [execCrcConfig, crcConfigAns]
@[simp] theorem execCrcValueRead_carriesOn (r) : CarriesOn s.carried (execCrcValueRead r s) := by simp [execCrcValueRead]
@[simp] theorem execCrcValueWrite_carriesOn (r) : CarriesOn s.carried (execCrcValueWrite r s) := by simp [execCrcValueWrite]
@[simp] theorem execCrcFeed_carriesOn (r) : CarriesOn s.carried (execCrcFeed r s) := by simp [execCrcFeed, crcFeedAns]
@[simp] theorem safetyCommissionAns_carried (b) : (safetyCommissionAns b s).st.carried = s.carried := State.check_carried _ _ _ rfl
@[simp] theorem execSafetyStatus_carriesOn (r) : CarriesOn s.carried (execSafetyStatus r s) := by simp [execSafetyStatus, safetyStatusAns]
@[simp] theorem execSafetyResetArm_carriesOn (r) : CarriesOn s.carried (execSafetyResetArm r s) := by
  have heffect (u : State) : Carries u.carried (safetyArmAns r.target r.payload u).st.carried := State.check_carries (.refl _) _ _ (by simp)
  simp [execSafetyResetArm, heffect]
@[simp] theorem execSafetyParamWrite_carriesOn (r) : CarriesOn s.carried (execSafetyParamWrite r s) := by
  have heffect (u : State) : Carries u.carried (safetyWriteAns r.payload u).st.carried := State.check_carries (.refl _) _ _ (by simp)
  simp [execSafetyParamWrite, heffect]
@[simp] theorem execSafetyCommission_carriesOn (r) : CarriesOn s.carried (execSafetyCommission r s) := by simp [execSafetyCommission]
@[simp] theorem execSessionRead_carriesOn (r) : CarriesOn s.carried (execSessionRead r s) := by simp [execSessionRead, sessionReadAns]
@[simp] theorem execTimeGet_carriesOn (r) : CarriesOn s.carried (execTimeGet r s) := by simp [execTimeGet, timeGetAns]
@[simp] theorem execPeerRead_carriesOn (r) : CarriesOn s.carried (execPeerRead r s) := by simp [execPeerRead, peerReadAns]
@[simp] theorem execNetSend_carriesOn (r) : CarriesOn s.carried (execNetSend r s) := by simp [execNetSend, netSendAns]
@[simp] theorem execNetTxStatus_carriesOn (r) : CarriesOn s.carried (execNetTxStatus r s) := by simp [execNetTxStatus, netTxStatusAns]
@[simp] theorem execTideSet_carriesOn (r) : CarriesOn s.carried (execTideSet r s) := by simp [execTideSet, tideSetAns]
@[simp] theorem execTideGet_carriesOn (r) : CarriesOn s.carried (execTideGet r s) := by simp [execTideGet, tideGetAns]

/-! ### Events at Breakwater -/

@[simp] theorem execSafetyInputDemand_carriesOn (n chan mv us) : CarriesOn s.carried (execSafetyInputDemand n chan mv us s) := by
  simp [execSafetyInputDemand]
@[simp] theorem execSafetyInputInactive_carriesOn (n chan mv us) : CarriesOn s.carried (execSafetyInputInactive n chan mv us s) := by
  simp [execSafetyInputInactive]
@[simp] theorem execSiDisc_carriesOn (n) : CarriesOn s.carried (execSiDisc n s) := by simp [execSiDisc]
@[simp] theorem execSiTestPulse_carriesOn (tp inLimits reads) : CarriesOn s.carried (execSiTestPulse tp inLimits reads s) := by
  have hinputs (t : State) : Carries t.carried ((List.finRange 8).foldl (fun (t : State) n =>
      let i := t.bw.inputs[n]
      if !i.pulseFault && i.chans.toList.any (·.found) then
        (t.modBw fun b => { b with inputs := vmod b.inputs n fun i => { i with pulseFault := true } }).moduleFault 1 n.val
      else t) t).carried := foldl_carries _ _ (.refl _) fun t n => by simp
  simp only [execSiTestPulse, carriesOn_next]
  have hend {t : State} (ht : Carries s.carried t.carried) : Carries s.carried (if !t.bw.resetPulseFault && t.bw.resetChan.found then
      (t.modBw fun b => { b with resetPulseFault := true }).moduleFault 1 0xFF else t).carried := by simp [ht]
  exact hend (.trans (by simp) (hinputs _))
@[simp] theorem execBwLaneCompare_carriesOn (differ) : CarriesOn s.carried (execBwLaneCompare differ s) := by simp [execBwLaneCompare]
@[simp] theorem execReturnWord_carriesOn (l noise) : CarriesOn s.carried (execReturnWord l noise s) := by
  unfold execReturnWord
  (repeat' split) <;> simp
@[simp] theorem execReturnLost_carriesOn (l) : CarriesOn s.carried (execReturnLost l s) := by
  unfold execReturnLost
  split <;> simp
@[simp] theorem execChDisc_carriesOn (p) : CarriesOn s.carried (execChDisc p s) := by simp [execChDisc]
@[simp] theorem execSdcFb_carriesOn (p) : CarriesOn s.carried (execSdcFb p s) := by simp [execSdcFb]
@[simp] theorem execRequestWord_carriesOn (from_ crcOk) : CarriesOn s.carried (execRequestWord from_ crcOk s) := by simp [execRequestWord]
@[simp] theorem execHlLost_carriesOn : CarriesOn s.carried (execHlLost s) := by simp [execHlLost]
@[simp] theorem execPermitPatternWord_carriesOn : CarriesOn s.carried (execPermitPatternWord s) := by simp [execPermitPatternWord]
@[simp] theorem execPermitWordReceive_carriesOn (l chan noise) : CarriesOn s.carried (execPermitWordReceive l chan noise s) := by
  simp [execPermitWordReceive]
@[simp] theorem execSoTestPulse_carriesOn (m _side readOff) : CarriesOn s.carried (execSoTestPulse m _side readOff s) := by simp [execSoTestPulse]
@[simp] theorem execResetPressBegin_carriesOn : CarriesOn s.carried (execResetPressBegin s) := by simp [execResetPressBegin]
/-- A completed deliberate reset may end a lock-out (R362), and reaches nothing else of what is carried over. -/
theorem execResetRelease_carriesOn : CarriesOn s.carried.unlocked (execResetRelease s) := by
  have hbw (f : Breakwater → Breakwater) : Carries s.carried.unlocked (s.modBw f).carried := ⟨rfl, rfl, id, id, nofun⟩
  have hcleared (f : Breakwater → Breakwater) : Carries s.carried.unlocked ((s.modBw f).modBw (·.cleared)).carried := ⟨rfl, rfl, id, id, nofun⟩
  have hcommission {t : State} (h : Carries s.carried.unlocked t.carried) : Carries s.carried.unlocked t.commission.carried := by simp [h]
  unfold execResetRelease
  split
  · exact (carriesOn_next _ _).2 (Carries.refl _).unlocked
  · dsimp only
    (repeat' split) <;> simp only [carriesOn_next, State.setDev_carried, State.raise_carried, State.rejectReset_carried,
      hbw, hcleared, hcommission]
@[simp] theorem execResetPressTooLong_carriesOn : CarriesOn s.carried (execResetPressTooLong s) := by
  unfold execResetPressTooLong
  split <;> simp
@[simp] theorem execResetStuck_carriesOn : CarriesOn s.carried (execResetStuck s) := by
  unfold execResetStuck
  split <;> simp
@[simp] theorem execResetArmExpire_carriesOn : CarriesOn s.carried (execResetArmExpire s) := by simp [execResetArmExpire]
@[simp] theorem execCommissionTimeout_carriesOn : CarriesOn s.carried (execCommissionTimeout s) := by simp [execCommissionTimeout]
@[simp] theorem execSafetyMessage_carriesOn (net bytes) : CarriesOn s.carried (execSafetyMessage net bytes s) := by
  simp only [execSafetyMessage]
  (repeat' split) <;> simp
@[simp] theorem execSafetyMsgPendingExpire_carriesOn (j) : CarriesOn s.carried (execSafetyMsgPendingExpire j s) := by
  unfold execSafetyMsgPendingExpire
  split <;> simp
@[simp] theorem execSafetyMsgTimeout_carriesOn (j) : CarriesOn s.carried (execSafetyMsgTimeout j s) := by simp [execSafetyMsgTimeout]
@[simp] theorem execSafetyMsgSend_carriesOn : CarriesOn s.carried (execSafetyMsgSend s) := by simp [execSafetyMsgSend]
@[simp] theorem execBwSelftestEnd_carriesOn (ok) : CarriesOn s.carried (execBwSelftestEnd ok s) := by simp [execBwSelftestEnd]

/-! ### Events at a Skerry -/

@[simp] theorem State.onSk_carries {s : State} {a₀ : Carried} (h : Carries a₀ s.carried) (l f) (hf : ∀ x : Skerry, ApartTo x.gates (f x).gates) :
    Carries a₀ (s.onSk l f).carried := State.modSk_carries h _ _ fun x => .ite (hf x) (.refl _)
@[simp] theorem execEdgeChannelTransition_carriesOn (p g on) : CarriesOn s.carried (execEdgeChannelTransition p g on s) := by
  simp [execEdgeChannelTransition]
@[simp] theorem execInterlockHoldEnd_carriesOn (p g) : CarriesOn s.carried (execInterlockHoldEnd p g s) := by simp [execInterlockHoldEnd]
@[simp] theorem execGateSupplyLockout_carriesOn (p k supply locks) : CarriesOn s.carried (execGateSupplyLockout p k supply locks s) :=
  (carriesOn_next _ _).2 (State.onSk_carries (.refl _) _ _ fun x => .ite (x.supply_gates _ _ _ _) (.refl _))
@[simp] theorem execGateSupplyRelease_carriesOn (p k supply) : CarriesOn s.carried (execGateSupplyRelease p k supply s) := by
  simp [execGateSupplyRelease]
@[simp] theorem State.legRepeat_carries {s : State} {a₀ : Carried} (h : Carries a₀ s.carried) (p k) : Carries a₀ (s.legRepeat p k).carried := by simp [State.legRepeat, h]
@[simp] theorem State.shorted_carries {s : State} {a₀ : Carried} (h : Carries a₀ s.carried) (p g fast mask) : Carries a₀ (s.shorted p g fast mask).carried := by simp [State.shorted, h]
@[simp] theorem execDesatConfirm_carriesOn (p g) : CarriesOn s.carried (execDesatConfirm p g s) := by simp [execDesatConfirm]
@[simp] theorem execFastShortConfirm_carriesOn (p g) : CarriesOn s.carried (execFastShortConfirm p g s) := by simp [execFastShortConfirm]
@[simp] theorem execSoftTurnOffEnd_carriesOn (p g) : CarriesOn s.carried (execSoftTurnOffEnd p g s) := by simp [execSoftTurnOffEnd]
@[simp] theorem execPermitAbsent_carriesOn (l) : CarriesOn s.carried (execPermitAbsent l s) := by simp [execPermitAbsent]
@[simp] theorem execCoilPullEnd_carriesOn (p n) : CarriesOn s.carried (execCoilPullEnd p n s) := by simp [execCoilPullEnd]
@[simp] theorem execLatchBlocked_carriesOn (p) : CarriesOn s.carried (execLatchBlocked p s) := by simp [execLatchBlocked]
@[simp] theorem execLatchTimeout_carriesOn (p) : CarriesOn s.carried (execLatchTimeout p s) := by simp [execLatchTimeout]
@[simp] theorem execCanFrameTransmit_carriesOn (p) : CarriesOn s.carried (execCanFrameTransmit p s) := by simp [execCanFrameTransmit]
@[simp] theorem execCanBusOff_carriesOn (p) : CarriesOn s.carried (execCanBusOff p s) := by simp [execCanBusOff]
@[simp] theorem execCanBusOffRecovery_carriesOn (p) : CarriesOn s.carried (execCanBusOffRecovery p s) := by simp [execCanBusOffRecovery]

/-! ### Battery ports -/

@[simp] theorem State.admitFail_carried (p cause) : (s.admitFail p cause).carried = s.carried := by simp [State.admitFail]
@[simp] theorem State.latchOff_carried (p) : (s.latchOff p).carried = s.carried := by simp [State.latchOff]
@[simp] theorem State.openContactors_carried (p) : (s.openContactors p).carried = s.carried := by simp [State.openContactors]
@[simp] theorem State.portFault_carries {s : State} {a₀ : Carried} (h : Carries a₀ s.carried) (p cause) : Carries a₀ (s.portFault p cause).carried := by
  unfold State.portFault
  split <;> simp [h]
@[simp] theorem State.openWhenOff_carried (p) : (s.openWhenOff p).carried = s.carried := by simp [State.openWhenOff]
@[simp] theorem State.zeroDone_carried (p) : (s.zeroDone p).carried = s.carried := by simp [State.zeroDone]
@[simp] theorem State.enablePort_carried (p) : (s.enablePort p).carried = s.carried := by simp [State.enablePort]
@[simp] theorem State.admitPort_carried (p) : (s.admitPort p).carried = s.carried := by simp [State.admitPort]
@[simp] theorem State.toPlugged_carried (p) : (s.toPlugged p).carried = s.carried := by simp [State.toPlugged]
@[simp] theorem State.toEmpty_carried (p cause) : (s.toEmpty p cause).carried = s.carried := by simp [State.toEmpty]
@[simp] theorem State.requestRelease_carried (p) : (s.requestRelease p).carried = s.carried := by simp [State.requestRelease]
@[simp] theorem State.relatch_carried (p) : (s.relatch p).carried = s.carried := by simp [State.relatch]
@[simp] theorem State.precharge_carried (p) : (s.precharge p).carried = s.carried := by simp [State.precharge]
@[simp] theorem State.toDischarging_carried (p) : (s.toDischarging p).carried = s.carried := by simp [State.toDischarging]
@[simp] theorem State.releasing_carried (p dt) : (s.releasing p dt).carried = s.carried := by simp [State.releasing]
@[simp] theorem State.diagDone_carried (p) : (s.diagDone p).carried = s.carried := by simp [State.diagDone]
@[simp] theorem State.startDiag_carries {s : State} {a₀ : Carried} (h : Carries a₀ s.carried) (p tests) : Carries a₀ (s.startDiag p tests).carried := by simp [State.startDiag, h]
@[simp] theorem State.takeRelease_carried (p dt) : (s.takeRelease p dt).carried = s.carried := by
  unfold State.takeRelease
  split <;> simp
@[simp] theorem State.lifeRow_carries {s : State} {a₀ : Carried} (h : Carries a₀ s.carried) (p dt) : Carries a₀ (s.lifeRow p dt).carried := by
  simp only [State.lifeRow]
  split <;> simp [h]
@[simp] theorem State.portService_carries {s : State} {a₀ : Carried} (h : Carries a₀ s.carried) (p dt) : Carries a₀ (s.portService p dt).carried := by
  simp [State.portService, h]
  (repeat' split) <;> simp [h]
@[simp] theorem State.takeLoop_carries {s : State} {a₀ : Carried} (h : Carries a₀ s.carried) (p code) : Carries a₀ (s.takeLoop p code).carried := by
  unfold State.takeLoop
  (repeat' split) <;> simp [h]
@[simp] theorem execLoopClassReport_carriesOn (p cls) : CarriesOn s.carried (execLoopClassReport p cls s) := by simp [execLoopClassReport]
@[simp] theorem execPlugDebounceEnd_carriesOn (p) : CarriesOn s.carried (execPlugDebounceEnd p s) := by simp [execPlugDebounceEnd]
@[simp] theorem execBmsSignalStale_carriesOn (p sig) : CarriesOn s.carried (execBmsSignalStale p sig s) := by
  unfold execBmsSignalStale
  split <;> simp
@[simp] theorem execBmsLost_carriesOn (p) : CarriesOn s.carried (execBmsLost p s) := by simp [execBmsLost]
@[simp] theorem execPrechgTimeout_carriesOn (p) : CarriesOn s.carried (execPrechgTimeout p s) := by simp [execPrechgTimeout]
@[simp] theorem execAtZeroTimeout_carriesOn (p) : CarriesOn s.carried (execAtZeroTimeout p s) := by simp [execAtZeroTimeout]
@[simp] theorem execReleaseDischargeFail_carriesOn (p) : CarriesOn s.carried (execReleaseDischargeFail p s) := by simp [execReleaseDischargeFail]
@[simp] theorem execContactorFbChange_carriesOn (p n closed) : CarriesOn s.carried (execContactorFbChange p n closed s) := by
  simp [execContactorFbChange]
@[simp] theorem execContactorFault_carriesOn (p n) : CarriesOn s.carried (execContactorFault p n s) := by
  unfold execContactorFault
  dsimp only
  split
  · simp
  · have htrip (f : Skerry → Skerry) (hf : ∀ x, ApartTo x.gates (f x).gates) (code a b : Nat) :
        Carries s.carried (((s.modSk (linkOf p) f).raise code a b).tripPort p .contactor).carried :=
      State.tripPort_carries (by simp [hf]) _ _
    rw [carriesOn_next]
    split
    · exact State.portFault_carries (htrip _ (by simp) _ _ _) _ _
    · exact htrip _ (by simp) _ _ _
@[simp] theorem execCoilHwDrop_carriesOn (p) : CarriesOn s.carried (execCoilHwDrop p s) := by
  have hdrop : Carries s.carried (s.modSk (linkOf p) (·.hwDrop s.clk.now)).carried := State.modSk_carries (.refl _) _ _ fun x => by simp
  simp [execCoilHwDrop, hdrop]
@[simp] theorem execDiagItemDone_carriesOn (p reading) : CarriesOn s.carried (execDiagItemDone p reading s) := by simp [execDiagItemDone]
@[simp] theorem execCanFrameReceive_carriesOn (p f) : CarriesOn s.carried (execCanFrameReceive p f s) := by simp [execCanFrameReceive]
@[simp] theorem execPackCanSend_carriesOn (r) : CarriesOn s.carried (execPackCanSend r s) := by
  have heffect (u : State) : Carries u.carried (packCanSendAns (reqPort r) r.payload u).st.carried :=
    State.check_carries (.refl _) _ _ (by simp)
  simp [execPackCanSend, heffect]
@[simp] theorem execPackCanRead_carriesOn (r) : CarriesOn s.carried (execPackCanRead r s) := by simp [execPackCanRead, packCanReadAns]
@[simp] theorem portAdmitAns_carried (target b) : (portAdmitAns target b s).st.carried = s.carried := by
  refine State.check_carried _ _ _ ?_
  split <;> simp
@[simp] theorem portReleaseAns_carried (target b) : (portReleaseAns target b s).st.carried = s.carried := by
  refine State.check_carried _ _ _ ?_
  split <;> simp
@[simp] theorem execPortAdmit_carriesOn (r) : CarriesOn s.carried (execPortAdmit r s) := by simp [execPortAdmit]
@[simp] theorem execPortRelease_carriesOn (r) : CarriesOn s.carried (execPortRelease r s) := by simp [execPortRelease]
@[simp] theorem execGateDiag_carriesOn (r) : CarriesOn s.carried (execGateDiag r s) := by
  have heffect (u : State) : Carries u.carried (gateDiagAns r.target r.payload u).st.carried :=
    State.check_carries (.refl _) _ _ (State.startDiag_carries (.refl _) _ _)
  simp [execGateDiag, heffect]
@[simp] theorem State.button_carried (p level) : (s.button p level).carried = s.carried := by
  simp only [State.button]
  (repeat' split) <;> simp

/-! ### What a bus step measures and detects -/

@[simp] theorem State.takeGrid_carried (late) : (s.takeGrid late).carried = s.carried := by simp [State.takeGrid]
@[simp] theorem State.measure_carried (dt) : (s.measure dt).carried = s.carried := by simp [State.measure]
@[simp] theorem State.gridTrip_carries {s : State} {a₀ : Carried} (h : Carries a₀ s.carried) (cause) : Carries a₀ (s.gridTrip cause).carried := by simp [State.gridTrip, h]
@[simp] theorem State.gridSense_carries {s : State} {a₀ : Carried} (h : Carries a₀ s.carried) : Carries a₀ s.gridSense.carried := by simp [State.gridSense, h]
@[simp] theorem State.quantities_carried (dt) : (s.quantities dt).carried = s.carried := by simp [State.quantities]
@[simp] theorem State.beginFault_carries {s : State} {a₀ : Carried} (h : Carries a₀ s.carried) (origin) : Carries a₀ (s.beginFault origin).carried := by simp [State.beginFault, h]
@[simp] theorem State.voltEvent_carries {s : State} {a₀ : Carried} (h : Carries a₀ s.carried) : Carries a₀ s.voltEvent.carried := by simp [State.voltEvent, h]
@[simp] theorem State.freqEvent_carried : s.freqEvent.carried = s.carried := by simp [State.freqEvent]
@[simp] theorem State.rocofCheck_carried : s.rocofCheck.carried = s.carried := by simp [State.rocofCheck]
@[simp] theorem State.phaseJump_carried : s.phaseJump.carried = s.carried := by
  simp only [State.phaseJump]
  split <;> simp
@[simp] theorem State.instCheck_carries {s : State} {a₀ : Carried} (h : Carries a₀ s.carried) : Carries a₀ s.instCheck.carried := by
  simp only [State.instCheck]
  split <;> simp [h]
@[simp] theorem State.recovery_carried (old) : (s.recovery old).carried = s.carried := by
  unfold State.recovery
  dsimp only
  (repeat' split) <;> simp
@[simp] theorem State.envStep_carries {s : State} {a₀ : Carried} (h : Carries a₀ s.carried) (n) : Carries a₀ (s.envStep n).carried := by simp [State.envStep, h]
@[simp] theorem State.whileLive_carries {s : State} {a₀ : Carried} (h : Carries a₀ s.carried) (f)
    (hf : ∀ u : State, Carries u.carried (f u).carried) : Carries a₀ (s.whileLive f).carried := by
  unfold State.whileLive
  split
  · exact h.trans (hf s)
  · exact h
@[simp] theorem State.detect_carries {s : State} {a₀ : Carried} (h : Carries a₀ s.carried) (old dt) : Carries a₀ (s.detect old dt).carried := by
  have hvolt : Carries a₀ (s.quantities dt).voltEvent.carried := State.voltEvent_carries (by simpa using h)
  refine foldl_carries _ _ ?_ fun t n => State.whileLive_carries (.refl _) _ fun u => by simp
  exact State.whileLive_carries (State.whileLive_carries hvolt _ fun u => by simp) _ fun u => by simp
/-! ### The module laws of a bus step -/

@[simp] theorem State.startRamp_carried (r) : (s.startRamp r).carried = s.carried := by simp [State.startRamp]
@[simp] theorem State.advanceRamp_carried : s.advanceRamp.carried = s.carried := by
  simp only [State.advanceRamp]
  split <;> simp
@[simp] theorem State.rampDispatch_carried (dt) : (s.rampDispatch dt).carried = s.carried := by simp [State.rampDispatch]
@[simp] theorem State.rotorStep_carried (dt) : (s.rotorStep dt).carried = s.carried := by simp [State.rotorStep]
@[simp] theorem State.sendFields_carried (f step) : (s.sendFields f step).carried = s.carried := by simp [State.sendFields]
@[simp] theorem State.sendAngle_carried : s.sendAngle.carried = s.carried := by simp [State.sendAngle]
@[simp] theorem State.emfStep_carried (dt) : (s.emfStep dt).carried = s.carried := by simp [State.emfStep]
@[simp] theorem State.tviStep_carried (dt) : (s.tviStep dt).carried = s.carried := by simp [State.tviStep]
@[simp] theorem State.currentStep_carried (dt) : (s.currentStep dt).carried = s.carried := by simp [State.currentStep]
@[simp] theorem State.releaseAngle_carried : s.releaseAngle.carried = s.carried := by simp [State.releaseAngle]
@[simp] theorem State.laws_carried (dt) : (s.laws dt).carried = s.carried := by simp [State.laws]

/-! ### Sharing among the ports -/

@[simp] theorem State.availStep_carried (dt) : (s.availStep dt).carried = s.carried := by simp [State.availStep]
@[simp] theorem State.weightStep_carried : s.weightStep.carried = s.carried := by simp [State.weightStep]
@[simp] theorem State.splitStep_carried : s.splitStep.carried = s.carried := State.noteStores_carried ..
@[simp] theorem State.dcOvStep_carries {s : State} {a₀ : Carried} (h : Carries a₀ s.carried) (p) : Carries a₀ (s.dcOvStep p).carried := by simp [State.dcOvStep, h]
@[simp] theorem State.dcTimes_carried (p) : (s.dcTimes p).carried = s.carried := by simp [State.dcTimes]
@[simp] theorem State.verdictStep_carried (p) : (s.verdictStep p).carried = s.carried := by simp [State.verdictStep]
@[simp] theorem State.portChecks_carries {s : State} {a₀ : Carried} (h : Carries a₀ s.carried) : Carries a₀ s.portChecks.carried := by simp [State.portChecks, h]

/-! ### Port steps of the engine -/

@[simp] theorem State.tracePort_carried (p) : (s.tracePort p).carried = s.carried := by simp [State.tracePort]
@[simp] theorem State.traceBus_carried : s.traceBus.carried = s.carried := by simp [State.traceBus]
@[simp] theorem execTraceTrigger_carriesOn : CarriesOn s.carried (execTraceTrigger s) := by simp [execTraceTrigger]
@[simp] theorem execTraceConfig_carriesOn (r) : CarriesOn s.carried (execTraceConfig r s) := by simp [execTraceConfig, traceConfigAns]
@[simp] theorem execTraceArm_carriesOn (r) : CarriesOn s.carried (execTraceArm r s) := by simp [execTraceArm, traceArmAns]
@[simp] theorem execTraceRead_carriesOn (r) : CarriesOn s.carried (execTraceRead r s) := by simp [execTraceRead, traceReadAns]
@[simp] theorem State.spend_carried (cycles) : (s.spend cycles).carried = s.carried := by simp [State.spend]
@[simp] theorem State.engineStart_carried (n : Nat) (s : State) : (State.engineStart n s).carried = s.carried := by
  induction n generalizing s with
  | zero => rfl
  | succ n ih =>
    unfold State.engineStart
    (repeat' split) <;> simp [ih]
@[simp] theorem State.engineNext_carried (p) : (s.engineNext p).carried = s.carried := by simp [State.engineNext]
@[simp] theorem State.nextStep_carried (p arrived) : (s.nextStep p arrived).carried = s.carried := by simp [State.nextStep]
@[simp] theorem State.launchDuty_carried (p) : (s.launchDuty p).carried = s.carried := by simp [State.launchDuty]
@[simp] theorem State.commitSpec_carried (p) : (s.commitSpec p).carried = s.carried := by
  simp only [State.commitSpec]
  split <;> simp
@[simp] theorem State.implausTrip_carries {s : State} {a₀ : Carried} (h : Carries a₀ s.carried) (p check) : Carries a₀ (s.implausTrip p check).carried := by simp [State.implausTrip, h]
@[simp] theorem State.neutralStep_carried (p) : (s.neutralStep p).carried = s.carried := by simp [State.neutralStep]
@[simp] theorem State.takePort_carried (p) : (s.takePort p).carried = s.carried := by simp [State.takePort]
@[simp] theorem State.arriveStep_carries {s : State} {a₀ : Carried} (h : Carries a₀ s.carried) (p) : Carries a₀ (s.arriveStep p).carried := by
  simp only [State.arriveStep]
  (repeat' split) <;> simp [h]
@[simp] theorem execSamplesArrive_carriesOn (p) : CarriesOn s.carried (execSamplesArrive p s) := by simp [execSamplesArrive]
@[simp] theorem execSpecStepComplete_carriesOn (p) : CarriesOn s.carried (execSpecStepComplete p s) := by
  simp only [execSpecStepComplete]
  split <;> simp
@[simp] theorem execRecomputeComplete_carriesOn (p) : CarriesOn s.carried (execRecomputeComplete p s) := by simp [execRecomputeComplete]
@[simp] theorem execCommitDeadline_carriesOn (p) : CarriesOn s.carried (execCommitDeadline p s) := by simp [execCommitDeadline]
@[simp] theorem execPortOcTrip_carriesOn (p) : CarriesOn s.carried (execPortOcTrip p s) := by
  unfold execPortOcTrip
  split <;> simp
@[simp] theorem State.boundaryStep_carried (p high) : (s.boundaryStep p high).carried = s.carried := by simp [State.boundaryStep]
@[simp] theorem execCarrierBoundary_carriesOn (p) : CarriesOn s.carried (execCarrierBoundary p s) := by
  have hparams (w : Pwm) : (s.pwmParams p w).legs = w.legs := by
    unfold State.pwmParams
    split <;> rfl
  unfold execCarrierBoundary
  extract_lets k h
  split
  · simp
  · next tripped w0 high s1 s2 s3 _ =>
    have h1 : Carries s.carried s1.carried := State.modPwm_carries (.refl _) _ _ fun w => by
      have hb := Pwm.boundary_legs (s.pwmParams p { w with wantEn := w.wantEn && !tripped }) s.clk.now h.inc (s.parN P_CARRIER_N) h.dlLock
      rwa [hparams] at hb
    have h2 : Carries s.carried s2.carried := by
      simp only [s2]
      split
      · exact h1
      · exact h1
    have h3 : Carries s.carried s3.carried := by simpa [s3] using h2
    rw [carriesOn_next]
    split
    · exact foldl_carries _ _ h3 fun t k => State.holdBoundary_carries (.refl _) k
    · exact h3
/-! ### The bus step, black start, synchronising and closing -/

@[simp] theorem State.setMode_carried (m) : (s.setMode m).carried = s.carried := by simp [State.setMode]
@[simp] theorem State.modeStep_carried : s.modeStep.carried = s.carried := by simp [State.modeStep]
@[simp] theorem State.allGatesOff_carried : s.allGatesOff.carried = s.carried := by simp [State.allGatesOff]
@[simp] theorem State.enableAll_carried : s.enableAll.carried = s.carried := by simp [State.enableAll]
@[simp] theorem State.enterForming_carried : s.enterForming.carried = s.carried := by simp [State.enterForming]
@[simp] theorem State.putTide_carried (k c f) : (s.putTide k c f).carried = s.carried := by simp [State.putTide]
@[simp] theorem State.sampleEntries_carried : s.sampleEntries.carried = s.carried := by simp [State.sampleEntries]
@[simp] theorem State.stepEntry_carried : s.stepEntry.carried = s.carried := by simp [State.stepEntry]
@[simp] theorem State.closeEntry_carried (on angle) : (s.closeEntry on angle).carried = s.carried := by simp [State.closeEntry]
@[simp] theorem State.blackStartStep_carried : s.blackStartStep.carried = s.carried := by simp [State.blackStartStep]
@[simp] theorem State.bsHoldStep_carried : s.bsHoldStep.carried = s.carried := by simp [State.bsHoldStep]
@[simp] theorem State.closeStep_carried (dt) : (s.closeStep dt).carried = s.carried := by
  simp only [State.closeStep]
  (repeat' split) <;> simp
@[simp] theorem State.syncStep_carried (dt) : (s.syncStep dt).carried = s.carried := by simp [State.syncStep]
@[simp] theorem State.liveStep_carried : s.liveStep.carried = s.carried := by simp [State.liveStep]
@[simp] theorem State.disarm_carried : s.disarm.carried = s.carried := by simp [State.disarm]
@[simp] theorem State.raiseSync_carried (code) : (s.raiseSync code).carried = s.carried := by simp [State.raiseSync]
@[simp] theorem State.breakerSeen_carried (closed) : (s.breakerSeen closed).carried = s.carried := by simp [State.breakerSeen]
@[simp] theorem State.tideEvent_carried (ev) : (s.tideEvent ev).carried = s.carried := by simp [State.tideEvent]
@[simp] theorem execEventFrame_carriesOn (k) : CarriesOn s.carried (execEventFrame k s) := by
  unfold execEventFrame
  split <;> simp
@[simp] theorem State.flagStep_carried : s.flagStep.carried = s.carried := by simp [State.flagStep]
@[simp] theorem State.clockTrips_carries {s : State} {a₀ : Carried} (h : Carries a₀ s.carried) : Carries a₀ s.clockTrips.carried := by simp [State.clockTrips, h]
@[simp] theorem State.trimStep_carried : s.trimStep.carried = s.carried := by simp [State.trimStep]
@[simp] theorem State.reserve_carried : s.reserve.carried = s.carried := by simp [State.reserve, State.spend]
@[simp] theorem State.beginStep_carried : s.beginStep.carried = s.carried := by simp [State.beginStep]
@[simp] theorem State.lawStep_carried (dt) : (s.lawStep dt).carried = s.carried := by simp [State.lawStep]
@[simp] theorem State.busStep_carries {s : State} {a₀ : Carried} (h : Carries a₀ s.carried) : Carries a₀ s.busStep.carried := by
  unfold State.busStep
  dsimp only
  have hsense (dt : Rat) : Carries a₀ ((s.beginStep.flagStep).measure dt).gridSense.carried := State.gridSense_carries (by simpa using h)
  have hchecks (dt : Rat) : Carries a₀ (((s.beginStep.flagStep).measure dt).gridSense.portChecks.modeStep).carried := by
    simpa using State.portChecks_carries (hsense dt)
  have hlaws {t : State} (ht : Carries a₀ t.carried) (dt : Rat) :
      Carries a₀ ((((t.availStep dt).lawStep dt).syncStep dt).blackStartStep.clockTrips).carried := State.clockTrips_carries (by simpa using ht)
  simp only [State.traceBus_carried, State.modFirm_carried, State.reserve_carried, State.trimStep_carried, State.stepEntry_carried,
    State.sampleEntries_carried, State.settle_carried]
  refine State.eachPort_carries (hlaws ?_ _) _ fun t p => State.portService_carries (.refl _) _ _
  split
  · exact State.detect_carries (hchecks _) _ _
  · exact hchecks _
@[simp] theorem execBusStep_carriesOn : CarriesOn s.carried (execBusStep s) := by simp [execBusStep]
@[simp] theorem execRtFaultOff_carriesOn : CarriesOn s.carried (execRtFaultOff s) := by simp [execRtFaultOff]
@[simp] theorem execPjRealignEnd_carriesOn : CarriesOn s.carried (execPjRealignEnd s) := by simp [execPjRealignEnd]
@[simp] theorem execPortDcUv_carriesOn (p) : CarriesOn s.carried (execPortDcUv p s) := by simp [execPortDcUv]
@[simp] theorem execBmsOvercurrent_carriesOn (p) : CarriesOn s.carried (execBmsOvercurrent p s) := by simp [execBmsOvercurrent]
@[simp] theorem execSetDispatch_carriesOn (r) : CarriesOn s.carried (execSetDispatch r s) := by simp [execSetDispatch, setDispatchAns]
@[simp] theorem execBlackStart_carriesOn (r) : CarriesOn s.carried (execBlackStart r s) := by simp [execBlackStart, blackStartAns]
@[simp] theorem execBsDeadCheckPass_carriesOn : CarriesOn s.carried (execBsDeadCheckPass s) := by simp [execBsDeadCheckPass]
@[simp] theorem execBsAnchorLaunch_carriesOn : CarriesOn s.carried (execBsAnchorLaunch s) := by
  simp only [execBsAnchorLaunch]
  split <;> simp
@[simp] theorem execBsGateEnable_carriesOn : CarriesOn s.carried (execBsGateEnable s) := by simp [execBsGateEnable]
@[simp] theorem execBsDone_carriesOn : CarriesOn s.carried (execBsDone s) := by simp [execBsDone]
@[simp] theorem execBsRampTimeout_carriesOn : CarriesOn s.carried (execBsRampTimeout s) := by simp [execBsRampTimeout]
@[simp] theorem execSyncClose_carriesOn (r) : CarriesOn s.carried (execSyncClose r s) := by simp [execSyncClose, syncCloseAns]
@[simp] theorem execSyncTimeout_carriesOn : CarriesOn s.carried (execSyncTimeout s) := by simp [execSyncTimeout]
@[simp] theorem execSyncCloseFail_carriesOn : CarriesOn s.carried (execSyncCloseFail s) := by simp [execSyncCloseFail]
@[simp] theorem execSyncGridLost_carriesOn : CarriesOn s.carried (execSyncGridLost s) := by simp [execSyncGridLost]
@[simp] theorem execStopRampEnd_carriesOn : CarriesOn s.carried (execStopRampEnd s) := by
  simp only [execStopRampEnd]
  (repeat' split) <;> simp
@[simp] theorem State.toReady_carried : s.toReady.carried = s.carried := by simp [State.toReady]
@[simp] theorem State.toSync_carried : s.toSync.carried = s.carried := by simp [State.toSync]
@[simp] theorem State.setStateEffect_carried (named) : (s.setStateEffect named).carried = s.carried := by simp [State.setStateEffect]
@[simp] theorem setStateAns_carried (b) : (setStateAns b s).st.carried = s.carried := by simp [setStateAns]
@[simp] theorem execSetStateStandby_carriesOn (r) : CarriesOn s.carried (execSetStateStandby r s) := by simp [execSetStateStandby]
@[simp] theorem execSetStateIdle_carriesOn (r) : CarriesOn s.carried (execSetStateIdle r s) := by simp [execSetStateIdle]
@[simp] theorem execSetStateReady_carriesOn (r) : CarriesOn s.carried (execSetStateReady r s) := by simp [execSetStateReady]
@[simp] theorem execSetStateSync_carriesOn (r) : CarriesOn s.carried (execSetStateSync r s) := by simp [execSetStateSync]
@[simp] theorem execSetStateService_carriesOn (r) : CarriesOn s.carried (execSetStateService r s) := by simp [execSetStateService]

/-! ### Identity, status, resets and trips by command -/

@[simp] theorem execNop_carriesOn (r) : CarriesOn s.carried (execNop r s) := by simp [execNop]
@[simp] theorem execIdentify_carriesOn (r) : CarriesOn s.carried (execIdentify r s) := by simp [execIdentify, identifyAns]
@[simp] theorem execGetStatus_carriesOn (r) : CarriesOn s.carried (execGetStatus r s) := by simp [execGetStatus, getStatusAns]
@[simp] theorem resetAns_carried (b) : (resetAns b s).st.carried = s.carried := by simp [resetAns]
@[simp] theorem execModuleReset_carriesOn (r) : CarriesOn s.carried (execModuleReset r s) := by simp [execModuleReset]
@[simp] theorem execHeadlandReset_carriesOn (r) : CarriesOn s.carried (execHeadlandReset r s) := by simp [execHeadlandReset]
@[simp] theorem State.hostTrip_carries {s : State} {a₀ : Carried} (h : Carries a₀ s.carried) (target) : Carries a₀ (s.hostTrip target).carried := by simp [State.hostTrip, h]
@[simp] theorem execTrip_carriesOn (r) : CarriesOn s.carried (execTrip r s) := by
  have heffect (u : State) : Carries u.carried (tripAns r.target r.payload u).st.carried :=
    State.check_carries (.refl _) _ _ (State.hostTrip_carries (.refl _) _)
  simp [execTrip, heffect]
@[simp] theorem State.retestPort_carried (p) : (s.retestPort p).carried = s.carried := by simp [State.retestPort]
@[simp] theorem State.unfault_carried (p) : (s.unfault p).carried = s.carried := by simp [State.unfault]
@[simp] theorem State.clearPort_carries {s : State} {a₀ : Carried} (h : Carries a₀ s.carried) (p) : Carries a₀ (s.clearPort p).carried := by simp [State.clearPort, h]
@[simp] theorem State.touchPort_carries {s : State} {a₀ : Carried} (h : Carries a₀ s.carried) (p) : Carries a₀ (s.touchPort p).carried := by simp [State.touchPort, h]
@[simp] theorem State.clearOne_carries {s : State} {a₀ : Carried} (h : Carries a₀ s.carried) (p) : Carries a₀ (s.clearOne p).1.carried := by simp [State.clearOne, h]
@[simp] theorem clearTripAns_carries {s : State} {a₀ : Carried} (h : Carries a₀ s.carried) (target b) :
    Carries a₀ (clearTripAns target b s).st.carried := by
  refine State.check_carries h _ _ ?_
  have hall := foldl_fst_carries (fun (a : State × Nat × Nat) (p : Port) =>
    ((a.1.clearOne p).1, a.2.1 + 2 ^ p.val * b2n (a.1.clearOne p).2.1, a.2.2 + 2 ^ p.val * b2n (a.1.clearOne p).2.2))
    (List.finRange 12) (s := (s, 0, 0)) h fun a p => State.clearOne_carries (.refl _) _
  dsimp only
  split
  · simpa using hall
  · split <;> simpa using State.clearOne_carries h _
@[simp] theorem execClearTrip_carriesOn (r) : CarriesOn s.carried (execClearTrip r s) := by simp [execClearTrip]

/-! ### Frames that reach a Shoal and Shore -/

@[simp] theorem State.legEvent_carries {s : State} {a₀ : Carried} (h : Carries a₀ s.carried) (p k codes) : Carries a₀ (s.legEvent p k codes).carried := by
  unfold State.legEvent
  split <;> simp [h]
@[simp] theorem State.legHiz_carries {s : State} {a₀ : Carried} (h : Carries a₀ s.carried) (p k code) : Carries a₀ (s.legHiz p k code).carried := by simp [State.legHiz, h]
@[simp] theorem State.portHizSeen_carries {s : State} {a₀ : Carried} (h : Carries a₀ s.carried) (p state) : Carries a₀ (s.portHizSeen p state).carried := by simp [State.portHizSeen, h]
@[simp] theorem State.legStates_carries {s : State} {a₀ : Carried} (h : Carries a₀ s.carried) (p state) : Carries a₀ (s.legStates p state).carried := by
  unfold State.legStates
  dsimp only
  have hhiz (codes : Leg → Nat) : Carries a₀ ((List.finRange 4).foldl (fun (t : State) k => t.legHiz p k (codes k)) s).carried :=
    foldl_carries _ _ h fun t k => by simp
  split
  · exact hhiz _
  · rw [State.modFirm_carried]
    exact State.portHizSeen_carries (foldl_carries _ _ (hhiz _) fun t k => by simp) _ _
@[simp] theorem State.dlLossSeen_carries {s : State} {a₀ : Carried} (h : Carries a₀ s.carried) (p loss) : Carries a₀ (s.dlLossSeen p loss).carried := by simp [State.dlLossSeen, h]
@[simp] theorem State.uplinkLost_carries {s : State} {a₀ : Carried} (h : Carries a₀ s.carried) (l) : Carries a₀ (s.uplinkLost l).carried := by
  unfold State.uplinkLost
  (repeat' split) <;> simp [h]
@[simp] theorem State.uplinkBad_carries {s : State} {a₀ : Carried} (h : Carries a₀ s.carried) (l) : Carries a₀ (s.uplinkBad l).carried := by simp [State.uplinkBad, h]
@[simp] theorem State.uplinkGood_carries {s : State} {a₀ : Carried} (h : Carries a₀ s.carried) (l bytes) : Carries a₀ (s.uplinkGood l bytes).carried := by
  unfold State.uplinkGood
  split <;> simp [h]
@[simp] theorem execUplinkFrame_carriesOn (l streams noise) : CarriesOn s.carried (execUplinkFrame l streams noise s) := by
  unfold execUplinkFrame
  extract_lets k
  split
  · simp
  · next sent took _ s1 bytes _ =>
    have htook : took.gates = k.gates := by
      simp only [took]
      split <;> rfl
    have h1 : Carries s.carried s1.carried :=
      State.modSk_carries_at (Carries.refl s.carried) (f := fun _ => took.sentFrame) (htook ▸ ApartTo.refl took.gates)
    rw [carriesOn_next]
    split
    · exact State.uplinkGood_carries h1 _ _
    · exact State.uplinkBad_carries h1 _
@[simp] theorem State.driveLatch_carries {s : State} {a₀ : Carried} (h : Carries a₀ s.carried) (l) : Carries a₀ (s.driveLatch l).carried := by
  unfold State.driveLatch
  split <;> simp [h]
@[simp] theorem execDownlinkFrame_carriesOn (l slot noise) : CarriesOn s.carried (execDownlinkFrame l slot noise s) := by
  unfold execDownlinkFrame
  rw [carriesOn_next]
  dsimp only
  split
  · exact .refl _
  · split
    · simp
    · split
      · exact State.driveLatch_carries (State.modSk_carries_at (by simp) (Skerry.goodFrame_gates _ _ _ _)) _
      · exact State.modSk_carries_at (by simp) (Skerry.badFrame_gates _ _)
@[simp] theorem execLinkFrameTimeout_carriesOn (l up) : CarriesOn s.carried (execLinkFrameTimeout l up s) := by
  have hsent : Carries s.carried (s.modSk l fun k => if k.good then k.sentFrame else k).carried :=
    State.modSk_carries (.refl _) _ _ fun k => .ite (.refl _) (.refl _)
  unfold execLinkFrameTimeout
  (repeat' split) <;> simp [hsent]
@[simp] theorem State.takeInput_carried (n) : (s.takeInput n).carried = s.carried := by simp [State.takeInput]
@[simp] theorem State.refresh_carried : s.refresh.carried = s.carried := by simp [State.refresh]
@[simp] theorem execShoreRefresh_carriesOn (from_ crcOk) : CarriesOn s.carried (execShoreRefresh from_ crcOk s) := by simp [execShoreRefresh]

/-! ### The pair of Headlands -/

@[simp] theorem State.launch_carried (full handover) : (s.launch full handover).carried = s.carried := by simp [State.launch]
@[simp] theorem execMirrorSlotLaunch_carriesOn : CarriesOn s.carried (execMirrorSlotLaunch s) := by simp [execMirrorSlotLaunch]
@[simp] theorem State.takeMirror_carried (h f) : (s.takeMirror h f).carried = s.carried := by
  simp only [State.takeMirror]
  split <;> simp
@[simp] theorem execMirrorFrame_carriesOn (good) : CarriesOn s.carried (execMirrorFrame good s) := by
  unfold execMirrorFrame
  split <;> simp
@[simp] theorem State.silence_carried (h) : (s.silence h).carried = s.carried := by simp [State.silence]
@[simp] theorem execMirrorSlotEnd_carriesOn : CarriesOn s.carried (execMirrorSlotEnd s) := by simp [execMirrorSlotEnd]
@[simp] theorem State.release_carried (w) : (s.release w).carried = s.carried := by simp [State.release]
@[simp] theorem State.releaseAcked_carried : s.releaseAcked.carried = s.carried := by simp [State.releaseAcked]
@[simp] theorem execMirrorAck_carriesOn (good) : CarriesOn s.carried (execMirrorAck good s) := by
  unfold execMirrorAck
  split <;> simp
@[simp] theorem execConfigAckTimeout_carriesOn : CarriesOn s.carried (execConfigAckTimeout s) := by
  unfold execConfigAckTimeout
  split <;> simp
@[simp] theorem execApplyTick_carriesOn (k) : CarriesOn s.carried (execApplyTick k s) := by simp [execApplyTick]
@[simp] theorem State.grant_carried (h) : (s.grant h).carried = s.carried := by
  simp only [State.grant]
  split <;> simp
@[simp] theorem State.takeOver_carried (cause) : (s.takeOver cause).carried = s.carried := by simp [State.takeOver]
@[simp] theorem State.refuseClaim_carried (h) : (s.refuseClaim h).carried = s.carried := by simp [State.refuseClaim]
@[simp] theorem execHeadlandFailure_carriesOn (cause) : CarriesOn s.carried (execHeadlandFailure cause s) := by
  unfold execHeadlandFailure
  split <;> simp
@[simp] theorem State.loadSet_carried : s.loadSet.carried = s.carried := by
  simp only [State.loadSet]
  split <;> simp
@[simp] theorem State.firstGrant_carried (h) : (s.firstGrant h).carried = s.carried := by simp [State.firstGrant]
@[simp] theorem execTokenClaim_carriesOn (h) : CarriesOn s.carried (execTokenClaim h s) := by
  unfold execTokenClaim
  (repeat' split) <;> simp
@[simp] theorem execTakeoverComplete_carriesOn : CarriesOn s.carried (execTakeoverComplete s) := by simp [execTakeoverComplete]
@[simp] theorem execLateClaim_carriesOn : CarriesOn s.carried (execLateClaim s) := by
  simp only [execLateClaim]
  (repeat' split) <;> simp
@[simp] theorem execResyncComplete_carriesOn : CarriesOn s.carried (execResyncComplete s) := by simp [execResyncComplete]
@[simp] theorem execResyncTimeout_carriesOn : CarriesOn s.carried (execResyncTimeout s) := by simp [execResyncTimeout]
@[simp] theorem execResyncRetry_carriesOn : CarriesOn s.carried (execResyncRetry s) := by simp [execResyncRetry]
@[simp] theorem execPairHandover_carriesOn (r) : CarriesOn s.carried (execPairHandover r s) := by simp [execPairHandover, pairHandoverAns]
@[simp] theorem execHandoverBoundary_carriesOn : CarriesOn s.carried (execHandoverBoundary s) := by simp [execHandoverBoundary]
@[simp] theorem execPairStatus_carriesOn (r) : CarriesOn s.carried (execPairStatus r s) := by simp [execPairStatus, pairStatusAns]

/-! ### Start-up, resets, standby and memory errors -/

@[simp] theorem State.flushLog_carried : s.flushLog.carried = s.carried := by simp [State.flushLog]
/-- The reset dies start with every gate off (R558). -/
@[simp] theorem State.dieReset_carries {s : State} {a₀ : Carried} (h : Carries a₀ s.carried) : Carries a₀ s.dieReset.carried :=
  h.trans ⟨rfl, rfl, fun _ p k => by simp [State.dieReset, State.carried, Gen.fits], fun _ l i => by simp [State.dieReset, State.carried], id⟩
@[simp] theorem State.transferFrom_carried (h) : (s.transferFrom h).carried = s.carried := by simp [State.transferFrom]
@[simp] theorem execHeadlandSelftestEnd_carriesOn (h failed) : CarriesOn s.carried (execHeadlandSelftestEnd h failed s) := by
  unfold execHeadlandSelftestEnd
  split <;> simp
@[simp] theorem execBootClaimTimeout_carriesOn : CarriesOn s.carried (execBootClaimTimeout s) := by simp [execBootClaimTimeout]
/-- The decision at the end of BOOT may end a lock-out (R361, R559), and reaches nothing else. -/
theorem State.bootLock_carries {s : State} {a₀ : Carried} (h : Carries a₀ s.carried) :
    Carries a₀.unlocked s.bootLock.carried := by
  unfold State.bootLock
  split
  · exact h.unlocked
  · exact ⟨h.pending, h.now, h.pwm, h.sk, nofun⟩
@[simp] theorem State.startDies_carried : s.startDies.carried = s.carried := by simp [State.startDies]
@[simp] theorem State.startSet_carries {s : State} {a₀ : Carried} (h : Carries a₀ s.carried) : Carries a₀ s.startSet.carried := by simp [State.startSet, h]
@[simp] theorem State.reportWake_carried : s.reportWake.carried = s.carried := by
  simp only [State.reportWake]
  (repeat' split) <;> simp
@[simp] theorem State.startPeer_carried : s.startPeer.carried = s.carried := by simp [State.startPeer]
@[simp] theorem State.startLoops_carries {s : State} {a₀ : Carried} (h : Carries a₀ s.carried) : Carries a₀ s.startLoops.carried := by simp [State.startLoops, h]
@[simp] theorem State.moduleReset_carries {s : State} {a₀ : Carried} (h : Carries a₀ s.carried) (kind) : Carries a₀ (s.moduleReset kind).carried := by simp [State.moduleReset, h]
@[simp] theorem execModuleResetBegin_carriesOn : CarriesOn s.carried (execModuleResetBegin s) := by simp [execModuleResetBegin]
@[simp] theorem execPeerHeadlandReset_carriesOn : CarriesOn s.carried (execPeerHeadlandReset s) := by simp [execPeerHeadlandReset]
@[simp] theorem execResetN_carriesOn : CarriesOn s.carried (execResetN s) := by simp [execResetN]
@[simp] theorem execResetNRelease_carriesOn : CarriesOn s.carried (execResetNRelease s) := by simp [execResetNRelease]

end
end Sys2Proof.Machine
end

section
/-! What every step carries over: the cartridge's own commands, the resets, every command, a tick. -/
namespace Sys2Proof.Machine

/-! ### The cartridge -/

section
variable (s : State)

@[simp] theorem State.noteSeal_carried : s.noteSeal.carried = s.carried := by simp [State.noteSeal]
@[simp] theorem State.compareSerial_carried : s.compareSerial.carried = s.carried := by simp [State.compareSerial]
@[simp] theorem execReadReg_carriesOn (r) : CarriesOn s.carried (execReadReg r s) := by simp [execReadReg, readRegAns]
@[simp] theorem execMeterRead_carriesOn (r) : CarriesOn s.carried (execMeterRead r s) := by simp [execMeterRead, meterReadAns]
@[simp] theorem execMeterInfo_carriesOn (r) : CarriesOn s.carried (execMeterInfo r s) := by simp [execMeterInfo, meterInfoAns]
@[simp] theorem execCartridgeReadRequest_carriesOn (write addr crcOk) : CarriesOn s.carried (execCartridgeReadRequest write addr crcOk s) := by
  simp [execCartridgeReadRequest]
@[simp] theorem execMeterAbsent_carriesOn : CarriesOn s.carried (execMeterAbsent s) := by simp [execMeterAbsent]
@[simp] theorem execMeterPresent_carriesOn : CarriesOn s.carried (execMeterPresent s) := by simp [execMeterPresent]
@[simp] theorem execMetrologySubframe_carriesOn (p noise) : CarriesOn s.carried (execMetrologySubframe p noise s) := by
  rw [execMetrologySubframe, carriesOn_next]
  split <;> simp
@[simp] theorem execMetrologySlotLost_carriesOn (p) : CarriesOn s.carried (execMetrologySlotLost p s) := by simp [execMetrologySlotLost]
@[simp] theorem execSessionOpen_carriesOn (p) : CarriesOn s.carried (execSessionOpen p s) := by simp [execSessionOpen]
@[simp] theorem execSessionClose_carriesOn (p) : CarriesOn s.carried (execSessionClose p s) := by simp [execSessionClose]
@[simp] theorem execSessionGapClose_carriesOn (p) : CarriesOn s.carried (execSessionGapClose p s) := by simp [execSessionGapClose]
@[simp] theorem execMeterMramWrite_carriesOn : CarriesOn s.carried (execMeterMramWrite s) := by simp [execMeterMramWrite]
@[simp] theorem execMeterFinalWrite_carriesOn : CarriesOn s.carried (execMeterFinalWrite s) := by simp [execMeterFinalWrite]
@[simp] theorem execCartridgePowerUp_carriesOn : CarriesOn s.carried (execCartridgePowerUp s) := by simp [execCartridgePowerUp]
@[simp] theorem execCoverOpen_carriesOn : CarriesOn s.carried (execCoverOpen s) := by simp [execCoverOpen]
@[simp] theorem execCoverClose_carriesOn : CarriesOn s.carried (execCoverClose s) := by simp [execCoverClose]
@[simp] theorem execToolAuthenticate_carriesOn (ok) : CarriesOn s.carried (execToolAuthenticate ok s) := by simp [execToolAuthenticate]
@[simp] theorem execToolRead_carriesOn : CarriesOn s.carried (execToolRead s) := by simp [execToolRead]
@[simp] theorem execToolPulseSelect_carriesOn (p isExport) : CarriesOn s.carried (execToolPulseSelect p isExport s) := by
  simp [execToolPulseSelect]
@[simp] theorem execVerifyCommit_carriesOn (v) : CarriesOn s.carried (execVerifyCommit v s) := by simp [execVerifyCommit]
@[simp] theorem execToolLockoutEnd_carriesOn : CarriesOn s.carried (execToolLockoutEnd s) := by simp [execToolLockoutEnd]

/-! ### Resets, loss of supply, memory errors -/

/-- Breakwater's reset value is locked out (R361), and every gate of the reset dies is off. -/
@[simp] theorem State.powerReset_carries {s : State} {a₀ : Carried} (h : Carries a₀ s.carried) : Carries a₀ s.powerReset.carried :=
  (State.dieReset_carries h).trans ⟨rfl, rfl, id, id, fun _ => rfl⟩
@[simp] theorem State.powerDown_carries {s : State} {a₀ : Carried} (h : Carries a₀ s.carried) (cause) : Carries a₀ (s.powerDown cause).carried := by
  have hreset : Carries a₀ (s.setDev .standby cause).flushLog.powerReset.carried := State.powerReset_carries (by simpa using h)
  exact hreset
@[simp] theorem execEnterStandby_carriesOn : CarriesOn s.carried (execEnterStandby s) := by simp [execEnterStandby]
@[simp] theorem execVsupLockout_carriesOn (vsup) : CarriesOn s.carried (execVsupLockout vsup s) := by simp [execVsupLockout]
@[simp] theorem execPowerUp_carriesOn (cause vsup) : CarriesOn s.carried (execPowerUp cause vsup s) := by
  have hreset := State.powerReset_carries (Carries.refl s.carried)
  unfold execPowerUp
  dsimp only
  split
  · simp
  · rw [carriesOn_next, State.setBudget_carried, State.raise_carried, State.seedLoops_carried]
    exact hreset
@[simp] theorem State.countCorrected_carried (d) : (s.countCorrected d).carried = s.carried := by
  unfold State.countCorrected
  split <;> simp
@[simp] theorem execSramEccError_carriesOn (where_) : CarriesOn s.carried (execSramEccError where_ s) := by
  refine (carriesOn_next _ _).2 ?_
  split <;> simp
@[simp] theorem State.startMeter_carried : s.startMeter.carried = s.carried := by simp [State.startMeter]

/-- The end of BOOT may end a lock-out (R361), and carries all else over. -/
theorem execBootEnd_carriesOn : CarriesOn s.carried.unlocked (execBootEnd s) := by
  have hlock : Carries s.carried.unlocked s.startDies.startSet.bootLock.carried := State.bootLock_carries (State.startSet_carries (by simp))
  unfold execBootEnd
  split
  · exact (carriesOn_next _ _).2 (Carries.refl _).unlocked
  · have hend {t : State} (ht : Carries s.carried.unlocked t.carried) (f g) :
        Carries s.carried.unlocked (((t.startLoops.startMeter.startPeer).modAct f).modShore g).carried := by
      simp [ht]
    exact (carriesOn_next _ _).2 (hend (by simpa using hlock) _ _)

end

/-! ### Every command, every step -/

/-- The commands that may end a lock-out: the release of the reset button and the end of BOOT. -/
def Instr.mayUnlock : Instr → Bool
  | .bootEnd | .resetRelease => true
  | _ => false

theorem exec_carriesOn {c : Instr} (s : State) (h : Instr.mayUnlock c = false) : CarriesOn s.carried (exec c s) := by
  cases c with
  | bootEnd => simp [Instr.mayUnlock] at h
  | resetRelease => simp [Instr.mayUnlock] at h
  | _ => simp [exec]

theorem exec_carriesOn_unlocked (c : Instr) (s : State) : CarriesOn s.carried.unlocked (exec c s) := by
  cases h : Instr.mayUnlock c with
  | false =>
    obtain ⟨t, ht, hcarries⟩ := exec_carriesOn s h
    exact ⟨t, ht, hcarries.unlocked⟩
  | true =>
    cases c with
    | bootEnd => exact execBootEnd_carriesOn s
    | resetRelease => exact execResetRelease_carriesOn s
    | _ => simp [Instr.mayUnlock] at h

/-- What a step carries over: a tick moves the timebase, a command takes the front of the queue; a lock-out may end. -/
def State.stepped (s : State) : Carried := ⟨s.pending.tail, s.clk.now + if s.pending = [] then 1 else 0, s.pwm, s.sk, false⟩

theorem step_carriesOn (s : State) : CarriesOn s.stepped (step s) := by
  cases hq : s.pending with
  | nil =>
    obtain ⟨hpending, hnow, hpwm, hsk, _⟩ := s.tick_carries
    simp only [step, State.stepped, hq, carriesOn_next, State.beginCycle_carried]
    exact ⟨hpending.trans hq, hnow, hpwm, hsk, nofun⟩
  | cons c rest =>
    simp only [step, State.stepped, hq]
    exact exec_carriesOn_unlocked c { s with pending := rest }

/-! ### Obligations -/

/-- Settles O1: a step on a queue with a command in front is that command's exec. -/
theorem stepRunsFront : Obligations.StepRunsFront := by
  intro c rest s hq
  rw [step, hq]

/-- Settles O2: the state that carries the view over is the one that the command answers. -/
theorem everyCommandAnswers : Obligations.EveryCommandAnswers := by
  intro c s
  obtain ⟨t, ht, _⟩ := exec_carriesOn_unlocked c s
  exact ⟨t, ht⟩

/-- Settles O3: a command carries over the queue behind it and the timebase, whatever it does. -/
theorem queueInOrder : Obligations.QueueInOrder := by
  intro s t h
  obtain ⟨hpending, hnow, _⟩ := (step_carriesOn s).carries h
  exact ⟨hpending, hnow⟩

theorem Skerry.exclusive_iff (x : Skerry) : x.exclusive = true ↔ ∀ i : Leg, (x.gates[gateH i].on && x.gates[gateL i].on) = false := by
  simp only [Skerry.exclusive, List.all_eq_true, List.mem_finRange, true_imp_iff, Bool.not_eq_true']

theorem State.gatesFit_iff (s : State) : s.gatesFit = true ↔
    (∀ (p : Port) (k : Leg), s.pwm[p].legs[k].fits = true) ∧
      ∀ (l : Link) (i : Leg), (s.sk[l].gates[gateH i].on && s.sk[l].gates[gateL i].on) = false := by
  have hall {α : Type} {n : Nat} (v : Vector α n) (f : α → Bool) : v.toList.all f = true ↔ ∀ i : Fin n, f v[i] = true := by
    simp [Fin.forall_iff]
  simp only [State.gatesFit, Bool.and_eq_true, hall, Skerry.exclusive_iff]

/-- Gates that fit their phases are never both on. -/
theorem Gen.exclusive_of_fits {g : Gen} (h : g.fits = true) : g.exclusive = true := by
  cases hh : g.h with
  | false => simp [Gen.exclusive, hh]
  | true =>
    have hp : g.phase = .high := g.fits_iff.1 h |>.1 hh
    simp [Gen.exclusive, Gen.low_off h (by rw [hp]; decide) (by rw [hp]; decide)]

theorem State.safe_of_gatesFit {s : State} (h : s.gatesFit = true) : s.safe = true := by
  simp only [State.gatesFit, State.safe, Bool.and_eq_true, List.all_eq_true] at h ⊢
  exact ⟨fun w hw g hg => Gen.exclusive_of_fits (h.1 w hw g hg), h.2⟩

/-- Settles O55: each operation on a generator keeps its gates at what its phase allows, each operation on a Skerry turns a gate on only
beside one that is off, and no other operation reaches them. -/
theorem gatesStayApart : Obligations.GatesStayApart := by
  intro s t hs h
  obtain ⟨_, _, hpwm, hsk, _⟩ := (step_carriesOn s).carries h
  have ht : t.gatesFit = true := t.gatesFit_iff.2 ((s.gatesFit_iff.1 hs).imp hpwm hsk)
  exact ⟨ht, t.safe_of_gatesFit ht⟩

@[simp] theorem State.raise_resetKind (s : State) (code source a b data) : (s.raise code source a b data).resetKind = s.resetKind := by
  unfold State.raise State.raiseAs State.raiseTick
  dsimp only
  split <;> rfl
@[simp] theorem State.startSet_resetKind (s : State) : s.startSet.resetKind = s.resetKind :=
  foldl_view (v := State.resetKind) (fun t p => by split <;> simp) _ _
@[simp] theorem State.startDies_resetKind (s : State) : s.startDies.resetKind = s.resetKind := rfl

/-- After a PIN or COMMAND reset the end of BOOT leaves the lock-out as Breakwater has it (R559). -/
theorem execBootEnd_carriesOn_of_kept {s : State} (h : 2 ≤ s.resetKind) : CarriesOn s.carried (execBootEnd s) := by
  have hlock : Carries s.carried s.startDies.startSet.bootLock.carried := by
    have hkind : 2 ≤ s.startDies.startSet.resetKind := by simpa using h
    rw [State.bootLock, if_pos (.inl hkind)]
    exact State.startSet_carries (by simp)
  unfold execBootEnd
  split
  · simp
  · have hend {t : State} (ht : Carries s.carried t.carried) (f g) :
        Carries s.carried (((t.startLoops.startMeter.startPeer).modAct f).modShore g).carried := by
      simp [ht]
    exact (carriesOn_next _ _).2 (hend (by simpa using hlock) _ _)

/-- A press that ends a lock-out is the completed deliberate reset (Table 11.6 step 4). -/
theorem execResetRelease_unlocks {s t : State} (h : execResetRelease s = .next t) (hs : s.bw.lockout = true) (ht : t.bw.lockout = false) :
    ∃ at_, msTicks 300 ≤ s.clk.now - at_ ∧ s.clk.now - at_ ≤ msTicks 3000 ∧ s.bw.resetArmed = true ∧ s.bw.press = some (at_, true) ∧
      s.bw.resettable s.clk.now false = true := by
  have hstands {u : State} (hu : Carries s.carried u.carried) (hut : Host.Outcome.next u = (.next t : Res)) : False :=
    Bool.false_ne_true ((show u.carried.lockout = false from Host.Outcome.next.inj hut ▸ ht).symm.trans (hu.lockout hs))
  have hbw (f : Breakwater → Breakwater) (hf : (f s.bw).lockout = s.bw.lockout) : Carries s.carried (s.modBw f).carried :=
    ⟨rfl, rfl, id, id, fun h => hf.trans h⟩
  unfold execResetRelease at h
  split at h
  · exact (hstands (.refl _) h).elim
  · next at_ counts hpress =>
    extract_lets held s1 right at h
    have h1 : Carries s.carried s1.carried := hbw _ rfl
    split at h
    · exact (hstands h1 h).elim
    · next hcounts =>
      split at h
      · refine (hstands ?_ h).elim
        split
        · exact State.commission_carries h1
        · exact h1
      · split at h
        · exact (hstands h1 h).elim
        · next harmed =>
          split at h
          · next hright =>
            simp only [right, Bool.and_eq_true, decide_eq_true_eq] at hright
            obtain ⟨⟨hmin, hmax⟩, hresettable⟩ := hright
            obtain ⟨hon, _⟩ : s.bw.resetArmed = true ∧ held ≤ msTicks 3000 := by simpa using harmed
            obtain rfl : counts = true := by simpa using hcounts
            exact ⟨at_, hmin, hmax, hon, hpress, hresettable⟩
          · exact (hstands (by simpa [State.rejectReset] using h1) h).elim

/-- Settles O60: a command other than the reset's release and the end of BOOT carries a standing lock-out over. -/
theorem lockoutHolds : Obligations.LockoutHolds := by
  intro c s t h hs ht
  have hends {r : Res} (hr : CarriesOn s.carried r) (h : r = .next t) : False :=
    Bool.false_ne_true ((show t.carried.lockout = false from ht).symm.trans ((hr.carries h).lockout hs))
  cases hc : Instr.mayUnlock c with
  | false => exact (hends (exec_carriesOn s hc) h).elim
  | true =>
    cases c with
    | bootEnd =>
      refine .inl ⟨rfl, ?_, ?_⟩
      · by_contra hdev
        refine hends (r := execBootEnd s) ?_ h
        rw [execBootEnd, if_pos (.inl hdev)]
        simp
      · by_contra hkind
        exact hends (execBootEnd_carriesOn_of_kept (Nat.not_lt.1 hkind)) h
    | resetRelease =>
      obtain ⟨at_, hreset⟩ := execResetRelease_unlocks h hs ht
      exact .inr ⟨at_, rfl, hreset⟩
    | _ => simp [Instr.mayUnlock] at hc

end Sys2Proof.Machine
end

section
/-! What the cartridge's seal guards (R329 to R335): the sealed parameters, LEGAL_ID, the count of verifications and the count of seal
breaks, which every command leaves but VERIFY_COMMIT and COVER_OPEN; and the obligation O41. -/
namespace Sys2Proof.Machine

/-- What a verification writes at the cartridge: the sealed parameters, LEGAL_ID and the count of verifications. -/
def Meter.verifiedView (m : Meter) : ParamStore × Option Nat × Nat := (m.params, m.legalId, m.verifyCount)

/-- The cartridge's sealed values with the count of seal breaks. One value, so that one lemma says of an operation that it leaves all. -/
def Meter.sealView (m : Meter) : (ParamStore × Option Nat × Nat) × Nat := (m.verifiedView, m.sealBreaks)

/-! ### Operations of the cartridge -/

section Operations
variable (m : Meter)

@[simp] theorem Meter.closeSession_sealView (p : Port) (cause imp exp sec : Nat) :
    (m.closeSession p cause imp exp sec).sealView = m.sealView := rfl

/-- Closing the sessions of every port at its registers leaves the sealed values. -/
theorem Meter.closeAll_sealView (cause : Nat) (l : List Port) : (l.foldl (fun (m : Meter) p =>
    let e := m.live.energy[p]
    m.closeSession p cause e.imp e.exp m.live.opSec) m).sealView = m.sealView :=
  foldl_view (fun m _ => m.closeSession_sealView ..) l m

@[simp] theorem Meter.clock_sealView (now : Nat) (p : Port) (bv bi bad : Bool) : (m.clock now p bv bi bad).sealView = m.sealView := by
  simp only [Meter.clock]
  split_ifs <;> rfl

@[simp] theorem Meter.slot_sealView (now : Nat) (p : Port) (bytes : Option (List Byte)) :
    (m.slot now p bytes).sealView = m.sealView := by
  change (List.foldl _ m (List.range 20)).sealView = m.sealView
  refine foldl_view (fun m i => ?_) _ m
  cases bytes <;> exact m.clock_sealView ..

@[simp] theorem Meter.subframe_sealView (now : Nat) (p : Port) (bytes : List Byte) : (m.subframe now p bytes).sealView = m.sealView := by
  simp only [Meter.subframe]
  split_ifs <;> exact Meter.slot_sealView ..

@[simp] theorem Meter.powerUp_sealView : m.powerUp.sealView = m.sealView :=
  ({ m with live := m.mram } : Meter).closeAll_sealView 2 (List.finRange 12)

/-- A verification breaks no seal. -/
@[simp] theorem Meter.verify_sealBreaks (v : Verification) : (m.verify v).sealBreaks = m.sealBreaks :=
  congrArg Prod.snd (m.closeAll_sealView 4 (List.finRange 12))

end Operations

/-! ### Operations of the module -/

section Reads
variable (s : State)

@[simp] theorem State.raise_sealView (code source arg0 arg1 : Nat) (data : List Nat) :
    (s.raise code source arg0 arg1 data).meter.sealView = s.meter.sealView := congrArg Meter.sealView (s.raise_meter ..)

@[simp] theorem State.noteSeal_sealView : s.noteSeal.meter.sealView = s.meter.sealView := by
  simp only [State.noteSeal]
  split
  · exact State.raise_sealView ..
  · rfl

@[simp] theorem State.compareSerial_sealView : s.compareSerial.meter.sealView = s.meter.sealView := by
  simp only [State.compareSerial]
  split_ifs
  · rfl
  · rfl
  · exact State.raise_sealView ..

@[simp] theorem State.startMeter_sealView : s.startMeter.meter.sealView = s.meter.sealView := by
  unfold State.startMeter
  split
  · exact s.compareSerial_sealView
  · rfl

@[simp] theorem State.countCorrected_sealView (d) : (s.countCorrected d).meter.sealView = s.meter.sealView := by
  cases d <;> rfl

@[simp] theorem State.powerReset_sealView : s.powerReset.meter.sealView = s.meter.sealView := by
  simp only [State.powerReset]
  split <;> rfl

@[simp] theorem State.powerDown_sealView (cause) : (s.powerDown cause).meter.sealView = s.meter.sealView := by
  simp [State.powerDown]

end Reads

/-! ### Commands that leave the sealed values -/

/-- The state that a command answers holds the sealed values of the one it found. -/
def KeepsSeal (s : State) (r : Res) : Prop := ∀ t, r = .next t → t.meter.sealView = s.meter.sealView

section
variable {s : State}

theorem KeepsSeal.next {t : State} (h : t.meter.sealView = s.meter.sealView) : KeepsSeal s (.next t) := by
  rintro _ ⟨⟩
  exact h

/-- An operation on the cartridge alone that leaves the sealed values of any cartridge. -/
theorem KeepsSeal.modMeter {f : Meter → Meter} (h : ∀ m, (f m).sealView = m.sealView) : KeepsSeal s (.next (s.modMeter f)) :=
  .next (h s.meter)

theorem KeepsMeter.keepsSeal {r : Res} (h : KeepsMeter s r) : KeepsSeal s r := fun t ht => congrArg Meter.sealView (h t ht)

end

section Commands
variable (s : State)

theorem readRegAns_sealView (b) : (readRegAns b s).st.meter.sealView = s.meter.sealView := by
  refine s.check_view _ _ _ ?_
  simp only [State.ok_st, State.readWords_meter]
  split
  · exact s.noteSeal_sealView
  · rfl

theorem meterReadAns_sealView (target b) : (meterReadAns target b s).st.meter.sealView = s.meter.sealView :=
  s.check_view _ _ _ s.noteSeal_sealView

theorem meterInfoAns_sealView (target b) : (meterInfoAns target b s).st.meter.sealView = s.meter.sealView :=
  s.check_view _ _ _ s.noteSeal_sealView

theorem execReadReg_keepsSeal (r) : KeepsSeal s (execReadReg r s) :=
  .next (s.hostItem_view _ _ _ _ _ fun _ u => readRegAns_sealView u _)
theorem execMeterRead_keepsSeal (r) : KeepsSeal s (execMeterRead r s) :=
  .next (s.hostItem_view _ _ _ _ _ fun _ u => meterReadAns_sealView u _ _)
theorem execMeterInfo_keepsSeal (r) : KeepsSeal s (execMeterInfo r s) :=
  .next (s.hostItem_view _ _ _ _ _ fun _ u => meterInfoAns_sealView u _ _)

theorem execCartridgeReadRequest_keepsSeal (write addr crcOk) : KeepsSeal s (execCartridgeReadRequest write addr crcOk s) := by
  refine .next ?_
  split
  · exact State.noteSeal_sealView _
  · rfl

theorem execMeterAbsent_keepsSeal : KeepsSeal s (execMeterAbsent s) := by
  unfold execMeterAbsent
  split
  · exact .next rfl
  · exact .next (State.raise_sealView ..)

theorem execMeterPresent_keepsSeal : KeepsSeal s (execMeterPresent s) := by
  unfold execMeterPresent
  split
  · exact .next rfl
  · refine .next ?_
    rw [State.noteSeal_sealView, State.compareSerial_sealView, State.raise_sealView]
    rfl

theorem execBootEnd_keepsSeal : KeepsSeal s (execBootEnd s) := by
  unfold execBootEnd
  split
  · exact .next rfl
  · exact .next (by simp)

theorem execSramEccError_keepsSeal (w) : KeepsSeal s (execSramEccError w s) := by
  refine .next ?_
  split
  · split
    · rfl
    · exact s.countCorrected_sealView _
  all_goals simp

theorem execMetrologySubframe_keepsSeal (p noise) : KeepsSeal s (execMetrologySubframe p noise s) := by
  unfold execMetrologySubframe
  split
  · exact .next rfl
  · exact .modMeter (s := s.modUl (linkOf p) fun u => { u with msub := none }) fun m => by split <;> simp

theorem execMetrologySlotLost_keepsSeal (p) : KeepsSeal s (execMetrologySlotLost p s) :=
  .modMeter fun m => by split <;> simp

theorem execSessionOpen_keepsSeal (p) : KeepsSeal s (execSessionOpen p s) :=
  .modMeter fun m => by
    split
    · split <;> rfl
    · rfl

theorem execSessionClose_keepsSeal (p) : KeepsSeal s (execSessionClose p s) :=
  .modMeter fun m => by
    split
    · split <;> rfl
    · rfl

theorem execSessionGapClose_keepsSeal (p) : KeepsSeal s (execSessionGapClose p s) :=
  .modMeter fun m => by
    split
    · split <;> rfl
    · rfl

theorem execMeterMramWrite_keepsSeal : KeepsSeal s (execMeterMramWrite s) := .modMeter fun _ => by split <;> rfl

theorem execMeterFinalWrite_keepsSeal : KeepsSeal s (execMeterFinalWrite s) := .modMeter fun _ => by split <;> rfl

theorem execCartridgePowerUp_keepsSeal : KeepsSeal s (execCartridgePowerUp s) := by
  refine .next ?_
  split
  · rfl
  · dsimp only
    split
    · exact (State.compareSerial_sealView _).trans s.meter.powerUp_sealView
    · exact s.meter.powerUp_sealView

theorem execCoverClose_keepsSeal : KeepsSeal s (execCoverClose s) := .modMeter fun _ => by split <;> rfl

theorem execToolAuthenticate_keepsSeal (ok) : KeepsSeal s (execToolAuthenticate ok s) := .modMeter fun _ => by split_ifs <;> rfl

theorem execToolRead_keepsSeal : KeepsSeal s (execToolRead s) := .modMeter fun _ => by split <;> rfl

theorem execToolPulseSelect_keepsSeal (p dir) : KeepsSeal s (execToolPulseSelect p dir s) := .modMeter fun _ => by split <;> rfl

theorem execToolLockoutEnd_keepsSeal : KeepsSeal s (execToolLockoutEnd s) := .modMeter fun _ => by split <;> rfl

theorem execEnterStandby_keepsSeal : KeepsSeal s (execEnterStandby s) := by
  refine .next ?_
  split
  · exact s.powerDown_sealView 0
  · rfl

theorem execPowerUp_keepsSeal (cause vsup) : KeepsSeal s (execPowerUp cause vsup s) := by
  unfold execPowerUp
  dsimp only
  split
  · exact .next rfl
  · refine .next ?_
    rw [State.setBudget_meter, State.raise_meter, State.seedLoops_meter]
    exact s.powerReset_sealView

theorem execVsupLockout_keepsSeal (vsup) : KeepsSeal s (execVsupLockout vsup s) := by
  unfold execVsupLockout
  dsimp only
  split
  · exact .next rfl
  · refine .next ?_
    split
    · rfl
    · exact (State.powerDown_sealView _ _).trans (State.raise_sealView ..)

/-- The cover's opening breaks the seal, and leaves what a verification wrote. -/
theorem execCoverOpen_verifiedView (t : State) (h : execCoverOpen s = .next t) : t.meter.verifiedView = s.meter.verifiedView := by
  obtain rfl := Host.Outcome.next.inj h
  simp only [State.modMeter]
  split <;> rfl

/-- VERIFY_COMMIT breaks no seal. -/
theorem execVerifyCommit_sealBreaks (v) (t : State) (h : execVerifyCommit v s = .next t) : t.meter.sealBreaks = s.meter.sealBreaks := by
  obtain rfl := Host.Outcome.next.inj h
  simp only [State.modMeter]
  split
  · exact Meter.verify_sealBreaks _ v
  · rfl

/-- Every command but COVER_OPEN and VERIFY_COMMIT leaves the sealed values: those that reach no cartridge, and those of the cartridge,
one by one. -/
theorem exec_keepsSeal (c : Instr) (hopen : c ≠ .coverOpen) (hverify : ∀ v, c ≠ .verifyCommit v) : KeepsSeal s (exec c s) := by
  cases c with
  | coverOpen => exact absurd rfl hopen
  | verifyCommit v => exact absurd rfl (hverify v)
  | readReg r => exact execReadReg_keepsSeal s r
  | meterRead r => exact execMeterRead_keepsSeal s r
  | meterInfo r => exact execMeterInfo_keepsSeal s r
  | cartridgeReadRequest w a k => exact execCartridgeReadRequest_keepsSeal s w a k
  | meterAbsent => exact execMeterAbsent_keepsSeal s
  | meterPresent => exact execMeterPresent_keepsSeal s
  | bootEnd => exact execBootEnd_keepsSeal s
  | sramEccError w => exact execSramEccError_keepsSeal s w
  | metrologySubframe p noise => exact execMetrologySubframe_keepsSeal s p noise
  | metrologySlotLost p => exact execMetrologySlotLost_keepsSeal s p
  | sessionOpen p => exact execSessionOpen_keepsSeal s p
  | sessionClose p => exact execSessionClose_keepsSeal s p
  | sessionGapClose p => exact execSessionGapClose_keepsSeal s p
  | meterMramWrite => exact execMeterMramWrite_keepsSeal s
  | meterFinalWrite => exact execMeterFinalWrite_keepsSeal s
  | cartridgePowerUp => exact execCartridgePowerUp_keepsSeal s
  | coverClose => exact execCoverClose_keepsSeal s
  | toolAuthenticate ok => exact execToolAuthenticate_keepsSeal s ok
  | toolRead => exact execToolRead_keepsSeal s
  | toolPulseSelect p x => exact execToolPulseSelect_keepsSeal s p x
  | toolLockoutEnd => exact execToolLockoutEnd_keepsSeal s
  | enterStandby => exact execEnterStandby_keepsSeal s
  | powerUp cause vsup => exact execPowerUp_keepsSeal s cause vsup
  | vsupLockout vsup => exact execVsupLockout_keepsSeal s vsup
  | _ => exact KeepsMeter.keepsSeal (by simp [exec])

/-- Of all commands only VERIFY_COMMIT reaches what a verification writes. -/
theorem exec_verifiedView (c : Instr) (hverify : ∀ v, c ≠ .verifyCommit v) (t : State) (h : exec c s = .next t) :
    t.meter.verifiedView = s.meter.verifiedView := by
  by_cases hopen : c = .coverOpen
  · subst hopen
    exact execCoverOpen_verifiedView s t h
  · exact congrArg Prod.fst (exec_keepsSeal s c hopen hverify t h)

/-- Of all commands only COVER_OPEN counts a broken seal. -/
theorem exec_sealBreaks (c : Instr) (hopen : c ≠ .coverOpen) (t : State) (h : exec c s = .next t) :
    t.meter.sealBreaks = s.meter.sealBreaks := by
  by_cases hverify : ∀ v, c ≠ .verifyCommit v
  · exact congrArg Prod.snd (exec_keepsSeal s c hopen hverify t h)
  · obtain ⟨v, rfl⟩ : ∃ v, c = .verifyCommit v := by simpa using hverify
    exact execVerifyCommit_sealBreaks s v t h

end Commands

/-- Settles O41: what a verification writes, and the count of seal breaks, of every command. -/
theorem sealedStaysSealed : Obligations.SealedStaysSealed := by
  intro c s t h
  refine ⟨fun hverify => ?_, fun hopen => exec_sealBreaks s c hopen t h⟩
  simpa [Meter.verifiedView] using exec_verifiedView s c hverify t h

end Sys2Proof.Machine
end

section
/-! The state after reset (R557 to R559) and a tick on an empty queue (R17, R47, R50): the obligations O56 and O57. -/
namespace Sys2Proof.Machine

/-! ### The state after reset -/

theorem reset_gatesFit : State.reset.gatesFit = true := by decide +kernel

theorem reset_shoal (k : Shoal) : State.reset.shoals[k] = {} := by simp [State.reset]

theorem reset_incNom : State.reset.incNom = ({} : ShoalSt).inc := by decide +kernel

/-- Settles O56: each value as the state after reset has it. -/
theorem resetValues : Obligations.ResetValues := by
  refine ⟨⟨rfl, rfl, rfl, rfl, rfl, rfl, rfl, fun k => ?_, fun p => ?_, fun l n => ?_, fun l => ?_, fun h => ?_⟩,
    reset_gatesFit, State.safe_of_gatesFit reset_gatesFit, fun p k => ?_, fun l g => ?_⟩
  · rw [reset_shoal, reset_incNom]
    exact ⟨rfl, rfl, rfl⟩
  all_goals simp [State.reset, State.life]

/-! ### A tick -/

section
variable (s : State)

/-- What a tick does to the state while the dies run (R47, R50, R184): every Shoal, every generator and both replicas advance. -/
def State.tickDies (ps : Nat) : State :=
  { s with
    shoals := Vector.ofFn fun k => s.tickShoal k s.shoals[k]
    pwm := Vector.ofFn fun p =>
      let h := s.shoals[shoalOf p]
      s.pwm[p].tick ps (refStep (s.carrierPhase p (thetaOf (h.acc + h.inc))) (s.carrierPhase p (thetaOf h.acc))) }.modBoth
    fun a => { a with replica := a.replica.advance }

/-- The timebase with the PTP clocks beside it (R17, R406). -/
def State.tickClocks : State :=
  ({ s with clk := s.clk.tick s.awake } : State).modBoth fun a => { a with ptp := a.ptp.tick }

theorem State.tick_standby (h : s.dev = .standby) : s.tick = { s with clk := s.clk.tick s.awake } := if_pos h

theorem State.dev_ne_standby_of_awake {s : State} (ha : s.awake = true) : s.dev ≠ .standby := by
  rintro h
  simp [State.awake, h] at ha

theorem State.tick_awake (ha : s.awake = true) : s.tick = s.tickClocks.tickDies (prescale (s.parN P_CARRIER_N) s.fNom) :=
  (if_neg (dev_ne_standby_of_awake ha)).trans (if_neg (by simp [ha]))

@[simp] theorem Clk.tick_now (c : Clk) (awake : Bool) : (c.tick awake).now = c.now + 1 := by
  unfold Clk.tick
  dsimp only
  split_ifs <;> rfl

/-- What no tick moves. -/
def State.still (s : State) : Vector Skerry 13 × Breakwater × Meter × Firm × Shore := (s.sk, s.bw, s.meter, s.firm, s.shore)

theorem State.tick_still : s.tick.still = s.still := by
  unfold State.tick
  dsimp only
  split_ifs <;> rfl

theorem State.tick_now : s.tick.clk.now = s.clk.now + 1 := by
  unfold State.tick
  dsimp only
  split_ifs <;> exact Clk.tick_now ..

theorem State.tickDies_shoal (k : Shoal) (ps : Nat) : (s.tickDies ps).shoals[k] = s.tickShoal k s.shoals[k] := by simp [State.tickDies]

theorem State.tickDies_replica (h : Hd) (ps : Nat) : (s.tickDies ps).hl[h].replica = s.hl[h].replica.advance := by
  simp [State.tickDies, State.modBoth]

theorem State.tickClocks_replica (h : Hd) : s.tickClocks.hl[h].replica = s.hl[h].replica := by simp [State.tickClocks, State.modBoth]

end

/-- Settles O57: in STANDBY a tick is the timebase's, and while the dies run it advances each Shoal and each replica. -/
theorem idleTick : Obligations.IdleTick := by
  intro s t hq h
  obtain rfl : s.tick.beginCycle = t := by
    rw [Steps, step, hq] at h
    exact Host.Outcome.next.inj h
  obtain ⟨hsk, hbw, hmeter, hfirm, hshore⟩ :
      s.tick.sk = s.sk ∧ s.tick.bw = s.bw ∧ s.tick.meter = s.meter ∧ s.tick.firm = s.firm ∧ s.tick.shore = s.shore := by
    simpa [State.still] using s.tick_still
  refine ⟨s.tick_now, hsk, hbw, hmeter, hfirm, hshore, fun hdev => ?_, fun ha => ⟨fun k => ?_, fun h => ?_⟩⟩
  · rw [State.beginCycle, s.tick_standby hdev]
  · change s.tick.shoals[k].acc = _ ∧ s.tick.shoals[k].tick = _ ∧ s.tick.shoals[k].inc = _
    rw [s.tick_awake ha, State.tickDies_shoal]
    exact ⟨rfl, rfl, rfl⟩
  · change s.tick.hl[h].replica.acc = _ ∧ s.tick.hl[h].replica.tick = _
    rw [s.tick_awake ha, State.tickDies_replica, State.tickClocks_replica]
    exact ⟨rfl, rfl⟩

end Sys2Proof.Machine
end

section
/-! SET_STATE (R460, Table 15.5): what it does to each state that it may name, its refusals, and the obligation O5. -/
namespace Sys2Proof.Machine

theorem exec_setStateStandby (r : Req) (s : State) :
    exec (.setStateStandby r) s = .next (s.host 0x03 r .device (setStateAns r.payload)) := rfl
theorem exec_setStateIdle (r : Req) (s : State) : exec (.setStateIdle r) s = .next (s.host 0x03 r .device (setStateAns r.payload)) := rfl
theorem exec_setStateReady (r : Req) (s : State) : exec (.setStateReady r) s = .next (s.host 0x03 r .device (setStateAns r.payload)) := rfl
theorem exec_setStateSync (r : Req) (s : State) : exec (.setStateSync r) s = .next (s.host 0x03 r .device (setStateAns r.payload)) := rfl
theorem exec_setStateService (r : Req) (s : State) :
    exec (.setStateService r) s = .next (s.host 0x03 r .device (setStateAns r.payload)) := rfl

/-! ### What an accepted SET_STATE does -/

section
variable {s : State}

theorem State.setStateEffect_present {n : Nat} (h : n = s.dev.code) : s.setStateEffect n = s := if_pos h

/-- Naming another state than the one that stands. -/
theorem State.setStateEffect_other {n : Nat} (h : n ≠ s.dev.code) : s.setStateEffect n =
    if n = 0 then s.modHost fun h => { h with after := some .standby }
    else if n = 2 then (s.setDev .idle 0).modBw fun b => { b with pending := b.params }
    else if n = 3 then s.toReady
    else if n = 4 then s.toSync
    else s.setDev .service 0 := if_neg h

theorem State.toReady_sync (h : s.dev = .sync) :
    s.toReady = ((s.disarm).allGatesOff.modSeq fun q => { q with ramp := .none, liveEntry := false }).setDev .ready 0 := if_pos h

theorem State.toReady_forming (h : s.dev = .forming) (hr : s.firm.seq.ramp.falling = false) :
    s.toReady = s.startRamp (if s.firm.sub = .gridParallel then .stopParallel else .stopIslanded) := by
  simp [State.toReady, h, hr]

theorem State.toSync_open (h : s.brkClosed = false) : s.toSync =
    ((s.setDev .sync 0).modSeq fun q => { q with ramp := .none, gridLow := none, armed := false, closeAt := none }).enableAll := by
  simp [State.toSync, h]

end

/-! ### Its answer -/

@[simp] theorem State.begin_anyClosed (s : State) (op : Nat) (r : Req) : (s.begin_ op r).1.anyClosed = s.anyClosed :=
  funext fun p => by simp [State.anyClosed, State.fbClosed]
@[simp] theorem State.begin_anyContactor (s : State) (op : Nat) (r : Req) : (s.begin_ op r).1.anyContactor = s.anyContactor := by
  rw [State.anyContactor, State.begin_anyClosed, State.anyContactor]
@[simp] theorem State.begin_gridUp (s : State) (op : Nat) (r : Req) : (s.begin_ op r).1.gridUp = s.gridUp := by simp [State.gridUp]
@[simp] theorem State.begin_gridLinkDown (s : State) (op : Nat) (r : Req) : (s.begin_ op r).1.gridLinkDown = s.gridLinkDown := by
  simp [State.gridLinkDown]
@[simp] theorem State.begin_brkClosed (s : State) (op : Nat) (r : Req) : (s.begin_ op r).1.brkClosed = s.brkClosed := by
  simp [State.brkClosed, State.inputSeen]

section
variable {b : List Byte} {u : State} {n : Nat}

theorem setStateAns_length (hb : b.length ≠ 1) : setStateAns b u = u.err ST_BAD_LENGTH := by simp [setStateAns, hb]

theorem setStateAns_unknown (hb : b.length = 1) (hn : 8 < by8 b 0 ∨ by8 b 0 = 1 ∨ by8 b 0 = 6 ∨ by8 b 0 = 7) :
    setStateAns b u = u.err ST_BAD_PARAMETER := by simp [setStateAns, hb, hn]

/-- A request of one byte that names a state. -/
structure NamesState (b : List Byte) (n : Nat) : Prop where
  length : b.length = 1
  value : by8 b 0 = n
  known : ¬ (8 < n ∨ n = 1 ∨ n = 6 ∨ n = 7)

theorem setStateAns_named (hb : NamesState b n) : setStateAns b u = u.check
    [(decide (n = 5), ST_STATE_FORBIDS), (decide (u.dev = .lockout), ST_LOCKED_OUT), (decide (u.dev = .tripped), ST_TRIP_ACTIVE),
     (decide (u.dev = .service ∧ n = 2) && u.bw.commissionWait, ST_BUSY), (!u.setStateOk n, ST_STATE_FORBIDS)]
    fun s => (s.setStateEffect n).ok := by
  obtain ⟨hlen, hval, hknown⟩ := hb
  simp [setStateAns, hlen, hval, hknown]

theorem namesState {x : Byte} (hb : b = [x]) (hx : x.toNat = n) (known : ¬ (8 < n ∨ n = 1 ∨ n = 6 ∨ n = 7)) : NamesState b n :=
  ⟨by simp [hb], by simpa [hb, by8] using hx, known⟩

variable {d : DevState} (hb : NamesState b n) (hdev : u.dev = d)
include hb hdev

/-- An accepted SET_STATE. -/
theorem setStateAns_ok (hfree : n ≠ 5 ∧ d ≠ .lockout ∧ d ≠ .tripped) (hbusy : d = .service → n = 2 → u.bw.commissionWait = false)
    (hok : u.setStateOk n = true) : setStateAns b u = (u.setStateEffect n).ok := by
  subst hdev
  obtain ⟨h5, hlockout, htripped⟩ := hfree
  have hwait : (decide (u.dev = .service ∧ n = 2) && u.bw.commissionWait) = false := by
    rw [Bool.and_eq_false_imp, decide_eq_true_eq]
    exact fun h => hbusy h.1 h.2
  rw [setStateAns_named hb, hwait, hok, decide_eq_false h5, decide_eq_false hlockout, decide_eq_false htripped]
  rfl

/-- The named state stands already (R460). -/
theorem setStateAns_present (hfree : n ≠ 5 ∧ d ≠ .lockout ∧ d ≠ .tripped) (hservice : d = .service → n ≠ 2) (hn : n = d.code) :
    setStateAns b u = u.ok := by
  rw [setStateAns_ok hb hdev hfree (fun hs h2 => absurd h2 (hservice hs)) (by simp [State.setStateOk, hdev, hn]),
    State.setStateEffect_present (by rw [hdev, hn])]

theorem setStateAns_forbids (hfree : d ≠ .lockout ∧ d ≠ .tripped ∧ d ≠ .service) (hok : u.setStateOk n = false) :
    setStateAns b u = u.err ST_STATE_FORBIDS := by
  subst hdev
  obtain ⟨hlockout, htripped, hservice⟩ := hfree
  by_cases h5 : n = 5 <;> simp [setStateAns_named hb, h5, hlockout, htripped, hservice, hok]

end

/-- Settles O5: each accepted SET_STATE passes the refusals and acts by the state that it names; each refused one by the first refusal. -/
theorem setStateAnswers : Obligations.SetStateAnswers := by
  refine ⟨fun s r hh ht => ⟨?standby, ?idle, ?ready, ?stop, ?sync, ?live, ?service, ?idleStands, ?readyStands, ?syncStands, ?serviceStands⟩,
    fun s r hh hd ht => ⟨?length, ?unknown, ?forming, ?lockout, ?tripped, ?busy, ?fromIdle, ?noGrid⟩⟩
  case standby =>
    intro hp hdev hopen
    refine (exec_setStateStandby r s).trans (congrArg _ (State.host_answered_ok hh ht ?_))
    rw [setStateAns_ok (namesState (n := 0) hp rfl (by decide)) ((s.begin_dev ..).trans hdev) (by decide) nofun (by simp [State.setStateOk, hdev, hopen]),
      State.setStateEffect_other (by simp [hdev, DevState.code])]
    rfl
  case idle =>
    intro hp hdev hwait
    refine (exec_setStateIdle r s).trans (congrArg _ (State.host_answered_ok hh ht ?_))
    rw [setStateAns_ok (namesState (n := 2) hp rfl (by decide)) ((s.begin_dev ..).trans hdev) (by decide) (by simp [hwait]) (by simp [State.setStateOk, hdev]),
      State.setStateEffect_other (by simp [hdev, DevState.code])]
    rfl
  case ready =>
    intro hp hdev
    refine (exec_setStateReady r s).trans (congrArg _ (State.host_answered_ok hh ht ?_))
    rw [setStateAns_ok (namesState (n := 3) hp rfl (by decide)) ((s.begin_dev ..).trans hdev) (by decide) nofun
        (by simp [State.setStateOk, hdev, DevState.runs]),
      State.setStateEffect_other (by simp [hdev, DevState.code])]
    exact congrArg State.ok (State.toReady_sync (by simpa using hdev))
  case stop =>
    intro hp hdev hramp
    refine (exec_setStateReady r s).trans (congrArg _ (State.host_answered_ok hh ht ?_))
    rw [setStateAns_ok (namesState (n := 3) hp rfl (by decide)) ((s.begin_dev ..).trans hdev) (by decide) nofun
        (by simp [State.setStateOk, hdev, DevState.runs]),
      State.setStateEffect_other (by simp [hdev, DevState.code])]
    have hstop := State.toReady_forming (s := (s.begin_ 0x03 r).1) (by simpa using hdev) (by simpa using hramp)
    rw [State.begin_firm] at hstop
    exact congrArg State.ok hstop
  case sync =>
    intro hp hdev hgrid hlink hopen
    refine (exec_setStateSync r s).trans (congrArg _ (State.host_answered_ok hh ht ?_))
    rw [setStateAns_ok (namesState (n := 4) hp rfl (by decide)) ((s.begin_dev ..).trans hdev) (by decide) nofun
        (by simp [State.setStateOk, hdev, hgrid, hlink]),
      State.setStateEffect_other (by simp [hdev, DevState.code])]
    exact congrArg State.ok (State.toSync_open (by simpa using hopen))
  case live =>
    intro hp hdev hgrid hlink hclosed
    refine (exec_setStateSync r s).trans (congrArg _ (State.host_answered_ok hh ht ?_))
    rw [setStateAns_ok (namesState (n := 4) hp rfl (by decide)) ((s.begin_dev ..).trans hdev) (by decide) nofun
        (by simp [State.setStateOk, hdev, hgrid, hlink]),
      State.setStateEffect_other (by simp [hdev, DevState.code])]
    rfl
  case service =>
    intro hp hdev hopen
    refine (exec_setStateService r s).trans (congrArg _ (State.host_answered_ok hh ht ?_))
    rw [setStateAns_ok (namesState (n := 8) hp rfl (by decide)) ((s.begin_dev ..).trans hdev) (by decide) nofun (by simp [State.setStateOk, hdev, hopen]),
      State.setStateEffect_other (by simp [hdev, DevState.code])]
    rfl
  case idleStands =>
    intro hp hdev
    refine (exec_setStateIdle r s).trans (congrArg _ (State.host_answered_ok hh ht ?_))
    exact setStateAns_present (namesState (n := 2) hp rfl (by decide)) ((s.begin_dev ..).trans hdev) (by decide) (by decide) rfl
  case readyStands =>
    intro hp hdev
    refine (exec_setStateReady r s).trans (congrArg _ (State.host_answered_ok hh ht ?_))
    exact setStateAns_present (namesState (n := 3) hp rfl (by decide)) ((s.begin_dev ..).trans hdev) (by decide) nofun rfl
  case syncStands =>
    intro hp hdev
    refine (exec_setStateSync r s).trans (congrArg _ (State.host_answered_ok hh ht ?_))
    exact setStateAns_present (namesState (n := 4) hp rfl (by decide)) ((s.begin_dev ..).trans hdev) (by decide) nofun rfl
  case serviceStands =>
    intro hp hdev
    refine (exec_setStateService r s).trans (congrArg _ (State.host_answered_ok hh ht ?_))
    exact setStateAns_present (namesState (n := 8) hp rfl (by decide)) ((s.begin_dev ..).trans hdev) (by decide) (by decide) rfl
  case length =>
    intro hp
    exact (exec_setStateSync r s).trans (congrArg _ (State.host_answered_err hh ht (setStateAns_length hp)))
  case unknown =>
    intro hlen hn
    exact (exec_setStateSync r s).trans (congrArg _ (State.host_answered_err hh ht (setStateAns_unknown hlen hn)))
  case forming =>
    intro hp
    refine (exec_setStateSync r s).trans (congrArg _ (State.host_answered_err hh ht ?_))
    rw [setStateAns_named (namesState (n := 5) hp rfl (by decide))]
    rfl
  case lockout =>
    intro hp hdev
    refine (exec_setStateSync r s).trans (congrArg _ (State.host_answered_err hh ht ?_))
    simp [setStateAns_named (namesState (n := 4) hp rfl (by decide)), hdev]
  case tripped =>
    intro hp hdev
    refine (exec_setStateSync r s).trans (congrArg _ (State.host_answered_err hh ht ?_))
    simp [setStateAns_named (namesState (n := 4) hp rfl (by decide)), hdev]
  case busy =>
    intro hp hdev hwait
    refine (exec_setStateIdle r s).trans (congrArg _ (State.host_answered_err hh ht ?_))
    simp [setStateAns_named (namesState (n := 2) hp rfl (by decide)), hdev, hwait]
  case fromIdle =>
    intro hp hdev
    refine (exec_setStateSync r s).trans (congrArg _ (State.host_answered_err hh ht ?_))
    exact setStateAns_forbids (namesState (n := 4) hp rfl (by decide)) ((s.begin_dev ..).trans hdev) (by decide)
      (by simp [State.setStateOk, hdev, DevState.code])
  case noGrid =>
    intro hp hdev hgrid
    refine (exec_setStateSync r s).trans (congrArg _ (State.host_answered_err hh ht ?_))
    exact setStateAns_forbids (namesState (n := 4) hp rfl (by decide)) ((s.begin_dev ..).trans hdev) (by decide)
      (by simp [State.setStateOk, hdev, hgrid, DevState.code])

end Sys2Proof.Machine
end

section
/-! Events and changes of the device state (R498, R561, R565, R566): what they write, what they leave, and the obligation O21. -/
namespace Sys2Proof.Machine

/-! ### An event -/

section
variable (s : State) (tick : Nat) (e : Event) (code source arg0 arg1 : Nat) (data : List Nat)

/-- An event reaches the token holder's capture and Ring log, and nothing else. -/
theorem State.raiseTick_eq : ∃ cap log, s.raiseTick tick e = s.modAct fun a => { a with cap := cap, log := log } := by
  have hboth (f : Cap → Cap) (g : Log → Log) :
      (s.modCap f).modLog g = s.modAct fun a => { a with cap := f s.act.cap, log := g s.act.log } := by
    simp only [State.modCap, State.modLog, State.modAct, State.modHl, State.act, State.hd, vmod, vset]
    simp
  unfold State.raiseTick
  split <;> exact ⟨_, _, hboth _ _⟩

theorem State.raiseTick_life (p : Port) : (s.raiseTick tick e).life p = s.life p := by
  obtain ⟨_, _, h⟩ := s.raiseTick_eq tick e; rw [h]; rfl

theorem State.raise_eq : ∃ cap log, s.raise code source arg0 arg1 data = s.modAct fun a => { a with cap := cap, log := log } :=
  s.raiseTick_eq _ _


@[simp] theorem State.raise_firm : (s.raise code source arg0 arg1 data).firm = s.firm := by
  obtain ⟨_, _, h⟩ := s.raise_eq code source arg0 arg1 data; rw [h]; rfl
@[simp] theorem State.raise_pending : (s.raise code source arg0 arg1 data).pending = s.pending := by
  obtain ⟨_, _, h⟩ := s.raise_eq code source arg0 arg1 data; rw [h]; rfl
@[simp] theorem State.raise_clk : (s.raise code source arg0 arg1 data).clk = s.clk := by
  obtain ⟨_, _, h⟩ := s.raise_eq code source arg0 arg1 data; rw [h]; rfl
@[simp] theorem State.raise_mirrored : (s.raise code source arg0 arg1 data).mirrored = s.mirrored := by
  obtain ⟨_, _, h⟩ := s.raise_eq code source arg0 arg1 data; rw [h]; rfl
@[simp] theorem State.raise_pwm : (s.raise code source arg0 arg1 data).pwm = s.pwm := by
  obtain ⟨_, _, h⟩ := s.raise_eq code source arg0 arg1 data; rw [h]; rfl
@[simp] theorem State.raise_sk : (s.raise code source arg0 arg1 data).sk = s.sk := by
  obtain ⟨_, _, h⟩ := s.raise_eq code source arg0 arg1 data; rw [h]; rfl
@[simp] theorem State.raise_ul : (s.raise code source arg0 arg1 data).ul = s.ul := by
  obtain ⟨_, _, h⟩ := s.raise_eq code source arg0 arg1 data; rw [h]; rfl
@[simp] theorem State.raise_dec : (s.raise code source arg0 arg1 data).dec = s.dec := by
  obtain ⟨_, _, h⟩ := s.raise_eq code source arg0 arg1 data; rw [h]; rfl
@[simp] theorem State.raise_shore : (s.raise code source arg0 arg1 data).shore = s.shore := by
  obtain ⟨_, _, h⟩ := s.raise_eq code source arg0 arg1 data; rw [h]; rfl
@[simp] theorem State.raise_lookout : (s.raise code source arg0 arg1 data).lookout = s.lookout := by
  obtain ⟨_, _, h⟩ := s.raise_eq code source arg0 arg1 data; rw [h]; rfl
@[simp] theorem State.raise_heart : (s.raise code source arg0 arg1 data).heart = s.heart := by
  obtain ⟨_, _, h⟩ := s.raise_eq code source arg0 arg1 data; rw [h]; rfl
@[simp] theorem State.raise_clocks : (s.raise code source arg0 arg1 data).clocks = s.clocks := by
  obtain ⟨_, _, h⟩ := s.raise_eq code source arg0 arg1 data; rw [h]; rfl
@[simp] theorem State.raise_rs : (s.raise code source arg0 arg1 data).rs = s.rs := by
  obtain ⟨_, _, h⟩ := s.raise_eq code source arg0 arg1 data; rw [h]; rfl
@[simp] theorem State.raise_mirror : (s.raise code source arg0 arg1 data).mirror = s.mirror := by
  obtain ⟨_, _, h⟩ := s.raise_eq code source arg0 arg1 data; rw [h]; rfl
@[simp] theorem State.raise_ack : (s.raise code source arg0 arg1 data).ack = s.ack := by
  obtain ⟨_, _, h⟩ := s.raise_eq code source arg0 arg1 data; rw [h]; rfl
@[simp] theorem State.raise_bootHeld : (s.raise code source arg0 arg1 data).bootHeld = s.bootHeld := by
  obtain ⟨_, _, h⟩ := s.raise_eq code source arg0 arg1 data; rw [h]; rfl
@[simp] theorem State.raise_bootAt : (s.raise code source arg0 arg1 data).bootAt = s.bootAt := by
  obtain ⟨_, _, h⟩ := s.raise_eq code source arg0 arg1 data; rw [h]; rfl
@[simp] theorem State.raise_cycle : (s.raise code source arg0 arg1 data).cycle = s.cycle := by
  obtain ⟨_, _, h⟩ := s.raise_eq code source arg0 arg1 data; rw [h]; rfl
@[simp] theorem State.raise_freeCount : (s.raise code source arg0 arg1 data).freeCount = s.freeCount := by
  obtain ⟨_, _, h⟩ := s.raise_eq code source arg0 arg1 data; rw [h]; rfl
@[simp] theorem State.raise_dev : (s.raise code source arg0 arg1 data).dev = s.dev := by
  obtain ⟨_, _, h⟩ := s.raise_eq code source arg0 arg1 data; rw [h]; rfl
@[simp] theorem State.raise_hd : (s.raise code source arg0 arg1 data).hd = s.hd := by
  obtain ⟨_, _, h⟩ := s.raise_eq code source arg0 arg1 data; rw [h]; rfl
@[simp] theorem State.raise_shoalSts : (s.raise code source arg0 arg1 data).shoals = s.shoals := s.raise_shoals ..
@[simp] theorem State.raise_life (p : Port) : (s.raise code source arg0 arg1 data).life p = s.life p := by simp [State.life]
@[simp] theorem State.raise_law (n : Nat) : (s.raise code source arg0 arg1 data).law n = s.law n := by simp [State.law]
@[simp] theorem State.raise_lawN (n : Nat) : (s.raise code source arg0 arg1 data).lawN n = s.lawN n := by simp [State.lawN]
/-- The token holder keeps all but its capture and its Ring log. -/
theorem State.raise_act :
    ∃ cap log, (s.raise code source arg0 arg1 data).act = { s.act with cap := cap, log := log } := by
  obtain ⟨cap, log, h⟩ := s.raise_eq code source arg0 arg1 data
  exact ⟨cap, log, by rw [h, State.modAct_act]⟩
@[simp] theorem State.raise_act_pair : (s.raise code source arg0 arg1 data).act.pair = s.act.pair := by
  obtain ⟨_, _, h⟩ := s.raise_act code source arg0 arg1 data; rw [h]
@[simp] theorem State.raise_act_ptp : (s.raise code source arg0 arg1 data).act.ptp = s.act.ptp := by
  obtain ⟨_, _, h⟩ := s.raise_act code source arg0 arg1 data; rw [h]
@[simp] theorem State.raise_act_net : (s.raise code source arg0 arg1 data).act.net = s.act.net := by
  obtain ⟨_, _, h⟩ := s.raise_act code source arg0 arg1 data; rw [h]
@[simp] theorem State.raise_act_host : (s.raise code source arg0 arg1 data).act.host = s.act.host := by
  obtain ⟨_, _, h⟩ := s.raise_act code source arg0 arg1 data; rw [h]
@[simp] theorem State.raise_act_trace : (s.raise code source arg0 arg1 data).act.trace = s.act.trace := by
  obtain ⟨_, _, h⟩ := s.raise_act code source arg0 arg1 data; rw [h]
@[simp] theorem State.raise_act_engine : (s.raise code source arg0 arg1 data).act.engine = s.act.engine := by
  obtain ⟨_, _, h⟩ := s.raise_act code source arg0 arg1 data; rw [h]
@[simp] theorem State.raise_act_adc : (s.raise code source arg0 arg1 data).act.adc = s.act.adc := by
  obtain ⟨_, _, h⟩ := s.raise_act code source arg0 arg1 data; rw [h]
@[simp] theorem State.raise_act_crc : (s.raise code source arg0 arg1 data).act.crc = s.act.crc := by
  obtain ⟨_, _, h⟩ := s.raise_act code source arg0 arg1 data; rw [h]
@[simp] theorem State.raise_act_relays : (s.raise code source arg0 arg1 data).act.relays = s.act.relays := by
  obtain ⟨_, _, h⟩ := s.raise_act code source arg0 arg1 data; rw [h]
@[simp] theorem State.raise_act_cfg : (s.raise code source arg0 arg1 data).act.cfg = s.act.cfg := by
  obtain ⟨_, _, h⟩ := s.raise_act code source arg0 arg1 data; rw [h]
@[simp] theorem State.raise_act_replica : (s.raise code source arg0 arg1 data).act.replica = s.act.replica := by
  obtain ⟨_, _, h⟩ := s.raise_act code source arg0 arg1 data; rw [h]
@[simp] theorem State.raise_act_eccCorrected : (s.raise code source arg0 arg1 data).act.eccCorrected = s.act.eccCorrected := by
  obtain ⟨_, _, h⟩ := s.raise_act code source arg0 arg1 data; rw [h]
@[simp] theorem State.raise_par (n : Nat) : (s.raise code source arg0 arg1 data).par n = s.par n := by simp [State.par]
@[simp] theorem State.raise_parN (n : Nat) : (s.raise code source arg0 arg1 data).parN n = s.parN n := by simp [State.parN]

/-- An unfrozen Ring log takes the event behind those that wait, a frozen one counts it (R498). -/
theorem State.raise_log : (s.raise code source arg0 arg1 data).act.log =
    if s.act.log.frozen then { s.act.log with frozenDrops := satInc 32 s.act.log.frozenDrops }
    else { s.act.log with
      queue := s.act.log.queue ++
        [s.stamped s.act.replica.tick { code := code, source := source, arg0 := arg0, arg1 := arg1, data := data }] } := by
  simp only [State.raise, State.raiseAs, State.raiseTick]
  split <;> simp

end

/-! ### A change of the device state -/

/-- From s to t only the firmware's state, parts of the Headlands and Breakwater's pending parameters are new: a Headland keeps all but
its capture, its Ring log and its host interface. -/
structure Reacts (s t : State) : Prop where
  rest : t = { s with hl := t.hl, firm := t.firm, bw := { s.bw with pending := t.bw.pending } }
  head : ∀ h : Hd, t.hl[h] = { s.hl[h] with cap := t.hl[h].cap, log := t.hl[h].log, host := t.hl[h].host }

section
variable {s t u : State}

theorem Reacts.refl (s : State) : Reacts s s := ⟨rfl, fun _ => rfl⟩

theorem Reacts.trans (h : Reacts s t) (k : Reacts t u) : Reacts s u := by
  refine ⟨?_, fun i => ?_⟩
  · rw [k.rest, h.rest]
  · rw [k.head i, h.head i]

theorem Reacts.modFirm (s : State) (f : Firm → Firm) : Reacts s (s.modFirm f) := ⟨rfl, fun _ => rfl⟩

theorem Reacts.pending (s : State) : Reacts s (s.modBw fun b => { b with pending := b.params }) := ⟨rfl, fun _ => rfl⟩

theorem Reacts.modHost (s : State) (f : HostIf → HostIf) : Reacts s (s.modHost f) := by
  refine ⟨rfl, fun i => ?_⟩
  by_cases h : s.hd = i
  · subst h
    simp [State.modHost, State.modAct, State.modHl]
  · simp [State.modHost, State.modAct, State.modHl, vmod_other _ _ _ _ h]

theorem Reacts.raiseTick (s : State) (tick : Nat) (e : Event) : Reacts s (s.raiseTick tick e) := by
  obtain ⟨cap, log, h⟩ := s.raiseTick_eq tick e
  rw [h]
  refine ⟨rfl, fun i => ?_⟩
  by_cases h : s.hd = i
  · subst h
    simp [State.modAct, State.modHl]
  · simp [State.modAct, State.modHl, vmod_other _ _ _ _ h]

theorem Reacts.ite {c : Prop} [Decidable c] (ht : Reacts s t) (hu : Reacts s u) : Reacts s (if c then t else u) := by
  split
  · exact ht
  · exact hu

variable (s)

theorem State.abortBlackStart_reacts (cause : Nat) : Reacts s (s.abortBlackStart cause) :=
  .ite ((Reacts.modFirm ..).trans (.raiseTick ..)) (.refl s)

theorem State.endFault_reacts : Reacts s s.endFault := .ite ((Reacts.modFirm ..).trans (.raiseTick ..)) (.refl s)

theorem State.leaveLive_reacts : Reacts s s.leaveLive := s.endFault_reacts.trans ((Reacts.modFirm ..).trans (.modFirm ..))

/-- The firmware in a new device state (R561); the sub-mode is FORMING's (R119). -/
def State.inState (new : DevState) : State := s.modFirm fun m => { m with dev := new, sub := if new = .forming then m.sub else .none }

/-- STATE_CHANGE with both codes and the causing event (R561); TRIPPED and LOCKOUT may freeze the Ring log with it (R498). -/
def State.changeEvent (new : DevState) (cause : Nat) : Event :=
  { code := 0x02, arg0 := s.dev.code * 256 + new.code, arg1 := cause
    entry := (decide (new = .tripped) && bit (s.parN P_LOG_AUTOFREEZE) 0) ||
      (decide (new = .lockout) && bit (s.parN P_LOG_AUTOFREEZE) 1) }

/-- The state of a change before the entry actions of the new state (R561). -/
def State.changed (new : DevState) (cause : Nat) : State :=
  let s1 := (s.inState new).raiseAs (s.changeEvent new cause)
  if s.dev.runs && !new.runs then s1.leaveLive else s1

theorem State.setDev_same {new : DevState} (cause : Nat) (h : s.dev = new) : s.setDev new cause = s := if_pos h

/-- The entry actions (R460, R565, R589). -/
theorem State.setDev_changes {new : DevState} (cause : Nat) (h : s.dev ≠ new) : s.setDev new cause =
    let t := s.changed new cause
    match new with
    | .tripped => ((t.abortBlackStart 5).gatesOut).modHost fun h => { h with attnSeen := false }
    | .lockout => ((t.abortBlackStart 6).gatesOut).modHost fun h => { h with attnSeen := false }
    | .boot | .standby => t.modSeq fun _ => {}
    | .forming | .ready => t
    | .idle | .sync => if s.dev = .ready then t.abortBlackStart 7 else t
    | .service => t.modBw fun b => { b with pending := b.params } := by
  unfold State.setDev
  rw [if_neg h]
  cases new <;> rfl

theorem State.changed_reacts (new : DevState) (cause : Nat) : Reacts s (s.changed new cause) :=
  .ite ((Reacts.modFirm ..).trans ((Reacts.raiseTick ..).trans (State.leaveLive_reacts _))) ((Reacts.modFirm ..).trans (.raiseTick ..))

theorem State.setDev_reacts (new : DevState) (cause : Nat) : Reacts s (s.setDev new cause) := by
  by_cases h : s.dev = new
  · rw [s.setDev_same cause h]
    exact .refl s
  · have hchanged := s.changed_reacts new cause
    have hout (t : State) (k : Nat) : Reacts t (((t.abortBlackStart k).gatesOut).modHost fun h => { h with attnSeen := false }) :=
      (t.abortBlackStart_reacts k).trans ((Reacts.modFirm ..).trans (.modHost ..))
    have habort : Reacts s (if s.dev = .ready then (s.changed new cause).abortBlackStart 7 else s.changed new cause) :=
      .ite (hchanged.trans (State.abortBlackStart_reacts ..)) hchanged
    rw [s.setDev_changes cause h]
    cases new with
    | tripped | lockout => exact hchanged.trans (hout ..)
    | boot | standby => exact hchanged.trans (.modFirm ..)
    | forming | ready => exact hchanged
    | idle | sync => exact habort
    | service => exact hchanged.trans (.pending _)

end

section
variable (s : State) (new : DevState) (cause : Nat)

@[simp] theorem State.setDev_shoals : (s.setDev new cause).shoals = s.shoals := by rw [(s.setDev_reacts new cause).rest]
@[simp] theorem State.setDev_pending : (s.setDev new cause).pending = s.pending := by rw [(s.setDev_reacts new cause).rest]
@[simp] theorem State.setDev_clk : (s.setDev new cause).clk = s.clk := by rw [(s.setDev_reacts new cause).rest]
@[simp] theorem State.setDev_mirrored : (s.setDev new cause).mirrored = s.mirrored := by rw [(s.setDev_reacts new cause).rest]
@[simp] theorem State.setDev_pwm : (s.setDev new cause).pwm = s.pwm := by rw [(s.setDev_reacts new cause).rest]
@[simp] theorem State.setDev_sk : (s.setDev new cause).sk = s.sk := by rw [(s.setDev_reacts new cause).rest]
@[simp] theorem State.setDev_ul : (s.setDev new cause).ul = s.ul := by rw [(s.setDev_reacts new cause).rest]
@[simp] theorem State.setDev_dec : (s.setDev new cause).dec = s.dec := by rw [(s.setDev_reacts new cause).rest]
@[simp] theorem State.setDev_shore : (s.setDev new cause).shore = s.shore := by rw [(s.setDev_reacts new cause).rest]
@[simp] theorem State.setDev_lookout : (s.setDev new cause).lookout = s.lookout := by rw [(s.setDev_reacts new cause).rest]
@[simp] theorem State.setDev_heart : (s.setDev new cause).heart = s.heart := by rw [(s.setDev_reacts new cause).rest]
@[simp] theorem State.setDev_clocks : (s.setDev new cause).clocks = s.clocks := by rw [(s.setDev_reacts new cause).rest]
@[simp] theorem State.setDev_rs : (s.setDev new cause).rs = s.rs := by rw [(s.setDev_reacts new cause).rest]
@[simp] theorem State.setDev_mirror : (s.setDev new cause).mirror = s.mirror := by rw [(s.setDev_reacts new cause).rest]
@[simp] theorem State.setDev_ack : (s.setDev new cause).ack = s.ack := by rw [(s.setDev_reacts new cause).rest]
@[simp] theorem State.setDev_bootHeld : (s.setDev new cause).bootHeld = s.bootHeld := by rw [(s.setDev_reacts new cause).rest]
@[simp] theorem State.setDev_bootAt : (s.setDev new cause).bootAt = s.bootAt := by rw [(s.setDev_reacts new cause).rest]
@[simp] theorem State.setDev_cycle : (s.setDev new cause).cycle = s.cycle := by rw [(s.setDev_reacts new cause).rest]
@[simp] theorem State.setDev_freeCount : (s.setDev new cause).freeCount = s.freeCount := by rw [(s.setDev_reacts new cause).rest]
@[simp] theorem State.setDev_resetKind : (s.setDev new cause).resetKind = s.resetKind := by rw [(s.setDev_reacts new cause).rest]
@[simp] theorem State.setDev_hd : (s.setDev new cause).hd = s.hd := by rw [(s.setDev_reacts new cause).rest]; rfl
/-- The token holder keeps all but its capture, its Ring log and its host interface. -/
theorem State.setDev_act : ∃ cap log host, (s.setDev new cause).act = { s.act with cap := cap, log := log, host := host } := by
  refine ⟨(s.setDev new cause).hl[s.hd].cap, (s.setDev new cause).hl[s.hd].log, (s.setDev new cause).hl[s.hd].host, ?_⟩
  have hact : (s.setDev new cause).act = (s.setDev new cause).hl[s.hd] := congrArg ((s.setDev new cause).hl[·]) (s.setDev_hd new cause)
  exact hact.trans ((s.setDev_reacts new cause).head s.hd)
@[simp] theorem State.setDev_act_pair : (s.setDev new cause).act.pair = s.act.pair := by
  obtain ⟨_, _, _, h⟩ := s.setDev_act new cause; rw [h]
@[simp] theorem State.setDev_act_ptp : (s.setDev new cause).act.ptp = s.act.ptp := by
  obtain ⟨_, _, _, h⟩ := s.setDev_act new cause; rw [h]
@[simp] theorem State.setDev_act_net : (s.setDev new cause).act.net = s.act.net := by
  obtain ⟨_, _, _, h⟩ := s.setDev_act new cause; rw [h]
@[simp] theorem State.setDev_act_trace : (s.setDev new cause).act.trace = s.act.trace := by
  obtain ⟨_, _, _, h⟩ := s.setDev_act new cause; rw [h]
@[simp] theorem State.setDev_act_engine : (s.setDev new cause).act.engine = s.act.engine := by
  obtain ⟨_, _, _, h⟩ := s.setDev_act new cause; rw [h]
@[simp] theorem State.setDev_act_adc : (s.setDev new cause).act.adc = s.act.adc := by
  obtain ⟨_, _, _, h⟩ := s.setDev_act new cause; rw [h]
@[simp] theorem State.setDev_act_crc : (s.setDev new cause).act.crc = s.act.crc := by
  obtain ⟨_, _, _, h⟩ := s.setDev_act new cause; rw [h]
@[simp] theorem State.setDev_act_relays : (s.setDev new cause).act.relays = s.act.relays := by
  obtain ⟨_, _, _, h⟩ := s.setDev_act new cause; rw [h]
@[simp] theorem State.setDev_act_cfg : (s.setDev new cause).act.cfg = s.act.cfg := by
  obtain ⟨_, _, _, h⟩ := s.setDev_act new cause; rw [h]
@[simp] theorem State.setDev_act_replica : (s.setDev new cause).act.replica = s.act.replica := by
  obtain ⟨_, _, _, h⟩ := s.setDev_act new cause; rw [h]
@[simp] theorem State.setDev_act_eccCorrected : (s.setDev new cause).act.eccCorrected = s.act.eccCorrected := by
  obtain ⟨_, _, _, h⟩ := s.setDev_act new cause; rw [h]
@[simp] theorem State.setDev_par (n : Nat) : (s.setDev new cause).par n = s.par n := by simp [State.par]
@[simp] theorem State.setDev_parN (n : Nat) : (s.setDev new cause).parN n = s.parN n := by simp [State.parN]

end

/-! ### The firmware's state after a change -/

section
variable (s : State) (new : DevState) (cause : Nat) (p : Port)

@[simp] theorem State.abortBlackStart_bw : (s.abortBlackStart cause).bw = s.bw := (s.abortBlackStart_reports cause).bw
@[simp] theorem State.abortBlackStart_dev : (s.abortBlackStart cause).dev = s.dev := (s.abortBlackStart_reports cause).dev
@[simp] theorem State.abortBlackStart_life : (s.abortBlackStart cause).life p = s.life p := by
  unfold State.abortBlackStart
  split
  · exact State.raise_life ..
  · rfl
@[simp] theorem State.abortBlackStart_bsPending : (s.abortBlackStart cause).firm.seq.bsPending = false := by
  unfold State.abortBlackStart
  split
  · rw [State.raise_firm]
    rfl
  · next h => simpa using h
@[simp] theorem State.endFault_life : s.endFault.life p = s.life p := by
  unfold State.endFault
  dsimp only
  split
  · exact State.raise_life ..
  · rfl
@[simp] theorem State.leaveLive_bw : s.leaveLive.bw = s.bw := s.leaveLive_reports.bw
@[simp] theorem State.leaveLive_dev : s.leaveLive.dev = s.dev := s.leaveLive_reports.dev
@[simp] theorem State.leaveLive_life : s.leaveLive.life p = s.life p := s.endFault_life p

/-- What is left after the event of a change. -/
theorem State.changed_reports : Reports ((s.inState new).raiseAs (s.changeEvent new cause)) (s.changed new cause) := by
  rw [State.changed]
  split
  · exact State.leaveLive_reports _
  · exact .refl _

theorem State.changed_reports_inState : Reports (s.inState new) (s.changed new cause) :=
  (State.raiseTick_reports ..).trans (s.changed_reports new cause)

@[simp] theorem State.changed_bw : (s.changed new cause).bw = s.bw := (s.changed_reports_inState new cause).bw
@[simp] theorem State.changed_dev : (s.changed new cause).dev = new := (s.changed_reports_inState new cause).dev
@[simp] theorem State.changed_life : (s.changed new cause).life p = s.life p := by
  rw [State.changed]
  split
  · exact (State.leaveLive_life _ p).trans ((s.inState new).raiseTick_life _ _ p)
  · exact (s.inState new).raiseTick_life _ _ p

@[simp] theorem State.setDev_dev : (s.setDev new cause).dev = new := by
  by_cases h : s.dev = new
  · rw [s.setDev_same cause h, h]
  · rw [s.setDev_changes cause h]
    cases new <;> dsimp only
    case idle | sync => split <;> simp
    case tripped | lockout => exact (State.abortBlackStart_dev ..).trans (s.changed_dev ..)
    all_goals exact s.changed_dev ..

/-- Only SERVICE writes at Breakwater: the pending parameters become those in force (R370). -/
theorem State.setDev_bw {new : DevState} (h : new ≠ .service) : (s.setDev new cause).bw = s.bw := by
  by_cases hs : s.dev = new
  · rw [s.setDev_same cause hs]
  · rw [s.setDev_changes cause hs]
    cases new <;> dsimp only
    case service => exact absurd rfl h
    case idle | sync => split <;> simp
    case tripped | lockout => exact (State.abortBlackStart_bw ..).trans (s.changed_bw ..)
    all_goals exact s.changed_bw ..

/-- A change into another state than TRIPPED and LOCKOUT leaves the life-cycles. -/
theorem State.setDev_life {new : DevState} (ht : new ≠ .tripped) (hl : new ≠ .lockout) : (s.setDev new cause).life p = s.life p := by
  by_cases hs : s.dev = new
  · rw [s.setDev_same cause hs]
  · rw [s.setDev_changes cause hs]
    cases new <;> dsimp only
    case tripped => exact absurd rfl ht
    case lockout => exact absurd rfl hl
    case idle | sync => split <;> simp
    all_goals exact s.changed_life ..

/-- The actions on entry into TRIPPED or LOCKOUT (R565, R589). -/
theorem State.setDev_out {new : DevState} (hs : s.dev ≠ new) (hnew : new = .tripped ∨ new = .lockout) :
    ∃ k, s.setDev new cause =
      (((s.changed new cause).abortBlackStart k).gatesOut).modHost fun h => { h with attnSeen := false } := by
  rw [s.setDev_changes cause hs]
  obtain rfl | rfl := hnew
  · exact ⟨5, rfl⟩
  · exact ⟨6, rfl⟩

@[simp] theorem State.gatesOut_life : s.gatesOut.life p = { s.life p with gateEn := false } := by
  simp [State.gatesOut, State.life, State.modFirm]

/-- The entry actions keep the event of the change. -/
theorem State.changed_reports_setDev (h : s.dev ≠ new) :
    (s.changed new cause).act.log.queue ⊆ (s.setDev new cause).act.log.queue := by
  rw [s.setDev_changes cause h]
  cases new <;> dsimp only
  case idle | sync =>
    split
    · exact (State.abortBlackStart_reports ..).queue
    · exact fun _ h => h
  case tripped | lockout =>
    exact ((State.abortBlackStart_reports ..).trans ((State.gatesOut_reports _).trans (.modHost _))).queue
  all_goals exact fun _ h => h

/-- STATE_CHANGE with both codes and the cause (R561). -/
theorem State.setDev_event (h : s.dev ≠ new) (hf : s.act.log.frozen = false) : ∃ e ∈ (s.setDev new cause).act.log.queue,
    e.code = 0x02 ∧ e.arg0 = s.dev.code * 256 + new.code ∧ e.arg1 = cause := by
  have hqueue := (s.inState new).raiseTick_queue (s.inState new).act.replica.tick (s.changeEvent new cause)
  rw [if_neg (show ¬ (s.inState new).act.log.frozen = true by simp [State.inState, hf])] at hqueue
  have hwaits := (s.changed_reports new cause).queue (hqueue ▸ List.mem_append_right _ (List.mem_singleton_self _))
  exact ⟨_, s.changed_reports_setDev new cause h hwaits, rfl, rfl, rfl⟩

end

/-! ### The obligation -/

/-- Settles O21: the Ring log as an event leaves it, and the entry actions of each new state. -/
theorem eventsAndStateChanges : Obligations.EventsAndStateChanges := by
  refine ⟨fun s code source arg0 arg1 => ⟨fun hf => ?queued, fun hf => ?dropped, ?rest⟩,
    fun s new cause => ⟨s.setDev_dev new cause, s.setDev_same cause, s.setDev_event new cause, fun hs hnew => ?out⟩⟩
  case queued =>
    refine ⟨s.stamped s.act.replica.tick { code := code, source := source, arg0 := arg0, arg1 := arg1 }, ?_, rfl, rfl, rfl, rfl, rfl, rfl,
      rfl, rfl, fun hv => ?_⟩
    · rw [s.raise_log, if_neg (by simp [hf])]
    · simp [State.stamped, hv]
  case dropped =>
    rw [s.raise_log, if_pos hf]
    exact ⟨rfl, rfl⟩
  case rest =>
    obtain ⟨_, _, h⟩ := s.raise_eq code source arg0 arg1 []
    rw [h]
    rfl
  case out =>
    obtain ⟨k, hout⟩ := s.setDev_out cause hs hnew
    rw [hout]
    exact ⟨fun p => congrArg PortLife.gateEn (State.gatesOut_life _ p), rfl, rfl, (s.changed new cause).abortBlackStart_bsPending k, by simp⟩

end Sys2Proof.Machine
end

section
/-! Tables, dispatch and the field commands (R96, R103, R110, R143, R291, R507 to R524): what each command's own checks let through, and
the obligations O8, O11 and O13. -/
namespace Sys2Proof.Machine

/-! ### From a command's answer to its reply -/

/-- A command that checks TARGET itself, whose reply waits for the standby, executes and is held back (R382). -/
theorem State.host_any_heldBack {s : State} {op : Nat} {r : Req} {f : State → Ans} {effect : State → State} {payload : State → List Byte}
    (hh : s.hears op r) (hf : f (s.begin_ op r).1 = (effect (s.begin_ op r).1).okAck (payload (s.begin_ op r).1)) :
    s.host op r .any f = s.heldBack op r effect payload := by
  obtain ⟨ha, hq, hb⟩ := hh
  rw [s.host_runs op r .any f ha hq hb rfl, hf]
  rfl

/-- Refusal conditions of which none holds. -/
theorem State.check_none (s : State) (f : State → Ans) {rs : List (Bool × Nat)} (h : ∀ x ∈ rs, x.1 = false) : s.check rs f = f s := by
  induction rs with
  | nil => rfl
  | cons x rs ih =>
    obtain ⟨b, n⟩ := x
    obtain rfl : b = false := h _ List.mem_cons_self
    exact ih fun y hy => h y (List.mem_cons_of_mem _ hy)

/-! ### Envelopes and BMS maps -/

theorem exec_envelopeLoad (r : Req) (s : State) :
    exec (.envelopeLoad r) s = .next (s.host 0x48 r .device (envelopeLoadAns r.payload)) := rfl
theorem exec_envelopeRead (r : Req) (s : State) :
    exec (.envelopeRead r) s = .next (s.host 0x49 r .device (envelopeReadAns r.payload)) := rfl
theorem exec_bmsMapLoad (r : Req) (s : State) :
    exec (.bmsMapLoad r) s = .next (s.host 0x3A r .any (bmsMapLoadAns r.target r.payload)) := rfl
theorem exec_bmsMapRead (r : Req) (s : State) :
    exec (.bmsMapRead r) s = .next (s.host 0x3B r .port (bmsMapReadAns (reqPort r) r.payload)) := rfl

section Tables
variable {b : List Byte} {u : State}

theorem envelopeLoadAns_ok {n : Fin 4} {e : Envelope} (hn : by8 b 0 = n.val)
    (he : e = { enable := by8 b 1, confirm := by8 b 3, vertices := verticesOf b (by8 b 2) }) (hlo : 2 ≤ by8 b 2) (hhi : by8 b 2 ≤ 64)
    (hlen : b.length = 4 + 8 * by8 b 2) (hconfirm : 1 ≤ by8 b 3) (hmax : by8 b 3 ≤ 16) (henable : by8 b 1 < 4)
    (htimes : timesOk (e.vertices.map (·.1)) = true) (hvalues : ∀ v ∈ e.vertices, envelopeValueOk n.val v.2 = true) :
    envelopeLoadAns b u = (u.modCfg fun c => { c with pendingSet := { c.pendingSet with env := vset c.pendingSet.env n e } }).okAck := by
  have hi : (⟨by8 b 0 % 4, by omega⟩ : Fin 4) = n := Fin.ext (by simp only [hn]; omega)
  subst he
  dsimp only [envelopeLoadAns]
  rw [u.check_none]
  · simp only [hi]
  · simp only [List.forall_mem_cons, decide_eq_false_iff_not, Bool.not_eq_false', List.any_eq_false]
    refine ⟨by omega, by omega, by omega, htimes, by omega, fun v hv => ?_, nofun⟩
    simp [hn, hvalues v hv]

theorem envelopeReadAns_ok {n : Fin 4} (hn : by8 b 0 = n.val) (hlen : b.length = 2) (hset : by8 b 1 ≤ 1) : envelopeReadAns b u =
    u.ok (((if by8 b 1 = 1 then u.act.cfg.pendingSet else u.act.cfg.committed).env[n]).bytes n.val) := by
  have hi : (⟨by8 b 0 % 4, by omega⟩ : Fin 4) = n := Fin.ext (by simp only [hn]; omega)
  dsimp only [envelopeReadAns]
  rw [u.check_none]
  · simp only [hi]
    exact congrArg (fun k => u.ok (Envelope.bytes k _)) hn
  · simp only [List.forall_mem_cons, decide_eq_false_iff_not]
    exact ⟨by omega, by omega, by omega, nofun⟩

theorem bmsMapLoadAns_ok {p : Port} {t : Nat} {m : List MapEntry} (ht : t = p.val)
    (hm : ((List.range (by8 b 0)).map fun i => mapEntryOf ((b.drop (4 + 20 * i)).take 20)) = m)
    (hlen : b.length = 4 + 20 * by8 b 0) (hpos : 0 < by8 b 0) (hmax : by8 b 0 ≤ 8) (hres : mapReserved b (by8 b 0) m = false)
    (hin : ∀ e ∈ m, e.outOfRange = false ∧ e.tooFar = false) (hone : (m.map (·.signal)).eraseDups.length = by8 b 0)
    (htime : ∀ e ∈ m, ¬(e.timeout = 0 ∧ e.signal ≤ 4)) :
    bmsMapLoadAns t b u = (u.modCfg fun c => { c with pendingSet := { c.pendingSet with maps := vset c.pendingSet.maps p m } }).okAck := by
  have hp : (⟨t % 12, by omega⟩ : Port) = p := Fin.ext (by simp only [ht]; omega)
  subst hm
  dsimp only [bmsMapLoadAns]
  rw [u.check_none]
  · simp only [hp]
  · simp only [portTargets, List.cons_append, List.nil_append, List.forall_mem_cons, decide_eq_false_iff_not, Bool.or_eq_false_iff,
      List.any_eq_false, decide_eq_true_eq, Bool.not_eq_true]
    exact ⟨by omega, by omega, by omega, ⟨by omega, hres⟩, ⟨by omega, fun e he => (hin e he).1⟩, ⟨not_not_intro hone, htime⟩,
      fun e he => (hin e he).2, nofun⟩

theorem bmsMapReadAns_ok {p : Port} (hlen : b.length = 1) (hset : by8 b 0 ≤ 1) : bmsMapReadAns p b u =
    u.ok (mapBytes (if by8 b 0 = 1 then u.act.cfg.pendingSet else u.act.cfg.committed).maps[p]) := by
  refine u.check_none _ ?_
  simp only [List.forall_mem_cons, decide_eq_false_iff_not]
  exact ⟨by omega, by omega, nofun⟩

end Tables

theorem reqPort_eq {r : Req} {p : Port} (h : r.target = p.val) : reqPort r = p := Fin.ext (by simp only [reqPort, h]; omega)

theorem Targets.port_takes {t : Nat} {p : Port} (h : t = p.val) : targetRefusal .port t = none := by
  have : t ≤ 0x0B := by omega
  simp [targetRefusal, Targets.takes, this]

/-- Settles O8: each request passes its command's checks; what it loads becomes pending, what it reads is the set's. -/
theorem tablesComplete : Obligations.TablesComplete := by
  intro s r hd ha
  refine ⟨?load, ?read, ?mapLoad, ?mapRead⟩
  case load =>
    intro n e ht hn he hlo hhi hlen hconfirm hmax henable htimes hvalues hq
    refine (exec_envelopeLoad r s).trans (congrArg _ (State.host_heldBack (State.hears_of_not_boot ha hd hq) ht ?_))
    exact envelopeLoadAns_ok hn he hlo hhi hlen hconfirm hmax henable htimes hvalues
  case read =>
    intro n ht hn hlen hset hq
    refine (exec_envelopeRead r s).trans (congrArg _ (State.host_answered_ok (State.hears_of_not_boot ha hd hq) ht ?_))
    exact envelopeReadAns_ok hn hlen hset
  case mapLoad =>
    intro p m ht hm hlen hpos hmax hres hin hone htime hq
    refine (exec_bmsMapLoad r s).trans (congrArg _ (State.host_any_heldBack (State.hears_of_not_boot ha hd hq) ?_))
    exact bmsMapLoadAns_ok ht hm hlen hpos hmax hres hin hone htime
  case mapRead =>
    intro p ht hlen hset hq
    refine (exec_bmsMapRead r s).trans (congrArg _ (State.host_answered (State.hears_of_not_boot ha hd hq) (Targets.port_takes ht) ?_))
    rw [reqPort_eq ht]
    exact bmsMapReadAns_ok hlen hset

/-! ### Dispatch, black start, closing -/

theorem exec_setDispatch (r : Req) (s : State) : exec (.setDispatch r) s = .next (s.host 0x20 r .device (setDispatchAns r.payload)) := rfl
theorem exec_blackStart (r : Req) (s : State) : exec (.blackStart r) s = .next (s.host 0x24 r .device (blackStartAns r.payload)) := rfl
theorem exec_syncClose (r : Req) (s : State) : exec (.syncClose r) s = .next (s.host 0x25 r .device (syncCloseAns r.payload)) := rfl

/-- A dispatch value that APPLY names lies within its limit. -/
theorem dispatch_within {apply : Nat} {x m : Int} {i : Nat} {l : Nat} (hm : m = l) (h : bit apply i = true → x.natAbs ≤ l) :
    (bit apply i && decide (x < -m ∨ m < x)) = false := by
  rw [Bool.and_eq_false_imp, decide_eq_false_iff_not]
  intro hi
  have := h hi
  omega

/-- Settles O11: each request passes its command's checks and writes what it asks for. -/
theorem dispatchComplete : Obligations.DispatchComplete := by
  intro s r ha ht
  have hready : s.dev = .ready → s.dev ≠ .boot := fun h => by simp [h]
  refine ⟨?dispatch, ?black, ?coordinated, ?close⟩
  case dispatch =>
    intro hlive hlen happly hhint hramp hinput hp hq hf hv hturn
    have hd : s.dev ≠ .boot := fun h => by simp [h, DevState.live] at hlive
    refine (exec_setDispatch r s).trans (congrArg _ (State.host_answered_ok (State.hears_of_not_boot ha hd hturn) ht ?_))
    dsimp only [setDispatchAns]
    rw [State.check_none]
    · rfl
    simp only [List.forall_mem_cons, State.begin_dev, State.begin_parN, Bool.not_eq_false', decide_eq_false_iff_not, Bool.or_eq_false_iff]
    exact ⟨hlive, by omega, ⟨⟨⟨⟨dispatch_within (by push_cast; rfl) hp, dispatch_within (by push_cast; rfl) hq⟩, dispatch_within rfl hf⟩,
      dispatch_within rfl hv⟩, by omega⟩, by omega, fun ⟨hne, hin⟩ => hin (hinput hne), nofun⟩
  case black =>
    intro hdev hlink hp hpending hturn
    refine (exec_blackStart r s).trans (congrArg _ (State.host_answered_ok (State.hears_of_not_boot ha (hready hdev) hturn) ht ?_))
    simp [blackStartAns, noPayload, hp, hdev, hlink, hpending]
  case coordinated =>
    intro hdev hlink hlen hns hptp hpeers hpending hturn
    have hsites : (s.act.net.peers.toList.any fun p => p.known && (p.diff[1] || p.diff[2])) = false := by
      simpa only [List.any_eq_false, Bool.and_eq_true, Bool.or_eq_true, not_and, not_or, Bool.not_eq_true] using hpeers
    refine (exec_blackStart r s).trans (congrArg _ (State.host_answered_ok (State.hears_of_not_boot ha (hready hdev) hturn) ht ?_))
    simp [blackStartAns, noPayload, hdev, hlink, hlen, hptp, hsites, hpending, Nat.not_lt.2 hns]
  case close =>
    intro hdev hp hout hfb harmed hturn
    have hd : s.dev ≠ .boot := fun h => by simp [h] at hdev
    refine (exec_syncClose r s).trans (congrArg _ (State.host_answered_ok (State.hears_of_not_boot ha hd hturn) ht ?_))
    simp [syncCloseAns, noPayload, hp, hdev, hout, hfb, harmed]

/-! ### Field inputs and outputs, the panel, wake rules -/

theorem exec_fieldStatus (r : Req) (s : State) : exec (.fieldStatus r) s = .next (s.host 0x80 r .device (fieldStatusAns r.payload)) := rfl
theorem exec_fieldOut (r : Req) (s : State) : exec (.fieldOut r) s = .next (s.host 0x81 r .device (fieldOutAns r.payload)) := rfl
theorem exec_fieldCountRead (r : Req) (s : State) : exec (.fieldCountRead r) s = .next (s.host 0x82 r .device (fieldCountAns r.payload)) := rfl
theorem exec_panelStatus (r : Req) (s : State) : exec (.panelStatus r) s = .next (s.host 0x84 r .device (panelStatusAns r.payload)) := rfl
theorem exec_wakeRulesLoad (r : Req) (s : State) : exec (.wakeRulesLoad r) s = .next (s.host 0x88 r .device (wakeLoadAns r.payload)) := rfl
theorem exec_wakeRulesRead (r : Req) (s : State) : exec (.wakeRulesRead r) s = .next (s.host 0x89 r .device (wakeReadAns r.payload)) := rfl

@[simp] theorem State.begin_owned (s : State) (op : Nat) (r : Req) (n : Nat) : (s.begin_ op r).1.owned n = s.owned n := by
  simp [State.owned, State.slotOf]

/-- The i-th of the entries of one length that a list of bytes is made of. -/
theorem entry_flatMap {α : Type} {f : α → List Byte} {n : Nat} (hf : ∀ x, (f x).length = n) (l : List α) (i : Nat) (hi : i < l.length) :
    ((l.flatMap f).drop (n * i)).take n = f l[i] := by
  induction l generalizing i with
  | nil => simp at hi
  | cons x xs ih =>
    cases i with
    | zero => simp [← hf x]
    | succ i =>
      have hskip : n * (i + 1) = (f x).length + n * i := by rw [hf, Nat.mul_succ, Nat.add_comm]
      rw [List.flatMap_cons, hskip, List.drop_length_add_append]
      exact ih i (by simpa using hi)

/-- A wake rule that is a rule of Table 17.3 reads back from its bytes. -/
theorem wakeRuleOf_bytes {x : WakeRule} (hx : x.defined = true ∧ x.filter ≤ 10000) :
    wakeRuleOf x.bytes = x ∧ rd x.bytes 5 3 = 0 := by
  obtain ⟨hdefined, hfilter⟩ := hx
  obtain ⟨hsource, hcond, haction⟩ : x.source < 256 ∧ x.cond < 256 ∧ x.action < 256 := by
    simp only [WakeRule.defined, Bool.and_eq_true, decide_eq_true_eq] at hdefined
    obtain ⟨hrule, hact⟩ := hdefined
    split at hrule <;> simp only [decide_eq_true_eq] at hrule <;> omega
  have hbytes : x.bytes = le 1 x.source ++ (le 1 x.cond ++ (le 2 x.filter ++ (le 1 x.action ++ (le 3 0 ++ [])))) := by
    rw [WakeRule.bytes, List.append_assoc, List.append_assoc, List.append_assoc, List.append_nil]
    rfl
  have h0 : by8 x.bytes 0 = x.source := by rw [hbytes, by8_le, Nat.mod_eq_of_lt hsource]
  have h1 : by8 x.bytes 1 = x.cond := by
    rw [hbytes, by8_append_of_le (by simp)]
    exact (by8_le ..).trans (Nat.mod_eq_of_lt hcond)
  have h2 : rd x.bytes 2 2 = x.filter := by
    rw [hbytes, rd_append_of_le (by simp), rd_append_of_le (by simp)]
    exact (rd_le ..).trans (Nat.mod_eq_of_lt (by omega))
  have h4 : by8 x.bytes 4 = x.action := by
    rw [hbytes, by8_append_of_le (by simp), by8_append_of_le (by simp), by8_append_of_le (by simp)]
    exact (by8_le ..).trans (Nat.mod_eq_of_lt haction)
  have h5 : rd x.bytes 5 3 = 0 := by
    rw [hbytes, rd_append_of_le (by simp), rd_append_of_le (by simp), rd_append_of_le (by simp), rd_append_of_le (by simp)]
    exact rd_le ..
  exact ⟨by rw [wakeRuleOf, h0, h1, h2, h4], h5⟩

theorem wakeLoadAns_ok {b : List Byte} {u : State} {rules : List WakeRule}
    (hb : b = le 1 rules.length ++ zeros 3 ++ rules.flatMap (·.bytes)) (hpos : 1 ≤ rules.length) (hmax : rules.length ≤ 16)
    (hrules : ∀ x ∈ rules, x.defined = true ∧ x.filter ≤ 10000) :
    wakeLoadAns b u = (u.modCfg fun c => { c with wake := some rules }).okAck := by
  have hsize (x : WakeRule) : x.bytes.length = 8 := by simp [WakeRule.bytes]
  have hcount : by8 b 0 = rules.length := by
    rw [hb, List.append_assoc, by8_le, Nat.mod_eq_of_lt (by omega)]
  have hzero : rd b 1 3 = 0 := by
    rw [hb, List.append_assoc, rd_append_of_le (by simp)]
    exact rd_le 3 0 _
  have hlen : b.length = 4 + 8 * rules.length := by
    rw [hb]
    simp [List.length_flatMap, hsize, Nat.mul_comm, ← Nat.add_assoc]
  have hentry (i : Nat) (hi : i < rules.length) : (b.drop (4 + 8 * i)).take 8 = rules[i].bytes := by
    have hskip : b.drop (4 + 8 * i) = (rules.flatMap (·.bytes)).drop (8 * i) := by
      rw [hb, ← List.drop_drop, List.drop_left' (by simp)]
    rw [hskip]
    exact entry_flatMap hsize rules i hi
  have hread : ((List.range rules.length).map fun i => wakeRuleOf ((b.drop (4 + 8 * i)).take 8)) = rules := by
    refine List.ext_getElem (by simp) fun i hi hi' => ?_
    rw [List.getElem_map, List.getElem_range, hentry i hi']
    exact (wakeRuleOf_bytes (hrules _ (List.getElem_mem hi'))).1
  dsimp only [wakeLoadAns]
  rw [hcount, hread, State.check_none]
  simp only [List.forall_mem_cons, decide_eq_false_iff_not, Bool.or_eq_false_iff, List.any_eq_false, Bool.not_eq_true', Bool.not_eq_false,
    decide_eq_true_eq, Decidable.not_not, List.mem_range]
  refine ⟨by omega, ⟨⟨by omega, fun x hx => (hrules x hx).1⟩, fun i hi => ?_⟩, ⟨by omega, fun x hx => Nat.not_lt.2 (hrules x hx).2⟩, nofun⟩
  rw [hentry i hi]
  exact (wakeRuleOf_bytes (hrules _ (List.getElem_mem hi))).2

/-- Settles O13: each request passes its command's checks and answers from Shore or Lookout. -/
theorem fieldCommandsComplete : Obligations.FieldCommandsComplete := by
  intro s r ha hd ht
  refine ⟨?status, ?out, ?count, ?panel, ?load, ?read⟩
  case status =>
    intro hp hq
    refine (exec_fieldStatus r s).trans (congrArg _ (State.host_answered_ok (State.hears_of_not_boot ha hd hq) ht ?_))
    simp [fieldStatusAns, unchanged, hp]
  case out =>
    intro hlen hmask howned hpowered hq
    have hfree : ((List.range 16).any fun n => bit (rd r.payload 0 2) n && s.owned n) = false := by
      simpa [List.any_eq_false] using howned
    refine (exec_fieldOut r s).trans (congrArg _ (State.host_answered_ok (State.hears_of_not_boot ha hd hq) ht ?_))
    simp [fieldOutAns, noPayload, hlen, hmask, hfree, hpowered]
  case count =>
    intro hlen hclear hpowered hq
    refine (exec_fieldCountRead r s).trans (congrArg _ (State.host_answered_ok (State.hears_of_not_boot ha hd hq) ht ?_))
    simp [fieldCountAns, hlen, Nat.not_le.2 hclear, hpowered]
  case panel =>
    intro hp hq
    refine (exec_panelStatus r s).trans (congrArg _ (State.host_answered_ok (State.hears_of_not_boot ha hd hq) ht ?_))
    simp [panelStatusAns, unchanged, hp]
  case load =>
    intro rules hp hpos hmax hrules hq
    refine (exec_wakeRulesLoad r s).trans (congrArg _ (State.host_heldBack (State.hears_of_not_boot ha hd hq) ht ?_))
    exact wakeLoadAns_ok hp hpos hmax hrules
  case read =>
    intro hp hq
    refine (exec_wakeRulesRead r s).trans (congrArg _ (State.host_answered_ok (State.hears_of_not_boot ha hd hq) ht ?_))
    simp [wakeReadAns, unchanged, hp]

end Sys2Proof.Machine
end

section
/-! The capture commands (R467 to R491, Tables 15.6 and 15.7): what each command's own checks let through, and the obligation O16. -/
namespace Sys2Proof.Machine

theorem exec_capConfig (r : Req) (s : State) : exec (.capConfig r) s = .next (s.host 0x50 r .device (capConfigAns r.payload)) := rfl
theorem exec_capTrigger (r : Req) (s : State) : exec (.capTrigger r) s = .next (s.host 0x51 r .device (capTriggerAns r.payload)) := rfl
theorem exec_capMaskLoad (r : Req) (s : State) : exec (.capMaskLoad r) s = .next (s.host 0x52 r .device (capMaskLoadAns r.payload)) := rfl
theorem exec_capArm (r : Req) (s : State) : exec (.capArm r) s = .next (s.host 0x53 r .device (capArmAns r.payload)) := rfl
theorem exec_capForce (r : Req) (s : State) : exec (.capForce r) s = .next (s.host 0x54 r .device (capForceAns r.payload)) := rfl
theorem exec_capStatus (r : Req) (s : State) : exec (.capStatus r) s = .next (s.host 0x55 r .device (capStatusAns r.payload)) := rfl
theorem exec_capRead (r : Req) (s : State) : exec (.capRead r) s = .next (s.host 0x56 r .device (capReadAns r.payload)) := rfl
theorem exec_capMeasRead (r : Req) (s : State) : exec (.capMeasRead r) s = .next (s.host 0x57 r .device (capMeasReadAns r.payload)) := rfl
theorem exec_capStream (r : Req) (s : State) : exec (.capStream r) s = .next (s.host 0x58 r .device (capStreamAns r.payload)) := rfl

/-! ### Configuration: no record runs -/

section Configuration
variable {b : List Byte} {u : State} (hidle : u.act.cap.busy = false)
include hidle

theorem capConfigAns_ok {sel : List Nat} (hlen : b.length = 140) (hsel : ((List.range 32).map fun c => rd b (12 + 4 * c) 4) = sel)
    (hok : sel.all selOk = true) (hin : sel.all selInRange = true) (hpre : rd b 4 4 < rd b 0 4) (hdiv : 1 ≤ rd b 8 2)
    (hdmax : rd b 8 2 ≤ 4096) (hmode : by8 b 10 ≤ 2) (hzero : by8 b 11 = 0) :
    capConfigAns b u = (u.modCapCfg fun c =>
      { c with cfg := { c.cfg with length := rd b 0 4, pre := rd b 4 4, div := rd b 8 2, mode := by8 b 10, sel := sel } }).okAck := by
  dsimp only [capConfigAns]
  rw [hsel, hok, hin, hidle, if_neg (by omega), if_neg (by simp), if_neg (by simp; omega), if_neg (by simp; omega)]

theorem capTriggerAns_ok (hlen : b.length = 16) (hsource : by8 b 0 ≤ 4) (hedge : by8 b 2 ≤ 2) (hzero : by8 b 3 = 0)
    (hchannel : by8 b 0 = 0 → by8 b 1 ≤ 31) (harg : by8 b 0 = 1 ∨ by8 b 0 = 2 → by8 b 1 ≤ 7) :
    capTriggerAns b u = (u.modCapCfg fun c =>
      { c with cfg := { c.cfg with source := by8 b 0, arg := by8 b 1, edge := by8 b 2, level := ofTwos 32 (rd b 4 4), hyst := rd b 8 4,
                                   holdoff := rd b 12 4 } }).okAck := by
  dsimp only [capTriggerAns]
  rw [hidle, if_neg (by omega), if_neg (by simp), if_neg (by omega), if_neg (by omega)]

theorem capMaskLoadAns_ok {i : Fin 4} (hi : by8 b 0 = i.val) (hchannel : by8 b 1 ≤ 31) (hlo : 2 ≤ by8 b 2) (hhi : by8 b 2 ≤ 64)
    (hflags : by8 b 3 ≤ 3) (hlen : b.length = 4 + 8 * by8 b 2) (htimes : timesOk ((verticesOf b (by8 b 2)).map (·.1)) = true) :
    capMaskLoadAns b u = (u.modCapCfg fun c =>
      { c with masks := vset c.masks i (some ⟨by8 b 1, bit (by8 b 3) 0, bit (by8 b 3) 1, verticesOf b (by8 b 2)⟩) }).okAck := by
  dsimp only [capMaskLoadAns]
  rw [hidle, htimes, if_neg (by omega), if_neg (by simp), if_neg (by simp; omega), dif_pos ⟨by omega, hchannel, hhi⟩]
  simp only [hi, vset]

theorem capStreamAns_ok (hlen : b.length = 12) (hpos : 1 ≤ by8 b 0) (hnets : by8 b 0 ≤ 3) (hcls : by8 b 1 ≤ 5) (hip : rdBe b 4 4 ≠ 0) :
    capStreamAns b u =
      (u.modCapCfg fun c => { c with stream := some ⟨by8 b 0, by8 b 1, rd b 2 2, rd b 4 4, rd b 8 4⟩ }).okAck := by
  dsimp only [capStreamAns]
  rw [hidle, if_neg (by omega), if_neg (by simp), if_neg (by omega), if_neg (by omega), if_neg (by omega)]

end Configuration

/-! ### Arming and reading -/

/-- An update of the token holder is what it does to that Headland. -/
theorem State.modAct_congr {s : State} {f g : Headland → Headland} (h : f s.act = g s.act) : s.modAct f = s.modAct g :=
  congrArg (fun a => ({ s with hl := vset s.hl s.hd a } : State)) h

theorem State.modCap_congr {s : State} {f g : Cap → Cap} (h : f s.act.cap = g s.act.cap) : s.modCap f = s.modCap g :=
  State.modAct_congr (congrArg (fun c => { s.act with cap := c }) h)

@[simp] theorem State.begin_ptpNow (s : State) (op : Nat) (r : Req) : (s.begin_ op r).1.ptpNow = s.ptpNow := by simp [State.ptpNow]
@[simp] theorem State.begin_ipOf (s : State) (op : Nat) (r : Req) (n : Net) : (s.begin_ op r).1.ipOf n = s.ipOf n := by simp [State.ipOf]

section Reading
variable {b : List Byte} {u : State} {c : Cap} (hc : u.act.cap = c)
include hc

theorem capArmAns_ok (hb : b = []) (hsome : c.cfg.enabled ≠ []) (hchannel : c.cfg.source = 0 → c.cfg.arg ∈ c.cfg.enabled)
    (hmask : c.cfg.source = 2 → ∀ (i : Fin 4) (m : CapMask), c.cfg.arg = i.val → c.masks[i] = some m → m.channel ∈ c.cfg.enabled)
    (hroom : c.cfg.length * c.cfg.enabled.length * 4 ≤ 6291456)
    (hstream : c.cfg.mode = 2 → ∃ d, c.stream = some d ∧ ∀ n : Net, bit d.nets n.val = true → u.ipOf n ≠ 0) (htrig : c.state ≠ .triggered)
    (hstreaming : c.state ≠ .streaming) : capArmAns b u = (u.modCap (·.arm u.ptpNow u.clk.now)).ok := by
  subst hc hb
  dsimp only [capArmAns]
  rw [if_neg (by simp), if_neg, if_neg (by omega), if_neg, if_neg (by simp [htrig, hstreaming])]
  · rintro ⟨hmode, hnone⟩
    obtain ⟨d, hd, hip⟩ := hstream hmode
    rw [hd] at hnone
    simp only [Bool.or_eq_true, Bool.and_eq_true, decide_eq_true_eq] at hnone
    exact hnone.elim (fun h => hip 0 h.1 h.2) fun h => hip 1 h.1 h.2
  · rintro (hempty | ⟨hsource, hoff⟩ | ⟨hsource, hoff⟩)
    · simp_all
    · simp [hchannel hsource] at hoff
    · split at hoff
      · next hlt =>
        split at hoff
        · next m hm => simp [hmask hsource ⟨_, hlt⟩ m rfl hm] at hoff
        · cases hoff
      · cases hoff

theorem capForceAns_ok (hb : b = []) (hstate : c.state = .armed) (hfire : c.fire = none) (hdue : c.due = none)
    (hev : c.evaluates u.ptpNow = true) : capForceAns b u = (u.modCap fun c => { c with fire := some ⟨u.ptpNow, true, false⟩ }).ok := by
  have hfires : (u.modCap fun c => if c.fire.isSome ∨ c.due.isSome ∨ !c.evaluates u.ptpNow then c else
      { c with fire := some ⟨u.ptpNow, true, false⟩ }) = u.modCap fun c => { c with fire := some ⟨u.ptpNow, true, false⟩ } :=
    State.modCap_congr (by rw [hc, if_neg (by simp [hfire, hdue, hev])])
  rw [capForceAns, if_neg (by simp [hb]), if_neg (by simp [hc, hstate]), hfires]

theorem capReadAns_ok {ch start asked : Nat} (hb : b = le 1 ch ++ [0] ++ le 2 asked ++ le 4 start) (hon : ch ∈ c.recordCfg.enabled)
    (hch : ch ≤ 31) (hpos : 1 ≤ asked) (hasked : asked < 65536) (hstart : start < c.recordCfg.length) (hlt : start < 2 ^ 32)
    (hdone : c.state = .done) : capReadAns b u =
      let xs := ((c.asRecorded.channelOf ch).drop start).take (min asked 1022)
      u.ok (le 2 xs.length ++ zeros 2 ++ xs.flatMap fun x => le 4 x.2.word) := by
  subst hc
  have h0 : by8 b 0 = ch := by
    rw [hb, List.append_assoc, List.append_assoc, by8_le, Nat.mod_eq_of_lt (by omega)]
  have h1 : by8 b 1 = 0 := by
    rw [hb, List.append_assoc, List.append_assoc, by8_append_of_le (by simp)]
    simp [by8]
  have h2 : rd b 2 2 = asked := by
    rw [hb, List.append_assoc, rd_append_of_le (by simp)]
    simpa using (rd_le 2 asked (le 4 start)).trans (Nat.mod_eq_of_lt hasked)
  have h4 : rd b 4 4 = start := by
    rw [hb, rd_append_of_le (by simp)]
    simpa using (rd_le 4 start []).trans (Nat.mod_eq_of_lt hlt)
  have hlen : b.length = 8 := by simp [hb]
  have hnone : asked ≠ 0 := by omega
  simp [capReadAns, Cap.asRecorded, h0, h1, h2, h4, hlen, hdone, hon, hnone, Nat.not_lt.2 hch, Nat.not_le.2 hstart]

theorem capMeasReadAns_ok {ch : Nat} (hb : b = le 1 ch) (hon : ch ∈ c.recordCfg.enabled) (hch : ch ≤ 31) (hdone : c.state = .done) :
    capMeasReadAns b u = u.ok ((c.meas.getD ch (measure [])).flatMap fun v => le 4 (toTwos 32 v)) := by
  subst hc
  have h0 : by8 b 0 = ch := by
    rw [hb, ← List.append_nil (le 1 ch), by8_le, Nat.mod_eq_of_lt (by omega)]
  have hlen : b.length = 1 := by simp [hb]
  simp [capMeasReadAns, Cap.asRecorded, h0, hlen, hdone, hon, Nat.not_lt.2 hch]

end Reading

/-! ### The obligation -/

/-- Settles O16: each request passes its command's checks; a configuration reaches both Headlands, a read answers from the record. -/
theorem captureCommandsComplete : Obligations.CaptureCommandsComplete := by
  refine ⟨fun s r ha hd ht hidle => ⟨?config, ?trigger, ?mask, ?stream⟩, fun s r c ha hd ht hc => ⟨?arm, ?force, ?status, ?read, ?meas⟩⟩
  case config =>
    intro sel hlen hsel hok hin hpre hdiv hdmax hmode hzero hq
    refine (exec_capConfig r s).trans (congrArg _ (State.host_heldBack (State.hears_of_not_boot ha hd hq) ht ?_))
    exact capConfigAns_ok (by simpa using hidle) hlen hsel hok hin hpre hdiv hdmax hmode hzero
  case trigger =>
    intro hlen hsource hedge hzero hchannel harg hq
    refine (exec_capTrigger r s).trans (congrArg _ (State.host_heldBack (State.hears_of_not_boot ha hd hq) ht ?_))
    exact capTriggerAns_ok (by simpa using hidle) hlen hsource hedge hzero hchannel harg
  case mask =>
    rintro i _ rfl hi hchannel hlo hhi hflags hlen htimes hq
    refine (exec_capMaskLoad r s).trans (congrArg _ (State.host_heldBack (State.hears_of_not_boot ha hd hq) ht ?_))
    exact capMaskLoadAns_ok (by simpa using hidle) hi hchannel hlo hhi hflags hlen htimes
  case stream =>
    intro hlen hpos hnets hcls hip hq
    refine (exec_capStream r s).trans (congrArg _ (State.host_heldBack (State.hears_of_not_boot ha hd hq) ht ?_))
    exact capStreamAns_ok (by simpa using hidle) hlen hpos hnets hcls hip
  case arm =>
    intro hp hsome hchannel hmask hroom hstream htrig hstreaming hq
    refine (exec_capArm r s).trans (congrArg _ (State.host_answered_ok (State.hears_of_not_boot ha hd hq) ht ?_))
    exact capArmAns_ok (by simpa using hc) hp hsome hchannel hmask hroom (by simpa using hstream) htrig hstreaming
  case force =>
    intro hp hstate hfire hdue hev hq
    refine (exec_capForce r s).trans (congrArg _ (State.host_answered_ok (State.hears_of_not_boot ha hd hq) ht ?_))
    rw [capForceAns_ok (u := (s.begin_ 0x54 r).1) (by simpa using hc) hp hstate hfire hdue (by simpa using hev), State.begin_ptpNow]
    rfl
  case status =>
    intro hp hq
    refine (exec_capStatus r s).trans (congrArg _ (State.host_answered_ok (State.hears_of_not_boot ha hd hq) ht ?_))
    simp [capStatusAns, unchanged, hp, hc]
  case read =>
    intro ch start asked hp hon hch hpos hasked hstart hlt hdone hq
    refine (exec_capRead r s).trans (congrArg _ (State.host_answered_ok (State.hears_of_not_boot ha hd hq) ht ?_))
    exact capReadAns_ok (by simpa using hc) hp hon hch hpos hasked hstart hlt hdone
  case meas =>
    intro ch hp hon hch hdone hq
    refine (exec_capMeasRead r s).trans (congrArg _ (State.host_answered_ok (State.hears_of_not_boot ha hd hq) ht ?_))
    exact capMeasReadAns_ok (by simpa using hc) hp hon hch hdone

end Sys2Proof.Machine
end

section
/-! A port trip (R202, R563): what it writes at its port and what it leaves. -/
namespace Sys2Proof.Machine

/-- A port's life-cycle as a trip of it stands (R563). -/
def PortLife.tripped (l : PortLife) (t : Trip) : PortLife :=
  { l with trips := if l.trips.contains t then l.trips else l.trips ++ [t], gateEn := false }

theorem PortLife.mem_tripped (l : PortLife) (t : Trip) : t ∈ (l.tripped t).trips := by
  unfold PortLife.tripped
  dsimp only
  split
  · next h => simpa using h
  · simp

theorem PortLife.trips_subset_tripped (l : PortLife) (t : Trip) : l.trips ⊆ (l.tripped t).trips := by
  unfold PortLife.tripped
  dsimp only
  split
  · exact fun _ h => h
  · exact List.subset_append_left ..

section
variable (s : State) (p q : Port) (t : Trip)

/-- A port trip writes the port's life-cycle, the event of the last trip, the trace of the token holder and the port's generator. -/
theorem State.tripPort_eq : ∃ trace, s.tripPort p t = { s.modTrace fun _ => trace with
    firm := { s.firm with life := vmod s.firm.life p (·.tripped t), tripEvent := t.event }
    pwm := if t.forces then vmod s.pwm p fun w => w.tripNow s.clk.now else s.pwm } := by
  unfold State.tripPort
  dsimp only
  split <;> exact ⟨_, rfl⟩


@[simp] theorem State.tripPort_pending : (s.tripPort p t).pending = s.pending := by obtain ⟨_, h⟩ := s.tripPort_eq p t; rw [h]; rfl
@[simp] theorem State.tripPort_clk : (s.tripPort p t).clk = s.clk := by obtain ⟨_, h⟩ := s.tripPort_eq p t; rw [h]; rfl
@[simp] theorem State.tripPort_mirrored : (s.tripPort p t).mirrored = s.mirrored := by obtain ⟨_, h⟩ := s.tripPort_eq p t; rw [h]; rfl
@[simp] theorem State.tripPort_shoals : (s.tripPort p t).shoals = s.shoals := by obtain ⟨_, h⟩ := s.tripPort_eq p t; rw [h]; rfl
@[simp] theorem State.tripPort_sk : (s.tripPort p t).sk = s.sk := by obtain ⟨_, h⟩ := s.tripPort_eq p t; rw [h]; rfl
@[simp] theorem State.tripPort_ul : (s.tripPort p t).ul = s.ul := by obtain ⟨_, h⟩ := s.tripPort_eq p t; rw [h]; rfl
@[simp] theorem State.tripPort_dec : (s.tripPort p t).dec = s.dec := by obtain ⟨_, h⟩ := s.tripPort_eq p t; rw [h]; rfl
@[simp] theorem State.tripPort_bw : (s.tripPort p t).bw = s.bw := by obtain ⟨_, h⟩ := s.tripPort_eq p t; rw [h]; rfl
@[simp] theorem State.tripPort_shore : (s.tripPort p t).shore = s.shore := by obtain ⟨_, h⟩ := s.tripPort_eq p t; rw [h]; rfl
@[simp] theorem State.tripPort_lookout : (s.tripPort p t).lookout = s.lookout := by obtain ⟨_, h⟩ := s.tripPort_eq p t; rw [h]; rfl
@[simp] theorem State.tripPort_heart : (s.tripPort p t).heart = s.heart := by obtain ⟨_, h⟩ := s.tripPort_eq p t; rw [h]; rfl
@[simp] theorem State.tripPort_clocks : (s.tripPort p t).clocks = s.clocks := by obtain ⟨_, h⟩ := s.tripPort_eq p t; rw [h]; rfl
@[simp] theorem State.tripPort_rs : (s.tripPort p t).rs = s.rs := by obtain ⟨_, h⟩ := s.tripPort_eq p t; rw [h]; rfl
@[simp] theorem State.tripPort_mirror : (s.tripPort p t).mirror = s.mirror := by obtain ⟨_, h⟩ := s.tripPort_eq p t; rw [h]; rfl
@[simp] theorem State.tripPort_ack : (s.tripPort p t).ack = s.ack := by obtain ⟨_, h⟩ := s.tripPort_eq p t; rw [h]; rfl
@[simp] theorem State.tripPort_bootHeld : (s.tripPort p t).bootHeld = s.bootHeld := by obtain ⟨_, h⟩ := s.tripPort_eq p t; rw [h]; rfl
@[simp] theorem State.tripPort_bootAt : (s.tripPort p t).bootAt = s.bootAt := by obtain ⟨_, h⟩ := s.tripPort_eq p t; rw [h]; rfl
@[simp] theorem State.tripPort_cycle : (s.tripPort p t).cycle = s.cycle := by obtain ⟨_, h⟩ := s.tripPort_eq p t; rw [h]; rfl
@[simp] theorem State.tripPort_freeCount : (s.tripPort p t).freeCount = s.freeCount := by obtain ⟨_, h⟩ := s.tripPort_eq p t; rw [h]; rfl
@[simp] theorem State.tripPort_resetKind : (s.tripPort p t).resetKind = s.resetKind := by obtain ⟨_, h⟩ := s.tripPort_eq p t; rw [h]; rfl
@[simp] theorem State.tripPort_hd : (s.tripPort p t).hd = s.hd := by obtain ⟨_, h⟩ := s.tripPort_eq p t; rw [h]; rfl
@[simp] theorem State.tripPort_dev : (s.tripPort p t).dev = s.dev := by obtain ⟨_, h⟩ := s.tripPort_eq p t; rw [h]; rfl
theorem State.tripPort_firm : (s.tripPort p t).firm = { s.firm with life := vmod s.firm.life p (·.tripped t), tripEvent := t.event } := by
  obtain ⟨_, h⟩ := s.tripPort_eq p t; rw [h]
theorem State.tripPort_pwm : (s.tripPort p t).pwm = if t.forces then vmod s.pwm p fun w => w.tripNow s.clk.now else s.pwm := by
  obtain ⟨_, h⟩ := s.tripPort_eq p t; rw [h]
theorem State.tripPort_act : ∃ trace, (s.tripPort p t).act = { s.act with trace := trace } := by
  obtain ⟨trace, h⟩ := s.tripPort_eq p t
  refine ⟨trace, ?_⟩
  rw [h]
  exact (s.modTrace_act fun _ => trace :)
@[simp] theorem State.tripPort_act_pair : (s.tripPort p t).act.pair = s.act.pair := by obtain ⟨_, h⟩ := s.tripPort_act p t; rw [h]
@[simp] theorem State.tripPort_act_ptp : (s.tripPort p t).act.ptp = s.act.ptp := by obtain ⟨_, h⟩ := s.tripPort_act p t; rw [h]
@[simp] theorem State.tripPort_act_net : (s.tripPort p t).act.net = s.act.net := by obtain ⟨_, h⟩ := s.tripPort_act p t; rw [h]
@[simp] theorem State.tripPort_act_host : (s.tripPort p t).act.host = s.act.host := by obtain ⟨_, h⟩ := s.tripPort_act p t; rw [h]
@[simp] theorem State.tripPort_act_log : (s.tripPort p t).act.log = s.act.log := by obtain ⟨_, h⟩ := s.tripPort_act p t; rw [h]
@[simp] theorem State.tripPort_act_cap : (s.tripPort p t).act.cap = s.act.cap := by obtain ⟨_, h⟩ := s.tripPort_act p t; rw [h]
@[simp] theorem State.tripPort_act_engine : (s.tripPort p t).act.engine = s.act.engine := by obtain ⟨_, h⟩ := s.tripPort_act p t; rw [h]
@[simp] theorem State.tripPort_act_adc : (s.tripPort p t).act.adc = s.act.adc := by obtain ⟨_, h⟩ := s.tripPort_act p t; rw [h]
@[simp] theorem State.tripPort_act_crc : (s.tripPort p t).act.crc = s.act.crc := by obtain ⟨_, h⟩ := s.tripPort_act p t; rw [h]
@[simp] theorem State.tripPort_act_relays : (s.tripPort p t).act.relays = s.act.relays := by obtain ⟨_, h⟩ := s.tripPort_act p t; rw [h]
@[simp] theorem State.tripPort_act_cfg : (s.tripPort p t).act.cfg = s.act.cfg := by obtain ⟨_, h⟩ := s.tripPort_act p t; rw [h]
@[simp] theorem State.tripPort_act_replica : (s.tripPort p t).act.replica = s.act.replica := by obtain ⟨_, h⟩ := s.tripPort_act p t; rw [h]
@[simp] theorem State.tripPort_act_eccCorrected : (s.tripPort p t).act.eccCorrected = s.act.eccCorrected := by obtain ⟨_, h⟩ := s.tripPort_act p t; rw [h]
@[simp] theorem State.tripPort_par (n : Nat) : (s.tripPort p t).par n = s.par n := by simp [State.par]
@[simp] theorem State.tripPort_parN (n : Nat) : (s.tripPort p t).parN n = s.parN n := by simp [State.parN]
@[simp] theorem State.tripPort_law (n : Nat) : (s.tripPort p t).law n = s.law n := by simp [State.law, State.tripPort_firm]
@[simp] theorem State.tripPort_lawN (n : Nat) : (s.tripPort p t).lawN n = s.lawN n := by simp [State.lawN]

@[simp] theorem State.tripPort_life : (s.tripPort p t).life p = (s.life p).tripped t := by simp [State.life, State.tripPort_firm]
theorem State.tripPort_life_other (h : p ≠ q) : (s.tripPort p t).life q = s.life q := by
  simp [State.life, State.tripPort_firm, vmod_other _ _ _ _ h]
theorem State.tripPort_pwm_other (h : p ≠ q) : (s.tripPort p t).pwm[(q : Nat)] = s.pwm[(q : Nat)] := by
  rw [State.tripPort_pwm]
  split
  · exact vmod_other _ _ _ _ h
  · rfl
theorem State.tripPort_pwm_of_forces (h : t.forces = true) : (s.tripPort p t).pwm[(p : Nat)] = s.pwm[(p : Nat)].tripNow s.clk.now := by
  simp [State.tripPort_pwm, h]

/-- A trip leaves the trips that stand. -/
theorem State.trips_subset_tripPort : (s.life q).trips ⊆ ((s.tripPort p t).life q).trips := by
  by_cases h : p = q
  · subst h
    rw [State.tripPort_life]
    exact PortLife.trips_subset_tripped ..
  · rw [s.tripPort_life_other p q t h]
    exact fun _ h => h

theorem State.mem_tripPort : t ∈ ((s.tripPort p t).life p).trips := by
  rw [State.tripPort_life]
  exact PortLife.mem_tripped ..

/-- No device-state change touches the trips that stand. -/
@[simp] theorem State.setDev_trips (new : DevState) (cause : Nat) : ((s.setDev new cause).life p).trips = (s.life p).trips := by
  by_cases hs : s.dev = new
  · rw [s.setDev_same cause hs]
  · by_cases hout : new = .tripped ∨ new = .lockout
    · obtain ⟨k, h⟩ := s.setDev_out cause hs hout
      rw [h]
      change ((((s.changed new cause).abortBlackStart k).gatesOut).life p).trips = _
      rw [State.gatesOut_life, State.abortBlackStart_life, State.changed_life]
    · obtain ⟨ht, hl⟩ := not_or.1 hout
      rw [State.setDev_life _ _ _ ht hl]

end

@[simp] theorem Pwm.tripNow_trip (w : Pwm) (now : Nat) : (w.tripNow now).trip = true := rfl

end Sys2Proof.Machine
end

section
/-! TRIP, CLEAR_TRIP, APPLY_TICK and BUS_STEP (R49 to R53, R68, R75, R464, R465): what each leaves behind, and the obligation O10. -/
namespace Sys2Proof.Machine

/-! ### What an answered command leaves beside its effect -/

section
variable (s : State) (op : Nat) (r : Req) (effect : State → State) (payload : State → List Byte) (status : Nat)

/-- A value that neither the networks nor the host interface hold is what the effect makes it. -/
theorem State.answered_keeps {α : Type} {g : State → α} (hnet : ∀ (s : State) (f : NetIf → NetIf), g (s.modNet f) = g s)
    (hhost : ∀ (s : State) (f : HostIf → HostIf), g (s.modHost f) = g s) :
    g (s.answered op r effect payload status) = g (effect (s.begin_ op r).1) := by
  have hlatency (t : State) (it : QItem) : g (t.noteLatency it) = g t := by
    unfold State.noteLatency
    split
    · exact hhost _ _
    · rfl
  exact (hlatency _ _).trans (State.reply_keeps hnet hhost _ _ _ _)

@[simp] theorem State.answered_firm : (s.answered op r effect payload status).firm = (effect (s.begin_ op r).1).firm :=
  s.answered_keeps op r effect payload status (g := State.firm) (by simp) (by simp)
@[simp] theorem State.answered_sk : (s.answered op r effect payload status).sk = (effect (s.begin_ op r).1).sk :=
  s.answered_keeps op r effect payload status (g := State.sk) (by simp) (by simp)
@[simp] theorem State.answered_bw : (s.answered op r effect payload status).bw = (effect (s.begin_ op r).1).bw :=
  s.answered_keeps op r effect payload status (g := State.bw) (by simp) (by simp)
@[simp] theorem State.answered_meter : (s.answered op r effect payload status).meter = (effect (s.begin_ op r).1).meter :=
  s.answered_keeps op r effect payload status (g := State.meter) (by simp) (by simp)
@[simp] theorem State.answered_life (p : Port) :
    (s.answered op r effect payload status).life p = (effect (s.begin_ op r).1).life p := by simp [State.life]

end

/-! ### TRIP (R464) -/

theorem exec_trip (r : Req) (s : State) : exec (.trip r) s = .next (s.host 0x40 r .any (tripAns r.target r.payload)) := rfl
theorem exec_clearTrip (r : Req) (s : State) : exec (.clearTrip r) s = .next (s.host 0x41 r .any (clearTripAns r.target r.payload)) := rfl

theorem tripAns_ok {t : Nat} {b : List Byte} (u : State) (hb : b = []) (ht : t ≤ 0x0B ∨ t = 0xFF) : tripAns t b u = (u.hostTrip t).ok := by
  have h0 : t ≠ 0x0C := by omega
  have hknown : targetKnown t = true := by simp [targetKnown]; omega
  have htakes : Targets.portOrAll.takes t = true := by simpa [Targets.takes] using ht
  simp [tripAns, tripTarget, hb, h0, hknown, htakes]

section
variable (s : State)

/-- Trips of the ports of a list, one after another: those that stood stand, and each named port has the trip. -/
theorem foldl_tripPort_trips (t : Trip) (l : List Port) (q : Port) : (s.life q).trips ⊆ ((l.foldl (·.tripPort · t) s).life q).trips ∧
    (q ∈ l → t ∈ ((l.foldl (·.tripPort · t) s).life q).trips) := by
  induction l generalizing s with
  | nil => exact ⟨fun _ h => h, nofun⟩
  | cons p l ih =>
    obtain ⟨hkept, hnamed⟩ := ih (s.tripPort p t)
    refine ⟨List.Subset.trans (s.trips_subset_tripPort p q t) hkept, fun hq => ?_⟩
    obtain rfl | hq := List.mem_cons.1 hq
    · exact hkept (s.mem_tripPort q t)
    · exact hnamed hq

/-- TRIP by command, as three steps: the ports' trips, the event, the device state. -/
theorem State.hostTrip_cases (target : Nat) {P : State → Prop}
    (htrip : P (((namedPorts target).filter fun p => !(s.life p).trips.contains .host).foldl (·.tripPort · .host) s))
    (hraise : ∀ (t : State) (mask : Nat), P t → P (t.raise 0x03 0xFF mask)) (hdev : ∀ (t : State) (cause : Nat), P t → P (t.setDev .tripped cause)) :
    P (s.hostTrip target) := by
  unfold State.hostTrip
  extract_lets fresh s1 s2
  have h2 : P s2 := by
    unfold s2
    split
    · exact htrip
    · exact hraise _ _ htrip
  split
  · exact hdev _ _ h2
  · exact h2

theorem State.hostTrip_trips (target : Nat) (p : Port) (hp : p ∈ namedPorts target) : .host ∈ ((s.hostTrip target).life p).trips := by
  refine s.hostTrip_cases target (P := fun t => .host ∈ (t.life p).trips) ?_ (fun t mask h => by simpa using h) fun t cause h => by simpa using h
  obtain ⟨hkept, hnamed⟩ := foldl_tripPort_trips s .host ((namedPorts target).filter fun p => !(s.life p).trips.contains .host) p
  by_cases hstands : Trip.host ∈ (s.life p).trips
  · exact hkept hstands
  · exact hnamed (List.mem_filter.2 ⟨hp, by simpa using hstands⟩)

@[simp] theorem State.hostTrip_sk (target : Nat) : (s.hostTrip target).sk = s.sk :=
  s.hostTrip_cases target (P := fun t => t.sk = s.sk) (foldl_view (v := State.sk) (fun t p => t.tripPort_sk p .host) _ s)
    (fun t mask h => by simpa using h) fun t cause h => by simpa using h

end

theorem mem_namedPorts {t : Nat} {p : Port} (h : t = p.val ∨ t = 0xFF) : p ∈ namedPorts t := by
  unfold namedPorts
  split
  · exact List.mem_finRange p
  · next hne =>
    obtain rfl := h.resolve_right hne
    exact List.mem_singleton.2 (Fin.ext (Nat.mod_eq_of_lt p.isLt).symm)

/-! ### CLEAR_TRIP of one port (R465) -/

theorem clearTripAns_cleared {t : Nat} {b : List Byte} {u : State} {p : Port} (hb : b = []) (ht : t = p.val) (hdev : u.dev ≠ .lockout)
    (hcause : u.causeStands p = false) : clearTripAns t b u = (((u.touchPort p).clearPort p).settleTripped).ok := by
  have h0 : t ≠ 0x0C := by omega
  have hff : t ≠ 0xFF := by omega
  have hlt : t ≤ 0x0B := by omega
  have hknown : targetKnown t = true := by simp [targetKnown]; omega
  have hp : (⟨t % 12, by omega⟩ : Port) = p := Fin.ext (by simp only [ht]; omega)
  simp [clearTripAns, tripTarget, Targets.takes, hb, h0, hff, hlt, hknown, hp, hdev, hcause, State.clearOne]

section
variable (s : State) (p : Port)

/-- What a cleared port shows: no trip, and no limit latch. -/
def State.clearedView : List Trip × Vector Bool 3 := ((s.life p).trips, s.bw.ports[linkOf p].latch)

@[simp] theorem State.modLife_clearedView (f : PortLife → PortLife) (h : ∀ l, (f l).trips = l.trips) :
    (s.modLife p f).clearedView p = s.clearedView p := by
  simp [State.clearedView, State.life, State.modLife, State.modFirm, h]

theorem State.unfault_clearedView : (s.unfault p).clearedView p = s.clearedView p := by
  unfold State.unfault
  split
  · simp [State.toPlugged, State.openContactors]
  · rfl

theorem State.retestPort_clearedView : (s.retestPort p).clearedView p = s.clearedView p := by
  unfold State.retestPort
  extract_lets l back
  split
  · simp [State.toPlugged, State.openContactors]
  · rfl

theorem State.enablePort_clearedView : (s.enablePort p).clearedView p = s.clearedView p := by
  unfold State.enablePort
  extract_lets s1
  split
  · exact s1.modLife_clearedView p _ fun _ => rfl
  · rfl

theorem State.clearPort_clearedView : (s.clearPort p).clearedView p = ([], Vector.replicate 3 false) := by
  unfold State.clearPort
  extract_lets l held s1 s2 s3
  have h1 : s1.bw.ports[linkOf p].latch = Vector.replicate 3 false := by
    simp [s1, l, State.modBwPort, State.modBw]
  have h2 : s2.bw.ports[linkOf p].latch = Vector.replicate 3 false := by
    unfold s2
    split <;> exact h1
  have h3 : s3.clearedView p = ([], Vector.replicate 3 false) := by
    simp only [s3]
    rw [State.retestPort_clearedView, State.unfault_clearedView]
    simpa [State.clearedView, State.life, State.modLife, State.modFirm] using h2
  split
  · rw [State.enablePort_clearedView, h3]
  · exact h3

theorem State.settleTripped_clearedView : s.settleTripped.clearedView p = s.clearedView p := by
  have hset (new : DevState) (h : new ≠ .service) : (s.setDev new 0).clearedView p = s.clearedView p := by
    simp [State.clearedView, State.setDev_bw _ _ h]
  unfold State.settleTripped
  split
  · split
    · exact hset .ready nofun
    · split
      · exact hset .idle nofun
      · rfl
  · rfl

end

/-! ### APPLY_TICK (R49, R52, R53, R68) -/

section
variable (s : State) (k : Shoal)

/-- What no reply, and nothing handed to Lookout, can change stays when the changes that completed are answered. -/
theorem State.releaseAcked_keeps {α : Type} {g : State → α} (hnet : ∀ (s : State) (f : NetIf → NetIf), g (s.modNet f) = g s)
    (hhost : ∀ (s : State) (f : HostIf → HostIf), g (s.modHost f) = g s)
    (hlookout : ∀ (s : State) (f : Lookout → Lookout), g (s.modLookout f) = g s) : g s.releaseAcked = g s := by
  have hrelease (t : State) (w : AwaitAck) : g (t.release w) = g t := by
    have hreply : g ((t.reply w.item w.status w.payload).noteLatency w.item) = g t := by
      unfold State.noteLatency
      split
      · exact (hhost _ _).trans (State.reply_keeps hnet hhost _ _ _ _)
      · exact State.reply_keeps hnet hhost _ _ _ _
    unfold State.release
    dsimp only
    split
    · exact (hlookout _ _).trans hreply
    · exact hreply
  exact (foldl_view hrelease _ _).trans (hhost _ _)

@[simp] theorem State.releaseAcked_shoals : s.releaseAcked.shoals = s.shoals :=
  s.releaseAcked_keeps (g := State.shoals) (by simp) (by simp) (by simp)
@[simp] theorem State.releaseAcked_sk : s.releaseAcked.sk = s.sk :=
  s.releaseAcked_keeps (g := State.sk) (by simp) (by simp) (by simp)

@[simp] theorem State.applyReplicas_shoals : s.applyReplicas.shoals = s.shoals := by
  unfold State.applyReplicas State.holderTune
  split <;> rfl
@[simp] theorem State.applyReplicas_sk : s.applyReplicas.sk = s.sk := by
  unfold State.applyReplicas State.holderTune
  split <;> rfl

/-- What a Shoal's angle runs by: the fields that wait, INC and TICK. -/
def State.pace : List StepFields × Nat × Nat := (s.shoals[k].fields, s.shoals[k].inc, s.shoals[k].tick)

@[simp] theorem State.modShoal_pace (f : ShoalSt → ShoalSt) (h : ∀ x, (f x).fields = x.fields ∧ (f x).inc = x.inc ∧ (f x).tick = x.tick) :
    (s.modShoal k f).pace k = s.pace k := by
  simp [State.pace, State.modShoal, h]
@[simp] theorem State.raise_pace (code source arg0 arg1 data) : (s.raise code source arg0 arg1 data).pace k = s.pace k := by
  simp [State.pace]
@[simp] theorem State.tripPort_pace (p t) : (s.tripPort p t).pace k = s.pace k := by simp [State.pace]
@[simp] theorem State.modPair_pace (h f) : (s.modPair h f).pace k = s.pace k := rfl
@[simp] theorem State.modClocks_pace (f) : (s.modClocks f).pace k = s.pace k := rfl
@[simp] theorem State.modPwm_pace (p f) : (s.modPwm p f).pace k = s.pace k := rfl
@[simp] theorem State.eachOf_pace (f : State → Port → State) (h : ∀ t p, (f t p).pace k = t.pace k) : (s.eachOf k f).pace k = s.pace k :=
  foldl_view (v := (State.pace · k)) (fun t _ => h t _) _ _

@[simp] theorem State.moveBlocks_pace (old : State) : (s.moveBlocks old k).pace k = s.pace k :=
  (State.eachOf_pace _ k _ fun _ _ => rfl).trans (s.modShoal_pace k _ fun _ => ⟨rfl, rfl, rfl⟩)

@[simp] theorem State.reportAnchor_pace (d : Int) : (s.reportAnchor k d).pace k = s.pace k := by
  have hslip (t : State) (p : Port) : (if (t.life p).admitted then t.tripPort p .slip else t).pace k = t.pace k := by
    split <;> simp
  unfold State.reportAnchor
  dsimp only
  split_ifs
  · rfl
  · simp [hslip]
  · simp

@[simp] theorem State.tideEffect_pace (c : Nat) (e : TideEntry) : (s.tideEffect k c e).pace k = s.pace k := by
  unfold State.tideEffect
  dsimp only
  split_ifs <;> simp

/-- Fields that are due leave the queue and set INC (R49, R52). -/
theorem State.applyShoal_pace {f : StepFields} {rest : List StepFields} (hf : s.shoals[k].fields = f :: rest)
    (hdue : fieldsDue s.shoals[k].tick f.angle.applyTick = true) :
    (s.applyShoal k).pace k = (rest, s.clampInc f.angle.incNew, s.shoals[k].tick) := by
  have hfind : s.shoals[k].fields.find? (fun f => fieldsDue s.shoals[k].tick f.angle.applyTick) = some f := by
    rw [hf]
    exact List.find?_cons_of_pos hdue
  have hset (inc : Nat) : (s.modShoal k fun h => { h.reanchor f.angle inc with fields := s.shoals[k].fields.erase f }).pace k =
      (rest, inc, s.shoals[k].tick) := by
    have herase : s.shoals[(k : Nat)].fields.erase f = rest := by simpa using congrArg (List.erase · f) hf
    simp [State.pace, State.modShoal, herase, ShoalSt.reanchor]
  have htook (t : State) : (if f.sender = s.hd then t.modPair s.hd fun p => { p with tookShoals := vset p.tookShoals k true } else t).pace k =
      t.pace k := by split <;> simp
  unfold State.applyShoal
  simp only [hfind]
  refine (foldl_view (v := (State.pace · k)) (fun (t : State) (x : Nat × TideEntry) => t.tideEffect_pace k x.1 x.2) _ _).trans ?_
  refine (State.modShoal_pace _ k _ ?_).trans ?_
  · exact fun _ => ⟨rfl, rfl, rfl⟩
  rw [htook, State.reportAnchor_pace, State.modClocks_pace, State.moveBlocks_pace]
  exact hset _

theorem State.applyShoal_none (hf : s.shoals[k].fields = []) : s.applyShoal k = s := by
  have hfind : s.shoals[k].fields.find? (fun f => fieldsDue s.shoals[k].tick f.angle.applyTick) = none := by rw [hf]; rfl
  unfold State.applyShoal
  simp only [hfind]

end

/-! ### The obligation -/

/-- Settles O10: what TRIP and CLEAR_TRIP leave at their ports, what a Shoal takes of fields that are due, and where a bus step runs. -/
theorem tripTickStepComplete : Obligations.TripTickStepComplete := by
  refine ⟨fun s r p hh hp ht => ?trip, fun s r p hh hdev hp ht hcause => ?clear, fun s k => ⟨fun f rest hf hdue => ?due, fun hf => ?none⟩,
    fun s => ⟨fun ha hrun => ?run, fun hoff => ?off⟩⟩
  case trip =>
    have htarget : r.target ≤ 0x0B ∨ r.target = 0xFF := by omega
    refine ⟨_, (exec_trip r s).trans (congrArg _ (State.host_any_answered_ok (effect := fun u => u.hostTrip r.target) (payload := noPayload) hh
      (tripAns_ok _ hp htarget))), ?_, by simp, by simp⟩
    rw [State.answered_life]
    exact State.hostTrip_trips _ _ p (mem_namedPorts ht)
  case clear =>
    have hcleared := ((s.begin_ 0x41 r).1.touchPort p).clearPort_clearedView p
    have hview := (((s.begin_ 0x41 r).1.touchPort p).clearPort p).settleTripped_clearedView p
    obtain ⟨htrips, hlatch⟩ := Prod.mk.inj (hview.trans hcleared)
    refine ⟨_, (exec_clearTrip r s).trans (congrArg _ (State.host_any_answered_ok
      (effect := fun u => ((u.touchPort p).clearPort p).settleTripped) (payload := noPayload) hh
      (clearTripAns_cleared hp ht (by simpa using hdev) hcause))), ?_, ?_, by simp [State.settleTripped_meter]⟩
    · rw [State.answered_life]
      exact htrips
    · rw [State.answered_bw]
      exact hlatch
  case due =>
    refine ⟨_, rfl, ?_⟩
    have hpace : (s.applyTick k).releaseAcked.pace k = (rest, s.clampInc f.angle.incNew, s.shoals[k].tick) := by
      simpa [State.pace, State.applyTick] using s.applyShoal_pace k hf hdue
    simpa [State.pace] using hpace
  case none =>
    refine ⟨_, rfl, ?_, ?_⟩
    · simp [State.applyTick, s.applyShoal_none k hf]
    · simp [State.applyTick, s.applyShoal_none k hf]
  case run => exact ⟨s.busStep, by simp [exec, execBusStep, ha, hrun], rfl⟩
  case off =>
    refine ⟨s, ?_, rfl⟩
    obtain h | h := hoff <;> simp [exec, execBusStep, h]

end Sys2Proof.Machine
end

section
/-! Resets, standby and memory errors (R30, R31, R460, R461, R538 to R540, R558): what each leaves behind, and the obligation O6. -/
namespace Sys2Proof.Machine

/-! ### RESET and what follows its reply (R460, R461) -/

theorem exec_moduleReset (r : Req) (s : State) : exec (.moduleReset r) s = .next (s.host 0x0E r .device (resetAns r.payload)) := rfl
theorem exec_headlandReset (r : Req) (s : State) : exec (.headlandReset r) s = .next (s.host 0x0E r .device (resetAns r.payload)) := rfl

theorem resetAns_module {b : List Byte} {u : State} (hb : b = [1, 0xFE]) (hruns : u.dev.runs = false) (hopen : u.anyContactor = false) :
    resetAns b u = (u.modHost fun h => { h with after := some .moduleReset }).ok := by
  simp [resetAns, hb, by8, hruns, hopen]

theorem resetAns_peer {b : List Byte} {u : State} (hb : b = [2, 0xFD]) (hfree : u.act.pair.handover = false) :
    resetAns b u = (u.modHost fun h => { h with after := some .peerReset }).ok := by
  simp [resetAns, hb, by8, hfree]

/-! ### The reset of the dies (R495, R558, Table 19.2) -/

section
variable {α : Type} {g : State → α} (hhl : ∀ (s : State) (h : Hd) (f : Headland → Headland), g (s.modHl h f) = g s)
  (hfree : ∀ (s : State) (n : Nat), g { s with freeCount := n } = g s)
include hhl hfree

/-- A record reaches the token holder alone, and its snapshot the count of free reads. -/
theorem State.writeRecord_keeps (s : State) (e : Event) : g (s.writeRecord e) = g s := by
  have hsnap (set : Nat) : g (s.snapshot set).1 = g s := by
    refine foldl_view (v := fun x : State × List Nat => g x.1) (fun x i => ?_) _ _
    dsimp only
    split
    · rfl
    · split
      · exact hfree _ _
      · rfl
  unfold State.writeRecord
  extract_lets ctrl set snap x l drops r s1
  have hx : g x.1 = g s := by
    unfold x
    split
    · exact hsnap _
    · rfl
  split
  · exact (hhl s1 _ _).trans ((hhl x.1 _ _).trans hx)
  · exact (hhl x.1 _ _).trans hx

theorem State.logWrite_keeps (s : State) : g s.logWrite = g s := by
  unfold State.logWrite
  extract_lets l s1
  split
  · exact (hhl _ _ _).trans (State.writeRecord_keeps hhl hfree _ _)
  · split
    · rfl
    · next e rest _ =>
      extract_lets s2 rate s3
      have h3 : g s3 = g s := by
        unfold s3
        split
        · exact (State.writeRecord_keeps hhl hfree _ _).trans (hhl _ _ _)
        · exact (hhl _ _ _).trans (hhl _ _ _)
      split
      · exact (hhl _ _ _).trans h3
      · exact h3

theorem State.flushLog_keeps (s : State) : g s.flushLog = g s := by
  unfold State.flushLog
  split
  · refine foldl_view (fun t _ => ?_) _ s
    split
    · rfl
    · exact t.logWrite_keeps hhl hfree
  · rfl

end

section
variable (s : State) (kind cause : Nat)

@[simp] theorem State.flushLog_bw : s.flushLog.bw = s.bw := State.flushLog_keeps (g := State.bw) (fun _ _ _ => rfl) (fun _ _ => rfl) s
@[simp] theorem State.flushLog_lookout : s.flushLog.lookout = s.lookout := State.flushLog_keeps (g := State.lookout) (fun _ _ _ => rfl) (fun _ _ => rfl) s
@[simp] theorem State.flushLog_heart : s.flushLog.heart = s.heart := State.flushLog_keeps (g := State.heart) (fun _ _ _ => rfl) (fun _ _ => rfl) s
@[simp] theorem State.flushLog_clk : s.flushLog.clk = s.clk := State.flushLog_keeps (g := State.clk) (fun _ _ _ => rfl) (fun _ _ => rfl) s

/-- A module reset leaves the dies at their reset values; Breakwater keeps its latches, Lookout and the cartridge run on (R558, R559). -/
theorem State.moduleReset_leaves : (s.moduleReset kind).dev = .boot ∧ (s.moduleReset kind).resetKind = kind ∧
    (s.moduleReset kind).bw.token = none ∧ (s.moduleReset kind).bw.lockout = s.bw.lockout ∧
    (s.moduleReset kind).bw.params = s.bw.params ∧ (s.moduleReset kind).pwm = Vector.replicate 12 {} ∧
    (s.moduleReset kind).sk = Vector.replicate 13 {} ∧ (s.moduleReset kind).lookout = s.lookout ∧ (s.moduleReset kind).meter = s.meter := by
  have hbw : (s.setDev .boot 0).flushLog.bw = s.bw := by simp [State.setDev_bw]
  have hlookout : (s.setDev .boot 0).flushLog.lookout = s.lookout := by simp
  have hmeter : (s.setDev .boot 0).flushLog.meter = s.meter := by simp
  have hlock : (s.moduleReset kind).bw.lockout = (s.setDev .boot 0).flushLog.bw.lockout := rfl
  have hparams : (s.moduleReset kind).bw.params = (s.setDev .boot 0).flushLog.bw.params := rfl
  exact ⟨rfl, rfl, rfl, by rw [hlock, hbw], by rw [hparams, hbw], rfl, rfl, hlookout, hmeter⟩

/-- Standby leaves the dies without supply at their reset values; Lookout keeps its rules, Heartwood its lock-out (R460, R540). -/
theorem State.powerDown_leaves : (s.powerDown cause).dev = .standby ∧ (s.powerDown cause).bw = {} ∧
    (s.powerDown cause).pwm = Vector.replicate 12 {} ∧ (s.powerDown cause).sk = Vector.replicate 13 {} ∧
    (s.powerDown cause).clocks = Clocks.acquiring s.clk.now ∧ (s.powerDown cause).rs = [] ∧
    (s.powerDown cause).heart.lockedOut = s.heart.lockedOut ∧ (s.powerDown cause).lookout.rules = s.lookout.rules := by
  have hclk : (s.setDev .standby cause).flushLog.clk = s.clk := by simp
  have hheart : (s.setDev .standby cause).flushLog.heart = s.heart := by simp
  have hlookout : (s.setDev .standby cause).flushLog.lookout = s.lookout := by simp
  have hlocked : (s.powerDown cause).heart.lockedOut = (s.setDev .standby cause).flushLog.heart.lockedOut := rfl
  have hrules : (s.powerDown cause).lookout.rules = (s.setDev .standby cause).flushLog.lookout.rules := rfl
  exact ⟨rfl, rfl, rfl, rfl, congrArg (fun c : Clk => Clocks.acquiring c.now) hclk, rfl, by rw [hlocked, hheart], by rw [hrules, hlookout]⟩

end

/-! ### Memory errors (R30, R31) -/

/-- A counter of 32 bits that saturates. -/
theorem satInc_eq (n : Nat) : satInc 32 n = min (2 ^ 32 - 1) (n + 1) := by
  unfold satInc
  split <;> omega

/-- A capture that is not armed takes no event for its trigger (R479). -/
theorem State.raise_cap {s : State} (h : s.act.cap.state ≠ .armed) (code source arg0 arg1 : Nat) (data : List Nat) :
    (s.raise code source arg0 arg1 data).act.cap = s.act.cap := by
  have hcond (c : Nat) (t : Rat) : s.act.cap.condition 3 c t = s.act.cap := if_neg fun hc => h hc.1
  unfold State.raise State.raiseAs State.raiseTick
  dsimp only
  split <;> simp only [State.modLog_act, State.modCap_act, hcond]

section Trips
variable (t : Trip) (l : List Port) (q : Port)

theorem foldl_tripPort_other (s : State) (hq : q ∉ l) :
    (l.foldl (·.tripPort · t) s).life q = s.life q ∧ (l.foldl (·.tripPort · t) s).pwm[(q : Nat)] = s.pwm[(q : Nat)] := by
  induction l generalizing s with
  | nil => exact ⟨rfl, rfl⟩
  | cons p l ih =>
    obtain ⟨hp, hl⟩ : q ≠ p ∧ q ∉ l := by simpa using hq
    obtain ⟨hlife, hpwm⟩ := ih (s.tripPort p t) hl
    exact ⟨hlife.trans (s.tripPort_life_other p q t hp.symm), hpwm.trans (s.tripPort_pwm_other p q t hp.symm)⟩

/-- The port is off: no gate command, and the trip bit of its generator set. -/
def State.portOff (s : State) (q : Port) : Prop := (s.life q).gateEn = false ∧ s.pwm[(q : Nat)].trip = true

theorem State.tripPort_portOff (s : State) (p : Port) (ht : t.forces = true) (h : p = q ∨ s.portOff q) : (s.tripPort p t).portOff q := by
  by_cases hp : p = q
  · subst hp
    rw [State.portOff, State.tripPort_life, s.tripPort_pwm_of_forces p t ht]
    exact ⟨rfl, rfl⟩
  · obtain ⟨hgate, htrip⟩ := h.resolve_left hp
    rw [State.portOff, s.tripPort_life_other p q t hp, s.tripPort_pwm_other p q t hp]
    exact ⟨hgate, htrip⟩

theorem foldl_tripPort_portOff (s : State) (ht : t.forces = true) (hq : q ∈ l ∨ s.portOff q) : (l.foldl (·.tripPort · t) s).portOff q := by
  induction l generalizing s with
  | nil => exact hq.resolve_left (by simp)
  | cons p l ih =>
    refine ih (s.tripPort p t) ?_
    obtain hmem | hoff := hq
    · obtain rfl | hl := List.mem_cons.1 hmem
      · exact .inr (s.tripPort_portOff t q q ht (.inl rfl))
      · exact .inl hl
    · exact .inr (s.tripPort_portOff t q p ht (.inr hoff))

end Trips

/-- The ports of a region. -/
theorem mem_region {k : Shoal} {p : Port} : p ∈ (List.finRange 3).map (portOf k) ↔ shoalOf p = k := by
  simp only [List.mem_map, List.mem_finRange, true_and]
  constructor
  · rintro ⟨j, rfl⟩
    exact Fin.ext (by simp only [shoalOf, portOf]; omega)
  · rintro rfl
    exact ⟨localOf p, Fin.ext (by simp only [shoalOf, portOf, localOf]; omega)⟩

theorem State.eachOf_eq_foldl (s : State) (k : Shoal) (f : State → Port → State) :
    s.eachOf k f = ((List.finRange 3).map (portOf k)).foldl f s := by rw [State.eachOf, List.foldl_map]

/-! ### The obligation -/

/-- Settles O6: the RESET that each KIND asks for, what follows its reply, and what each memory error does. -/
theorem resetsComplete : Obligations.ResetsComplete := by
  refine ⟨fun s r => ⟨?module, ?peer, ?standby, ?begin, ?peerReset⟩,
    fun s k => ⟨?resetN, ?inStandby, ?release, ?fails, ?strandline, ?shoal, ?asleep, ?corrected⟩⟩
  case module =>
    intro hh hdev ht hp hruns hopen
    refine (exec_moduleReset r s).trans (congrArg _ (State.host_answered_ok hh ht ?_))
    exact resetAns_module hp (by simpa using hruns) (by simpa using hopen)
  case peer =>
    intro hh hdev ht hp hfree
    refine (exec_headlandReset r s).trans (congrArg _ (State.host_answered_ok hh ht ?_))
    exact resetAns_peer hp (by simpa using hfree)
  case standby =>
    intro hafter hdev
    obtain ⟨hnew, hbw, hpwm, hsk, hclocks, hrs, hheart, hlookout⟩ := s.powerDown_leaves 0
    exact ⟨s.powerDown 0, congrArg Host.Outcome.next (if_pos ⟨hafter, hdev⟩), hnew, congrArg Breakwater.token hbw, hpwm, hsk, hclocks, hrs, hheart, hlookout⟩
  case begin =>
    intro hafter hruns hdev
    obtain ⟨hnew, hkind, htoken, hlock, _, hpwm, hsk, hlookout, hmeter⟩ := s.moduleReset_leaves 3
    exact ⟨s.moduleReset 3, congrArg Host.Outcome.next (if_pos ⟨hafter, by simp [hruns], hdev⟩), hnew, hkind, htoken, hpwm, hsk, hlock,
      hlookout, hmeter⟩
  case peerReset =>
    intro hafter
    exact congrArg Host.Outcome.next (if_pos hafter)
  case resetN =>
    intro hdev hlow
    obtain ⟨hnew, hkind, htoken, hlock, hparams, hpwm, hsk, hlookout, hmeter⟩ := s.moduleReset_leaves 2
    exact ⟨_, congrArg Host.Outcome.next (if_neg (by simp [hdev, hlow])), hnew, hkind, rfl, htoken, hlock, hparams, hpwm, hsk, hmeter,
      hlookout⟩
  case inStandby =>
    intro hdev
    exact congrArg Host.Outcome.next (if_pos (.inl hdev))
  case release => rfl
  case fails =>
    intro hactive
    exact ⟨congrArg Host.Outcome.next (if_pos hactive), congrArg Host.Outcome.next (if_pos hactive)⟩
  case strandline =>
    intro hawake
    refine ⟨_, congrArg Host.Outcome.next (if_pos hawake), ?_⟩
    rw [State.raise_cap (by simp), State.raise_firm]
    simp
  case shoal =>
    intro hawake
    refine ⟨_, congrArg Host.Outcome.next (if_pos hawake), fun p hp => ?_, fun p hp => ?_⟩
    · rw [State.raise_life, State.raise_pwm, State.eachOf_eq_foldl]
      exact ⟨(foldl_tripPort_trips s .shoalEcc _ p).2 (mem_region.2 hp), foldl_tripPort_portOff .shoalEcc _ p s rfl (.inl (mem_region.2 hp))⟩
    · rw [State.raise_life, State.raise_pwm, State.eachOf_eq_foldl]
      exact foldl_tripPort_other .shoalEcc _ p s fun h => hp (mem_region.1 h)
  case asleep =>
    intro hasleep
    exact congrArg Host.Outcome.next (if_neg (by simp [hasleep]))
  case corrected =>
    intro hdev
    simp only [← satInc_eq]
    exact ⟨congrArg Host.Outcome.next (if_neg hdev), congrArg Host.Outcome.next (if_neg hdev), fun h => congrArg Host.Outcome.next (if_neg hdev)⟩

end Sys2Proof.Machine
end

section
/-! The direct edge channels and the interlock (R216 to R218): what a transition does to the gates of its leg, and the obligation O32. -/
namespace Sys2Proof.Machine

/-- The channel's on-transition is noted at its gate. -/
def Skerry.noteOn (k : Skerry) (now : Nat) (g : Gate) : Skerry :=
  { k with gates := vmod k.gates g fun x => { x with chan := true, chanAt := some now, held := none } }

section
variable (k : Skerry) (now : Nat) (g : Gate)

@[simp] theorem Skerry.noteOn_same : (k.noteOn now g).gates[(g : Nat)] =
    { k.gates[(g : Nat)] with chan := true, chanAt := some now, held := none } := by simp [Skerry.noteOn]
@[simp] theorem Skerry.noteOn_other : (k.noteOn now g).gates[(otherGate g : Nat)] = k.gates[(otherGate g : Nat)] :=
  vmod_other _ _ _ _ (ne_otherGate g)

variable {k now g}

/-- A gate-off demand, a gate that is on already and a soft turn-off: the transition is noted (R217, R226). -/
theorem Skerry.chanOn_noted (h : (k.offDemand (legOfGate g) || k.gates[g].on || k.gates[g].soft) = true) :
    k.chanOn now g = k.noteOn now g := if_pos h

section Free
variable (hdemand : k.offDemand (legOfGate g) = false) (hoff : k.gates[g].on = false) (hsoft : k.gates[g].soft = false)
include hdemand hoff hsoft

/-- A command beside the other gate on is refused (R218). -/
theorem Skerry.chanOn_beside (ho : k.gates[otherGate g].on = true) (hat : k.gates[otherGate g].chanAt ≠ some now) :
    k.chanOn now g = { k.noteOn now g with bothOn := true } := by
  simp only [Skerry.chanOn, hdemand, hoff, hsoft, ho, if_neg hat]
  rfl

variable (ho : k.gates[otherGate g].on = false) (hheld : k.gates[otherGate g].held = none)
include ho hheld

/-- Within the interlock the transition is held (R218). -/
theorem Skerry.chanOn_holds {at_ : Nat} (hat : k.gates[otherGate g].offAt = some at_) (hlt : now - at_ < 32) :
    k.chanOn now g = { k.noteOn now g with
      gates := vmod (k.noteOn now g).gates g fun x => { x with held := some now }
      interlockHold := k.interlockHold || decide (now - at_ + 1 < 32) } := by
  have hsince : k.gates[otherGate g].since now = some (now - at_) := by simp only [SkGate.since, hat, Option.map_some]
  simp only [Skerry.chanOn, hdemand, hoff, hsoft, ho, hheld, hsince]
  exact if_pos hlt

/-- Past the interlock the driver turns the gate on (R217, R218). -/
theorem Skerry.chanOn_turnsOn (hat : ∀ a : Nat, k.gates[otherGate g].offAt = some a → 32 ≤ now - a) :
    k.chanOn now g = { k.noteOn now g with gates := vmod (k.noteOn now g).gates g (·.turnOn now) } := by
  simp only [Skerry.chanOn, hdemand, hoff, hsoft, ho, hheld]
  cases h : k.gates[otherGate g].offAt with
  | none =>
    have hsince : k.gates[otherGate g].since now = none := by simp only [SkGate.since, h, Option.map_none]
    simp only [hsince]
    rfl
  | some a =>
    have hsince : k.gates[otherGate g].since now = some (now - a) := by simp only [SkGate.since, h, Option.map_some]
    simp only [hsince]
    exact if_neg (Nat.not_lt.2 (hat a h))

end Free

theorem Skerry.interlocked_of_offAt {at_ : Nat} (hat : k.gates[otherGate g].offAt = some at_) (hlt : now - at_ < 32) :
    k.interlocked now g = true := by
  simp only [Skerry.interlocked, SkGate.since, hat, Option.map_some]
  exact decide_eq_true hlt

theorem Skerry.not_interlocked (hat : ∀ a : Nat, k.gates[otherGate g].offAt = some a → 32 ≤ now - a) : k.interlocked now g = false := by
  cases h : k.gates[otherGate g].offAt with
  | none => simp only [Skerry.interlocked, SkGate.since, h, Option.map_none]
  | some a =>
    simp only [Skerry.interlocked, SkGate.since, h, Option.map_some]
    exact decide_eq_false (Nat.not_lt.2 (hat a h))

end

theorem exec_edgeChannelTransition (p : Port) (g : Gate) (on : Bool) (s : State) : exec (.edgeChannelTransition p g on) s =
    .next (s.modSk (linkOf p) fun k => if on then k.chanOn s.clk.now g else k.chanOff s.clk.now g) := rfl
theorem exec_interlockHoldEnd (p : Port) (g : Gate) (s : State) :
    exec (.interlockHoldEnd p g) s = .next (s.modSk (linkOf p) (·.holdEnd s.clk.now g)) := rfl

/-- Settles O32: each transition by what stands at its gate and at the other gate of its leg. -/
theorem interlockComplete : Obligations.InterlockComplete := by
  intro s p g k hk
  have hon : (s.modSk (linkOf p) fun k => if true then k.chanOn s.clk.now g else k.chanOff s.clk.now g).sk[linkOf p] =
      k.chanOn s.clk.now g := by rw [← hk]; exact vmod_same ..
  have hoff : (s.modSk (linkOf p) fun k => if false then k.chanOn s.clk.now g else k.chanOff s.clk.now g).sk[linkOf p] =
      k.chanOff s.clk.now g := by rw [← hk]; exact vmod_same ..
  have hend : (s.modSk (linkOf p) (·.holdEnd s.clk.now g)).sk[linkOf p] = k.holdEnd s.clk.now g := by rw [← hk]; exact vmod_same ..
  refine ⟨?turnsOn, ?holds, ?beside, ?demand, ?off, ?ends⟩
  case turnsOn =>
    intro hdemand hg hsoft ho hheld hat
    refine ⟨_, exec_edgeChannelTransition .., rfl, ?_⟩
    rw [hon, Skerry.chanOn_turnsOn hdemand hg hsoft ho hheld hat]
    exact ⟨by simp [SkGate.turnOn], (vmod_other _ _ _ _ (ne_otherGate g)).trans (k.noteOn_other _ g)⟩
  case holds =>
    intro at_ hdemand hg hsoft ho hheld hat hlt
    refine ⟨⟨_, exec_edgeChannelTransition .., rfl, ?_⟩, ⟨_, exec_interlockHoldEnd .., ?_⟩⟩
    · rw [hon, Skerry.chanOn_holds hdemand hg hsoft ho hheld hat hlt]
      refine ⟨by simpa using hg, by simp, fun h => ?_⟩
      simp only [Bool.or_eq_true, decide_eq_true_eq]
      omega
    · rw [hend, Skerry.holdEnd, if_pos (Skerry.interlocked_of_offAt hat hlt)]
  case beside =>
    intro hdemand hg hsoft ho hat
    refine ⟨_, exec_edgeChannelTransition .., rfl, ?_⟩
    rw [hon, Skerry.chanOn_beside hdemand hg hsoft ho hat]
    exact ⟨by simpa using hg, by simpa using ho, rfl⟩
  case demand =>
    intro hdemand hg
    refine ⟨_, exec_edgeChannelTransition .., ?_⟩
    rw [hon, Skerry.chanOn_noted (by obtain h | h := hdemand <;> rw [h] <;> simp)]
    exact ⟨by simpa using hg, by simp⟩
  case off =>
    refine ⟨_, exec_edgeChannelTransition .., rfl, ?_⟩
    rw [hoff]
    refine ⟨by simp [Skerry.chanOff, SkGate.turnOff], by simp [Skerry.chanOff], fun hg => ?_⟩
    simp only [Fin.getElem_fin] at hg
    simp [Skerry.chanOff, SkGate.turnOff, hg]
  case ends =>
    intro hheld hchan hsoft hdemand ho hat
    refine ⟨_, exec_interlockHoldEnd .., rfl, ?_⟩
    rw [hend, Skerry.holdEnd, if_neg (by simp [Skerry.not_interlocked hat]), if_pos (by simp_all)]
    exact ⟨by simp [SkGate.turnOn], by simp [SkGate.turnOn]⟩

end Sys2Proof.Machine
end

section
/-! The pulse generators' own events (R189 to R204): what each does to its leg, and the obligation O29. -/
namespace Sys2Proof.Machine

/-! ### One leg at a time -/

/-- A step of a generator that changes no leg but one. -/
def Pwm.OneLeg (k : Leg) (w x : Pwm) : Prop := ∀ j : Leg, j ≠ k → x.legs[(j : Nat)] = w.legs[(j : Nat)]

section
variable (w : Pwm) (k : Leg) (now ps : Nat) (fine : Bool)

theorem Pwm.OneLeg.refl : w.OneLeg k w := fun _ _ => rfl
theorem Pwm.OneLeg.vset (g : Gen) {x : Pwm} (hx : x.legs = vset w.legs k g) : w.OneLeg k x := fun j hj => by
  rw [hx, vset_other _ _ _ _ hj.symm]

theorem Pwm.edge_oneLeg (rise : Bool) : w.OneLeg k (w.edge ps k rise) := by
  cases rise
  case true =>
    unfold Pwm.edge
    rw [if_pos rfl]
    split
    · exact .vset w k _ rfl
    · exact .refl w k
  case false =>
    unfold Pwm.edge
    rw [if_neg Bool.false_ne_true]
    split
    · exact .vset w k _ rfl
    · exact .refl w k

theorem Pwm.turnOn_oneLeg (high : Bool) : w.OneLeg k (w.turnOn now fine k high) := by
  unfold Pwm.turnOn
  extract_lets g due low
  by_cases h : now < due / 64
  · rw [if_pos h]
    exact .refl w k
  · rw [if_neg h]
    exact .vset w k _ rfl

theorem Pwm.refresh_oneLeg : w.OneLeg k (w.refresh now k) := by
  unfold Pwm.refresh
  dsimp only
  split_ifs
  · exact .refl w k
  · exact .refl w k
  · exact .vset w k _ rfl
  · exact .vset w k _ rfl

theorem Pwm.pulseEnd_oneLeg : w.OneLeg k (w.pulseEnd now fine k) := by
  unfold Pwm.pulseEnd
  dsimp only
  split
  · exact .vset w k _ rfl
  · exact .refl w k

end

/-- What a generator's event leaves at every other leg. -/
theorem State.modPwm_oneLeg {s : State} {p q : Port} {k j : Leg} {f : Pwm → Pwm} (hf : ∀ w : Pwm, w.OneLeg k (f w)) (h : q ≠ p ∨ j ≠ k) :
    (s.modPwm p f).pwm[(q : Nat)].legs[(j : Nat)] = s.pwm[(q : Nat)].legs[(j : Nat)] := by
  by_cases hq : p = q
  · subst hq
    rw [State.modPwm_same]
    exact hf _ j (h.resolve_left (not_not_intro rfl))
  · rw [s.modPwm_other _ _ _ hq]

/-! ### Each event where the leg's phase asks for it -/

section
variable {w : Pwm} {k : Leg} {g : Gen} (hg : w.legs[(k : Nat)] = g) {now ps : Nat} {fine : Bool}
include hg

/-- A rising edge turns L off (R190). -/
theorem Pwm.edge_rise (hpend : g.risePending = true) (hphase : g.phase = .low) (hcount : w.counted ps g.tOn = true) :
    (w.edge ps k true).legs[(k : Nat)] =
      { g with risePending := false, phase := .riseDelay, l := false, delayFrom := w.boundaryAt * 64 + g.tOn } := by
  simp [Pwm.edge, hg, hpend, hphase, hcount]

/-- A falling edge turns H off (R190). -/
theorem Pwm.edge_fall (hpend : g.fallPending = true) (hrise : g.risePending = false) (hphase : g.phase = .high)
    (hcount : w.counted ps g.tOff = true) : (w.edge ps k false).legs[(k : Nat)] =
      { ({ g with fallPending := false } : Gen).hOff (w.boundaryAt * 64 + g.tOff) with
        phase := .fallDelay, delayFrom := w.boundaryAt * 64 + g.tOff } := by
  simp [Pwm.edge, hg, hpend, hrise, hphase, hcount]

/-- The rising delay ends: H turns on unless a demand holds it off (R190, R202). -/
theorem Pwm.turnOn_high (hphase : g.phase = .riseDelay) (hdue : edgeTime fine (g.delayFrom + w.dr k) / 64 ≤ now) :
    (w.turnOn now fine k true).legs[(k : Nat)] = { g with
      phase := .high, h := !w.offHigh g, hOnAt := if !w.offHigh g then edgeTime fine (g.delayFrom + w.dr k) else g.hOnAt } := by
  simp [Pwm.turnOn, hg, hphase, Nat.not_lt.2 hdue]

/-- The falling delay ends: L turns on unless a demand holds it off (R190, R202). -/
theorem Pwm.turnOn_low (hphase : g.phase = .fallDelay) (hdue : edgeTime fine (g.delayFrom + w.df k) / 64 ≤ now) :
    (w.turnOn now fine k false).legs[(k : Nat)] =
      { g with phase := .low, l := !w.offBoth g, lOnAt := edgeTime fine (g.delayFrom + w.df k) } := by
  simp [Pwm.turnOn, hg, hphase, Nat.not_lt.2 hdue]

/-- The bootstrap refresh turns H off (R199). -/
theorem Pwm.refresh_begins (hon : g.h = true) (hphase : g.phase = .high) (hfall : g.fallPending = false)
    (hlong : g.hOnAt + w.bsOnT * 64 ≤ now * 64) (hroom : (now - w.boundaryAt) * 64 + w.refreshTime k < w.tPred) :
    w.refresh now k = { w with
      legs := vset w.legs k { g.hOff (now * 64) with
        phase := .refreshFall, delayFrom := now * 64, cut := g.cut + w.df k + w.bsPulseT + w.dr k }
      bsRefresh := true, counters := vset w.counters 1 (satInc 32 w.counters[1]) } := by
  simp [Pwm.refresh, hg, hon, hphase, hfall, hlong, Nat.not_le.2 hroom]

/-- The refresh low pulse ends: L turns off (R199). -/
theorem Pwm.pulseEnd_ends (hphase : g.phase = .refreshLow) (hdue : edgeTime fine (g.lOnAt + w.bsPulseT) / 64 ≤ now) :
    (w.pulseEnd now fine k).legs[(k : Nat)] =
      { g with phase := .refreshRise, l := false, delayFrom := edgeTime fine (g.lOnAt + w.bsPulseT) } := by
  simp [Pwm.pulseEnd, hg, hphase, hdue]

end

/-! ### Demands to turn gates off (R202, R204) -/

section
variable (w : Pwm) (now : Nat) (k j : Leg)

/-- A trip forces every gate of the port off at once (R202). -/
theorem Pwm.tripNow_leg : (w.tripNow now).legs[(j : Nat)].h = false ∧ (w.tripNow now).legs[(j : Nat)].l = false ∧
    (w.tripNow now).legs[(j : Nat)].duty = 0 := by
  simp [Pwm.tripNow, Pwm.maskAll, Pwm.mask, Pwm.offHigh, Pwm.offBoth]

/-- High impedance of a leg turns both its gates off and drops its carry. -/
theorem Pwm.legHiz_leg : (w.legHiz now k).legs[(k : Nat)].hiz = true ∧ (w.legHiz now k).legs[(k : Nat)].h = false ∧
    (w.legHiz now k).legs[(k : Nat)].l = false ∧ (w.legHiz now k).legs[(k : Nat)].carry = 0 := by
  simp [Pwm.legHiz, Pwm.mask, Pwm.offHigh, Pwm.offBoth]

theorem Pwm.legHiz_oneLeg : w.OneLeg k (w.legHiz now k) := .vset w k _ rfl

theorem Pwm.applySafe_safe (low opened : Bool) : (w.applySafe now low opened).safe = true := by
  unfold Pwm.applySafe
  split
  · assumption
  · rfl

/-- The safe state turns every H off (R204). -/
theorem Pwm.applySafe_high (low opened : Bool) (h : w.safe = false) : (w.applySafe now low opened).legs[(j : Nat)].h = false := by
  unfold Pwm.applySafe
  rw [if_neg (by simp [h])]
  dsimp only
  simp only [Vector.getElem_ofFn]
  split_ifs <;> rfl

end

/-! ### O29 -/

theorem foldl_modPwm_at (f : Pwm → Pwm) (l : List Port) (hl : l.Nodup) (p : Port) (s : State) :
    (l.foldl (fun t q => t.modPwm q f) s).pwm[(p : Nat)] = if p ∈ l then f s.pwm[(p : Nat)] else s.pwm[(p : Nat)] := by
  induction l generalizing s with
  | nil => rfl
  | cons q l ih =>
    obtain ⟨hq, hl⟩ := List.nodup_cons.1 hl
    rw [List.foldl_cons, ih hl]
    by_cases hp : p = q
    · subst hp
      rw [if_neg hq, if_pos (List.mem_cons_self ..), s.modPwm_same]
    · rw [s.modPwm_other _ _ _ (Ne.symm hp)]
      simp only [List.mem_cons, hp, false_or]

theorem portOf_injective (k : Shoal) : Function.Injective (portOf k) := fun i j h => by
  have hval := congrArg Fin.val h
  simp only [portOf] at hval
  exact Fin.ext (by omega)

theorem State.eachOf_modPwm_at (s : State) (k : Shoal) (f : Pwm → Pwm) (j : Fin 3) :
    (s.eachOf k fun t p => t.modPwm p f).pwm[(portOf k j : Nat)] = f s.pwm[(portOf k j : Nat)] := by
  rw [State.eachOf_eq_foldl, foldl_modPwm_at _ _ ((List.nodup_finRange 3).map (portOf_injective k)), if_pos]
  exact List.mem_map_of_mem (List.mem_finRange j)

theorem State.eachOf_modPwm_shoals (s : State) (k : Shoal) (f : Pwm → Pwm) :
    (s.eachOf k fun t p => t.modPwm p f).shoals = s.shoals :=
  foldl_view (v := State.shoals) (f := fun t j => t.modPwm (portOf k j) f) (fun _ _ => rfl) _ s

/-- Settles O29. -/
theorem pulsesComplete : Obligations.PulsesComplete := by
  unfold Obligations.PulsesComplete
  refine ⟨fun s p k g hg => ?_, fun s p k m => ?_⟩
  · simp only [Fin.getElem_fin] at hg ⊢
    refine ⟨?rises, ?falls, ?highOn, ?lowOn, ?refresh, ?pulseEnd, ?others⟩
    case rises =>
      intro hpend hphase hcount
      refine ⟨_, rfl, rfl, ?_⟩
      simp only [State.modPwm_same, Pwm.edge_rise hg hpend hphase hcount, and_self]
    case falls =>
      intro hpend hrise hphase hcount
      refine ⟨_, rfl, rfl, ?_⟩
      simp only [State.modPwm_same, Pwm.edge_fall hg hpend hrise hphase hcount, true_and]
      exact ⟨rfl, rfl⟩
    case highOn =>
      intro hphase hdue
      refine ⟨_, rfl, rfl, ?_⟩
      simp only [Fin.getElem_fin, State.modPwm_same, Pwm.turnOn_high hg hphase hdue, and_self]
    case lowOn =>
      intro hphase hdue
      refine ⟨_, rfl, rfl, ?_⟩
      simp only [Fin.getElem_fin, State.modPwm_same, Pwm.turnOn_low hg hphase hdue, and_self]
    case refresh =>
      intro hon hphase hfall hlong hroom
      refine ⟨_, rfl, rfl, ?_⟩
      simp only [State.modPwm_same, Pwm.refresh_begins hg hon hphase hfall hlong hroom, vset_same, true_and]
      exact ⟨rfl, vset_same _ 1 _⟩
    case pulseEnd =>
      intro hphase hdue
      refine ⟨_, rfl, rfl, ?_⟩
      simp only [Fin.getElem_fin, State.modPwm_same, Pwm.pulseEnd_ends hg hphase hdue, and_self]
    case others =>
      intro q j c hother hc
      simp only [List.mem_cons, List.not_mem_nil, or_false] at hc
      rcases hc with rfl | rfl | rfl | rfl | rfl | rfl
      · exact ⟨_, rfl, State.modPwm_oneLeg (fun w => w.edge_oneLeg k _ true) hother⟩
      · exact ⟨_, rfl, State.modPwm_oneLeg (fun w => w.edge_oneLeg k _ false) hother⟩
      · exact ⟨_, rfl, State.modPwm_oneLeg (fun w => w.turnOn_oneLeg k _ _ true) hother⟩
      · exact ⟨_, rfl, State.modPwm_oneLeg (fun w => w.turnOn_oneLeg k _ _ false) hother⟩
      · exact ⟨_, rfl, State.modPwm_oneLeg (fun w => w.refresh_oneLeg k _) hother⟩
      · exact ⟨_, rfl, State.modPwm_oneLeg (fun w => w.pulseEnd_oneLeg k _ _) hother⟩
  · refine ⟨?trip, ?hiz, ?hizEnd, ?safe, ?unlock, fun _ => rfl⟩
    case trip =>
      intro hdemand
      refine ⟨_, congrArg Host.Outcome.next (if_pos (by simpa using hdemand)), rfl, ?_⟩
      simp only [Fin.getElem_fin, State.modPwm_same]
      exact ⟨rfl, rfl, fun j => (s.pwm[(p : Nat)]).tripNow_leg _ j⟩
    case hiz =>
      refine ⟨_, rfl, rfl, ?_⟩
      simp only [Fin.getElem_fin, State.modPwm_same]
      obtain ⟨hhiz, hh, hl, hcarry⟩ := (s.pwm[(p : Nat)]).legHiz_leg s.clk.now k
      exact ⟨hhiz, hh, hl, hcarry, (s.pwm[(p : Nat)]).legHiz_oneLeg s.clk.now k⟩
    case hizEnd =>
      refine ⟨_, rfl, rfl, ?_⟩
      simp only [Fin.getElem_fin, State.modPwm_same, vmod_same, and_self]
    case safe =>
      refine ⟨_, rfl, rfl, ?_⟩
      simp only [Fin.getElem_fin, State.modPwm_same]
      refine ⟨Pwm.applySafe_safe .., ?_, fun h j => Pwm.applySafe_high _ _ j _ _ h⟩
      exact congrArg ShoalSt.safeRegion (vmod_same ..)
    case unlock =>
      intro hlock
      refine ⟨_, congrArg Host.Outcome.next (if_pos hlock), ?_⟩
      simp only [State.raise_shoalSts, State.raise_pwm, Fin.getElem_fin, State.eachOf_modPwm_shoals, State.eachOf_modPwm_at]
      simp [State.modShoal, edgeTime]

end Sys2Proof.Machine
end

section
/-! The ends of ride-through events and the trips that a port's DC side asks for (R121 to R137): the obligation O47. -/
namespace Sys2Proof.Machine

@[simp] theorem heldFor_none (now ticks : Nat) : heldFor now ticks none = false := rfl
@[simp] theorem heldFor_some (now ticks t : Nat) : heldFor now ticks (some t) = decide (t + ticks ≤ now) := rfl

/-- What a port's trip that forces its gates leaves: the trip stands, the port's gates are off, every other port is as it was. -/
theorem State.tripPort_alone (s : State) (p : Port) (t : Trip) (h : t.forces = true) :
    t ∈ ((s.tripPort p t).life p).trips ∧ ((s.tripPort p t).life p).gateEn = false ∧ (s.tripPort p t).pwm[(p : Nat)].trip = true ∧
      ∀ q : Port, q ≠ p → (s.tripPort p t).life q = s.life q ∧ (s.tripPort p t).pwm[(q : Nat)] = s.pwm[(q : Nat)] := by
  refine ⟨s.mem_tripPort p t, ?_, ?_, fun q hq => ⟨s.tripPort_life_other p q t hq.symm, s.tripPort_pwm_other p q t hq.symm⟩⟩
  · rw [State.tripPort_life]; rfl
  · rw [s.tripPort_pwm_of_forces p t h, Pwm.tripNow_trip]

/-- A trip with its event leaves what the trip alone leaves. -/
theorem State.raise_tripPort_alone (s : State) (p : Port) (t : Trip) (h : t.forces = true) (code source arg0 arg1 : Nat) (data : List Nat) :
    let u := (s.raise code source arg0 arg1 data).tripPort p t
    t ∈ (u.life p).trips ∧ (u.life p).gateEn = false ∧ u.pwm[(p : Nat)].trip = true ∧
      ∀ q : Port, q ≠ p → u.life q = s.life q ∧ u.pwm[(q : Nat)] = s.pwm[(q : Nat)] := by
  simpa only [State.raise_life, State.raise_pwm] using (s.raise code source arg0 arg1 data).tripPort_alone p t h

section
variable (s : State)

theorem State.endFault_ends (h : s.firm.ride.fault = true) : s.endFault.firm.ride.fault = false ∧ s.endFault.firm.ride.voltIn = none ∧
    s.endFault.firm.life = s.firm.life ∧ s.endFault.dev = s.dev ∧ s.endFault.pwm = s.pwm := by
  unfold State.endFault
  dsimp only
  rw [if_pos h]
  simp only [State.raise_firm, State.raise_dev, State.raise_pwm]
  exact ⟨rfl, rfl, rfl, rfl, rfl⟩

variable {s} {p : Port}

theorem State.dcLow_iff : s.dcLow p = true ↔ s.fbClosed p 0 = true ∧ s.fbClosed p 1 = true ∧ s.vdcVolts p < s.lawN (PP_V_DC_MIN p) := by
  simp only [State.dcLow, Bool.and_eq_true, decide_eq_true_eq, and_assoc]

theorem State.overLimit_iff : s.overLimit p = true ↔
    s.partakes p = true ∧ s.dcLimit p * (1 + (s.lawN (PP_BMS_MARGIN p) : Rat) / 100) < ratAbs (s.idcAmps p) := by
  simp only [State.overLimit, Bool.and_eq_true, decide_eq_true_eq]

end

/-- Settles O47. -/
theorem rideEventsComplete : Obligations.RideEventsComplete := by
  unfold Obligations.RideEventsComplete
  simp only [Fin.getElem_fin]
  refine fun s p => ⟨?fault, ?inside, ?early, ?realign, ?noRealign, ?low, ?notLow, ?beyond, ?notBeyond⟩
  case fault =>
    exact fun hheld hfault => ⟨_, congrArg Host.Outcome.next (if_pos hheld), s.endFault_ends hfault⟩
  case inside =>
    exact fun h => congrArg Host.Outcome.next (if_neg (by rw [h, heldFor_none]; exact Bool.false_ne_true))
  case early =>
    exact fun t h hearly => congrArg Host.Outcome.next (if_neg (by rw [h, heldFor_some]; simpa using hearly))
  case realign =>
    exact fun h => congrArg Host.Outcome.next (if_pos h)
  case noRealign =>
    exact fun h => congrArg Host.Outcome.next (if_neg (by rw [h]; exact Bool.false_ne_true))
  case low =>
    intro hawake hplus hminus hlow hheld
    have hdue : (s.awake && s.dcLow p && heldFor s.clk.now (msTicks 10) s.firm.shares[p].lowFrom) = true := by
      simp only [Bool.and_eq_true]
      exact ⟨⟨hawake, State.dcLow_iff.2 ⟨hplus, hminus, hlow⟩⟩, hheld⟩
    exact ⟨_, congrArg Host.Outcome.next (if_pos hdue), s.raise_tripPort_alone p .dcUv rfl ..⟩
  case notLow =>
    intro h
    refine congrArg Host.Outcome.next (if_neg ?_)
    simp only [Bool.and_eq_true, State.dcLow_iff, Fin.getElem_fin]
    rintro ⟨⟨-, hplus, hminus, hlow⟩, hheld⟩
    rcases h with h | h | h | h
    · exact Bool.false_ne_true (h.symm.trans hplus)
    · exact Bool.false_ne_true (h.symm.trans hminus)
    · exact absurd hlow (not_lt.2 h)
    · rw [h] at hheld
      exact Bool.false_ne_true hheld
  case beyond =>
    intro hawake hpart hlimit hheld
    have hdue : (s.awake && s.overLimit p && heldFor s.clk.now (msTicks (s.lawN (PP_BMS_OVER_T p))) s.firm.shares[p].overFrom) = true := by
      simp only [Bool.and_eq_true]
      exact ⟨⟨hawake, State.overLimit_iff.2 ⟨hpart, hlimit⟩⟩, hheld⟩
    exact ⟨_, congrArg Host.Outcome.next (if_pos hdue), s.raise_tripPort_alone p .bmsOver rfl ..⟩
  case notBeyond =>
    intro h
    refine congrArg Host.Outcome.next (if_neg ?_)
    simp only [Bool.and_eq_true, State.overLimit_iff, Fin.getElem_fin]
    rintro ⟨⟨-, -, hlimit⟩, hheld⟩
    rcases h with h | h
    · exact absurd hlimit (not_lt.2 h)
    · rw [h] at hheld
      exact Bool.false_ne_true hheld

end Sys2Proof.Machine
end

section
/-! The deliberate reset and the commissioning (R361 to R369, Table 11.6): the obligation O44. -/
namespace Sys2Proof.Machine

section
variable {s : State} {t : Nat}

/-- A reset button that is not pressed has no release. -/
theorem execResetRelease_none (h : s.bw.press = none) : exec .resetRelease s = .next s := by
  simp [exec, execResetRelease, h]

/-- A release by whether its press counts, what waits, and how long it was held (Table 11.6). -/
theorem execResetRelease_some (counts : Bool) (h : s.bw.press = some (t, counts)) : exec .resetRelease s =
    let held := s.clk.now - t
    let s1 := s.modBw fun b => { b with press := none, releasedAt := some s.clk.now }
    let right := decide (msTicks 300 ≤ held) && decide (held ≤ msTicks 3000)
    if !counts then .next s1
    else if s.bw.commissionWait then
      .next (if right && decide (s.clk.now ≤ s.bw.commissionAt + msTicks 30000) then s1.commission else s1)
    else if !s.bw.resetArmed || decide (msTicks 3000 < held) then .next s1
    else if right && s.bw.resettable s.clk.now false then
      let s2 := (s1.modBw (·.cleared)).raise 0x94 0x30 (held / msTicks 1)
      .next (if s.dev = .lockout then s2.setDev .idle 0x94 else s2)
    else .next (s1.rejectReset (held / msTicks 1)) := by
  simp only [exec, execResetRelease, h]

theorem execResetPressTooLong_some (counts : Bool) (h : s.bw.press = some (t, counts)) : exec .resetPressTooLong s =
    if s.clk.now ≤ t + msTicks 3000 then .next s
    else
      let s1 := s.modBw fun b => { b with press := some (t, false) }
      .next (if counts && s.bw.resetArmed then s1.rejectReset 3000 else s1) := by
  simp only [exec, execResetPressTooLong, h]

theorem execResetStuck_some (counts : Bool) (h : s.bw.press = some (t, counts)) : exec .resetStuck s =
    if s.bw.stuckFault || decide (s.clk.now ≤ t + msTicks 10000) then .next s
    else .next ((s.modBw fun b => { b with stuckFault := true, releasedAt := none }).moduleFault 7 0xFF) := by
  simp only [exec, execResetStuck, h]

end

section
variable (s : State)

@[simp] theorem State.rejectReset_bw (ms : Nat) : (s.rejectReset ms).bw = { s.bw with resetArmed := false } := by
  simp [State.rejectReset]
@[simp] theorem State.rejectReset_dev (ms : Nat) : (s.rejectReset ms).dev = s.dev := by
  rw [State.rejectReset, State.raise_dev]; rfl

theorem State.commission_bw : s.commission.bw.commissionWait = false ∧ s.commission.bw.press = s.bw.press ∧
    s.commission.bw.params = s.bw.pending ∧ s.commission.bw.lockout = true := by
  simp only [State.commission, State.lockOut_bw, State.raise_bw]
  exact ⟨rfl, rfl, rfl, trivial⟩

end

/-- A deliberate reset: what stood is cleared, and LOCKOUT gives way to IDLE (Table 11.6 step 4). -/
theorem State.resetDone (s : State) (ms : Nat) (s1 : State) (hs1 : s1.dev = s.dev) (hpress : s1.bw.press = none) :
    let s2 := (s1.modBw (·.cleared)).raise 0x94 0x30 ms
    let t := if s.dev = .lockout then s2.setDev .idle 0x94 else s2
    t.bw.lockout = false ∧ t.bw.sgoMod = false ∧ t.bw.sdcMod = false ∧ t.bw.resetArmed = false ∧ t.bw.press = none ∧
      (s.dev = .lockout → t.dev = .idle) ∧ (s.dev ≠ .lockout → t.dev = s.dev) := by
  intro s2 t
  have hbw : t.bw = s1.bw.cleared := by
    have h2 : s2.bw = s1.bw.cleared := by simp [s2]
    by_cases h : s.dev = .lockout
    · simp only [t, if_pos h]
      rw [State.setDev_bw _ _ (by decide), h2]
    · simp only [t, if_neg h, h2]
  rw [hbw]
  refine ⟨rfl, rfl, rfl, rfl, hpress, fun h => ?_, fun h => ?_⟩
  · simp only [t, if_pos h, State.setDev_dev]
  · simp only [t, if_neg h, s2, State.raise_dev]
    exact hs1

/-- Settles O44. -/
theorem safetyResetComplete : Obligations.SafetyResetComplete := by
  unfold Obligations.SafetyResetComplete
  refine fun s at_ => ⟨rfl, ?resets, ?tooShort, execResetRelease_none, ?noCount, ?commissions, ?tooLong, ?notYetLong, ?stuck, ?notYetStuck,
    ?expires, ?pressing, ?timeout, ?early⟩
  case resets =>
    intro hpress hwait harmed hmin hmax hok
    refine ⟨_, ?_, s.resetDone ((s.clk.now - at_) / msTicks 1)
      (s.modBw fun b => { b with press := none, releasedAt := some s.clk.now }) rfl rfl⟩
    rw [execResetRelease_some _ hpress]
    simp only [hwait, harmed, hmin, hmax, hok, Nat.not_lt.2 hmax, Bool.not_true, Bool.false_eq_true, if_false, decide_false, decide_true,
      Bool.or_self, Bool.and_self, if_true]
  case tooShort =>
    intro hpress hwait harmed hmin
    have hmax : ¬ msTicks 3000 < s.clk.now - at_ := by simp only [msTicks] at hmin ⊢; omega
    refine ⟨(s.modBw fun b => { b with press := none, releasedAt := some s.clk.now }).rejectReset ((s.clk.now - at_) / msTicks 1), ?_, ?_⟩
    · rw [execResetRelease_some _ hpress]
      simp only [hwait, harmed, Nat.not_le.2 hmin, hmax, Bool.not_true, Bool.false_eq_true, if_false, decide_false, Bool.or_self,
        Bool.false_and]
    · rw [State.rejectReset_bw, State.rejectReset_dev]
      exact ⟨rfl, rfl, rfl, rfl⟩
  case noCount =>
    intro hpress
    rw [execResetRelease_some _ hpress]
    rfl
  case commissions =>
    intro hpress hwait hmin hmax hdue
    refine ⟨(s.modBw fun b => { b with press := none, releasedAt := some s.clk.now }).commission, ?_, State.commission_bw _⟩
    rw [execResetRelease_some _ hpress]
    simp only [hwait, hmin, hmax, hdue, Bool.not_true, Bool.false_eq_true, if_false, decide_true, Bool.and_self, if_true]
  case tooLong =>
    intro hpress harmed hlong
    refine ⟨(s.modBw fun b => { b with press := some (at_, false) }).rejectReset 3000, ?_, ?_⟩
    · rw [execResetPressTooLong_some _ hpress, if_neg (Nat.not_le.2 hlong)]
      simp only [harmed, Bool.and_self, if_true]
    · rw [State.rejectReset_bw, State.rejectReset_dev]
      exact ⟨rfl, rfl, rfl, rfl⟩
  case notYetLong =>
    exact fun b hpress hlong => (execResetPressTooLong_some _ hpress).trans (if_pos hlong)
  case stuck =>
    intro b hpress hfree hlong
    refine ⟨(s.modBw fun b => { b with stuckFault := true, releasedAt := none }).moduleFault 7 0xFF, ?_, ?_⟩
    · rw [execResetStuck_some _ hpress, if_neg]
      simpa [hfree] using hlong
    · rw [State.moduleFault_bw]
      exact ⟨rfl, rfl⟩
  case notYetStuck =>
    intro b hpress hlong
    rw [execResetStuck_some _ hpress, if_pos]
    simp [hlong]
  case expires =>
    intro harmed hpress hdue
    rcases hpress with hpress | hpress
    all_goals
      refine congrArg Host.Outcome.next (if_pos ?_)
      rw [hpress, harmed, decide_eq_true hdue]
      rfl
  case pressing =>
    intro hpress
    refine congrArg Host.Outcome.next (if_neg ?_)
    rw [hpress]
    simp
  case timeout =>
    exact fun hwait hdue => congrArg Host.Outcome.next (if_pos (by simp [hwait, hdue]))
  case early =>
    exact fun hearly => congrArg Host.Outcome.next (if_neg (by simp [Nat.not_le.2 hearly]))

end Sys2Proof.Machine
end

section
/-! The meter's seal, the service tool and the cartridge's presence (R329 to R335): the obligation O40. -/
namespace Sys2Proof.Machine

/-- What a meter's change does depends on the meter as it stands alone. -/
theorem State.modMeter_congr {s : State} {f g : Meter → Meter} (h : f s.meter = g s.meter) : s.modMeter f = s.modMeter g := by
  unfold State.modMeter
  rw [h]

/-- Every open session is marked as having stood under an open seal. -/
theorem MeterStore.markOpen_sealOpen (t : MeterStore) : ∀ x ∈ t.markOpen.sessions, x.opened = true → x.sealOpen = true := by
  intro x hx hopen
  obtain ⟨y, -, rfl⟩ := List.mem_map.1 hx
  by_cases hy : y.opened = true
  · rw [if_pos hy]
  · rw [if_neg hy] at hopen
    exact absurd hopen hy

theorem Meter.verify_params (m : Meter) (v : Verification) : (m.verify v).params = v.params.foldl (fun ps x => ps.set x.1 x.2) m.params := by
  unfold Meter.verify
  rfl

theorem Meter.verify_legal (m : Meter) (v : Verification) : (m.verify v).legal = legalIdOf (m.verify v).params := by
  have hid : (m.verify v).legalId = some (legalIdOf (m.verify v).params) := by
    unfold Meter.verify
    rfl
  rw [Meter.legal, hid, Option.getD_some]

/-- A verification that names no key leaves the key. -/
theorem Meter.verify_key (m : Meter) (v : Verification) (h : v.key = none) : (m.verify v).key = m.key := by
  unfold Meter.verify
  dsimp only
  rw [h, Option.none_or]

/-- What METER_PRESENT reads of the meter: nothing but the serial number's comparison and the seal's state is new. -/
theorem State.noteSeal_rest (s : State) : s.noteSeal.meter.absent = s.meter.absent ∧ s.noteSeal.meter.compared = s.meter.compared ∧
    s.noteSeal.meter.params = s.meter.params ∧ s.noteSeal.meter.live = s.meter.live ∧ s.noteSeal.firm = s.firm := by
  unfold State.noteSeal
  dsimp only
  split
  · simp only [State.raise_meter, State.raise_firm]
    exact ⟨rfl, rfl, rfl, rfl, rfl⟩
  · exact ⟨rfl, rfl, rfl, rfl, rfl⟩

theorem State.compareSerial_rest (s : State) : s.compareSerial.meter.absent = s.meter.absent ∧ s.compareSerial.meter.compared = true ∧
    s.compareSerial.meter.params = s.meter.params ∧ s.compareSerial.meter.live = s.meter.live ∧ s.compareSerial.firm = s.firm := by
  unfold State.compareSerial
  by_cases hdone : s.meter.compared = true
  · rw [if_pos hdone]
    exact ⟨rfl, hdone, rfl, rfl, rfl⟩
  · rw [if_neg hdone]
    dsimp only
    split
    · exact ⟨rfl, rfl, rfl, rfl, rfl⟩
    · simp only [State.raise_meter, State.raise_firm]
      exact ⟨rfl, rfl, rfl, rfl, rfl⟩

/-- Settles O40. -/
theorem sealComplete : Obligations.SealComplete := by
  unfold Obligations.SealComplete
  rintro s p m rfl
  refine ⟨?opens, ?closes, ?authenticates, ?lockedOut, ?reads, ?selects, ?verifies, ?refuses, ?lockEnds, ?lockStands, ?absent, ?present⟩
  case opens =>
    intro hclosed
    have hopens : exec .coverOpen s = .next (s.modMeter fun m =>
        { m with
          coverOpen := true, sealState := 2, sealBreaks := satInc 16 m.sealBreaks, verified := false, auth := false
          live := m.live.markOpen, ports := m.ports.map fun q => { q with opening := q.opening.map fun x => { x with sealOpen := true } }
          mram := if m.powered then m.mram else m.mram.markOpen }) :=
      congrArg Host.Outcome.next (State.modMeter_congr (if_neg (Bool.not_eq_true _ ▸ hclosed)))
    exact ⟨_, hopens, rfl, rfl, rfl, rfl, rfl, rfl, s.meter.live.markOpen_sealOpen, rfl⟩
  case closes =>
    intro hopen
    have hcloses : exec .coverClose s = .next (s.modMeter fun m =>
        { m with coverOpen := false, sealState := if m.verified then 1 else m.sealState, verified := false, auth := false, pulse := none }) :=
      congrArg Host.Outcome.next (State.modMeter_congr (if_pos hopen))
    exact ⟨_, hcloses, rfl, rfl, rfl, rfl, rfl⟩
  case authenticates =>
    intro hopen hpower hfails
    have hready : (!s.meter.coverOpen || !s.meter.powered || decide (3 ≤ s.meter.authFails)) = false := by
      simp [hopen, hpower, Nat.not_le.2 hfails]
    constructor
    all_goals
      refine congrArg Host.Outcome.next (State.modMeter_congr ?_)
      simp only [hready, Bool.false_eq_true, if_false, if_true]
  case lockedOut =>
    intro hopen hfails
    exact congrArg Host.Outcome.next (State.modMeter_congr (if_pos (by simp [hfails])))
  case reads =>
    exact fun hpower hauth => congrArg Host.Outcome.next (State.modMeter_congr (if_pos (by simp [hpower, hauth])))
  case selects =>
    exact fun _ hpower hauth => congrArg Host.Outcome.next (State.modMeter_congr (if_pos (by simp [hpower, hauth])))
  case verifies =>
    intro v hpower hauth hopen hok
    have hverifies : exec (.verifyCommit v) s = .next (s.modMeter (·.verify v)) :=
      congrArg Host.Outcome.next (State.modMeter_congr (if_pos (by rw [hpower, hauth, hopen, hok]; rfl)))
    exact ⟨_, hverifies, rfl, s.meter.verify_params v, s.meter.verify_legal v, rfl, rfl, rfl, rfl, rfl, s.meter.verify_key v⟩
  case refuses =>
    intro v hmissing
    refine congrArg Host.Outcome.next (State.modMeter_congr (if_neg ?_))
    rcases hmissing with h | h | h <;> simp [h]
  case lockEnds =>
    exact fun hdue => congrArg Host.Outcome.next (State.modMeter_congr (if_pos hdue))
  case lockStands =>
    exact fun hdue => congrArg Host.Outcome.next (State.modMeter_congr (if_neg (by simp [hdue])))
  case absent =>
    exact fun hdev hthere => if_neg (by simp [hdev, hthere])
  case present =>
    intro hdev habsent hpower
    refine ⟨_, if_neg (by simp [hdev, habsent, hpower]), ?_⟩
    obtain ⟨h1, h2, h3, h4, h5⟩ := State.noteSeal_rest (((s.modMeter fun m => { m with absent := false }).raise 0xA1 0x40).compareSerial)
    obtain ⟨k1, k2, k3, k4, k5⟩ := State.compareSerial_rest ((s.modMeter fun m => { m with absent := false }).raise 0xA1 0x40)
    rw [h1, h2, h3, h4, h5, k1, k2, k3, k4, k5, State.raise_meter, State.raise_firm]
    exact ⟨rfl, rfl, rfl, rfl, rfl⟩

end Sys2Proof.Machine
end

section
/-! The Tide gauge's own events (R311 to R321): what sub-frames, sessions, writes and readings do, and the obligation O39. -/
namespace Sys2Proof.Machine

/-! ### Sub-frames (R313) -/

section
variable {m : Meter} {p : Port} {now : Nat} {b : List Byte}

/-- A sub-frame with the MSEQ that follows is accepted. -/
theorem Meter.subframe_follows {q : Nat} (hcrc : mcrc p b = rdBe b 7 2) (hsync : m.ports[(p : Nat)].resync = none)
    (hseq : m.ports[(p : Nat)].mseq = some q) (h : rdBe b 0 2 = (q + 1) % 65536) : m.subframe now p b =
      { m with ports := vset m.ports p { m.ports[(p : Nat)] with mseq := some (rdBe b 0 2), resync := none } }.slot now p (some b) := by
  simp [Meter.subframe, hcrc, hsync, hseq, h]

/-- A sub-frame with another MSEQ is lost, and the next one is to follow it. -/
theorem Meter.subframe_strays {q : Nat} (hcrc : mcrc p b = rdBe b 7 2) (hsync : m.ports[(p : Nat)].resync = none)
    (hseq : m.ports[(p : Nat)].mseq = some q) (h : rdBe b 0 2 ≠ (q + 1) % 65536) : m.subframe now p b =
      { m with ports := vset m.ports p { m.ports[(p : Nat)] with resync := some (some (rdBe b 0 2)) } }.slot now p none := by
  simp [Meter.subframe, hcrc, hsync, hseq, h]

/-- The second of two that follow each other is accepted. -/
theorem Meter.subframe_resumes {e : Nat} (hcrc : mcrc p b = rdBe b 7 2) (hsync : m.ports[(p : Nat)].resync = some (some e))
    (h : rdBe b 0 2 = (e + 1) % 65536) : m.subframe now p b =
      { m with ports := vset m.ports p { m.ports[(p : Nat)] with mseq := some (rdBe b 0 2), resync := none } }.slot now p (some b) := by
  simp [Meter.subframe, hcrc, hsync, h]

/-- A sub-frame with a wrong MCRC is lost. -/
theorem Meter.subframe_damaged (hcrc : mcrc p b ≠ rdBe b 7 2) : m.subframe now p b =
    { m with ports := vset m.ports p { m.ports[(p : Nat)] with resync := m.ports[(p : Nat)].resync.map fun _ => none } }.slot now p none := by
  simp [Meter.subframe, hcrc]

end

/-- A forwarded sub-frame reaches a cartridge with power, with what the path has changed of it. -/
theorem exec_metrologySubframe_reaches {s : State} {p : Port} {sent noise : List Byte} {n : Meter}
    (hsent : s.ul[(linkOf p : Nat)].msub = some sent) (hpower : s.meter.powered = true) (hn : s.meter.subframe s.clk.now p (noisy sent noise) = n) :
    exec (.metrologySubframe p noise) s = .next { s.modUl (linkOf p) (fun u => { u with msub := none }) with meter := n } := by
  have hmod : (s.modUl (linkOf p) fun u => { u with msub := none }).modMeter
        (fun m => if m.powered then m.subframe s.clk.now p (noisy sent noise) else m) =
      { s.modUl (linkOf p) (fun u => { u with msub := none }) with meter := n } :=
    congrArg (fun x => { s.modUl (linkOf p) (fun u => { u with msub := none }) with meter := x }) ((if_pos hpower).trans hn)
  simp only [exec, execMetrologySubframe, Fin.getElem_fin, hsent]
  exact congrArg Host.Outcome.next hmod

/-! ### Sessions (R317 to R319) -/

section
variable {m : Meter} {p : Port}

theorem MeterStore.modOpen_single {t : MeterStore} {x : SessionRec} (f : SessionRec → SessionRec) (hx : t.sessions = [x])
    (hopen : x.opened = true) (hport : x.port = p.val) : (t.modOpen p f).sessions = [f x] := by
  simp [MeterStore.modOpen, hx, hopen, hport]

theorem Meter.closeSession_sessions {x : SessionRec} (cause imp exp sec : Nat) (hx : m.live.sessions = [x]) (hopen : x.opened = true)
    (hport : x.port = p.val) : (m.closeSession p cause imp exp sec).live.sessions =
      [{ x with opened := false, cause := cause, impEnd := imp, expEnd := exp, closeSec := sec, closePcc := m.pcc, legalId := m.legal }] :=
  MeterStore.modOpen_single _ hx hopen hport

theorem Meter.closeSession_opening (cause imp exp sec : Nat) :
    (m.closeSession p cause imp exp sec).ports[(p : Nat)].opening = m.ports[(p : Nat)].opening := by
  simp [Meter.closeSession]

theorem MeterStore.makeRoom_of_room {t : MeterStore} (h : t.sessions.length < 4096) : t.makeRoom = t := if_pos h

/-- The record with which a session begins (R317). -/
def Meter.opened (m : Meter) (p : Port) (iv : Interval) : SessionRec :=
  { port := p.val, no := (m.live.lastNo + 1) % 2 ^ 32, sealOpen := iv.sealOpen, overrange := iv.overrange, openSec := iv.sec
    openPcc := m.pcc, impStart := iv.imp, expStart := iv.exp, gapUs := iv.gapUs, vMin := iv.vMin, vMax := iv.vMax }

theorem Meter.openSession_sessions (p : Port) (iv : Interval) (h : m.live.sessions.length < 4096) :
    (m.openSession p iv).live.sessions = m.live.sessions ++ [m.opened p iv] ∧ (m.openSession p iv).live.energy = m.live.energy := by
  simp only [Meter.openSession, MeterStore.makeRoom_of_room h, and_true]
  rfl

/-- Closing every port's session leaves what no session is. -/
theorem Meter.closeAll_view {α : Type} {v : Meter → α} (hv : ∀ (x : Meter) (p : Port) (cause imp exp sec : Nat), v (x.closeSession p cause imp exp sec) = v x)
    (m : Meter) (cause : Nat) (l : List Port) : v (l.foldl (fun (m : Meter) (p : Port) =>
      m.closeSession p cause m.live.energy[p].imp m.live.energy[p].exp m.live.opSec) m) = v m :=
  foldl_view (v := v) (fun x p => hv x p ..) l m

/-- What a power-up leaves of the cartridge beside the sessions that it closes (R318, R320). -/
theorem Meter.powerUp_energy (m : Meter) : m.powerUp.live.energy = m.mram.energy :=
  Meter.closeAll_view (v := (·.live.energy)) (fun _ _ _ _ _ _ => rfl) ({ m with live := m.mram } : Meter) 2 (List.finRange 12)
theorem Meter.powerUp_params (m : Meter) : m.powerUp.params = m.params :=
  Meter.closeAll_view (v := (·.params)) (fun _ _ _ _ _ _ => rfl) ({ m with live := m.mram } : Meter) 2 (List.finRange 12)

end

/-! ### The cartridge's power and readings (R308, R320, R328, R333) -/

theorem State.noteSeal_link (s : State) : s.noteSeal.meter.linkReply = s.meter.linkReply := by
  unfold State.noteSeal
  dsimp only
  split
  · rw [State.raise_meter]; rfl
  · rfl

/-- A power-up beside a module that runs compares the serial number; nothing else of the cartridge depends on it. -/
theorem State.powerUp_compared (s : State) (b : Bool) (h : s.meter.compared = false) :
    let t := if b then s.compareSerial else s
    t.meter.compared = b ∧ ∃ c, t.meter = { s.meter with compared := c } := by
  cases b
  case false => exact ⟨h, s.meter.compared, rfl⟩
  case true =>
    refine ⟨s.compareSerial_rest.2.1, true, ?_⟩
    unfold State.compareSerial
    rw [if_pos rfl, if_neg (by simp [h])]
    dsimp only
    split
    · rfl
    · rw [State.raise_meter]
      rfl

theorem exec_cartridgePowerUp {s : State} {n : Meter} (h : n.powered = false) : exec .cartridgePowerUp { s with meter := n } =
    .next (if s.awake && !n.absent then ({ s with meter := { n.powerUp with secAt := some s.clk.now } } : State).compareSerial
      else { s with meter := { n.powerUp with secAt := some s.clk.now } }) :=
  congrArg Host.Outcome.next (if_neg (by simp [h]))

/-- A reading of the cartridge's link, as a cartridge with power answers it. -/
theorem exec_cartridgeReadRequest {s : State} (write : Bool) (addr : Nat) (crcOk : Bool) (hpower : s.meter.powered = true) :
    exec (.cartridgeReadRequest write addr crcOk) s =
      let s1 := s.modMeter fun m => { m with
        linkReply := if !crcOk then some LinkAnswer.readRefused else if write then some .isSealed else some (.word addr (s.meter.word (addr % 0x10000))) }
      .next (if crcOk && !write && decide (addr % 0x10000 = 0) && s.awake && !s.meter.absent then s1.noteSeal else s1) := by
  simp [exec, execCartridgeReadRequest, hpower]

/-- Settles O39. -/
theorem meterEventsComplete : Obligations.MeterEventsComplete := by
  unfold Obligations.MeterEventsComplete
  simp only [Fin.getElem_fin]
  rintro s p m rfl hpower
  refine ⟨?inTurn, ?resumes, ?damaged, ?noFrame, ?slotLost, ?opens, ?closes, ?gap, ?write, ?final, ?reads, ?readsSeal, ?sealed, ?refused,
    ?powerUp, congrArg Host.Outcome.next (if_pos hpower)⟩
  case inTurn =>
    rintro sent b noise q hsent rfl hcrc hsync hseq
    exact ⟨fun h => exec_metrologySubframe_reaches hsent hpower (Meter.subframe_follows hcrc hsync hseq h),
      fun h => exec_metrologySubframe_reaches hsent hpower (Meter.subframe_strays hcrc hsync hseq h)⟩
  case resumes =>
    rintro sent b noise e hsent rfl hcrc hsync h
    exact exec_metrologySubframe_reaches hsent hpower (Meter.subframe_resumes hcrc hsync h)
  case damaged =>
    rintro sent b noise hsent rfl hcrc
    exact exec_metrologySubframe_reaches hsent hpower (Meter.subframe_damaged hcrc)
  case noFrame =>
    intro noise hsent
    simp only [exec, execMetrologySubframe, Fin.getElem_fin, hsent]
  case slotLost =>
    intro hsent hdue
    refine congrArg Host.Outcome.next (State.modMeter_congr (if_pos ?_))
    simp only [Fin.getElem_fin, hpower, hdue, hsent, Option.isNone_none, Bool.and_self]
  case opens =>
    intro iv hopening hdue hno hroom
    have hexec : exec (.sessionOpen p) s = .next (s.modMeter (·.openSession p iv)) := by
      refine congrArg Host.Outcome.next (State.modMeter_congr ?_)
      simp only [Fin.getElem_fin, hopening, hpower, hno, hdue, Bool.not_false, decide_true, Bool.and_self, if_true]
    obtain ⟨hsessions, henergy⟩ := Meter.openSession_sessions p iv hroom
    exact ⟨_, _, hexec, rfl, hsessions, rfl, rfl, rfl, rfl, rfl, rfl, rfl, henergy⟩
  case closes =>
    intro iv x hclosing hdue hx hopen hport
    have hexec : exec (.sessionClose p) s = .next (s.modMeter (·.closeSession p 1 iv.imp iv.exp iv.sec)) := by
      refine congrArg Host.Outcome.next (State.modMeter_congr ?_)
      simp only [Fin.getElem_fin, hclosing, hpower, hdue, decide_true, Bool.and_self, if_true]
    exact ⟨_, _, hexec, rfl, Meter.closeSession_sessions 1 _ _ _ hx hopen hport, rfl, rfl, rfl, rfl, rfl, rfl, rfl⟩
  case gap =>
    intro imp exp_ sec x hlast hheld hx hopen hport
    have hexec : exec (.sessionGapClose p) s = .next (s.modMeter (·.closeSession p 3 imp exp_ sec)) := by
      refine congrArg Host.Outcome.next (State.modMeter_congr ?_)
      simp only [Fin.getElem_fin, hlast, hpower, hheld, Bool.and_self, if_true]
    exact ⟨_, _, hexec, rfl, Meter.closeSession_sessions 3 _ _ _ hx hopen hport, rfl, rfl, rfl, rfl, rfl, Meter.closeSession_opening 3 ..⟩
  case write =>
    intro hdue
    have hexec : exec .meterMramWrite s = .next (s.modMeter fun m =>
        { m with
          live := { m.live with opSec := (m.live.opSec + 1) % 2 ^ 32 }, mram := { m.live with opSec := (m.live.opSec + 1) % 2 ^ 32 }
          secAt := some s.clk.now }) :=
      congrArg Host.Outcome.next (State.modMeter_congr (if_pos (by rw [hpower, hdue]; rfl)))
    exact ⟨_, hexec, rfl, rfl, rfl, rfl⟩
  case final =>
    exact congrArg Host.Outcome.next (State.modMeter_congr (if_pos hpower))
  case reads =>
    intro addr haddr
    refine (exec_cartridgeReadRequest false addr true hpower).trans (congrArg Host.Outcome.next ((if_neg (by simp [haddr])).trans ?_))
    exact State.modMeter_congr rfl
  case readsSeal =>
    intro addr haddr
    refine ⟨_, exec_cartridgeReadRequest false addr true hpower, ?_⟩
    simp only [haddr]
    split
    · obtain ⟨-, -, hparams, hlive, -⟩ := State.noteSeal_rest (s.modMeter fun m => { m with linkReply := some (.word addr (s.meter.word 0)) })
      exact ⟨State.noteSeal_link _, hlive, hparams⟩
    · exact ⟨rfl, rfl, rfl⟩
  case sealed =>
    intro addr
    rw [exec_cartridgeReadRequest true addr true hpower]
    simp
  case refused =>
    intro write addr
    rw [exec_cartridgeReadRequest write addr false hpower]
    simp
  case powerUp =>
    intro n hn
    refine ⟨_, exec_cartridgePowerUp hn, ?_⟩
    obtain ⟨hcompared, c, hmeter⟩ := State.powerUp_compared { s with meter := { n.powerUp with secAt := some s.clk.now } }
      (s.awake && !n.absent) rfl
    refine ⟨?_, ?_, ?_, ?_, ?_, ?_, ?_, hcompared⟩
    all_goals
      dsimp only at hmeter ⊢
      rw [hmeter]
    case refine_5 => exact n.powerUp_energy
    case refine_7 => exact n.powerUp_params
    all_goals rfl

end Sys2Proof.Machine
end

section
/-! A pack fault (R302, Table 9.8): what it writes at its port and what it leaves. -/
namespace Sys2Proof.Machine

section
variable (s : State) (p q : Port)

@[simp] theorem State.modLife_life (f : PortLife → PortLife) : (s.modLife p f).life p = f (s.life p) := by
  simp [State.modLife, State.life, State.modFirm]
theorem State.modLife_life_other (f : PortLife → PortLife) (h : q ≠ p) : (s.modLife p f).life q = s.life q := by
  simp [State.modLife, State.life, State.modFirm, vmod_other _ _ _ _ h.symm]
theorem State.modLife_congr {f g : PortLife → PortLife} (h : f (s.life p) = g (s.life p)) : s.modLife p f = s.modLife p g := by
  rw [State.life] at h
  simp only [State.modLife, State.modFirm, vmod, h]

theorem State.admitFail_life (cause : Nat) : (s.admitFail p cause).life p = { s.life p with admitPending := false } := by
  unfold State.admitFail
  split
  · rw [State.raise_life, State.modLife_life]
  · next h =>
    have hnone : (s.life p).admitPending = false := Bool.eq_false_iff.2 h
    rw [← hnone]

theorem State.admitFail_life_other (cause : Nat) (h : q ≠ p) : (s.admitFail p cause).life q = s.life q := by
  unfold State.admitFail
  split
  · rw [State.raise_life, State.modLife_life_other _ _ _ _ h]
  · rfl

/-- What a pending admission's end leaves. -/
theorem State.admitFail_rest {α : Type} {v : State → α} (hlife : ∀ (t : State) f, v (t.modLife p f) = v t)
    (hraise : ∀ (t : State) code source arg0 arg1 data, v (t.raise code source arg0 arg1 data) = v t) (cause : Nat) :
    v (s.admitFail p cause) = v s := by
  unfold State.admitFail
  split
  · rw [hraise, hlife]
  · rfl

/-- A port's life-cycle as a pack fault writes it, before the trip or the opening (R302). -/
def PortLife.failed (l : PortLife) (cause : Nat) : PortLife :=
  { l with life := .faulted, cause := cause, kRel := 1, gatesDone := false, relReq := false, atZero := none, admitPending := false }

/-- A port's life-cycle with the trip of a cause of Table 9.8, if it has one. -/
def PortLife.trippedBy (l : PortLife) (cause : Nat) : PortLife :=
  match faultTrip cause with
  | some t => l.tripped t
  | none => l

/-- A pack fault before the gates go off or wait for the current's zero (R302). -/
def State.portFailed (cause : Nat) : State :=
  let s1 := ((s.modLife p fun l => { l with life := .faulted, cause := cause, kRel := 1, gatesDone := false, relReq := false,
                                            atZero := none }).raise 0x36 p.val cause).admitFail p cause
  match faultTrip cause with
  | some t => s1.tripPort p t
  | none => s1

/-- A pack fault: its port fails, and its gates go off or wait for the current's zero (R302). -/
theorem State.portFault_eq (cause : Nat) : s.portFault p cause =
    if atZeroCause cause && !(s.portFailed p cause).gatesAreOff p then (s.portFailed p cause).modLife p fun l => { l with atZero := some (cause, s.clk.now) }
    else ((s.portFailed p cause).modLife p fun l => { l with gateEn := false }).openContactors p := rfl

theorem State.portFailed_life (cause : Nat) : (s.portFailed p cause).life p = ((s.life p).failed cause).trippedBy cause := by
  unfold State.portFailed PortLife.trippedBy
  dsimp only
  split
  · rw [State.tripPort_life, State.admitFail_life, State.raise_life, State.modLife_life]
    rfl
  · rw [State.admitFail_life, State.raise_life, State.modLife_life]
    rfl

theorem State.portFailed_life_other (cause : Nat) (h : q ≠ p) : (s.portFailed p cause).life q = s.life q := by
  have hs1 (f : PortLife → PortLife) : (((s.modLife p f).raise 0x36 p.val cause).admitFail p cause).life q = s.life q := by
    rw [State.admitFail_life_other _ _ _ _ h, State.raise_life, State.modLife_life_other _ _ _ _ h]
  unfold State.portFailed
  dsimp only
  split
  · rw [State.tripPort_life_other _ _ _ _ h.symm, hs1]
  · exact hs1 _

/-- What a pack fault leaves: all that no change of a life-cycle, no event and no trip touches. -/
theorem State.portFault_rest {α : Type} {v : State → α} (hlife : ∀ (t : State) f, v (t.modLife p f) = v t)
    (hraise : ∀ (t : State) code source arg0 arg1 data, v (t.raise code source arg0 arg1 data) = v t)
    (htrip : ∀ (t : State) x, v (t.tripPort p x) = v t) (cause : Nat) : v (s.portFault p cause) = v s := by
  have hfailed : v (s.portFailed p cause) = v s := by
    unfold State.portFailed
    dsimp only
    split
    · rw [htrip, State.admitFail_rest _ _ hlife hraise, hraise, hlife]
    · rw [State.admitFail_rest _ _ hlife hraise, hraise, hlife]
  rw [State.portFault_eq]
  split
  · rw [hlife, hfailed]
  · rw [State.openContactors, hlife, hlife, hfailed]

@[simp] theorem State.portFault_sk (cause : Nat) : (s.portFault p cause).sk = s.sk :=
  State.portFault_rest (v := State.sk) s p (fun _ _ => rfl) (fun _ _ _ _ _ _ => State.raise_sk ..) (fun _ _ => State.tripPort_sk ..) cause
@[simp] theorem State.portFault_bw (cause : Nat) : (s.portFault p cause).bw = s.bw :=
  State.portFault_rest (v := State.bw) s p (fun _ _ => rfl) (fun _ _ _ _ _ _ => State.raise_bw ..) (fun _ _ => State.tripPort_bw ..) cause
@[simp] theorem State.portFault_lookout (cause : Nat) : (s.portFault p cause).lookout = s.lookout :=
  State.portFault_rest (v := State.lookout) s p (fun _ _ => rfl) (fun _ _ _ _ _ _ => State.raise_lookout ..)
    (fun _ _ => State.tripPort_lookout ..) cause

theorem State.portFault_life_other (cause : Nat) (h : q ≠ p) : (s.portFault p cause).life q = s.life q := by
  rw [State.portFault_eq]
  split
  · rw [State.modLife_life_other _ _ _ _ h, State.portFailed_life_other _ _ _ _ h]
  · rw [State.openContactors, State.modLife_life_other _ _ _ _ h, State.modLife_life_other _ _ _ _ h, State.portFailed_life_other _ _ _ _ h]

/-- A pack fault whose cause opens at once (Table 9.8): the gates and the contactors of the port are to be off. -/
theorem State.portFault_life {cause : Nat} (h : atZeroCause cause = false) : (s.portFault p cause).life p =
    { ((s.life p).failed cause).trippedBy cause with gateEn := false, ck0 := false, ck1 := false } := by
  rw [State.portFault_eq, if_neg (by simp [h]), State.openContactors, State.modLife_life, State.modLife_life, State.portFailed_life]

/-- A pack fault whose cause trips and opens at once: the trip stands. -/
theorem State.portFault_trips {cause : Nat} {t : Trip} (hz : atZeroCause cause = false) (ht : faultTrip cause = some t) :
    t ∈ ((s.portFault p cause).life p).trips ∧ ((s.portFault p cause).life p).life = .faulted ∧
      ((s.portFault p cause).life p).cause = cause ∧ ((s.portFault p cause).life p).gateEn = false ∧
      ((s.portFault p cause).life p).ck0 = false := by
  rw [State.portFault_life _ _ hz, PortLife.trippedBy, ht]
  exact ⟨PortLife.mem_tripped .., rfl, rfl, rfl, rfl⟩

/-- A pack fault whose cause opens at zero without a trip (R302): it waits for the current's zero while the gates run. -/
theorem State.portFault_atZero {cause : Nat} (hz : atZeroCause cause = true) (ht : faultTrip cause = none) :
    ((s.portFault p cause).life p).life = .faulted ∧ ((s.portFault p cause).life p).cause = cause ∧
      (s.gatesAreOff p = false → ((s.portFault p cause).life p).atZero = some (cause, s.clk.now)) ∧
      (s.gatesAreOff p = true → ((s.portFault p cause).life p).gateEn = false ∧ ((s.portFault p cause).life p).ck0 = false ∧
        ((s.portFault p cause).life p).ck1 = false) := by
  have hpwm : (s.portFailed p cause).gatesAreOff p = s.gatesAreOff p := by
    have hs : (s.portFailed p cause).pwm = s.pwm := by
      unfold State.portFailed
      rw [ht]
      dsimp only
      rw [State.admitFail_rest (v := State.pwm) _ _ (fun _ _ => rfl) (fun _ _ _ _ _ _ => State.raise_pwm ..), State.raise_pwm,
        State.modLife_pwm]
    simp only [State.gatesAreOff, hs]
  rw [State.portFault_eq, hz, hpwm]
  cases hoff : s.gatesAreOff p
  · rw [if_pos (by decide), State.modLife_life, State.portFailed_life, PortLife.trippedBy, ht]
    exact ⟨rfl, rfl, fun _ => rfl, fun h => absurd h (by decide)⟩
  · rw [if_neg (by decide), State.openContactors, State.modLife_life, State.modLife_life, State.portFailed_life, PortLife.trippedBy, ht]
    exact ⟨rfl, rfl, fun h => absurd h (by decide), fun _ => ⟨rfl, rfl, rfl⟩⟩

end

end Sys2Proof.Machine
end

section
/-! Contactors, off-state tests and the CAN FD controller of a port (R232 to R243, R292): the obligation O35. -/
namespace Sys2Proof.Machine

theorem State.modSk_congr {s : State} {l : Link} {f g : Skerry → Skerry} (h : f s.sk[(l : Nat)] = g s.sk[(l : Nat)]) :
    s.modSk l f = s.modSk l g := by
  have hf : f s.sk[l] = g s.sk[l] := h
  simp only [State.modSk, vmod, hf]

/-- A change at a Skerry that lacks its effect on this one leaves the state as it is. -/
theorem State.modSk_id {s : State} {l : Link} {f : Skerry → Skerry} (h : f s.sk[(l : Nat)] = s.sk[(l : Nat)]) : (s.modSk l f).sk[(l : Nat)] = s.sk[(l : Nat)] :=
  (s.modSk_same l f).trans h

section
variable (k : Skerry)

@[simp] theorem Skerry.abortDiag_coils : k.abortDiag.coils = k.coils := by
  unfold Skerry.abortDiag
  split <;> rfl

theorem Skerry.abortDiag_aborts (h : k.diag.state = 1) : k.abortDiag.diag.state = 3 ∧ k.abortDiag.diagAborted = true := by
  unfold Skerry.abortDiag
  rw [if_pos h]
  exact ⟨rfl, rfl⟩

theorem Diag.state_of_passed {d : Diag} (h : d.passed = true) : d.state = 2 := by
  simp only [Diag.passed, Bool.and_eq_true, decide_eq_true_eq] at h
  exact h.1.1.1.1.1

end

/-- A contactor's feedback as it changes; a closing one aborts the tests (R238). -/
def Skerry.feedback (k : Skerry) (n : Fin 2) (closed : Bool) : Skerry :=
  let k1 := { k with coils := vmod k.coils n fun c => { c with fb := closed } }
  if closed then k1.abortDiag else k1

theorem Skerry.feedback_fb (k : Skerry) (n : Fin 2) (closed : Bool) : (k.feedback n closed).coils[(n : Nat)].fb = closed := by
  unfold Skerry.feedback
  cases closed
  · exact congrArg Coil.fb (vmod_same ..)
  · simp

/-- CONTACTOR_FB_CHANGE touches the Skerry and, as FB0 closes in PRECHARGING, the time in the port's life-cycle (R294). -/
theorem exec_contactorFbChange {s : State} {p : Port} (n : Fin 2) (closed : Bool) (hgood : s.sk[(linkOf p : Nat)].good = true) :
    exec (.contactorFbChange p n closed) s =
      .next (if closed && decide (n = 0) && decide ((s.life p).life = .precharging) && (s.life p).fb0At.isNone then
        (s.modSk (linkOf p) (·.feedback n closed)).modLife p fun x => { x with fb0At := some s.clk.now }
      else s.modSk (linkOf p) (·.feedback n closed)) :=
  if_neg (by simp [hgood])

/-- The flags of a contactor whose feedback differs from its command (R233). -/
def Skerry.noteFault (k : Skerry) (n : Fin 2) (weld : Bool) : Skerry :=
  { k with coils := vmod k.coils n fun x => { x with weld := x.weld || weld, fail := x.fail || !weld } }

theorem Skerry.noteFault_coil (k : Skerry) (n : Fin 2) (weld : Bool) : (k.noteFault n weld).coils[(n : Nat)] =
    { k.coils[(n : Nat)] with weld := k.coils[(n : Nat)].weld || weld, fail := k.coils[(n : Nat)].fail || !weld } := vmod_same ..

/-- CONTACTOR_FAULT once its time has run (R233, R302). -/
theorem exec_contactorFault {s : State} {p : Port} {n : Fin 2} (hgood : s.sk[(linkOf p : Nat)].good = true)
    (hdiffers : s.sk[(linkOf p : Nat)].coils[(n : Nat)].fb ≠ s.sk[(linkOf p : Nat)].coils[(n : Nat)].cmd)
    (hdue : s.sk[(linkOf p : Nat)].coils[(n : Nat)].cmdAt + msTicks (10 * s.parN (PP_COIL_FB_T p)) ≤ s.clk.now) :
    ∃ arg, exec (.contactorFault p n) s =
      let u := ((s.modSk (linkOf p) (·.noteFault n s.sk[(linkOf p : Nat)].coils[(n : Nat)].fb)).raise 0x4C p.val arg).tripPort p .contactor
      .next (if (s.life p).life.connected then u.portFault p 7 else u) :=
  ⟨_, if_neg (by simp [hgood, hdiffers, Nat.not_lt.2 hdue])⟩

section
variable (s : State) (p : Port)

@[simp] theorem State.diagDone_sk : (s.diagDone p).sk = s.sk := by
  unfold State.diagDone
  dsimp only
  rw [State.raise_sk]
  split <;> rfl

@[simp] theorem State.diagDone_bw : (s.diagDone p).bw = s.bw := by
  unfold State.diagDone
  dsimp only
  rw [State.raise_bw]
  split <;> rfl

@[simp] theorem State.diagDone_pwm : (s.diagDone p).pwm = s.pwm := by
  unfold State.diagDone
  dsimp only
  rw [State.raise_pwm]
  split <;> rfl

/-- A run of tests that ends with a full pass makes the port's tests valid (R287). -/
theorem State.diagDone_life (h : s.sk[(linkOf p : Nat)].diag.passed = true) :
    ((s.diagDone p).life p).testsValid = true ∧ ((s.diagDone p).life p).retest = false := by
  unfold State.diagDone
  dsimp only
  rw [State.raise_life, Fin.getElem_fin, if_pos h, State.modLife_life]
  exact ⟨rfl, rfl⟩

end

/-- The items that wait for the standby are no part of the relays. -/
@[simp] theorem State.modPair_act_relays (s : State) (h : Hd) (f : Pair → Pair) : (s.modPair h f).act.relays = s.act.relays := by
  have hkeeps : (s.modPair h f).act = (s.modHl h fun a => { a with pair := f a.pair }).hl[(s.hd : Nat)] := rfl
  rw [hkeeps]
  by_cases hh : h = s.hd
  · subst hh
    rw [s.modHl_same]
    rfl
  · rw [s.modHl_other h s.hd _ hh]
    rfl

/-- CAN_FRAME_RECEIVE at a controller that is on the bus (R240, R292, R381). -/
theorem exec_canFrameReceive {s : State} {p : Port} (f : CanFrame) (hawake : s.awake = true) (hgood : s.sk[(linkOf p : Nat)].good = true)
    (hon : s.sk[(linkOf p : Nat)].canBusOff = false) : exec (.canFrameReceive p f) s =
      let s2 := ((s.modLife p fun l => (s.bmsMap p).foldl (fun (l : PortLife) e => l.takeSignal s.clk.now e f) l).modAct fun a =>
        { a with relays := vmod a.relays p fun r => r.push s.act.ptp.sec s.act.ptp.subNs f }).modSk (linkOf p) fun k =>
          { k with canUp := k.canUp ++ canChunks f }
      .next (if bit (s.parN P_MIRROR_SEL) 1 then s2.modPair s.hd (·.pushItem (.can p.val s.act.relays[p].next)) else s2) :=
  if_neg (by simp [hawake, hgood, hon])

/-- Settles O35. -/
theorem contactorCanComplete : Obligations.ContactorCanComplete := by
  unfold Obligations.ContactorCanComplete
  simp only [Fin.getElem_fin]
  intro s p n hgood
  refine ⟨fun closed => ?feedback, ?fault, fun reading => ?diag, fun f => ?receive, ?transmit, ?busOff, ?recovers, ?held⟩
  case feedback =>
    refine ⟨_, exec_contactorFbChange n closed hgood, ?_⟩
    have haborts : closed = true → s.sk[(linkOf p : Nat)].diag.state = 1 →
        (s.sk[(linkOf p : Nat)].feedback n closed).diag.state = 3 ∧ (s.sk[(linkOf p : Nat)].feedback n closed).diagAborted = true := by
      rintro rfl hrun
      exact Skerry.abortDiag_aborts _ hrun
    split
    · simp only [State.modLife_sk, State.modSk_same]
      exact ⟨Skerry.feedback_fb .., haborts, rfl, rfl, rfl⟩
    · simp only [State.modSk_same]
      exact ⟨Skerry.feedback_fb .., haborts, rfl, rfl, rfl⟩
  case fault =>
    intro hdiffers hdue
    obtain ⟨arg, hexec⟩ := exec_contactorFault hgood hdiffers hdue
    refine ⟨_, hexec, ?_⟩
    split
    · obtain ⟨htrip, hlife, hcause, hgate, -⟩ := State.portFault_trips (((s.modSk (linkOf p)
        (·.noteFault n s.sk[(linkOf p : Nat)].coils[(n : Nat)].fb)).raise 0x4C p.val arg).tripPort p .contactor) p (cause := 7) rfl rfl
      simp only [State.portFault_sk, State.tripPort_sk, State.raise_sk, State.modSk_same, Skerry.noteFault_coil]
      exact ⟨htrip, hgate, fun h => by simp [h], fun h => by simp [h], fun _ => ⟨hlife, hcause⟩⟩
    · next hconn =>
      simp only [State.tripPort_sk, State.raise_sk, State.modSk_same, Skerry.noteFault_coil]
      refine ⟨State.mem_tripPort .., ?_, fun h => by simp [h], fun h => by simp [h], fun h => absurd h hconn⟩
      rw [State.tripPort_life]
      rfl
  case diag =>
    intro hrun hdue
    refine ⟨_, if_neg (by simp [hrun, Nat.not_lt.2 hdue]), ?_⟩
    split
    · next hgoes =>
      simp only [Fin.getElem_fin, State.modSk_same] at hgoes ⊢
      exact ⟨trivial, fun h => absurd (Diag.state_of_passed h) (by rw [hgoes]; decide), rfl, rfl⟩
    · simp only [State.diagDone_sk, State.diagDone_bw, State.diagDone_pwm, State.modSk_same, Fin.getElem_fin, true_and]
      exact ⟨fun h => State.diagDone_life _ _ (by rw [State.modSk_same]; exact h), rfl, rfl⟩
  case receive =>
    intro hawake hon
    refine ⟨_, exec_canFrameReceive f hawake hgood hon, ?_⟩
    have hlife : (s.modLife p fun l => (s.bmsMap p).foldl (fun (l : PortLife) e => l.takeSignal s.clk.now e f) l).life p =
        (s.bmsMap p).foldl (fun (x : PortLife) e => x.takeSignal s.clk.now e f) (s.life p) := State.modLife_life ..
    split
    · simp only [State.modPair_act_relays, State.modSk_act, State.modAct_act, vmod_same, State.modPair_sk, State.modSk_same]
      exact ⟨rfl, hlife, rfl, rfl⟩
    · simp only [State.modSk_act, State.modAct_act, vmod_same, State.modSk_same]
      exact ⟨rfl, hlife, rfl, rfl⟩
  case transmit =>
    intro hon hwhole
    refine congrArg Host.Outcome.next (State.modSk_congr (if_neg ?_))
    simp [hon, hgood, Nat.ne_of_gt hwhole]
  case busOff =>
    intro hon
    refine ⟨_, if_pos (by simp [hgood, hon]), ?_⟩
    rw [State.raise_sk, State.raise_firm, State.modSk_same]
    exact ⟨rfl, rfl, List.mem_cons_self .., rfl⟩
  case recovers =>
    intro hheld
    exact congrArg Host.Outcome.next (State.modSk_congr (if_neg (by simp [hheld])))
  case held =>
    intro hheld
    refine ⟨_, rfl, ?_⟩
    rw [State.modSk_same, if_pos hheld]
    simp only [Skerry.busOffHeld, Bool.and_eq_true] at hheld
    exact hheld.1

end Sys2Proof.Machine
end

section
/-! The battery ports' own events (R287 to R302): loops, signals and the timers of a port, and the obligation O36. -/
namespace Sys2Proof.Machine

section
variable (s : State) (p : Port)

/-- A port's life-cycle as it takes a new class of its loop (R289, R290). -/
def PortLife.takeLoop (l : PortLife) (code now : Nat) : PortLife :=
  { l with loop := code, loopAt := now, testsValid := l.testsValid && decide (code ≠ 0) }

/-- An OPEN loop: a contactor that is closed under it is pulled (R289, Table 9.8). -/
theorem State.takeLoop_open (h : (s.life p).loop ≠ 0) : s.takeLoop p 0 =
    if (s.life p).life ≠ .empty ∧ s.anyClosed p then (s.modLife p (·.takeLoop 0 s.clk.now)).portFault p 9
    else s.modLife p (·.takeLoop 0 s.clk.now) := if_neg h

theorem State.takeLoop_closed (h : (s.life p).loop ≠ 1) : s.takeLoop p 1 = s.modLife p (·.takeLoop 1 s.clk.now) := if_neg h

/-- A loop in FAULT: the events, and the cause of a port whose pack is not yet connected (R290). -/
theorem State.takeLoop_fault (h : (s.life p).loop ≠ 2) : s.takeLoop p 2 =
    (((s.modLife p (·.takeLoop 2 s.clk.now)).raise 0x37 p.val).raise 0x36 p.val 1).modLife p fun l =>
      { l with cause := if l.life.beforePack then 1 else l.cause } := if_neg h

end

/-- The state after Lookout has taken a loop's class (R520). -/
def State.seesLoop (s : State) (p : Port) (cls : LoopClass) : State :=
  if s.lookout.loops[p] = cls.code then s
  else s.modLookout fun k =>
    { k with loops := vset k.loops p cls.code, loopAt := vset k.loopAt p (if s.dev = DevState.standby then some s.clk.now else none) }.lapseLoop p.val

section
variable (s : State) (p q : Port) (cls : LoopClass)

/-- Lookout's own taking of a class touches Lookout alone. -/
theorem State.seesLoop_rest : ∃ k, s.seesLoop p cls = { s with lookout := k } := by
  unfold State.seesLoop
  split
  · exact ⟨_, rfl⟩
  · exact ⟨_, rfl⟩

theorem State.seesLoop_loops : (s.seesLoop p cls).lookout.loops[(p : Nat)] = cls.code := by
  unfold State.seesLoop
  by_cases h : s.lookout.loops[p] = cls.code
  · rw [if_pos h]
    exact h
  · rw [if_neg h]
    exact vset_same ..

end

/-- LOOP_CLASS_REPORT while the firmware runs. -/
theorem exec_loopClassReport {s : State} (p : Port) (cls : LoopClass) (h : s.awake = true) :
    exec (.loopClassReport p cls) s = .next ((s.seesLoop p cls).takeLoop p cls.code) :=
  congrArg Host.Outcome.next (if_pos h)

section
variable {s : State} {p : Port} {cls : LoopClass} (hnew : (s.life p).loop ≠ cls.code)
include hnew

/-- What a loop's new class does at its port: class and time, an OPEN loop unmakes the tests, a FAULT names its cause, a contactor
closed under an OPEN loop is pulled (R289, R290, Table 9.8). -/
theorem State.takeLoop_life : ((s.takeLoop p cls.code).life p).loop = cls.code ∧ ((s.takeLoop p cls.code).life p).loopAt = s.clk.now ∧
    (cls = .openLoop → ((s.takeLoop p cls.code).life p).testsValid = false) ∧
    (cls = .fault → ((s.takeLoop p cls.code).life p).life = (s.life p).life ∧
      ((s.takeLoop p cls.code).life p).cause = if (s.life p).life.beforePack then 1 else (s.life p).cause) ∧
    (cls = .openLoop → (s.life p).life ≠ .empty → s.anyClosed p = true →
      ((s.takeLoop p cls.code).life p).life = .faulted ∧ ((s.takeLoop p cls.code).life p).cause = 9) := by
  cases cls
  case openLoop =>
    dsimp only [LoopClass.code] at hnew ⊢
    rw [s.takeLoop_open p hnew]
    by_cases hpulled : (s.life p).life ≠ .empty ∧ s.anyClosed p = true
    · rw [if_pos hpulled, State.portFault_life _ _ (cause := 9) rfl, State.modLife_life]
      exact ⟨rfl, rfl, fun _ => Bool.and_false _, fun h => (nomatch h), fun _ _ _ => ⟨rfl, rfl⟩⟩
    · rw [if_neg hpulled, State.modLife_life]
      exact ⟨rfl, rfl, fun _ => Bool.and_false _, fun h => (nomatch h), fun _ hlife hclosed => absurd ⟨hlife, hclosed⟩ hpulled⟩
  case closed =>
    dsimp only [LoopClass.code] at hnew ⊢
    rw [s.takeLoop_closed p hnew, State.modLife_life]
    exact ⟨rfl, rfl, fun h => (nomatch h), fun h => (nomatch h), fun h => (nomatch h)⟩
  case fault =>
    dsimp only [LoopClass.code] at hnew ⊢
    rw [s.takeLoop_fault p hnew, State.modLife_life, State.raise_life, State.raise_life, State.modLife_life]
    exact ⟨rfl, rfl, fun h => (nomatch h), fun _ => ⟨rfl, rfl⟩, fun h => (nomatch h)⟩

theorem State.takeLoop_others : (s.takeLoop p cls.code).lookout = s.lookout ∧
    ∀ q : Port, q ≠ p → (s.takeLoop p cls.code).life q = s.life q := by
  cases cls
  case openLoop =>
    dsimp only [LoopClass.code] at hnew ⊢
    rw [s.takeLoop_open p hnew]
    by_cases hpulled : (s.life p).life ≠ .empty ∧ s.anyClosed p = true
    · rw [if_pos hpulled, State.portFault_lookout]
      exact ⟨rfl, fun q hq => (State.portFault_life_other _ _ _ _ hq).trans (State.modLife_life_other _ _ _ _ hq)⟩
    · rw [if_neg hpulled]
      exact ⟨rfl, fun q hq => State.modLife_life_other _ _ _ _ hq⟩
  case closed =>
    dsimp only [LoopClass.code] at hnew ⊢
    rw [s.takeLoop_closed p hnew]
    exact ⟨rfl, fun q hq => State.modLife_life_other _ _ _ _ hq⟩
  case fault =>
    dsimp only [LoopClass.code] at hnew ⊢
    rw [s.takeLoop_fault p hnew, State.modLife_lookout, State.raise_lookout, State.raise_lookout]
    refine ⟨rfl, fun q hq => ?_⟩
    rw [State.modLife_life_other _ _ _ _ hq, State.raise_life, State.raise_life, State.modLife_life_other _ _ _ _ hq]

end

/-- Settles O36. -/
theorem portEventsComplete : Obligations.PortEventsComplete := by
  unfold Obligations.PortEventsComplete
  simp only [Fin.getElem_fin]
  intro s p hawake
  refine ⟨?loop, ?plug, ?stale, ?lost, ?precharge, ?atZero, ?discharge⟩
  case loop =>
    intro cls hnew
    refine ⟨_, exec_loopClassReport p cls hawake, ?_⟩
    obtain ⟨k, hk⟩ := s.seesLoop_rest p cls
    have hloops := s.seesLoop_loops p cls
    rw [hk] at hloops ⊢
    have hnew' : (({ s with lookout := k } : State).life p).loop ≠ cls.code := hnew
    obtain ⟨hloop, hat, hopen, hfault, hpulled⟩ := State.takeLoop_life hnew'
    obtain ⟨hlookout, hothers⟩ := State.takeLoop_others hnew'
    rw [hlookout]
    exact ⟨hloop, hat, hloops, hopen, hfault, hpulled, hothers⟩
  case plug =>
    intro hempty hclosed hdue
    refine ⟨congrArg Host.Outcome.next (if_pos (by simp [hawake, hempty, hclosed, hdue])), ?_⟩
    rw [State.toPlugged, State.modLife_life]
  case stale =>
    intro sig h hdue
    exact (dif_pos h).trans (congrArg Host.Outcome.next (if_pos hdue))
  case lost =>
    intro hlife hsignals
    simp only [List.mem_cons, List.not_mem_nil, or_false] at hlife
    exact ⟨_, congrArg Host.Outcome.next (if_pos (by simp [hawake, hlife, hsignals])), s.portFault_atZero p rfl rfl⟩
  case precharge =>
    intro t0 hlife hfb hdue hck
    obtain ⟨htrip, hfaulted, hcause, hgate, hck0⟩ := s.portFault_trips p (cause := 4) (t := .pack) rfl rfl
    exact ⟨_, congrArg Host.Outcome.next (if_pos (by simp [hawake, hlife, hfb, hdue, hck])), hfaulted, hcause, htrip, hck0, hgate⟩
  case atZero =>
    intro c t0 hzero hdue
    refine congrArg Host.Outcome.next ((if_pos (by simp [hawake, hzero, hdue])).trans (if_pos ?_))
    rw [hzero]
    rfl
  case discharge =>
    intro hlife hdue
    exact congrArg Host.Outcome.next (if_pos (by simp [hawake, hlife, hdue]))

end Sys2Proof.Machine
end

section
/-! The return, request and permit-pattern words (R341 to R350), and the obligation O43. -/
namespace Sys2Proof.Machine

theorem linkOf_of_portOfLink {l : Link} {p : Port} (h : portOfLink l = some p) : l = linkOf p := by
  unfold portOfLink at h
  split at h
  · simp only [Option.some.injEq] at h
    subst h
    rfl
  · exact absurd h (by simp)

/-- A port of Breakwater but for its latches. -/
def BwPort.unlatched (b : BwPort) : BwPort := { b with latch := Vector.replicate 3 false }

section
variable (s : State) (p : Port)

/-- One function's latch: Breakwater notes it, the port trips with its event (R350). -/
def State.latchLimit (j : Fin 3) (arg : Nat) : State :=
  (((s.modBw fun x => { x with resetArmed := false, ports := vmod x.ports (linkOf p) fun b => { b with latch := vset b.latch j true } }).tripPort
    p .limit).raise 0x92 p.val (j.val + 1) arg)

theorem State.latchLimit_bw (j : Fin 3) (arg : Nat) : (s.latchLimit p j arg).bw =
    { s.bw with resetArmed := false, ports := vmod s.bw.ports (linkOf p) fun b => { b with latch := vset b.latch j true } } := by
  rw [State.latchLimit, State.raise_bw, State.tripPort_bw]
  rfl

/-- What no function's latch touches, the latching of a port's verdicts leaves. -/
theorem State.latchLimits_view {α : Type} {v : State → α} (hstep : ∀ (t : State) (j : Fin 3) (arg : Nat), v (t.latchLimit p j arg) = v t) :
    v (s.latchLimits p) = v s := by
  refine foldl_view (v := v) (fun t j => ?_) _ s
  dsimp only
  split
  · exact hstep ..
  · rfl

theorem State.latchLimits_clk : (s.latchLimits p).clk = s.clk :=
  State.latchLimits_view (v := State.clk) _ _ fun _ _ _ => by rw [State.latchLimit, State.raise_clk, State.tripPort_clk]; rfl
theorem State.latchLimits_sk : (s.latchLimits p).sk = s.sk :=
  State.latchLimits_view (v := State.sk) _ _ fun _ _ _ => by rw [State.latchLimit, State.raise_sk, State.tripPort_sk]; rfl
theorem State.latchLimits_shore : (s.latchLimits p).shore = s.shore :=
  State.latchLimits_view (v := State.shore) _ _ fun _ _ _ => by rw [State.latchLimit, State.raise_shore, State.tripPort_shore]; rfl
theorem State.latchLimits_params : (s.latchLimits p).bw.params = s.bw.params :=
  State.latchLimits_view (v := fun t => t.bw.params) _ _ fun _ _ _ => by rw [State.latchLimit_bw]
theorem State.latchLimits_request : (s.latchLimits p).bw.hlLost = s.bw.hlLost ∧ (s.latchLimits p).bw.requestAt = s.bw.requestAt :=
  ⟨State.latchLimits_view (v := fun t => t.bw.hlLost) _ _ fun _ _ _ => by rw [State.latchLimit_bw],
    State.latchLimits_view (v := fun t => t.bw.requestAt) _ _ fun _ _ _ => by rw [State.latchLimit_bw]⟩

/-- The latching leaves every other link, and of every link all but its latches. -/
theorem State.latchLimits_other (l : Link) (h : l ≠ linkOf p) : (s.latchLimits p).bw.ports[(l : Nat)] = s.bw.ports[(l : Nat)] :=
  State.latchLimits_view (v := fun t => t.bw.ports[(l : Nat)]) _ _ fun _ _ _ => by
    simp only [State.latchLimit_bw, vmod_other _ _ _ _ h.symm]

theorem State.latchLimits_unlatched (l : Link) : (s.latchLimits p).bw.ports[(l : Nat)].unlatched = s.bw.ports[(l : Nat)].unlatched := by
  by_cases h : l = linkOf p
  · subst h
    refine State.latchLimits_view (v := fun t => t.bw.ports[(linkOf p : Nat)].unlatched) _ _ fun t j arg => ?_
    simp only [State.latchLimit_bw, vmod_same]
    rfl
  · rw [State.latchLimits_other _ _ _ h]

end

/-- Nothing of a port's latches is in what its words bring. -/
theorem BwPort.unlatched_eq {b c : BwPort} (h : b.unlatched = c.unlatched) : b.lastAt = c.lastAt ∧ b.imax = c.imax ∧ b.vdc = c.vdc ∧
    b.fb0Open = c.fb0Open ∧ b.fb1Open = c.fb1Open ∧ b.unlockReq = c.unlockReq ∧ b.clearReq = c.clearReq ∧ b.firm = c.firm :=
  ⟨(congrArg BwPort.lastAt h :), (congrArg BwPort.imax h :), (congrArg BwPort.vdc h :), (congrArg BwPort.fb0Open h :), (congrArg BwPort.fb1Open h :),
    (congrArg BwPort.unlockReq h :), (congrArg BwPort.clearReq h :), (congrArg BwPort.firm h :)⟩

/-- What a request word brings to its port (R343, R351). -/
theorem BwPort.request_fields (b : BwPort) (m : Firm) (now : Nat) (p : Port) : (b.request m now p).unlockReq = m.unlockReq[(p : Nat)] ∧
    (b.request m now p).clearReq = m.clearReq[(p : Nat)] ∧ (b.request m now p).firm = m.verdict[(p : Nat)] := by
  unfold BwPort.request BwPort.clearLatches
  split
  · exact ⟨rfl, rfl, rfl⟩
  · exact ⟨rfl, rfl, rfl⟩

theorem portOfLink_linkOf (p : Port) : portOfLink (linkOf p) = some p := dif_pos p.isLt

/-- Breakwater as the request word of the token holder leaves it, before the latching (R343). -/
def State.requested (s : State) : State :=
  s.modBw fun b =>
    { b with
      hlLost := false, requestAt := s.clk.now
      ports := Vector.ofFn fun l => match portOfLink l with
        | none => b.ports[l]
        | some p => b.ports[l].request s.firm s.clk.now p }

theorem exec_requestWord {s : State} {h : Hd} (htoken : s.bw.token = some h) : exec (.requestWord h true) s =
    .next (((s.requested.eachPort State.latchLimits).modPair h fun p => { p with tookBw := true }).modFirm fun m =>
      { m with clearReq := Vector.replicate 12 false }) :=
  if_neg (by simp [htoken])

theorem State.requested_port (s : State) (p : Port) : s.requested.bw.ports[(linkOf p : Nat)] =
    s.bw.ports[(linkOf p : Nat)].request s.firm s.clk.now p := by
  simp [State.requested, portOfLink_linkOf]

theorem State.eachPort_view {α : Type} {v : State → α} {f : State → Port → State} (h : ∀ t p, v (f t p) = v t) (s : State) :
    v (s.eachPort f) = v s := foldl_view (v := v) h _ s

theorem State.eachPort_latchLimits_unlatched (s : State) (l : Link) :
    (s.eachPort State.latchLimits).bw.ports[(l : Nat)].unlatched = s.bw.ports[(l : Nat)].unlatched :=
  State.eachPort_view (v := fun t => t.bw.ports[(l : Nat)].unlatched) (fun t p => t.latchLimits_unlatched p l) s

theorem State.eachPort_latchLimits_request (s : State) : (s.eachPort State.latchLimits).bw.hlLost = s.bw.hlLost ∧
    (s.eachPort State.latchLimits).bw.requestAt = s.bw.requestAt :=
  ⟨State.eachPort_view (v := fun t => t.bw.hlLost) (fun t p => (t.latchLimits_request p).1) s,
    State.eachPort_view (v := fun t => t.bw.requestAt) (fun t p => (t.latchLimits_request p).2) s⟩

/-! ### Kinds (R343, R347, R360) -/

section
variable {b : Breakwater} {l : Link}

/-- While the request words are lost no link is to run or to be unlocked (R343). -/
theorem Breakwater.kindOf_of_hlLost (h : b.hlLost = true) : b.kindOf l ≠ .run ∧ b.kindOf l ≠ .unlock := by
  unfold Breakwater.kindOf
  dsimp only
  simp only [h, Bool.not_true, Bool.and_false, Bool.or_true, Bool.false_eq_true, if_false, if_true]
  split_ifs <;> simp

/-- A lock-out lets no link run (R360). -/
theorem Breakwater.kindOf_of_lockout (h : b.lockout = true) : b.kindOf l ≠ .run := by
  unfold Breakwater.kindOf
  dsimp only
  simp only [h, Bool.or_true, Bool.true_or, if_true]
  split_ifs <;> simp

/-- sdc_mod keeps every port's contactors open (R347). -/
theorem Breakwater.kindOf_of_sdcMod (h : b.sdcMod = true) : b.kindOf l = .off := by
  unfold Breakwater.kindOf
  simp [h]

end

/-- The count and the links of a permit pattern word (R345, R347). -/
theorem exec_permitPatternWord (s : State) : exec .permitPatternWord s = .next (s.modBw fun b =>
    { b with count := (b.count + 1) % 256, ports := Vector.ofFn fun l => b.ports[l].send s.clk.now b.count (b.kindOf l) }.driveOuts) := rfl

/-- A fault at Breakwater keeps its links (R359). -/
@[simp] theorem State.safetyFault_ports (s : State) (code source : Nat) : (s.safetyFault code source).bw.ports = s.bw.ports := by
  rw [State.safetyFault, State.raise_bw]
  rfl

theorem not_of_valid {x : Bool} (h : x = true) : ¬ (!x) = true := by simp [h]

/-- Settles O43. -/
theorem safetyLinksComplete : Obligations.SafetyLinksComplete := by
  unfold Obligations.SafetyLinksComplete
  simp only [Fin.getElem_fin]
  refine ⟨?links, fun b p h => ⟨Breakwater.kindOf_of_lockout h, fun hsdc => .inl (Breakwater.kindOf_of_sdcMod hsdc)⟩⟩
  rintro s l p noise w rfl
  refine ⟨?unpowered, ?invalid, ?wordG, ?word, ?notLost, ?lostG, ?lost, ?request, ?stranger, ?hlEarly, ?hlLost, ?chDisc, ?sdcFb, ?pattern⟩
  case unpowered => exact fun hgood => if_pos (by simp [hgood])
  case invalid => exact fun hgood hword => (if_neg (by simp [hgood])).trans (if_pos (congrArg Bool.not hword))
  case wordG =>
    intro hgood hlink hword
    refine ((if_neg (by simp [hgood])).trans (if_neg (not_of_valid hword))).trans ?_
    rw [hlink]
  case word =>
    intro hgood hlink hword
    refine ⟨_, ((if_neg (by simp [hgood])).trans (if_neg (not_of_valid hword))).trans (by rw [hlink]), ?_⟩
    obtain rfl := linkOf_of_portOfLink hlink
    rw [State.latchLimits_clk, State.latchLimits_sk, State.latchLimits_shore, State.latchLimits_params, State.latchLimits_meter]
    obtain ⟨hlast, himax, hvdc, hfb0, hfb1, -⟩ := BwPort.unlatched_eq (State.latchLimits_unlatched _ p (linkOf p))
    rw [hlast, himax, hvdc, hfb0, hfb1]
    simp only [State.modBwPort, State.modBw_bw, vmod_same]
    refine ⟨rfl, rfl, rfl, rfl, trivial, rfl, rfl, rfl, rfl, rfl, fun m hm => ?_⟩
    exact (State.latchLimits_other _ _ _ hm).trans (vmod_other _ _ _ _ hm.symm)
  case notLost => exact fun hdue => if_pos hdue
  case lostG =>
    intro hdue hlink hfirst
    refine (if_neg (Nat.not_lt.2 hdue)).trans ?_
    rw [hlink]
    exact congrArg Host.Outcome.next (if_neg (by simp [hfirst]))
  case lost =>
    intro hdue hlink hfirst
    refine ⟨_, (if_neg (Nat.not_lt.2 hdue)).trans (by rw [hlink]; exact if_neg (by simp [hfirst])), ?_⟩
    simp [State.modBwPort, BwPort.portLockout]
  case request =>
    intro h htoken
    refine ⟨_, exec_requestWord htoken, ?_⟩
    obtain ⟨hlost, hat⟩ := s.requested.eachPort_latchLimits_request
    obtain ⟨-, -, -, -, -, hunlock, hclear, hfirm⟩ := BwPort.unlatched_eq (s.requested.eachPort_latchLimits_unlatched (linkOf p))
    obtain ⟨kunlock, kclear, kfirm⟩ := s.bw.ports[(linkOf p : Nat)].request_fields s.firm s.clk.now p
    rw [s.requested_port p] at hunlock hclear hfirm
    simp only [State.modFirm_bw, State.modPair_bw]
    refine ⟨hlost, ?_, ?_, ?_, ?_, ?_⟩
    · exact hat
    · exact hunlock.trans kunlock
    · exact hclear.trans kclear
    · exact hfirm.trans kfirm
    · rfl
  case stranger =>
    rintro h ok (rfl | htoken)
    · unfold exec execRequestWord
      exact if_pos (Bool.true_or _)
    · exact if_pos (by simp [htoken])
  case hlEarly => exact fun hdue => congrArg Host.Outcome.next (if_pos hdue)
  case hlLost =>
    intro hdue
    refine ⟨_, congrArg Host.Outcome.next (if_neg (Nat.not_lt.2 hdue)), rfl, rfl, rfl, rfl, rfl, ?_⟩
    exact ⟨(Breakwater.kindOf_of_hlLost rfl).1, (Breakwater.kindOf_of_hlLost rfl).2, rfl⟩
  case chDisc =>
    intro hfirst hdiffers
    refine ⟨_, if_neg (by simp [hfirst, hdiffers]), ?_⟩
    simp [State.modBwPort, BwPort.portLockout]
  case sdcFb =>
    intro hfirst hkind hdue hfb
    refine ⟨_, if_neg ?_, ?_⟩
    · rcases hfb with h | h <;> simp [hfirst, hkind, hdue, h]
    · simp [State.modBwPort, BwPort.portLockout]
  case pattern =>
    refine ⟨_, exec_permitPatternWord s, rfl, rfl, ?_⟩
    simp [Breakwater.driveOuts, BwPort.send]

end Sys2Proof.Machine
end

section
/-! The two Headlands of the pair: what a change at one of them leaves of the other, and what a reply leaves of the host interface. -/
namespace Sys2Proof.Machine

theorem otherHd_ne (h : Hd) : otherHd h ≠ h := by
  unfold otherHd
  split
  · next hz => rw [hz]; decide
  · next hz => exact fun h0 => hz h0.symm

section
variable (s : State)

theorem State.peer_ne_hd : s.peer ≠ s.hd := otherHd_ne _

section
variable {s} {d e : Hd} (f : Headland → Headland) (g : Pair → Pair)

/-- A change at the token holder. -/
theorem State.modHl_act_of_eq (h : d = s.hd) : (s.modHl d f).act = f s.act := by
  subst h
  exact vmod_same ..
/-- A change at the other Headland. -/
theorem State.modHl_act_of_ne (h : d ≠ s.hd) : (s.modHl d f).act = s.act := vmod_other _ _ _ _ h
theorem State.modPair_act_of_eq (h : d = s.hd) : (s.modPair d g).act = { s.act with pair := g s.act.pair } := State.modHl_act_of_eq _ h
theorem State.modPair_act_of_ne (h : d ≠ s.hd) : (s.modPair d g).act = s.act := State.modHl_act_of_ne _ h
theorem State.modPair_hl_same : (s.modPair d g).hl[(d : Nat)] = { s.hl[(d : Nat)] with pair := g s.hl[(d : Nat)].pair } := s.modHl_same ..
theorem State.modPair_hl_other (h : d ≠ e) : (s.modPair d g).hl[(e : Nat)] = s.hl[(e : Nat)] := s.modHl_other _ _ _ h

/-- A change of the token holder's host interface is none of the other Headland. -/
theorem State.modAct_hl_other (h : s.hd ≠ e) : (s.modAct f).hl[(e : Nat)] = s.hl[(e : Nat)] := vmod_other _ _ _ _ h

end

/-! ### What a reply leaves of the changes that wait -/

theorem HostIf.listed_awaiting (h : HostIf) (cls : Nat) (x y : List SpiReply) :
    (if cls = 0 then { h with spi0 := x } else { h with spiN := y } : HostIf).awaiting = h.awaiting := by
  split <;> rfl

/-- A reply that goes to the networks changes the networks alone. -/
theorem State.deliver_udp_keeps {α : Type} {g : State → α} (hnet : ∀ (s : State) (f : NetIf → NetIf), g (s.modNet f) = g s) (req : Req)
    (txn : Nat) (r : Reply) (h : req.session ≠ .spi) : g (s.deliver req txn r) = g s := by
  have hout (t : State) (n : Net) (o : Out) : g (if t.act.net.ports[n].link then t.send n o else t) = g t := by
    split
    · exact State.send_keeps hnet t n o
    · rfl
  unfold State.deliver
  split
  · rfl
  · split
    · contradiction
    · split
      · exact (State.prpNext_keeps hnet _).trans ((hout _ _ _).trans (hout _ _ _))
      · exact State.send_keeps hnet _ _ _

/-- A reply adds to the replies that wait for the host or goes to the networks; the changes that wait stay. -/
theorem State.deliver_awaiting (req : Req) (txn : Nat) (r : Reply) : (s.deliver req txn r).act.host.awaiting = s.act.host.awaiting := by
  by_cases hspi : req.session = .spi
  · unfold State.deliver
    rw [hspi]
    split
    · rfl
    · rw [State.modHost_act]
      exact HostIf.listed_awaiting ..
  · exact s.deliver_udp_keeps (g := fun t => t.act.host.awaiting) (fun _ _ => by rw [State.modNet_act]) req txn r hspi

theorem HostIf.keep_awaiting (h : HostIf) (k : Kept) : (h.keep k).awaiting = h.awaiting := by
  unfold HostIf.keep
  split <;> rfl

theorem State.reply_awaiting (it : QItem) (status : Nat) (payload : List Byte) :
    (s.reply it status payload).act.host.awaiting = s.act.host.awaiting := by
  unfold State.reply
  refine (foldl_view (v := fun t : State => t.act.host.awaiting) (fun t w => ?_) _ _).trans ?_
  · rw [State.modHost_act]
    exact t.deliver_awaiting ..
  · rw [State.modHost_act, State.modHost_act]
    exact (HostIf.keep_awaiting ..).trans (s.deliver_awaiting ..)

theorem State.release_awaiting (w : AwaitAck) : (s.release w).act.host.awaiting = s.act.host.awaiting := by
  have hreply : ((s.reply w.item w.status w.payload).noteLatency w.item).act.host.awaiting = s.act.host.awaiting := by
    unfold State.noteLatency
    split
    · rw [State.modHost_act]
      exact s.reply_awaiting ..
    · exact s.reply_awaiting ..
  unfold State.release
  dsimp only
  split
  · exact hreply
  · exact hreply

/-- Of the changes that wait, those that neither the standby nor a Shoal has yet to confirm leave the list. -/
theorem State.releaseAcked_awaiting : s.releaseAcked.act.host.awaiting =
    s.act.host.awaiting.filter fun w => !(w.acked && s.tideConfirmed w) := by
  refine (foldl_view (v := fun t : State => t.act.host.awaiting) (fun t w => t.release_awaiting w) _ _).trans ?_
  rw [State.modHost_act]

theorem State.releaseAcked_pair : s.releaseAcked.act.pair = s.act.pair :=
  s.releaseAcked_keeps (g := fun t => t.act.pair) (by simp) (by simp) (by simp)
theorem State.releaseAcked_hd : s.releaseAcked.hd = s.hd := s.releaseAcked_keeps (g := State.hd) (by simp) (by simp) (by simp)
theorem State.releaseAcked_ack : s.releaseAcked.ack = s.ack := s.releaseAcked_keeps (g := State.ack) (by simp) (by simp) (by simp)
theorem State.releaseAcked_firm : s.releaseAcked.firm = s.firm := s.releaseAcked_keeps (g := State.firm) (by simp) (by simp) (by simp)

/-- The other Headland, as the token's place tells it. -/
def State.otherHl (s : State) : Headland := s.hl[otherHd s.hd]

/-- No reply reaches the other Headland. -/
theorem State.releaseAcked_other : s.releaseAcked.hl[(s.peer : Nat)] = s.hl[(s.peer : Nat)] := by
  have hkeeps : s.releaseAcked.otherHl = s.otherHl :=
    s.releaseAcked_keeps (g := State.otherHl) (fun t _ => State.modAct_hl_other _ t.peer_ne_hd.symm)
      (fun t _ => State.modAct_hl_other _ t.peer_ne_hd.symm) (fun _ _ => rfl)
  change s.releaseAcked.hl[(otherHd s.hd : Nat)] = s.hl[(otherHd s.hd : Nat)]
  simpa only [State.otherHl, s.releaseAcked_hd, Fin.getElem_fin] using hkeeps

end

end Sys2Proof.Machine
end

section
/-! The mirror link and the resynchronisation (R377 to R395): what a slot's launch, a frame, its acknowledgement, a slot's end and
the times of R391 do, and the obligations O50 and O52. -/
namespace Sys2Proof.Machine

/-! ### Launching (R377, R382) -/

section
variable (s : State) (full handover : Bool)

/-- A launch touches the pair, the changes that wait and the mirror link. -/
theorem State.launch_launches : (s.launch full handover).firm = s.firm ∧ (s.launch full handover).hd = s.hd ∧
    (s.launch full handover).act.pair.seq = (s.act.pair.seq + 1) % 2 ^ 32 ∧
    ∃ changes, (s.launch full handover).mirror = some (s.mirrorFrame full changes handover) := by
  unfold State.launch
  extract_lets p waiting changes f s1 s2
  have hs1 : s1.act.pair.seq = (s.act.pair.seq + 1) % 2 ^ 32 := by
    simp only [s1, State.modPair_act_of_eq _ rfl]
  have hs2 : s2.act.pair.seq = s1.act.pair.seq ∧ s2.hd = s.hd ∧ s2.firm = s.firm := by
    by_cases hc : changes = true
    · simp only [s2, if_pos hc, State.modHost_act, true_and]
      exact ⟨rfl, rfl⟩
    · simp only [s2, if_neg hc, true_and]
      exact ⟨rfl, rfl⟩
  obtain ⟨hseq, hhd, hfirm⟩ := hs2
  exact ⟨hfirm, hhd, hseq.trans hs1, changes, rfl⟩

end

/-! ### At the standby (R379, R383, R390) -/

/-- What the judging of a frame leaves (R390). -/
theorem Pair.judge_rest (p : Pair) (now : Nat) (full : Bool) (hash own crc : Nat) (locked : Bool) :
    (p.judge now full hash own crc locked).lastSeq = p.lastSeq ∧ (p.judge now full hash own crc locked).missRun = p.missRun ∧
      (p.judge now full hash own crc locked).slotGot = p.slotGot := ⟨rfl, rfl, rfl⟩

/-- What a valid frame leaves at the standby, and its acknowledgement (R380, R383). -/
theorem State.takeMirror_takes (s : State) (h : Hd) (f : MirrorFrame) :
    (s.takeMirror h f).mirror = s.mirror ∧ (∃ k, (s.takeMirror h f).ack = some k ∧ k.seq = f.seq) ∧
      (s.takeMirror h f).hl[(h : Nat)].pair.lastSeq = some f.seq ∧ (s.takeMirror h f).hl[(h : Nat)].pair.missRun = 0 ∧
      (s.takeMirror h f).hl[(h : Nat)].pair.slotGot = true ∧ (∀ m, f.firm = some m → (s.takeMirror h f).mirrored = m) ∧
      (f.firm = none → (s.takeMirror h f).mirrored = s.mirrored) ∧ (s.takeMirror h f).firm = s.firm := by
  unfold State.takeMirror
  extract_lets now lead s0 s1 s2 p answer s3
  have hs1 : s1.hl[(h : Nat)].pair.lastSeq = some f.seq ∧ s1.hl[(h : Nat)].pair.missRun = 0 ∧ s1.hl[(h : Nat)].pair.slotGot = true := by
    simp only [s1, State.modHl_same]
    exact Pair.judge_rest ..
  have hs2 : s2.hl = s1.hl ∧ s2.mirror = s.mirror ∧ s2.firm = s.firm ∧ (∀ m, f.firm = some m → s2.mirrored = m) ∧
      (f.firm = none → s2.mirrored = s.mirrored) := by
    cases hfirm : f.firm with
    | some m =>
      simp only [s2, hfirm, true_and]
      exact ⟨rfl, rfl, fun n hn => Option.some.inj hn, fun hn => (nomatch hn)⟩
    | none =>
      simp only [s2, hfirm, true_and]
      exact ⟨rfl, rfl, fun n hn => (nomatch hn), fun _ => rfl⟩
  obtain ⟨hhl, hmirror, hfirm, hset, hnone⟩ := hs2
  obtain ⟨hlast, hmiss, hgot⟩ := hs1
  have hs3 : s3.hl[(h : Nat)].pair.lastSeq = some f.seq ∧ s3.hl[(h : Nat)].pair.missRun = 0 ∧ s3.hl[(h : Nat)].pair.slotGot = true := by
    simp only [s3, hhl]
    exact ⟨hlast, hmiss, hgot⟩
  obtain ⟨hlast, hmiss, hgot⟩ := hs3
  by_cases hclaims : (f.handover && p.eligible) = true
  · rw [if_pos hclaims]
    simp only [State.modPair_hl_same]
    exact ⟨hmirror, ⟨answer, rfl, rfl⟩, hlast, hmiss, hgot, hset, hnone, hfirm⟩
  · rw [if_neg hclaims]
    exact ⟨hmirror, ⟨answer, rfl, rfl⟩, hlast, hmiss, hgot, hset, hnone, hfirm⟩

/-- A frame follows the last one that the standby took (R379). -/
def Pair.follows (p : Pair) (seq : Nat) : Bool :=
  match p.lastSeq with
  | some q => decide (seq = (q + 1) % 2 ^ 32)
  | none => true

theorem Pair.follows_of {p : Pair} {seq : Nat} (h : p.lastSeq = none ∨ ∃ q, p.lastSeq = some q ∧ seq = (q + 1) % 2 ^ 32) :
    p.follows seq = true := by
  unfold Pair.follows
  rcases h with h | ⟨q, h, hseq⟩
  · rw [h]
  · rw [h]
    exact decide_eq_true hseq

/-- A mirror frame at a Headland that listens: it is taken where it is whole and follows the last one (R379). -/
theorem exec_mirrorFrame {s : State} {f : MirrorFrame} (good : Bool) (hf : s.mirror = some f)
    (hlistens : s.hl[(s.peer : Nat)].pair.role.listens = true) : exec (.mirrorFrame good) s =
      .next (if good && s.hl[(s.peer : Nat)].pair.follows f.seq then ({ s with mirror := none } : State).takeMirror s.peer f
        else ({ s with mirror := none } : State).modPair s.peer (·.badFrame s.clk.now)) := by
  simp only [exec, execMirrorFrame, hf, Fin.getElem_fin, hlistens, Bool.not_true, Bool.false_eq_true, if_false]
  rfl

/-- A slot of the standby that ends without a valid frame is missed (R383). -/
def Pair.missed (p : Pair) : Pair := { p with missRun := min 2 (p.missRun + 1), lastSeq := p.lastSeq.map fun q => (q + 1) % 2 ^ 32 }

theorem exec_mirrorSlotEnd_missed {s : State} (hawake : s.awake = true) (hlistens : s.hl[(s.peer : Nat)].pair.role.listens = true)
    (hgot : s.hl[(s.peer : Nat)].pair.slotGot = false) : exec .mirrorSlotEnd s =
      .next (if s.hl[(s.peer : Nat)].pair.missRun = 1 then (s.modPair s.peer Pair.missed).silence s.peer else s.modPair s.peer Pair.missed) := by
  simp only [exec, execMirrorSlotEnd, Fin.getElem_fin, hawake, hlistens, hgot, Bool.not_true, Bool.or_self, Bool.false_eq_true, if_false]
  rfl

theorem State.silence_eligible (s : State) (h : Hd) (he : s.hl[(h : Nat)].pair.eligible = true) :
    s.silence h = s.modPair h fun p => { p with claim := true, claimCause := 1 } := if_pos he

theorem State.silence_ineligible (s : State) (h : Hd) (he : s.hl[(h : Nat)].pair.eligible = false) :
    s.silence h = s.raise 0xB2 (0x20 + h.val) s.hl[(h : Nat)].pair.inelig := if_neg (by simp [he])

/-- An event is none of the other Headland. -/
theorem State.raise_hl_other (s : State) (code source arg0 arg1 : Nat) (data : List Nat) {d : Hd} (h : s.hd ≠ d) :
    (s.raise code source arg0 arg1 data).hl[(d : Nat)] = s.hl[(d : Nat)] := by
  obtain ⟨cap, log, hraise⟩ := s.raise_eq code source arg0 arg1 data
  rw [hraise]
  exact State.modAct_hl_other _ h

/-- The token holder takes an acknowledgement (R379, R395). -/
def Pair.acked (p : Pair) (now : Nat) (a : MirrorAckFrame) : Pair :=
  { p with
    lastAck := some now, peerSeen := some now, peerEligible := a.eligible, peerWords := a.words, hashPeer := a.hash
    transfer := p.transfer && decide (a.words.headD 0 / 2 ^ 28 ≠ Role.standby.code) }

theorem exec_mirrorAck_taken {s : State} {a : MirrorAckFrame} (ha : s.ack = some a) (hactive : s.active = true)
    (hlaunched : s.act.pair.launched.contains a.seq = true) : exec (.mirrorAck true) s =
      .next (((({ s with ack := none } : State).modPair s.hd (·.acked s.clk.now a)).modHost fun h => { h with awaiting := h.awaiting.map fun w =>
        { w with acked := w.acked || (w.carried.map (seqReached a.appliedSeq)).getD false } }).releaseAcked) := by
  simp only [exec, execMirrorAck, ha, hactive, hlaunched, Bool.not_true, Bool.or_self, Bool.false_eq_true, if_false]
  rfl

/-- Settles O50. -/
theorem mirrorComplete : Obligations.MirrorComplete := by
  unfold Obligations.MirrorComplete
  simp only [Fin.getElem_fin]
  intro s f a
  refine ⟨?launch, ?good, ?bad, ?lost, ?ack, ?slotGot, ?missOne, ?missTwo⟩
  case launch =>
    intro hawake hactive halive
    obtain ⟨hfirm, hhd, hseq, changes, hmirror⟩ := s.launch_launches (decide (s.act.pair.slot = 0)) false
    refine ⟨_, _, if_neg (by simp [hawake, hactive, halive]), hmirror, rfl, rfl, fun hslot => if_pos (by simp [hslot]), ?_, ?_, hfirm⟩
    · rw [State.modPair_act_of_eq _ hhd.symm]
      exact hseq
    · rw [State.modPair_act_of_eq _ hhd.symm]
  case good =>
    intro hf hlistens hfollows
    have hok : (true && s.hl[(s.peer : Nat)].pair.follows f.seq) = true := Pair.follows_of hfollows
    obtain ⟨hmirror, ⟨k, hack, hk⟩, hrest⟩ := State.takeMirror_takes ({ s with mirror := none } : State) s.peer f
    exact ⟨_, k, (exec_mirrorFrame true hf hlistens).trans (congrArg Host.Outcome.next (if_pos hok)), hmirror, hack, hk, hrest⟩
  case bad =>
    intro hf hlistens
    refine ⟨_, (exec_mirrorFrame false hf hlistens).trans (congrArg Host.Outcome.next (if_neg (by simp))), rfl, ?_⟩
    simp only [State.modPair_hl_same]
    exact ⟨rfl, rfl, rfl, rfl, rfl⟩
  case lost =>
    intro ha
    simp only [exec, execMirrorAck, ha, Bool.not_false, Bool.true_or, if_true]
  case ack =>
    intro ha hactive hlaunched
    refine ⟨_, exec_mirrorAck_taken ha hactive hlaunched, ?_⟩
    have hpair : (({ s with ack := none } : State).modPair s.hd (·.acked s.clk.now a)).act.pair = s.act.pair.acked s.clk.now a :=
      congrArg Headland.pair (State.modPair_act_of_eq (s := { s with ack := none }) _ rfl)
    rw [State.releaseAcked_ack, State.releaseAcked_pair, State.modHost_act]
    dsimp only
    rw [hpair]
    exact ⟨rfl, rfl, rfl, rfl, rfl⟩
  case slotGot =>
    intro hawake hlistens hgot
    simp only [exec, execMirrorSlotEnd, Fin.getElem_fin, hawake, hlistens, hgot, Bool.not_true, Bool.or_self, Bool.false_eq_true, if_false, if_true]
  case missOne =>
    intro hawake hlistens hgot hmiss
    refine ⟨_, (exec_mirrorSlotEnd_missed hawake hlistens hgot).trans (congrArg Host.Outcome.next (if_neg (by simp [hmiss]))), ?_⟩
    simp only [State.modPair_hl_same, Pair.missed, hmiss]
    exact ⟨rfl, trivial⟩
  case missTwo =>
    intro hawake hlistens hgot hmiss
    refine ⟨_, (exec_mirrorSlotEnd_missed hawake hlistens hgot).trans (congrArg Host.Outcome.next (if_pos hmiss)), ?_⟩
    have heligible : ((s.modPair s.peer Pair.missed).hl[(s.peer : Nat)].pair).eligible = s.hl[(s.peer : Nat)].pair.eligible := by
      rw [State.modPair_hl_same]
      rfl
    refine ⟨?_, fun h => ?_, fun h => ?_⟩
    · cases h : s.hl[(s.peer : Nat)].pair.eligible
      · rw [State.silence_ineligible _ _ (heligible.trans h), State.raise_hl_other (s.modPair s.peer Pair.missed) _ _ _ _ _ s.peer_ne_hd.symm, State.modPair_hl_same, Pair.missed, hmiss]
        rfl
      · rw [State.silence_eligible _ _ (heligible.trans h), State.modPair_hl_same, State.modPair_hl_same]
        dsimp only [Pair.missed]
        rw [hmiss]
        rfl
    · rw [State.silence_eligible _ _ (heligible.trans h), State.modPair_hl_same]
      exact ⟨rfl, rfl⟩
    · rw [State.silence_ineligible _ _ (heligible.trans h), State.raise_hl_other (s.modPair s.peer Pair.missed) _ _ _ _ _ s.peer_ne_hd.symm, State.modPair_hl_same]
      rfl

/-! ### Resynchronisation (R382, R391) -/

section
variable {a : Headland}

theorem Headland.matched_iff : a.matched = true ↔
    a.pair.lastSeq.isSome = true ∧ a.pair.hashSelf = a.pair.hashPeer ∧ a.safetyCrc = a.pair.safetyPeer := by
  simp only [Headland.matched, Bool.and_eq_true, decide_eq_true_eq, and_assoc]

end

/-- A change of the pair at both Headlands, as each of them has it. -/
theorem State.modPair_both (s : State) (f g : Pair → Pair) :
    ((s.modPair s.peer f).modPair s.hd g).act = { s.act with pair := g s.act.pair } ∧
      ((s.modPair s.peer f).modPair s.hd g).hl[(s.peer : Nat)] = { s.hl[(s.peer : Nat)] with pair := f s.hl[(s.peer : Nat)].pair } := by
  constructor
  · refine (State.modPair_act_of_eq (s := s.modPair s.peer f) (d := s.hd) _ rfl).trans ?_
    rw [State.modPair_act_of_ne _ s.peer_ne_hd]
  · rw [State.modPair_hl_other _ s.peer_ne_hd.symm, State.modPair_hl_same]

/-- A change whose acknowledgement has not come in time counts as acknowledged (R382). -/
def HostIf.ackAnyway (h : HostIf) (w : AwaitAck) : HostIf :=
  { h with awaiting := h.awaiting.map fun x => if x = w then { x with acked := true } else x }

/-- The standby that has not acknowledged resynchronises with cause HASH (R382). -/
def Pair.hashResync (p : Pair) (now : Nat) : Pair := if p.role = .standby then { p.toResync now with ineligHash := true } else p

theorem exec_configAckTimeout {s : State} {w : AwaitAck}
    (hw : (s.act.host.awaiting.find? fun w => !w.acked && decide (w.since + msTicks 10 ≤ s.clk.now)) = some w) : exec .configAckTimeout s =
      .next ((((s.modHost (·.ackAnyway w)).modPair s.peer (·.hashResync s.clk.now)).modPair s.hd fun p => { p with transfer := true }).releaseAcked) := by
  simp only [exec, execConfigAckTimeout, hw]
  rfl

/-- Settles O52. -/
theorem resyncCompletes : Obligations.ResyncCompletes := by
  unfold Obligations.ResyncCompletes
  simp only [Fin.getElem_fin]
  rintro s b rfl
  refine ⟨?complete, ?differs, ?timeout, ?early, ?retry, ?noWait, ?ackTimeout⟩
  case complete =>
    intro hawake hrole hseq hhash hsafety
    have hmatched : s.hl[(s.peer : Nat)].matched = true := Headland.matched_iff.2 ⟨hseq, hhash, hsafety⟩
    exact congrArg Host.Outcome.next (if_pos (by simp [hawake, hrole, hmatched]))
  case differs =>
    intro hdiffers
    refine congrArg Host.Outcome.next (if_neg ?_)
    simp only [Bool.and_eq_true, Fin.getElem_fin, Headland.matched_iff]
    rintro ⟨-, -, hhash, hsafety⟩
    exact hdiffers.elim (fun h => h hhash) fun h => h hsafety
  case timeout =>
    intro hawake hrole hmatched htransfer hdue
    refine ⟨_, if_neg (by simp [hawake, hrole, hmatched, htransfer, Nat.not_lt.2 hdue]), ?_⟩
    obtain ⟨hact, hhl⟩ := s.modPair_both (fun p => { p with ineligHash := true }) fun p => { p with transfer := false }
    rw [State.raise_hl_other ((s.modPair s.peer fun p => { p with ineligHash := true }).modPair s.hd fun p => { p with transfer := false })
      _ _ _ _ _ s.peer_ne_hd.symm, State.raise_act_pair, State.raise_firm, hact, hhl]
    exact ⟨rfl, hrole, rfl, rfl⟩
  case early =>
    intro hearly
    refine ⟨if_pos (by simp [hearly]), congrArg Host.Outcome.next (if_neg ?_)⟩
    have hretry : ¬ s.hl[(s.peer : Nat)].pair.resyncAt + msTicks 10000 ≤ s.clk.now := by
      simp only [msTicks] at hearly ⊢
      omega
    simp [hretry]
  case retry =>
    intro hawake hactive hrole hdue
    exact congrArg Host.Outcome.next (if_pos (by simp [hawake, hactive, hrole, hdue]))
  case noWait =>
    intro hnone
    have hfind : (s.act.host.awaiting.find? fun w => !w.acked && decide (w.since + msTicks 10 ≤ s.clk.now)) = none := by
      refine List.find?_eq_none.2 fun w hw => ?_
      rcases hnone w hw with h | h
      · simp [h]
      · simp [Nat.not_le.2 h]
    simp only [exec, execConfigAckTimeout, hfind]
  case ackTimeout =>
    intro w hw hacked hop hdue
    have hfind : (s.act.host.awaiting.find? fun w => !w.acked && decide (w.since + msTicks 10 ≤ s.clk.now)) = some w := by
      simp [hw, hacked, hdue]
    refine ⟨_, exec_configAckTimeout hfind, ?_⟩
    obtain ⟨hact, hhl⟩ := (s.modHost (·.ackAnyway w)).modPair_both (·.hashResync s.clk.now) fun p => { p with transfer := true }
    have hother : (s.modHost (·.ackAnyway w)).hl[(s.peer : Nat)] = s.hl[(s.peer : Nat)] := State.modAct_hl_other _ s.peer_ne_hd.symm
    have hwaits : (s.modHost (·.ackAnyway w)).act.host.awaiting = [{ w with acked := true }] := by
      rw [State.modHost_act]
      simp [HostIf.ackAnyway, hw]
    rw [State.releaseAcked_awaiting, State.releaseAcked_pair, State.releaseAcked_firm]
    refine ⟨?_, ?_, fun hrole => ?_, rfl⟩
    · have hhost := congrArg (fun a : Headland => a.host.awaiting) hact
      dsimp only at hhost
      refine (congrArg _ (hhost.trans hwaits)).trans ?_
      simp [State.tideConfirmed, hop]
    · exact congrArg (fun a : Headland => a.pair.transfer) hact
    · have hpeer := State.releaseAcked_other (((s.modHost (·.ackAnyway w)).modPair s.peer (·.hashResync s.clk.now)).modPair s.hd fun p =>
        { p with transfer := true })
      have hpair := (congrArg Headland.pair (hpeer.trans hhl)).trans (congrArg (fun a : Headland => a.pair.hashResync s.clk.now) hother)
      obtain ⟨hresync, hcause⟩ : (s.hl[(s.peer : Nat)].pair.hashResync s.clk.now).role = .resync ∧
          (s.hl[(s.peer : Nat)].pair.hashResync s.clk.now).ineligHash = true := by
        rw [Pair.hashResync, if_pos hrole]
        exact ⟨rfl, rfl⟩
      exact ⟨(congrArg Pair.role hpair).trans hresync, (congrArg Pair.ineligHash hpair).trans hcause⟩

end Sys2Proof.Machine
end

section
/-! The token and the takeover (R374 to R386, R393, R394): what a Headland's failure, a grant and a completed takeover leave, and the
obligation O51. -/
namespace Sys2Proof.Machine

theorem otherHd_eq {h g : Hd} (hne : g ≠ h) : otherHd h = g := by
  revert h g
  decide

section
variable (s : State) (h d : Hd)

/-- An event leaves both Headlands' places in the pair. -/
@[simp] theorem State.raise_hl_pair (code source arg0 arg1 : Nat) (data : List Nat) :
    (s.raise code source arg0 arg1 data).hl[(d : Nat)].pair = s.hl[(d : Nat)].pair := by
  by_cases hd : s.hd = d
  · subst hd
    obtain ⟨cap, log, hraise⟩ := s.raise_eq code source arg0 arg1 data
    rw [hraise]
    exact (congrArg Headland.pair (vmod_same s.hl s.hd fun a => { a with cap := cap, log := log }) :)
  · rw [s.raise_hl_other _ _ _ _ _ hd]

theorem State.modHl_hl_other (f : Headland → Headland) (hne : h ≠ d) : (s.modHl h f).hl[(d : Nat)] = s.hl[(d : Nat)] := s.modHl_other _ _ _ hne

/-! ### A Headland's failure (R375, R376) -/

/-- A Headland that fails resets; nothing but the pair and its snapshots is touched. -/
theorem State.failHeadland_fails : (s.failHeadland h).hl[(h : Nat)] = s.hl[(h : Nat)].afterReset ∧ (s.failHeadland h).bw = s.bw ∧
    (s.failHeadland h).firm = s.firm ∧ (s.failHeadland h).pwm = s.pwm := by
  refine ⟨?_, rfl, rfl, rfl⟩
  unfold State.failHeadland
  dsimp only
  rw [State.modPair_hl_other _ (otherHd_ne h), State.modHl_same]
  rfl

/-- The loser of a double claim resets; the token stays. -/
theorem State.refuseClaim_refuses : (s.refuseClaim h).hl[(h : Nat)].pair = s.hl[(h : Nat)].afterReset.pair ∧ (s.refuseClaim h).bw = s.bw := by
  unfold State.refuseClaim
  rw [State.raise_hl_pair, State.raise_bw, (s.failHeadland_fails h).1]
  exact ⟨rfl, rfl⟩

/-! ### The first grant (R375, R553) -/

/-- A Headland's part in the pair: its role and whether it claims. -/
def Headland.part (a : Headland) : Role × Bool := (a.pair.role, a.pair.claim)

theorem Headland.part_rehashed (a : Headland) (c : Cfg) (hash : Nat) :
    ({ a with cfg := c, pair := { a.pair with hashSelf := hash } } : Headland).part = a.part := rfl

theorem State.modBoth_part (f : Headland → Headland) (hf : ∀ a, (f a).part = a.part) :
    (s.modBoth f).hl[(d : Nat)].part = s.hl[(d : Nat)].part := by
  have hboth : (s.modBoth f).hl[(d : Nat)] = f s.hl[(d : Nat)] := s.modBoth_hl f d
  rw [hboth, hf]

theorem State.raise_part (code source arg0 arg1 : Nat) (data : List Nat) :
    (s.raise code source arg0 arg1 data).hl[(d : Nat)].part = s.hl[(d : Nat)].part :=
  congrArg (fun p : Pair => (p.role, p.claim)) (s.raise_hl_pair d ..)

theorem State.loadSet_part : s.loadSet.hl[(d : Nat)].part = s.hl[(d : Nat)].part := by
  unfold State.loadSet
  dsimp only
  split
  · exact s.modBoth_part d _ fun _ => rfl
  · rw [State.raise_part]
    exact s.modBoth_part d _ fun _ => rfl

theorem State.rehash_part : s.rehash.hl[(d : Nat)].part = s.hl[(d : Nat)].part := by
  unfold State.rehash
  exact s.modBoth_part d _ fun a => a.part_rehashed _ _

theorem State.loadSet_bw : s.loadSet.bw = s.bw := by
  unfold State.loadSet
  dsimp only
  split
  · rfl
  · rw [State.raise_bw]
    rfl

/-- The first grant names the token's holder, which takes the active part and claims no more. -/
theorem State.firstGrant_grants : (s.firstGrant h).bw.token = some h ∧ (s.firstGrant h).hl[(h : Nat)].part = (.active, false) := by
  unfold State.firstGrant
  extract_lets o events b s0 s1
  have hpart : s1.hl[(h : Nat)].part = s0.hl[(h : Nat)].part := by
    simp only [s1, State.rehash_part, State.loadSet_part]
    exact congrArg Headland.part (s0.modHl_hl_other o h _ (otherHd_ne h))
  have htoken : s1.bw.token = some h := by
    simp only [s1, State.rehash, State.modBoth_bw, State.loadSet_bw]
    rfl
  refine ⟨htoken, hpart.trans ?_⟩
  simp only [s0, State.modHl_same]
  rfl

/-! ### A later grant (R384, R385) -/

/-- A grant moves the token, with nothing else new at Breakwater, and takes up the mirrored fixed set. -/
theorem State.grant_grants : (s.grant h).bw = { s.bw with token := some h } ∧ (s.grant h).hl[(h : Nat)].pair.claim = false ∧
    (s.grant h).mirror = none ∧ (s.grant h).dev = (s.mirrored.taken s.firm s.clk.now).dev ∧
    (s.grant h).pwm = s.pwm ∧ (s.grant h).sk = s.sk ∧ (s.grant h).shoals = s.shoals ∧ (s.grant h).rs = s.rs := by
  unfold State.grant
  extract_lets lost b s1 s2 s3
  have hclaim : s3.hl[(h : Nat)].pair.claim = false := by
    have hs3 : s3.act.pair = s2.act.pair := by
      simp only [s3, State.modShore_act, State.sendFields, State.modAct_act]
      rfl
    have hs2 : s2.act.pair.claim = false := by
      simp only [s2, State.modHl_act_of_eq (s := s1) (d := h) _ rfl]
    exact (congrArg Pair.claim hs3).trans hs2
  clear_value lost
  cases lost with
  | some n =>
    dsimp only
    rw [State.raise_bw, State.raise_hl_pair, State.raise_mirror, State.raise_dev, State.raise_pwm, State.raise_sk, State.raise_shoalSts,
      State.raise_rs]
    exact ⟨rfl, hclaim, rfl, rfl, rfl, rfl, rfl, rfl⟩
  | none => exact ⟨rfl, hclaim, rfl, rfl, rfl, rfl, rfl, rfl⟩

end

/-- The fixed set that a takeover takes up is not that of BOOT or STANDBY where the state is awake (Table 12.2). -/
theorem Firm.taken_dev (m was : Firm) (now : Nat) (hs : was.dev ≠ .standby) (hb : was.dev ≠ .boot) :
    (m.taken was now).dev ≠ .standby ∧ (m.taken was now).dev ≠ .boot := by
  unfold Firm.taken
  dsimp only
  split
  · exact ⟨hs, hb⟩
  · next h => exact ⟨fun hd => h (.inr hd), fun hd => h (.inl hd)⟩

end Sys2Proof.Machine
end

section
/-! Takeovers complete (R375, R384, R393, R394): the rest of what a takeover does, and the obligation O51. -/
namespace Sys2Proof.Machine

section
variable (s : State)

theorem State.hl_eq_act {s : State} {d : Hd} (h : s.hd = d) : s.hl[(d : Nat)] = s.act := by
  subst h
  rfl

/-! ### The takeover is complete (R384) -/

/-- A pair's place as the takeover's completion leaves it at the new holder. -/
def Pair.tookOver (p : Pair) (cause : Nat) : Pair :=
  { p with role := .active, takeovers := satInc 32 p.takeovers, lastCause := cause, claimCause := 0, handoverClaim := false, missRun := 0 }

theorem State.takeOver_completes (cause : Nat) : (s.takeOver cause).bw = s.bw ∧ (s.takeOver cause).firm = s.firm ∧
    (s.takeOver cause).act.pair = s.act.pair.tookOver cause ∧
    (s.hl[(s.peer : Nat)].pair.role = .active → (s.takeOver cause).hl[(s.peer : Nat)].pair.role = .resync) := by
  unfold State.takeOver
  extract_lets h s1 s2 s3
  have hhd : s2.hd = s.hd := s.raise_hd ..
  have hact : s3.act.pair = s.act.pair.tookOver cause := by
    have hs2 : s2.act.pair = s.act.pair := by simp only [s2, s1, State.modLog_act, State.raise_act_pair]
    simp only [s3, State.modPair_act_of_eq (s := s2) (d := h) _ hhd.symm, hs2]
    rfl
  have hs3 : s3.hd = s.hd := hhd
  refine ⟨s.raise_bw .., s.raise_firm .., ?_, fun hrole => ?_⟩
  · rw [State.modPair_act_of_ne _ (hs3 ▸ s.peer_ne_hd)]
    exact hact
  · have hpeer : s3.hl[(s.peer : Nat)].pair = s.hl[(s.peer : Nat)].pair := by
      have hs2 : s2.hl[(s.peer : Nat)] = s1.hl[(s.peer : Nat)] := State.modAct_hl_other _ ((s.raise_hd ..).trans_ne s.peer_ne_hd.symm)
      simp only [s3, State.modPair_hl_other _ s.peer_ne_hd.symm, hs2, h]
      exact s.raise_hl_pair ..
    rw [State.modPair_hl_same]
    dsimp only
    rw [hpeer, if_pos hrole]
    rfl

/-! ### The trips of a late takeover (R393) -/

/-- A trip of the port if it is admitted. -/
def State.tripIfAdmitted (x : Trip) (u : State) (p : Port) : State := if (u.life p).admitted then u.tripPort p x else u

theorem State.tripIfAdmitted_life (x : Trip) (q p : Port) : ((s.tripIfAdmitted x q).life p).life = (s.life p).life ∧
    (x ∈ (s.life p).trips ∧ (s.life p).gateEn = false → x ∈ ((s.tripIfAdmitted x q).life p).trips ∧
      ((s.tripIfAdmitted x q).life p).gateEn = false) := by
  unfold State.tripIfAdmitted
  split
  · by_cases hq : q = p
    · subst hq
      rw [State.tripPort_life]
      exact ⟨rfl, fun _ => ⟨PortLife.mem_tripped .., rfl⟩⟩
    · rw [State.tripPort_life_other _ _ _ _ hq]
      exact ⟨rfl, id⟩
  · exact ⟨rfl, id⟩

theorem foldl_tripIfAdmitted_life (x : Trip) (p : Port) (l : List Port) (u : State) :
    ((l.foldl (State.tripIfAdmitted x) u).life p).life = (u.life p).life ∧
      (p ∈ l ∧ (u.life p).admitted = true ∨ x ∈ (u.life p).trips ∧ (u.life p).gateEn = false →
        x ∈ ((l.foldl (State.tripIfAdmitted x) u).life p).trips ∧ ((l.foldl (State.tripIfAdmitted x) u).life p).gateEn = false) := by
  induction l generalizing u with
  | nil => exact ⟨rfl, fun h => h.elim (fun h => absurd h.1 List.not_mem_nil) id⟩
  | cons q l ih =>
    obtain ⟨hlife, htrips⟩ := u.tripIfAdmitted_life x q p
    obtain ⟨ihlife, ihtrips⟩ := ih (u.tripIfAdmitted x q)
    rw [List.foldl_cons]
    refine ⟨ihlife.trans hlife, fun h => ihtrips ?_⟩
    have hadmitted : ((u.tripIfAdmitted x q).life p).admitted = (u.life p).admitted := by rw [PortLife.admitted, PortLife.admitted, hlife]
    rcases h with ⟨hp, ha⟩ | h
    · rcases List.mem_cons.1 hp with rfl | hp
      · refine .inr ?_
        rw [State.tripIfAdmitted, if_pos ha, State.tripPort_life]
        exact ⟨PortLife.mem_tripped .., rfl⟩
      · exact .inl ⟨hp, hadmitted.trans ha⟩
    · exact .inr (htrips h)

/-- A trip of every admitted port stands at each of them. -/
theorem State.tripAdmitted_life (x : Trip) (p : Port) : ((s.tripAdmitted x).life p).life = (s.life p).life ∧
    ((s.life p).admitted = true → x ∈ ((s.tripAdmitted x).life p).trips ∧ ((s.tripAdmitted x).life p).gateEn = false) := by
  obtain ⟨hlife, htrips⟩ := foldl_tripIfAdmitted_life x p (List.finRange 12) s
  exact ⟨hlife, fun h => htrips (.inl ⟨List.mem_finRange p, h⟩)⟩

theorem State.tripAdmitted_view {α : Type} {v : State → α} (h : ∀ (t : State) p x, v (t.tripPort p x) = v t) (x : Trip) :
    v (s.tripAdmitted x) = v s :=
  foldl_view (v := v) (f := State.tripIfAdmitted x) (fun t p => by
    unfold State.tripIfAdmitted
    split
    · exact h ..
    · rfl) (List.finRange 12) s

/-- Entry into TRIPPED or LOCKOUT turns every port's gates off and leaves the rest of its life-cycle (R565). -/
theorem State.setDev_out_life {new : DevState} (cause : Nat) (p : Port) (hs : s.dev ≠ new) (hnew : new = .tripped ∨ new = .lockout) :
    (s.setDev new cause).life p = { s.life p with gateEn := false } := by
  obtain ⟨k, h⟩ := s.setDev_out cause hs hnew
  rw [h]
  change (((s.changed new cause).abortBlackStart k).gatesOut).life p = _
  rw [State.gatesOut_life, State.abortBlackStart_life, State.changed_life]

/-- The device state that a late takeover leaves (R393). -/
def State.lateState (s : State) : State :=
  match s.dev with
  | .idle | .ready | .sync | .forming | .service => s.setDev .tripped 0xB0
  | .standby | .boot | .tripped | .lockout => s

theorem State.lateState_out (hs : s.dev ≠ .standby) (hb : s.dev ≠ .boot) : s.lateState.dev = .tripped ∨ s.lateState.dev = .lockout := by
  unfold State.lateState
  cases h : s.dev with
  | standby => exact absurd h hs
  | boot => exact absurd h hb
  | tripped => exact .inl h
  | lockout => exact .inr h
  | _ => exact .inl (s.setDev_dev ..)

/-- What no device-state change to TRIPPED touches, a late takeover's leaves. -/
theorem State.lateState_view {α : Type} {v : State → α} (h : v (s.setDev .tripped 0xB0) = v s) : v s.lateState = v s := by
  unfold State.lateState
  split
  case h_6 | h_7 | h_8 | h_9 => rfl
  all_goals exact h

theorem State.lateState_life (p : Port) : (s.lateState.life p).life = (s.life p).life ∧ (s.lateState.life p).trips = (s.life p).trips ∧
    ((s.life p).gateEn = false → (s.lateState.life p).gateEn = false) := by
  unfold State.lateState
  cases h : s.dev with
  | standby => exact ⟨rfl, rfl, id⟩
  | boot => exact ⟨rfl, rfl, id⟩
  | tripped => exact ⟨rfl, rfl, id⟩
  | lockout => exact ⟨rfl, rfl, id⟩
  | _ =>
    dsimp only
    rw [State.setDev_out_life _ _ _ (by rw [h]; decide) (.inl rfl)]
    exact ⟨rfl, rfl, fun _ => rfl⟩

end

/-- The state of a late takeover, before the device state (R393). -/
def State.lateTaken (s : State) : State := ((s.grant s.peer).takeOver 3).tripAdmitted .lateTakeover

theorem exec_lateClaim {s : State} (hawake : s.awake = true) (htoken : s.bw.token.isSome = true)
    (hlistens : s.hl[(s.peer : Nat)].pair.role.listens = true) (heligible : s.hl[(s.peer : Nat)].pair.eligible = false)
    (hmiss : s.hl[(s.peer : Nat)].pair.missRun = 2) (hlost : s.bw.hlLost = true) (hdue : s.bw.hlLostAt + msTicks 2 ≤ s.clk.now)
    (halive : s.act.pair.alive = false) :
    exec .lateClaim s = .next s.lateTaken.lateState := by
  have htoken' : s.bw.token.isNone = false := by rw [← Option.not_isSome, htoken, Bool.not_true]
  change execLateClaim s = _
  unfold execLateClaim
  rw [if_neg (by simp [hawake, htoken', hlistens, heligible, hmiss, hlost, Nat.not_lt.2 hdue, halive])]
  unfold State.lateTaken
  generalize ((s.grant s.peer).takeOver 3).tripAdmitted .lateTakeover = u
  rfl

theorem State.launch_bw (s : State) (full handover : Bool) : (s.launch full handover).bw = s.bw := by
  unfold State.launch
  dsimp only
  split <;> rfl

theorem awake_dev {s : State} (h : s.awake = true) : s.dev ≠ .standby ∧ s.dev ≠ .boot := by
  unfold State.awake at h
  constructor
  all_goals
    intro hd
    rw [hd] at h
    exact Bool.false_ne_true h

theorem State.lateTaken_takes (s : State) (hs : s.dev ≠ .standby) (hb : s.dev ≠ .boot) : s.lateTaken.bw.token = some s.peer ∧
    s.lateTaken.act.pair.role = .active ∧ s.lateTaken.act.pair.lastCause = 3 ∧ s.lateTaken.dev ≠ .standby ∧ s.lateTaken.dev ≠ .boot := by
  obtain ⟨gbw, -, -, gdev, -⟩ := s.grant_grants s.peer
  obtain ⟨tbw, tfirm, tpair, -⟩ := (s.grant s.peer).takeOver_completes 3
  have hbw : s.lateTaken.bw = ((s.grant s.peer).takeOver 3).bw := State.tripAdmitted_view _ (fun _ _ _ => State.tripPort_bw ..) _
  have hpair : s.lateTaken.act.pair = ((s.grant s.peer).takeOver 3).act.pair :=
    State.tripAdmitted_view (v := fun t => t.act.pair) _ (fun _ _ _ => State.tripPort_act_pair ..) _
  have hdev : s.lateTaken.dev = (s.mirrored.taken s.firm s.clk.now).dev :=
    ((State.tripAdmitted_view (v := State.dev) _ (fun _ _ _ => State.tripPort_dev ..) _).trans (congrArg Firm.dev tfirm)).trans gdev
  rw [hbw, hpair, hdev, tbw, tpair, gbw]
  exact ⟨rfl, rfl, rfl, Firm.taken_dev _ _ _ hs hb⟩

/-- Settles O51. -/
theorem takeoverCompletes : Obligations.TakeoverCompletes := by
  unfold Obligations.TakeoverCompletes
  simp only [Fin.getElem_fin]
  intro s h g hne
  refine ⟨?first, ?firstBoth, ?later, ?refused, ?noClaim, ?complete, ?late, ?notYet, ?noBoundary, ?handover, ?fails, ?lossBeside, ?lossAlone, ?double⟩
  case first =>
    intro hdev hheld hclaim hother htoken
    obtain ⟨ht, hpart⟩ := s.firstGrant_grants h
    refine ⟨s.firstGrant h, ?_, ht, congrArg Prod.fst hpart, congrArg Prod.snd hpart⟩
    simp [exec, execTokenClaim, hdev, hclaim, htoken, hheld, otherHd_eq hne, hother]
  case firstBoth =>
    intro hdev hheld hclaim hother htoken
    obtain ⟨ht, -⟩ := s.firstGrant_grants (if s.parN P_PREFER = 1 then 1 else 0)
    obtain ⟨hrole, hbw⟩ := (s.firstGrant (if s.parN P_PREFER = 1 then 1 else 0)).refuseClaim_refuses (if s.parN P_PREFER = 1 then 0 else 1)
    have hloser : otherHd (if s.parN P_PREFER = 1 then 1 else 0) = if s.parN P_PREFER = 1 then 0 else 1 := by split <;> rfl
    refine ⟨_, ?_, (congrArg Breakwater.token hbw).trans ht, congrArg Pair.role hrole⟩
    simp [exec, execTokenClaim, hdev, hclaim, htoken, hheld, otherHd_eq hne, hother, hloser]
  case later =>
    intro hdev hboot hclaim htoken halive
    obtain ⟨gbw, gclaim, gmirror, gdev, gpwm, gsk, gshoals, grs⟩ := s.grant_grants h
    refine ⟨s.grant h, ?_, congrArg Breakwater.token gbw, gclaim, gmirror, grs, gpwm, gsk, gshoals, by rw [gbw], ?_⟩
    · simp [exec, execTokenClaim, hdev, hclaim, htoken, hne, halive, hboot]
    · rw [gdev]
      exact Firm.taken_dev _ _ _ hdev hboot
  case refused =>
    intro hdev hclaim htoken halive
    obtain ⟨hpair, hbw⟩ := s.refuseClaim_refuses h
    refine ⟨s.refuseClaim h, ?_, (congrArg Breakwater.token hbw).trans htoken, congrArg Pair.role hpair, congrArg Pair.claim hpair⟩
    simp [exec, execTokenClaim, hdev, hclaim, htoken, hne, halive]
  case noClaim =>
    rintro (hclaim | ⟨hheld, htoken⟩)
    · simp [exec, execTokenClaim, hclaim]
    · simp [exec, execTokenClaim, htoken, hheld]
  case complete =>
    intro c htoken hlistens hcause hc hshoals hshore hbw
    obtain ⟨tbw, tfirm, tpair, tpeer⟩ := s.takeOver_completes c
    refine ⟨s.takeOver c, ?_, tbw, ?_, ?_, ?_, tpeer, tfirm⟩
    · refine congrArg Host.Outcome.next ((if_pos ?_).trans (by rw [hcause]))
      rw [htoken, hlistens, hcause, decide_eq_true hc, hshoals, hshore, hbw]
      rfl
    all_goals rw [tpair]; rfl
  case late =>
    intro hawake htoken hlistens heligible hmiss hlost hdue halive
    obtain ⟨hs, hb⟩ := awake_dev hawake
    obtain ⟨ltoken, lrole, lcause, ldev, lboot⟩ := s.lateTaken_takes hs hb
    have ttoken : s.lateTaken.lateState.bw = s.lateTaken.bw := State.lateState_view _ (State.setDev_bw _ _ (by decide))
    have tpair : s.lateTaken.lateState.act.pair = s.lateTaken.act.pair := State.lateState_view (v := fun t => t.act.pair) _ (State.setDev_act_pair ..)
    have thd : s.lateTaken.lateState.hd = s.peer := by rw [State.hd, ttoken, ltoken]; rfl
    refine ⟨_, exec_lateClaim hawake htoken hlistens heligible hmiss hlost hdue halive, ?_⟩
    rw [State.hl_eq_act thd, ttoken, tpair]
    refine ⟨ltoken, lrole, lcause, State.lateState_out _ ldev lboot, fun p hp => ?_⟩
    obtain ⟨slife, strips, sgate⟩ := s.lateTaken.lateState_life p
    obtain ⟨alife, atrips⟩ := ((s.grant s.peer).takeOver 3).tripAdmitted_life .lateTakeover p
    have hadmitted : (((s.grant s.peer).takeOver 3).life p).admitted = true := by
      rw [PortLife.admitted] at hp ⊢
      rw [← alife]
      rw [slife] at hp
      exact hp
    obtain ⟨htrip, hgate⟩ := atrips hadmitted
    rw [strips]
    exact ⟨htrip, sgate hgate⟩
  case notYet =>
    intro hnot
    refine congrArg Host.Outcome.next (if_neg ?_)
    simp only [Bool.and_eq_true]
    rintro ⟨⟨⟨-, hshoals⟩, hshore⟩, hbw⟩
    rcases hnot with h | h | h
    · exact Bool.false_ne_true (h.symm.trans hshoals)
    · exact Bool.false_ne_true (h.symm.trans hshore)
    · exact Bool.false_ne_true (h.symm.trans hbw)
  case noBoundary =>
    exact fun hwraps => if_pos (by simp [hwraps])
  case handover =>
    intro hactive hhandover halive hwraps
    obtain ⟨lfirm, lhd, -, changes, lmirror⟩ := s.launch_launches true true
    refine ⟨_, s.mirrorFrame true changes true, if_neg (by simp [hactive, hhandover, halive, hwraps]), lmirror, rfl, rfl, rfl, ?_⟩
    have hact : (((s.launch true true).modPair s.hd fun p => { p with alive := false, claim := false }).modPair s.peer fun p =>
        { p with capLost := s.act.cap.liveNo }).act.pair = { (s.launch true true).act.pair with alive := false, claim := false } := by
      rw [State.modPair_act_of_ne _ (s := (s.launch true true).modPair s.hd _) (lhd ▸ s.peer_ne_hd :),
        State.modPair_act_of_eq _ lhd.symm]
    rw [State.modAct_act]
    exact ⟨congrArg Pair.alive hact, congrArg Pair.claim hact, rfl, congrArg Breakwater.token (s.launch_bw true true)⟩
  case fails =>
    intro hactive c hc
    obtain ⟨hhl, hbw, hfirm, hpwm⟩ := s.failHeadland_fails s.hd
    refine ⟨s.failHeadland s.hd, ?_, ?_, ?_, ?_, hbw, hfirm, hpwm⟩
    · simp only [List.mem_cons, List.not_mem_nil, or_false] at hc
      rcases hc with rfl | rfl <;> exact congrArg Host.Outcome.next (if_pos hactive)
    all_goals rw [hhl]; rfl
  case lossBeside =>
    exact fun hactive heligible => congrArg Host.Outcome.next (if_pos (by rw [hactive, heligible]; rfl))
  case lossAlone =>
    exact fun heligible => congrArg Host.Outcome.next (if_neg (by simp [heligible]))
  case double =>
    intro hactive hclaim
    obtain ⟨hpair, hbw⟩ := s.refuseClaim_refuses s.peer
    refine ⟨s.refuseClaim s.peer, congrArg Host.Outcome.next (if_pos ?_), congrArg Pair.role hpair, congrArg Pair.claim hpair, hbw⟩
    simp [hactive, hclaim]

end Sys2Proof.Machine
end

section
/-! Start-up and the supply's lock-out (R538 to R559): power-down, power-up, BOOT and its end, and the obligation O54. -/
namespace Sys2Proof.Machine

/-! ### A device-state change and the parameters in force -/

section
variable (s : State)

theorem State.raiseTick_firm (tick : Nat) (e : Event) : (s.raiseTick tick e).firm = s.firm := by
  obtain ⟨_, _, h⟩ := s.raiseTick_eq tick e; rw [h]; rfl

theorem State.endFault_applied : s.endFault.firm.applied = s.firm.applied := by
  unfold State.endFault
  dsimp only
  split
  · rw [State.raise_firm]
    rfl
  · rfl

theorem State.abortBlackStart_applied (cause : Nat) : (s.abortBlackStart cause).firm.applied = s.firm.applied := by
  unfold State.abortBlackStart
  split
  · rw [State.raise_firm]
    rfl
  · rfl

theorem State.changed_applied (new : DevState) (cause : Nat) : (s.changed new cause).firm.applied = s.firm.applied := by
  have hraised : ((s.inState new).raiseAs (s.changeEvent new cause)).firm.applied = s.firm.applied :=
    (congrArg Firm.applied ((s.inState new).raiseTick_firm ..) :)
  unfold State.changed
  dsimp only
  split
  · exact (State.endFault_applied _).trans hraised
  · exact hraised

/-- A device-state change leaves the parameters in force (R561). -/
@[simp] theorem State.setDev_applied (new : DevState) (cause : Nat) : (s.setDev new cause).firm.applied = s.firm.applied := by
  by_cases hs : s.dev = new
  · rw [s.setDev_same cause hs]
  · rw [s.setDev_changes cause hs]
    cases new <;> dsimp only
    case tripped | lockout => exact (State.abortBlackStart_applied ..).trans (s.changed_applied ..)
    case idle | sync =>
      split
      · exact (State.abortBlackStart_applied ..).trans (s.changed_applied ..)
      · exact s.changed_applied ..
    all_goals exact s.changed_applied ..

end

/-! ### The supply falls (R538, R540) -/

/-- What stands at Heartwood while it is locked out stands after the power-down (R540). -/
theorem State.powerDown_heart (s : State) (cause : Nat) : (s.powerDown cause).heart.lockoutSeen = s.heart.lockoutSeen ∧
    (s.powerDown cause).heart.vsup = s.heart.vsup ∧ (s.powerDown cause).heart.budget = s.heart.budget := by
  have hheart : (s.setDev .standby cause).flushLog.heart = s.heart := by simp
  exact ⟨(congrArg Heartwood.lockoutSeen hheart :), (congrArg Heartwood.vsup hheart :), (congrArg Heartwood.budget hheart :)⟩

/-- Heartwood as a lock-out leaves it (R538). -/
def Heartwood.lockOut (x : Heartwood) (n : Nat) : Heartwood := { x with lockedOut := true, lockoutSeen := true }.noBudget n

theorem exec_vsupLockout {s : State} {n : Nat} (h : (maybeBelow n 550 || maybeAbove n 4200) = true) : exec (.vsupLockout n) s =
    .next (if s.dev = .standby then s.modHeart (·.lockOut n) else ((s.modHeart (·.lockOut n)).raise 0xC5 0x33 n).powerDown 0xC5) :=
  if_neg (by simp [h])

/-! ### The supply rises (R493, R553) -/

section
variable (s : State) (cause : PowerCause) (n : Nat)

/-- The state at the start of BOOT, before the seeds, the event and the budget. -/
def State.powered : State :=
  let s1 := s.powerReset
  { s1 with
    hl := s1.hl.map fun (a : Headland) => { a.countBoot with log := { a.countBoot.log with opAt := s.clk.now } }
    firm := {}, resetKind := b2n (decide (cause = .wake)), bootAt := s.clk.now
    heart := { s1.heart with lockedOut := false }
    lookout := { s1.lookout with waking := false, lastWake := if decide (cause = .wake) then s1.lookout.lastWake else 0 } }

theorem exec_powerUp {s : State} {cause : PowerCause} {n : Nat} (h : s.mayPowerUp cause n = true) : exec (.powerUp cause n) s =
    .next (((s.powered cause).seedLoops.raise 0x02 0xFF DevState.boot.code).setBudget n s.heart.tBase) :=
  if_neg (by simp [h])

theorem exec_powerUp_not {s : State} {cause : PowerCause} {n : Nat} (h : s.mayPowerUp cause n = false) : exec (.powerUp cause n) s = .next s :=
  if_pos (by simp [h])

/-- A budget is Heartwood's, with an event as it becomes derated or no more (R44). -/
theorem State.setBudget_view {α : Type} {v : State → α} (hheart : ∀ (t : State) f, v (t.modHeart f) = v t)
    (hraise : ∀ (t : State) code source arg0 arg1 data, v (t.raise code source arg0 arg1 data) = v t) (tbase : Int) :
    v (s.setBudget n tbase) = v s := by
  unfold State.setBudget
  dsimp only
  split
  · exact (hraise ..).trans (hheart ..)
  · split
    · exact (hraise ..).trans (hheart ..)
    · exact hheart ..

theorem State.setBudget_heart (tbase : Int) : (s.setBudget n tbase).heart.lockedOut = s.heart.lockedOut ∧
    (s.setBudget n tbase).heart.vsup = n ∧ (s.setBudget n tbase).heart.budget = budgetOf n tbase := by
  unfold State.setBudget
  dsimp only
  split
  · rw [State.raise_heart]
    exact ⟨rfl, rfl, rfl⟩
  · split
    · rw [State.raise_heart]
      exact ⟨rfl, rfl, rfl⟩
    · exact ⟨rfl, rfl, rfl⟩

/-- What the seeds, the event and the budget leave of the start of BOOT. -/
theorem State.poweredUp_view {α : Type} {v : State → α} (hclocks : ∀ (t : State) f, v (t.modClocks f) = v t)
    (hheart : ∀ (t : State) f, v (t.modHeart f) = v t)
    (hraise : ∀ (t : State) code source arg0 arg1 data, v (t.raise code source arg0 arg1 data) = v t) (tbase : Int) :
    v (((s.powered cause).seedLoops.raise 0x02 0xFF DevState.boot.code).setBudget n tbase) = v (s.powered cause) :=
  (State.setBudget_view _ _ hheart hraise _).trans ((hraise ..).trans (hclocks ..))

theorem State.mayPowerUp_iff_wake {s : State} : s.mayPowerUp .wake n = true ↔
    s.dev = .standby ∧ s.lookout.waking = true ∧ s.heart.lockedOut = false := by
  simp [State.mayPowerUp]

/-- The records and the count of boots, as a Headland's log has them. -/
theorem State.raise_log_kept (code source arg0 arg1 : Nat) (data : List Nat) (h : Hd) :
    (s.raise code source arg0 arg1 data).hl[(h : Nat)].log.pcc = s.hl[(h : Nat)].log.pcc ∧
      (s.raise code source arg0 arg1 data).hl[(h : Nat)].log.records = s.hl[(h : Nat)].log.records := by
  by_cases hh : s.hd = h
  · subst hh
    have hhd : (s.raise code source arg0 arg1 data).hd = s.hd := s.raise_hd ..
    rw [State.hl_eq_act hhd, State.hl_eq_act rfl, State.raise_log]
    split <;> exact ⟨rfl, rfl⟩
  · rw [s.raise_hl_other _ _ _ _ _ hh]
    exact ⟨rfl, rfl⟩

/-- What a power-up writes beside the reset of the dies (R493, R522). -/
theorem State.powered_leaves (h : Hd) : (s.powered cause).resetKind = b2n (decide (cause = .wake)) ∧
    (s.powered cause).lookout.lastWake = (if decide (cause = .wake) then s.lookout.lastWake else 0) ∧
    (s.powered cause).hl[(h : Nat)].log.pcc = (s.hl[(h : Nat)].log.pcc + 1) % 2 ^ 24 ∧
    (s.powered cause).hl[(h : Nat)].log.records = s.hl[(h : Nat)].log.records := by
  have hlog : (s.powered cause).hl[(h : Nat)].log = { (s.hl[(h : Nat)].booting.countBoot).log with opAt := s.clk.now } := by
    simp [State.powered, State.powerReset, State.dieReset]
  exact ⟨rfl, rfl, (congrArg Log.pcc hlog :), (congrArg Log.records hlog :)⟩

/-- The sealed parameters stand over a power-up. -/
theorem State.powered_meter : (s.powered cause).meter.params = s.meter.params := by
  unfold State.powered State.powerReset
  dsimp only
  split <;> rfl

end

/-! ### The end of BOOT (R50, R289, R361, R555) -/

section
variable (s : State)

/-- What the end of BOOT settles: the device state, Breakwater, the Shoals and the parameters in force. -/
def State.bootPart : DevState × Breakwater × Vector ShoalSt 4 × ParamStore := (s.dev, s.bw, s.shoals, s.firm.applied)

theorem State.bootPart_ends {s : State} {x : DevState × Breakwater × Vector ShoalSt 4 × ParamStore} (h : s.bootPart = x) :
    s.dev = x.1 ∧ s.bw = x.2.1 ∧ s.shoals = x.2.2.1 ∧ s.firm.applied = x.2.2.2 := by
  subst h
  exact ⟨rfl, rfl, rfl, rfl⟩

@[simp] theorem State.raise_bootPart (code source arg0 arg1 : Nat) (data : List Nat) :
    (s.raise code source arg0 arg1 data).bootPart = s.bootPart := by
  simp [State.bootPart]

@[simp] theorem State.tripPort_bootPart (p : Port) (t : Trip) : (s.tripPort p t).bootPart = s.bootPart := by
  simp [State.bootPart, State.tripPort_firm]

@[simp] theorem State.modLife_bootPart (p : Port) (f : PortLife → PortLife) : (s.modLife p f).bootPart = s.bootPart := rfl

theorem State.portFault_bootPart (p : Port) (cause : Nat) : (s.portFault p cause).bootPart = s.bootPart :=
  State.portFault_rest (v := State.bootPart) s p (fun _ _ => rfl) (fun _ _ _ _ _ _ => State.raise_bootPart ..)
    (fun _ _ => State.tripPort_bootPart ..) cause

theorem State.takeLoop_bootPart (p : Port) (code : Nat) : (s.takeLoop p code).bootPart = s.bootPart := by
  unfold State.takeLoop
  split
  · rfl
  · dsimp only
    split
    · split
      · exact State.portFault_bootPart ..
      · rfl
    · rfl
    · simp

theorem State.startLoops_bootPart : s.startLoops.bootPart = s.bootPart :=
  State.eachPort_view (v := State.bootPart) (fun t p => (State.takeLoop_bootPart ..).trans (t.modLife_bootPart p _)) s

theorem State.reportWake_bootPart : s.reportWake.bootPart = s.bootPart := by
  unfold State.reportWake
  dsimp only
  split
  · rfl
  · split
    · exact State.raise_bootPart ..
    · exact (State.raise_bootPart ..).trans (State.raise_bootPart ..)

theorem State.startMeter_bootPart : s.startMeter.bootPart = s.bootPart := by
  unfold State.startMeter State.compareSerial
  dsimp only
  split
  · split
    · rfl
    · split
      · rfl
      · exact State.raise_bootPart ..
  · rfl

/-- The dies that start leave the device state and Breakwater; each Shoal begins at the nominal frequency (R50). -/
theorem State.startDies_starts : s.startDies.bw = s.bw ∧ s.startDies.dev = s.dev ∧ s.startDies.resetKind = s.resetKind ∧
    s.startDies.act.cfg = s.act.cfg ∧
    ∀ k : Shoal, s.startDies.shoals[(k : Nat)].acc = 0 ∧ s.startDies.shoals[(k : Nat)].tick = 0 ∧ s.startDies.shoals[(k : Nat)].inc = s.incNom := by
  refine ⟨rfl, rfl, rfl, ?_, fun k => ?_⟩
  · simp [State.startDies, State.applyDec, State.act, State.hd]
  · simp [State.startDies, State.applyDec]

/-- The committed set comes into force (R191); Breakwater and the Shoals stay. -/
theorem State.startSet_applied : s.startSet.bootPart = (s.dev, s.bw, s.shoals, s.act.cfg.committed.params) :=
  State.eachPort_view (v := State.bootPart) (fun t p => by
    split
    · exact State.raise_bootPart ..
    · rfl) _

/-- The state in which the decision of R361 is made. -/
def State.started : State := s.startDies.startSet

theorem State.started_bootPart : s.started.bootPart = (s.dev, s.bw, s.startDies.shoals, s.act.cfg.committed.params) := by
  obtain ⟨hbw, hdev, -, hcfg, -⟩ := s.startDies_starts
  rw [State.started, State.startSet_applied, hbw, hdev, hcfg]

theorem State.started_bw : s.started.bw = s.bw := (State.bootPart_ends s.started_bootPart).2.1

theorem State.started_resetKind : s.started.resetKind = s.resetKind := (s.startDies.startSet_resetKind).trans s.startDies_resetKind

/-- Where a demand stands, START_LOCKED is set, or the reset was not one of POWER or WAKE, the lock-out stands (R361). -/
theorem State.bootLock_keeps (h : 2 ≤ s.resetKind ∨ s.bw.par P_START_LOCKED = 1 ∨ s.bw.demanded = true) : s.bootLock = s := if_pos h

theorem State.bootLock_lifts (hkind : s.resetKind < 2) (hpar : s.bw.par P_START_LOCKED ≠ 1) (hdem : s.bw.demanded = false) :
    s.bootLock.bw.lockout = false := by
  have hno : ¬ (2 ≤ s.resetKind ∨ s.bw.par P_START_LOCKED = 1 ∨ s.bw.demanded = true) := by simp [hpar, hdem, hkind]
  rw [State.bootLock, if_neg hno]
  rfl

theorem State.bootLock_rest : s.bootLock.bw.token = s.bw.token ∧ s.bootLock.shoals = s.shoals ∧ s.bootLock.firm = s.firm := by
  unfold State.bootLock
  split <;> exact ⟨rfl, rfl, rfl⟩

/-- The device state that BOOT ends in (R361). -/
def State.bootExit : DevState := if s.bw.lockout then .lockout else .idle

/-- What follows the decision: the reports, the loops, the meter, the peer, the engine and Shore (R289, R333, R391, R522). -/
def State.afterBoot (run : Bool) (now : Nat) : State :=
  ((s.reportWake.startLoops.startMeter.startPeer).modAct fun a => { a with engine := { a.engine with run := run } }).modShore
    fun h => { h with hostAt := now }

theorem State.startPeer_bootPart : s.startPeer.bootPart = s.bootPart := rfl

theorem State.modAct_bootPart (f : Headland → Headland) : (s.modAct f).bootPart = s.bootPart := rfl

theorem State.modShore_bootPart (f : Shore → Shore) : (s.modShore f).bootPart = s.bootPart := rfl

theorem State.afterBoot_bootPart (run : Bool) (now : Nat) : (s.afterBoot run now).bootPart = s.bootPart := by
  rw [State.afterBoot, State.modShore_bootPart, State.modAct_bootPart, State.startPeer_bootPart, State.startMeter_bootPart,
    State.startLoops_bootPart, State.reportWake_bootPart]

/-- The state at the end of BOOT. -/
def State.booted : State :=
  let s1 := s.started.bootLock
  ((s1.setDev s1.bootExit 0).raise 0x01 (0x20 + s.hd.val) s.resetKind s1.bootExit.code).afterBoot (!s.clocks.hd[s.hd].bypass) s.clk.now

theorem exec_bootEnd {s : State} (hdev : s.dev = .boot) (hheld : s.bootHeld = false) (hact : s.active = true) (hbw : s.bw.started = true)
    (hreset : s.heart.resetN = false) (hready : s.islandsReady = true) : exec .bootEnd s = .next s.booted :=
  if_neg (by simp [hdev, hheld, hact, hbw, hreset, hready])

theorem State.bootExit_ne_service : s.bootExit ≠ .service := by
  unfold State.bootExit
  split <;> exact nofun

/-- The end of BOOT is its decision with the device state it names. -/
theorem State.booted_bootPart : s.booted.bootPart = (s.started.bootLock.bootExit, s.started.bootLock.bw, s.startDies.shoals, s.act.cfg.committed.params) := by
  have hset : ∀ t : State, (t.setDev t.bootExit 0).bootPart = (t.bootExit, t.bw, t.shoals, t.firm.applied) := fun t => by
    simp only [State.bootPart, State.setDev_dev, State.setDev_bw _ _ t.bootExit_ne_service, State.setDev_shoals, State.setDev_applied]
  obtain ⟨-, hshoals, hfirm⟩ := s.started.bootLock_rest
  have hpart := s.started_bootPart
  simp only [State.bootPart, Prod.mk.injEq] at hpart
  obtain ⟨-, -, hsh, happ⟩ := hpart
  calc s.booted.bootPart = ((s.started.bootLock).setDev s.started.bootLock.bootExit 0).bootPart :=
        (State.afterBoot_bootPart ..).trans (State.raise_bootPart ..)
    _ = _ := by rw [hset, hshoals, hfirm, hsh, happ]

theorem State.booted_bw : s.booted.bw = s.started.bootLock.bw := (State.bootPart_ends s.booted_bootPart).2.1

theorem State.booted_dev : s.booted.dev = s.started.bootLock.bootExit := (State.bootPart_ends s.booted_bootPart).1

theorem State.islandsReady_of {s : State} (h : s.bootAt + msTicks 1000 ≤ s.clk.now ∨ ∀ l : Link, s.sk[(l : Nat)].good = true → 16 ≤ s.ul[(l : Nat)].good) :
    s.islandsReady = true := by
  rcases h with hlate | hgood
  · simp [State.islandsReady, State.bootLate, hlate]
  · have hall : ((List.finRange 13).all fun l => !s.sk[l].good || decide (16 ≤ s.ul[l].good)) = true := by
      refine List.all_eq_true.2 fun l _ => ?_
      by_cases hg : s.sk[(l : Nat)].good = true
      · simp [hgood l hg]
      · simp [hg]
    rw [State.islandsReady, hall, Bool.or_true]

theorem State.islandsReady_not {s : State} {l : Link} (hearly : s.clk.now < s.bootAt + msTicks 1000) (hgood : s.sk[(l : Nat)].good = true)
    (hfew : s.ul[(l : Nat)].good < 16) : s.islandsReady = false := by
  have hnot : ((List.finRange 13).all fun l => !s.sk[l].good || decide (16 ≤ s.ul[l].good)) = false :=
    List.all_eq_false.2 ⟨l, List.mem_finRange l, by simp [hgood, hfew]⟩
  rw [State.islandsReady, hnot, State.bootLate, decide_eq_false (by omega)]
  rfl

theorem exec_bootEnd_not {s : State} (h : s.dev ≠ .boot ∨ s.bootHeld = true ∨ s.islandsReady = false) : exec .bootEnd s = .next s :=
  if_pos (by rcases h with h | h | h <;> simp [h])

end

/-! ### The self-test and the claims (R375, R556) -/

section
variable {s : State} {h : Hd}

theorem exec_headlandSelftestEnd_passes (hdev : s.dev = .boot) (hreset : s.heart.resetN = false) (htoken : s.bw.token = none)
    (hrole : s.hl[(h : Nat)].pair.role = .boot) (hfails : s.hl[(h : Nat)].pair.selfFails < 2) (hopen : s.hl[(h : Nat)].pair.ineligSelftest = true) :
    exec (.headlandSelftestEnd h none) s = .next (s.modPair h fun p =>
      { p with ineligSelftest := false, selfFails := 0, alive := true, claim := true, role := .boot }) := by
  refine (if_neg (by simp [hdev, hreset, htoken, hrole, hfails, hopen])).trans ?_
  simp [htoken, hdev, State.transferFrom]

theorem exec_headlandSelftestEnd_fails (part : SelftestPart) (hdev : s.dev = .boot) (hreset : s.heart.resetN = false) (htoken : s.bw.token = none)
    (hrole : s.hl[(h : Nat)].pair.role = .boot) (hfails : s.hl[(h : Nat)].pair.selfFails < 2) (hopen : s.hl[(h : Nat)].pair.ineligSelftest = true) :
    ∃ t, exec (.headlandSelftestEnd h (some part)) s = .next t ∧ t.hl[(h : Nat)].pair.role = .resetting ∧
      t.hl[(h : Nat)].pair.selfFails = s.hl[(h : Nat)].pair.selfFails + 1 ∧ t.hl[(h : Nat)].pair.alive = false ∧
      t.hl[(h : Nat)].pair.claim = false ∧ t.bw.token = none := by
  refine ⟨_, if_neg (by simp [hdev, hreset, htoken, hrole, hfails, hopen]), ?_⟩
  simp only [State.modHl_other _ _ _ _ (otherHd_ne h), State.modPair_hl_same, true_and]
  exact ⟨rfl, htoken⟩

theorem exec_headlandSelftestEnd_closed (hfails : 2 ≤ s.hl[(h : Nat)].pair.selfFails) (x : Option SelftestPart) :
    exec (.headlandSelftestEnd h x) s = .next s :=
  if_pos (by simp [show ¬ s.hl[(h : Nat)].pair.selfFails < 2 by omega])

end

/-- Settles O54. -/
theorem startUpCompletes : Obligations.StartUpCompletes := by
  intro s h n
  simp only [Fin.getElem_fin]
  refine ⟨fun hin => ?_, fun hdev hout => ?_, fun hdev hout => ?_, fun cause hdev hcause => ?_, fun hdev hwake hlock => ?_, fun hwake => ?_, fun hn => ?_,
    fun hdev cause => ?_, fun hdev hreset htoken hrole hfails hopen => ⟨?_, fun part => ?_⟩, fun hfails x => ?_, fun hdev htoken hreset hlate => ?_,
    fun hearly => ?_, fun hno => ?_, fun hdev hheld hact hbw hreset hready => ?_, fun l hearly hgood hfew => ?_, fun hno => ?_⟩
  case refine_1 => exact if_pos (by simp [hin])
  case refine_2 =>
    obtain ⟨hnew, hbw, hpwm, hsk, -, -, hlocked, -⟩ := ((s.modHeart (·.lockOut n)).raise 0xC5 0x33 n).powerDown_leaves 0xC5
    obtain ⟨hseen, hvsup, hbudget⟩ := ((s.modHeart (·.lockOut n)).raise 0xC5 0x33 n).powerDown_heart 0xC5
    rw [State.raise_heart] at hlocked hseen hvsup hbudget
    exact ⟨_, (exec_vsupLockout hout).trans (congrArg _ (if_neg hdev)), hnew, hlocked, hseen, hvsup, hbudget, congrArg Breakwater.token hbw, hpwm, hsk⟩
  case refine_3 => rw [exec_vsupLockout hout, if_pos hdev]; rfl
  case refine_4 =>
    have hmay : s.mayPowerUp cause n = true := by
      rcases hcause with ⟨rfl, hlow, hhigh⟩ | ⟨rfl, hlocked, hlow, hhigh⟩
      · simp [State.mayPowerUp, hdev, hlow, hhigh]
      · simp [State.mayPowerUp, hdev, hlocked, hlow, hhigh]
    have hnot : cause ≠ .wake := by rcases hcause with ⟨rfl, -⟩ | ⟨rfl, -⟩ <;> exact nofun
    obtain ⟨hdead, hvsup, hbudget⟩ := State.setBudget_heart ((s.powered cause).seedLoops.raise 0x02 0xFF DevState.boot.code) n s.heart.tBase
    obtain ⟨hkind, hwakes, hpcc, hrecords⟩ := s.powered_leaves cause h
    rw [decide_eq_false hnot] at hkind hwakes
    refine ⟨_, exec_powerUp hmay, ?_⟩
    exact ⟨State.poweredUp_view s cause n (v := State.dev) (fun _ _ => rfl) (fun _ _ => rfl) (fun _ _ _ _ _ _ => State.raise_dev ..) _,
      (State.poweredUp_view s cause n (v := State.resetKind) (fun _ _ => rfl) (fun _ _ => rfl) (fun _ _ _ _ _ _ => State.raise_resetKind ..) _).trans hkind,
      hdead.trans (congrArg Heartwood.lockedOut (State.raise_heart ..)), hvsup, hbudget,
      State.poweredUp_view s cause n (v := State.bootAt) (fun _ _ => rfl) (fun _ _ => rfl) (fun _ _ _ _ _ _ => State.raise_bootAt ..) _,
      State.poweredUp_view s cause n (v := fun t => t.bw.token) (fun _ _ => rfl) (fun _ _ => rfl)
        (fun _ _ _ _ _ _ => congrArg Breakwater.token (State.raise_bw ..)) _,
      State.poweredUp_view s cause n (v := fun t => t.bw.lockout) (fun _ _ => rfl) (fun _ _ => rfl)
        (fun _ _ _ _ _ _ => congrArg Breakwater.lockout (State.raise_bw ..)) _,
      (State.poweredUp_view s cause n (v := fun t => t.lookout.lastWake) (fun _ _ => rfl) (fun _ _ => rfl)
        (fun _ _ _ _ _ _ => congrArg Lookout.lastWake (State.raise_lookout ..)) _).trans hwakes,
      (State.poweredUp_view s cause n (v := fun t => t.hl[(h : Nat)].log.pcc) (fun _ _ => rfl) (fun _ _ => rfl)
        (fun _ _ _ _ _ _ => (State.raise_log_kept ..).1) _).trans hpcc,
      (State.poweredUp_view s cause n (v := fun t => t.hl[(h : Nat)].log.records) (fun _ _ => rfl) (fun _ _ => rfl)
        (fun _ _ _ _ _ _ => (State.raise_log_kept ..).2) _).trans hrecords,
      State.poweredUp_view s cause n (v := State.pwm) (fun _ _ => rfl) (fun _ _ => rfl) (fun _ _ _ _ _ _ => State.raise_pwm ..) _,
      (State.poweredUp_view s cause n (v := fun t => t.meter.params) (fun _ _ => rfl) (fun _ _ => rfl)
        (fun _ _ _ _ _ _ => congrArg Meter.params (State.raise_meter ..)) _).trans (s.powered_meter cause)⟩
  case refine_5 =>
    refine ⟨_, exec_powerUp ((State.mayPowerUp_iff_wake n).2 ⟨hdev, hwake, hlock⟩), ?_⟩
    exact ⟨State.poweredUp_view s .wake n (v := State.dev) (fun _ _ => rfl) (fun _ _ => rfl) (fun _ _ _ _ _ _ => State.raise_dev ..) _,
      State.poweredUp_view s .wake n (v := State.resetKind) (fun _ _ => rfl) (fun _ _ => rfl) (fun _ _ _ _ _ _ => State.raise_resetKind ..) _,
      State.poweredUp_view s .wake n (v := fun t => t.lookout.waking) (fun _ _ => rfl) (fun _ _ => rfl)
        (fun _ _ _ _ _ _ => congrArg Lookout.waking (State.raise_lookout ..)) _,
      State.poweredUp_view s .wake n (v := fun t => t.lookout.lastWake) (fun _ _ => rfl) (fun _ _ => rfl)
        (fun _ _ _ _ _ _ => congrArg Lookout.lastWake (State.raise_lookout ..)) _⟩
  case refine_6 => exact exec_powerUp_not (by simp [State.mayPowerUp, hwake])
  case refine_7 =>
    have hle : ¬ 590 < n := by omega
    exact ⟨exec_powerUp_not (by simp [State.mayPowerUp, hle]), exec_powerUp_not (by simp [State.mayPowerUp, hle])⟩
  case refine_8 => exact exec_powerUp_not (by simp [State.mayPowerUp, hdev])
  case refine_9 => exact exec_headlandSelftestEnd_passes hdev hreset htoken hrole hfails hopen
  case refine_10 => exact exec_headlandSelftestEnd_fails part hdev hreset htoken hrole hfails hopen
  case refine_11 => exact exec_headlandSelftestEnd_closed hfails x
  case refine_12 => exact congrArg Host.Outcome.next (if_pos (by simp [hdev, htoken, hreset, State.bootLate, hlate]))
  case refine_13 => exact congrArg Host.Outcome.next (if_neg (by simp [State.bootLate, Nat.not_le.2 hearly]))
  case refine_14 => exact congrArg Host.Outcome.next (if_neg (by rcases hno with hno | hno <;> simp [hno]))
  case refine_15 =>
    obtain ⟨htoken, -, -⟩ := s.started.bootLock_rest
    have hstart := s.startDies_starts
    obtain ⟨-, -, hshoals, happlied⟩ := State.bootPart_ends s.booted_bootPart
    refine ⟨_, exec_bootEnd hdev hheld hact hbw hreset (State.islandsReady_of hready), ?_, ?_, fun hkind => ?_, fun hkind hpar => ?_,
      fun hkind hpar hdem => ?_, fun k => ?_, happlied, ?_⟩
    · rw [State.booted_dev, State.bootExit]
      split <;> simp
    · rw [State.booted_dev, State.booted_bw, State.bootExit]
      split
      · next hl => simp [hl]
      · next hl => simp [hl]
    · rw [State.booted_bw, State.bootLock_keeps _ (.inl (s.started_resetKind.symm ▸ hkind)), State.started_bw]
    · rw [State.booted_bw, State.bootLock_keeps _ (.inr (.inl (s.started_bw.symm ▸ hpar))), State.started_bw]
    · rw [State.booted_bw]
      exact State.bootLock_lifts _ (s.started_resetKind.symm ▸ hkind) (s.started_bw.symm ▸ hpar) (s.started_bw.symm ▸ hdem)
    · rw [hshoals]
      exact hstart.2.2.2.2 k
    · rw [State.booted_bw, htoken, State.started_bw]
  case refine_16 => exact exec_bootEnd_not (.inr (.inr (State.islandsReady_not hearly hgood hfew)))
  case refine_17 => exact exec_bootEnd_not (hno.imp_right .inl)

end Sys2Proof.Machine
end

section
/-! The black start and the synchronism close (R101 to R114): the obligation O48. -/
namespace Sys2Proof.Machine

/-! ### What a change into READY or FORMING leaves of the sequences -/

section
variable (s : State)

theorem State.endFault_seq : s.endFault.firm.seq = s.firm.seq ∧ s.endFault.firm.rotor = s.firm.rotor ∧ s.endFault.firm.sub = s.firm.sub := by
  unfold State.endFault
  dsimp only
  split
  · rw [State.raise_firm]
    exact ⟨rfl, rfl, rfl⟩
  · exact ⟨rfl, rfl, rfl⟩

theorem State.leaveLive_seq : s.leaveLive.firm.seq = s.firm.seq ∧ s.leaveLive.firm.rotor = s.firm.rotor ∧ s.leaveLive.firm.sub = s.firm.sub :=
  s.endFault_seq

theorem State.changed_seq (new : DevState) (cause : Nat) : (s.changed new cause).firm.seq = s.firm.seq ∧
    (s.changed new cause).firm.rotor = s.firm.rotor ∧ (s.changed new cause).firm.sub = if new = .forming then s.firm.sub else .none := by
  have hraised : ((s.inState new).raiseAs (s.changeEvent new cause)).firm = (s.inState new).firm := (s.inState new).raiseTick_firm ..
  unfold State.changed
  dsimp only
  split
  · obtain ⟨hseq, hrotor, hsub⟩ := ((s.inState new).raiseAs (s.changeEvent new cause)).leaveLive_seq
    rw [hseq, hrotor, hsub, hraised]
    exact ⟨rfl, rfl, rfl⟩
  · rw [hraised]
    exact ⟨rfl, rfl, rfl⟩

theorem State.setDev_ready_seq (cause : Nat) : (s.setDev .ready cause).firm.seq = s.firm.seq := by
  by_cases h : s.dev = .ready
  · rw [s.setDev_same cause h]
  · rw [s.setDev_changes cause h]
    exact (s.changed_seq ..).1

theorem State.setDev_forming_seq (cause : Nat) : (s.setDev .forming cause).firm.seq = s.firm.seq ∧
    (s.setDev .forming cause).firm.rotor = s.firm.rotor ∧ (s.setDev .forming cause).firm.sub = s.firm.sub := by
  by_cases h : s.dev = .forming
  · rw [s.setDev_same cause h]
    exact ⟨rfl, rfl, rfl⟩
  · rw [s.setDev_changes cause h]
    obtain ⟨hseq, hrotor, hsub⟩ := s.changed_seq .forming cause
    exact ⟨hseq, hrotor, hsub⟩

end

/-! ### The gates of every port (R102, R296) -/

/-- A fold attains at its end what one of its steps attains and the others keep. -/
theorem foldl_attains {σ β : Type} {f : σ → β → σ} {P Q : σ → Prop} {a : β} (hkeep : ∀ t b, Q t → Q (f t b))
    (hhold : ∀ t b, P t → P (f t b)) (hact : ∀ t, Q t → P (f t a)) {l : List β} (hmem : a ∈ l) {s : σ} (hs : Q s) : P (l.foldl f s) := by
  obtain ⟨l₁, l₂, rfl⟩ := List.append_of_mem hmem
  rw [List.foldl_append, List.foldl_cons]
  exact List.foldlRecOn l₂ f (hact _ (List.foldlRecOn l₁ f hs fun t ht b _ => hkeep t b ht)) fun t ht b _ => hhold t b ht

section
variable (s : State) (p q : Port)

/-- A port whose gates may be enabled: in SYNC or FORMING, admitted and without a trip (R296, R465). -/
def State.mayRun : Prop := s.dev = .forming ∧ (s.life p).admitted = true ∧ (s.life p).trips = []

theorem State.enablePort_dev : (s.enablePort q).dev = s.dev := by
  unfold State.enablePort
  dsimp only
  split <;> rfl

theorem State.enablePort_life : (s.enablePort q).life p = s.life p ∨ (s.enablePort q).life p = { s.life p with gateEn := true } := by
  unfold State.enablePort
  dsimp only
  split
  · by_cases h : p = q
    · subst h
      exact .inr ((s.modShare p _).modLife_life p _)
    · exact .inl ((s.modShare q _).modLife_life_other _ _ _ h)
  · exact .inl rfl

theorem State.enablePort_enables (h : s.mayRun p) : ((s.enablePort p).life p).gateEn = true := by
  obtain ⟨hdev, hadm, htrips⟩ := h
  have hif : (decide (s.dev = .sync ∨ s.dev = .forming) && (s.life p).admitted && (s.life p).trips.isEmpty) = true := by simp [hdev, hadm, htrips]
  unfold State.enablePort
  dsimp only
  rw [if_pos hif]
  exact congrArg PortLife.gateEn ((s.modShare p _).modLife_life p _)

theorem State.enableAll_enables (h : s.mayRun p) : (s.enableAll.life p).gateEn = true := by
  rw [State.enableAll, State.eachPort]
  refine foldl_attains (f := State.enablePort) (s := s) (l := List.finRange 12) (P := fun t => (t.life p).gateEn = true) (Q := fun t => t.mayRun p) (fun t q ht => ?_)
    (fun t q ht => ?_) (fun t ht => t.enablePort_enables p ht) (List.mem_finRange p) h
  · obtain ⟨hdev, hadm, htrips⟩ := ht
    rcases t.enablePort_life p q with hl | hl <;> exact ⟨(t.enablePort_dev q).trans hdev, by rw [hl]; exact hadm, by rw [hl]; exact htrips⟩
  · rcases t.enablePort_life p q with hl | hl <;> rw [hl]
    exact ht

/-- What the enabling of a port leaves of the firmware. -/
def State.seqPart : DevState × Seq × Rotor × SubMode := (s.firm.dev, s.firm.seq, s.firm.rotor, s.firm.sub)

theorem State.enablePort_seqPart : (s.enablePort q).seqPart = s.seqPart := by
  unfold State.enablePort
  dsimp only
  split <;> rfl

theorem State.enableAll_seqPart : s.enableAll.seqPart = s.seqPart :=
  State.eachPort_view (v := State.seqPart) (f := State.enablePort) (fun t q => t.enablePort_seqPart q) s

theorem State.enableAll_firm : s.enableAll.firm.dev = s.firm.dev ∧ s.enableAll.firm.seq = s.firm.seq ∧
    s.enableAll.firm.rotor = s.firm.rotor ∧ s.enableAll.firm.sub = s.firm.sub := by
  have h := s.enableAll_seqPart
  simp only [State.seqPart, Prod.mk.injEq] at h
  exact h

end

/-! ### The black start's commands (R104 to R107) -/

section
variable {s : State}

theorem exec_bsAnchorLaunch {g n : Nat} (hpend : s.firm.seq.bsPending = true) (hanch : s.firm.seq.bsAnchored = false)
    (hgate : s.firm.seq.bsGate = some g) (hpass : s.firm.seq.bsPassed = true) (hvalid : s.act.ptp.valid = true)
    (hn : (roundUpHalf (((g * 2 ^ 32 : Int) - s.act.ptp.clock : Int) / ((10737418240 + s.act.ptp.adj : Int) : Rat))).toNat = n)
    (hlow : 800 ≤ n) (hhigh : n < 2 ^ 31) : exec .bsAnchorLaunch s =
      .next (((s.modSeq fun q => { q with bsAnchored := true }).modFirm fun m => { m with rotor := { m.rotor with w := 1, wf := 1 } }).sendFields
        ⟨incOf s.lawF, (s.act.replica.tick + n) % 2 ^ 32, 0, s.firm.tune⟩ false) := by
  have hin : ¬ (n < 800 ∨ 2 ^ 31 ≤ n) := by omega
  change execBsAnchorLaunch s = _
  unfold execBsAnchorLaunch
  dsimp only
  rw [hgate]
  dsimp only
  rw [hn, if_neg (by simp [hpend, hanch]), if_neg (by simp [hvalid, hpass]), if_neg hin]

theorem exec_bsAnchorLaunch_missed {g : Nat} (hpend : s.firm.seq.bsPending = true) (hanch : s.firm.seq.bsAnchored = false)
    (hgate : s.firm.seq.bsGate = some g) (h : s.firm.seq.bsPassed = false ∨ s.act.ptp.valid = false) :
    exec .bsAnchorLaunch s = .next (s.abortBlackStart 2) := by
  change execBsAnchorLaunch s = _
  unfold execBsAnchorLaunch
  dsimp only
  rw [hgate]
  dsimp only
  rw [if_neg (by simp [hpend, hanch]), if_pos (by rcases h with h | h <;> simp [h])]

/-- The state at the gate enable, before the gates (R105). -/
def State.rampsUp (s : State) : State :=
  let s1 := s.modFirm fun m =>
    { m with
      sub := .blackStart
      rotor := { m.rotor with e := 0, rf := 0, rv := 0 }
      dispatch := { m.dispatch with pR := 0, qR := 0 } }
  (s1.startRamp .bsUp).modSeq fun q =>
    { q with
      bsPending := false, bsGate := none, bsPassed := false, bsAnchored := false, bsEnableAt := s.clk.now, rampEnded := false
      holdSince := none, lastLimited := none }

theorem exec_bsGateEnable (hpend : s.firm.seq.bsPending = true) (hdev : s.dev = .ready) (hdue : s.bsEnableDue = true)
    (hpass : s.firm.seq.bsPassed = true) (hgate : s.firm.seq.bsGate = none ∨ s.firm.seq.bsAnchored = true) :
    exec .bsGateEnable s = .next ((s.rampsUp.setDev .forming 0).enableAll) :=
  (if_neg (by simp [hpend, hdev, hdue])).trans (if_neg (by rcases hgate with h | h <;> simp [hpass, h]))

theorem exec_bsGateEnable_missed {g : Nat} (hpend : s.firm.seq.bsPending = true) (hdev : s.dev = .ready) (hdue : s.bsEnableDue = true)
    (hgate : s.firm.seq.bsGate = some g) (h : s.firm.seq.bsPassed = false ∨ s.firm.seq.bsAnchored = false) :
    exec .bsGateEnable s = .next (s.abortBlackStart 2) :=
  ((if_neg (by simp [hpend, hdev, hdue])).trans (if_pos (by rcases h with h | h <;> simp [h, hgate]))).trans
    (congrArg Host.Outcome.next (if_pos (by simp [hgate])))

end

/-! ### The close and the falling ramps (R111 to R114) -/

section
variable (s : State)

/-- A disarmed close: its output clears if it has set (R112). -/
theorem State.disarm_firm : s.disarm.firm =
    { s.firm with seq := { s.firm.seq with armed := false, closeAt := none, brkOut := s.firm.seq.brkOut && s.firm.seq.closeAt.isNone } } := rfl

theorem State.disarm_clk : s.disarm.clk = s.clk := rfl

theorem State.allGatesOff_life (p : Port) : (s.allGatesOff.life p) = { s.life p with gateEn := false } := by
  simp [State.allGatesOff, State.life, State.modFirm]

/-- The state at the end of a falling ramp, before its event (R102). -/
def State.stopped : State :=
  (s.allGatesOff.modSeq fun x => { x with ramp := .none, brkOut := x.brkOut && decide (s.firm.seq.ramp ≠ .stopParallel) }).setDev .ready 0

/-- A falling ramp ends with the event of its kind (R107, R113). -/
def State.stopReport (r : Ramp) (vg brk : Nat) : State :=
  match r with
  | .bsDown => s.raise 0x21 0xFF 3
  | .gridLost => s.raise 0x2C 0xFF vg brk
  | .none | .bsUp | .stopIslanded | .stopParallel => s

theorem State.stopReport_firm (r : Ramp) (vg brk : Nat) : (s.stopReport r vg brk).firm = s.firm := by
  cases r
  case bsDown | gridLost => exact State.raise_firm ..
  all_goals rfl

theorem exec_stopRampEnd {s : State} (hfall : s.firm.seq.ramp.falling = true) (hruns : s.dev.runs = true)
    (hdue : s.firm.seq.rampAt + msTicks (s.lawN P_STOP_RAMP_T) ≤ s.clk.now) :
    exec .stopRampEnd s = .next (s.stopped.stopReport s.firm.seq.ramp (pct16 s.firm.rotor.vgPos) (b2n s.firm.seq.brkWas)) :=
  if_neg (by simp [hfall, hruns, Nat.not_lt.2 hdue])

theorem exec_stopRampEnd_not {s : State} (h : s.firm.seq.ramp.falling = false ∨ s.dev.runs = false ∨
    s.clk.now < s.firm.seq.rampAt + msTicks (s.lawN P_STOP_RAMP_T)) : exec .stopRampEnd s = .next s :=
  if_pos (by rcases h with h | h | h <;> simp [h])

theorem State.stopped_firm : s.stopped.dev = .ready ∧ s.stopped.firm.seq.ramp = .none ∧
    s.stopped.firm.seq.brkOut = (s.firm.seq.brkOut && decide (s.firm.seq.ramp ≠ .stopParallel)) ∧ ∀ p : Port, (s.stopped.life p).gateEn = false := by
  refine ⟨State.setDev_dev .., ?_, ?_, fun p => ?_⟩
  · rw [State.stopped, State.setDev_ready_seq]
    rfl
  · rw [State.stopped, State.setDev_ready_seq]
    rfl
  · rw [State.stopped, State.setDev_life (new := .ready) _ _ p nofun nofun]
    exact congrArg PortLife.gateEn (s.allGatesOff_life p)

end

/-- Settles O48. -/
theorem blackStartSyncComplete : Obligations.BlackStartSyncComplete := by
  refine ⟨fun s g => ⟨fun hpend hdue => ?_, fun hearly => ?_, fun n hpend hanch hgate hpass hvalid hn hlow hhigh => ?_, fun hpend hanch hgate hmiss => ?_,
    fun hpend hdev hdue hpass hgate => ?_, fun hpend hdev hdue hgate hmiss => ?_, fun hdue => ?_, fun hdev hsub hramp hheld => ?_,
    fun hdev hsub hramp hdue => ?_, fun hearly => ?_⟩,
    fun s => ⟨fun harmed hclose hdue => ?_, fun hearly => ?_, fun hdev hheld => ?_, fun hdev hlow hramp => ?_, fun hfall hruns hdue => ?_,
      exec_stopRampEnd_not⟩⟩
  case refine_1 => exact congrArg Host.Outcome.next (if_pos (by simp [hpend, hdue]))
  case refine_2 => exact congrArg Host.Outcome.next (if_neg (by simp [Nat.not_le.2 hearly]))
  case refine_3 => exact ⟨_, exec_bsAnchorLaunch hpend hanch hgate hpass hvalid hn hlow hhigh, rfl, rfl, rfl, rfl, rfl, rfl, rfl⟩
  case refine_4 => exact ⟨exec_bsAnchorLaunch_missed hpend hanch hgate hmiss, s.abortBlackStart_bsPending 2⟩
  case refine_5 =>
    obtain ⟨hd, hseq, hrotor, hsub⟩ := (s.rampsUp.setDev .forming 0).enableAll_firm
    obtain ⟨hseq', hrotor', hsub'⟩ := s.rampsUp.setDev_forming_seq 0
    have hdev' : (s.rampsUp.setDev .forming 0).dev = .forming := State.setDev_dev ..
    refine ⟨_, exec_bsGateEnable hpend hdev hdue hpass hgate, hd.trans hdev', hsub.trans hsub', ?_, ?_, ?_, ?_, fun p hadm htrips => ?_⟩
    · rw [hseq, hseq']; rfl
    · rw [hrotor, hrotor']; rfl
    · rw [hseq, hseq']; rfl
    · rw [hseq, hseq']; rfl
    · have hlife : (s.rampsUp.setDev .forming 0).life p = s.life p := State.setDev_life (new := .forming) _ _ p nofun nofun
      exact State.enableAll_enables _ p ⟨hdev', by rw [hlife]; exact hadm, by rw [hlife]; exact htrips⟩
  case refine_6 => exact exec_bsGateEnable_missed hpend hdev hdue hgate hmiss
  case refine_7 => exact if_pos (by simp [hdue])
  case refine_8 =>
    refine ⟨_, congrArg Host.Outcome.next (if_pos ⟨hdev, hsub, hramp, hheld⟩), ?_⟩
    rw [State.raise_dev, State.raise_firm]
    exact ⟨hdev, rfl, rfl, rfl⟩
  case refine_9 => exact congrArg Host.Outcome.next (if_pos ⟨hdev, hsub, hramp, decide_eq_true hdue⟩)
  case refine_10 => exact congrArg Host.Outcome.next (if_neg (by simp [Nat.not_le.2 hearly]))
  case refine_11 =>
    refine ⟨_, congrArg Host.Outcome.next (if_pos (by simp [harmed, hclose, hdue])), ?_⟩
    rw [State.raiseSync, State.raise_dev, State.raise_firm, s.disarm_firm]
    exact ⟨rfl, rfl, rfl, rfl⟩
  case refine_12 => exact congrArg Host.Outcome.next (if_neg (by simp [Nat.not_le.2 hearly]))
  case refine_13 =>
    have hsome : s.firm.seq.closeAt.isNone = false := by
      cases hc : s.firm.seq.closeAt with
      | none => rw [hc] at hheld; exact absurd hheld nofun
      | some t => rfl
    refine ⟨_, congrArg Host.Outcome.next (if_pos ⟨hdev, hheld⟩), ?_⟩
    rw [State.raiseSync, State.raise_dev, State.raise_firm, s.disarm_firm]
    exact ⟨rfl, rfl, by simp [hsome], hdev⟩
  case refine_14 => exact ⟨_, congrArg Host.Outcome.next (if_pos ⟨hdev, hlow, hramp⟩), rfl, rfl, rfl, rfl, hdev⟩
  case refine_15 =>
    obtain ⟨hnew, hr, hbrk, hgates⟩ := s.stopped_firm
    have hfirm := s.stopped.stopReport_firm s.firm.seq.ramp (pct16 s.firm.rotor.vgPos) (b2n s.firm.seq.brkWas)
    refine ⟨_, exec_stopRampEnd hfall hruns hdue, ?_, ?_, fun p => ?_, fun hstop => ?_⟩
    · rw [State.dev, hfirm]; exact hnew
    · rw [hfirm]; exact hr
    · rw [State.life, hfirm]; exact hgates p
    · rw [hfirm, hbrk, hstop]; simp

end Sys2Proof.Machine
end

section
/-! Safety messages (R364 to R367): the obligation O45. -/
namespace Sys2Proof.Machine

section
variable {s : State} {net : Net} {b : List Byte} {j : Fin 4} {c : MsgCopy}

/-- How far a sequence number is ahead of a source's last (R365). -/
def MsgSource.ahead (x : MsgSource) (b : List Byte) : Nat := (rd b 4 4 + 2 ^ 32 - x.lastSeq) % 2 ^ 32

/-- A change of one source's state. -/
def State.modSource (s : State) (j : Fin 4) (f : MsgSource → MsgSource) : State := s.modBw fun b => { b with sources := vmod b.sources j f }

theorem State.modSource_source (s : State) (j : Fin 4) (f : MsgSource → MsgSource) :
    (s.modSource j f).bw.sources[(j : Nat)] = f s.bw.sources[(j : Nat)] := vmod_same _ _ _

/-- What a known source's message does once its number is new (R365). -/
def State.takeMessage (s : State) (net : Net) (b : List Byte) (j : Fin 4) : Option MsgCopy → State
  | some c =>
    if c.net ≠ net ∧ c.seq = rd b 4 4 then
      if c.bytes = b ∧ s.clk.now - c.at_ ≤ msTicks 10 then
        (s.modSource j fun x => { x with pending := none, lastSeq := rd b 4 4 }).messageDemand j (bit (by8 b 8) 0) (bit (by8 b 8) 1) (rd b 10 2) false
      else s.modSource j fun x => { x with pending := none, mismatch := satInc 8 x.mismatch }
    else s.modSource j fun x => { x with pending := some ⟨net, rd b 4 4, b, s.clk.now⟩, single := satInc 8 x.single }
  | none => s.modSource j fun x => { x with pending := some ⟨net, rd b 4 4, b, s.clk.now⟩ }

theorem exec_safetyMessage (htoken : s.bw.token.isSome = true) (hsource : s.bw.sourceOf b = some j) : exec (.safetyMessage net b) s =
    .next (if s.bw.sources[(j : Nat)].ahead b = 0 ∨ 2 ^ 31 < s.bw.sources[(j : Nat)].ahead b then s
      else s.takeMessage net b j s.bw.sources[(j : Nat)].pending) := by
  have hnone : s.bw.token.isNone = false := by
    cases ht : s.bw.token with
    | none => rw [ht] at htoken; exact absurd htoken nofun
    | some h => rfl
  change execSafetyMessage net b s = _
  unfold execSafetyMessage
  rw [hnone, hsource]
  dsimp only [Fin.getElem_fin]
  rw [if_neg nofun, apply_ite Host.Outcome.next]
  refine if_congr Iff.rfl rfl ?_
  cases s.bw.sources[(j : Nat)].pending with
  | none => rfl
  | some c =>
    dsimp only [State.takeMessage]
    split
    · split <;> rfl
    · rfl

theorem exec_safetyMessage_new (htoken : s.bw.token.isSome = true) (hsource : s.bw.sourceOf b = some j)
    (hpos : 0 < s.bw.sources[(j : Nat)].ahead b) (hle : s.bw.sources[(j : Nat)].ahead b ≤ 2 ^ 31) : exec (.safetyMessage net b) s =
      .next (s.takeMessage net b j s.bw.sources[(j : Nat)].pending) :=
  (exec_safetyMessage htoken hsource).trans (congrArg Host.Outcome.next (if_neg (by omega)))

/-- A demand writes its source's bits and the events; the copy and the number stay (R366). -/
theorem State.messageDemand_source (s : State) (sgo sdc : Bool) (ports : Nat) :
    (s.messageDemand j sgo sdc ports false).bw.sources[(j : Nat)] =
      { s.bw.sources[(j : Nat)] with sgo := sgo, sdc := sdc, ports := ports, timedOut := false, valid := true, lastAt := s.clk.now } := by
  have hset : ∀ (x : Breakwater) f, ({ x with sources := vmod x.sources j f } : Breakwater).applyMessages.sources[(j : Nat)] = f x.sources[(j : Nat)] :=
    fun x f => vmod_same _ _ _
  unfold State.messageDemand
  dsimp only
  split
  · exact hset _ _
  · split <;> split <;> simp [hset, State.modBw]

theorem State.takeMessage_pair (hnet : c.net ≠ net) (hseq : c.seq = rd b 4 4) (hbytes : c.bytes = b) (hage : s.clk.now - c.at_ ≤ msTicks 10) :
    (s.takeMessage net b j (some c)).bw.sources[(j : Nat)].pending = none ∧ (s.takeMessage net b j (some c)).bw.sources[(j : Nat)].lastSeq = rd b 4 4 ∧
      (s.takeMessage net b j (some c)).bw.sources[(j : Nat)].sgo = bit (by8 b 8) 0 := by
  rw [State.takeMessage, if_pos ⟨hnet, hseq⟩, if_pos ⟨hbytes, hage⟩, State.messageDemand_source, State.modSource_source]
  exact ⟨rfl, rfl, rfl⟩

theorem State.takeMessage_mismatch (hnet : c.net ≠ net) (hseq : c.seq = rd b 4 4) (h : c.bytes ≠ b ∨ msTicks 10 < s.clk.now - c.at_) :
    s.takeMessage net b j (some c) = s.modSource j fun x => { x with pending := none, mismatch := satInc 8 x.mismatch } := by
  rw [State.takeMessage, if_pos ⟨hnet, hseq⟩, if_neg]
  rintro ⟨hbytes, hage⟩
  exact h.elim (· hbytes) (Nat.not_lt.2 hage)

theorem exec_safetyMsgPendingExpire (hc : s.bw.sources[(j : Nat)].pending = some c) : exec (.safetyMsgPendingExpire j) s =
    .next (if s.clk.now ≤ c.at_ + msTicks 10 then s
      else s.modSource j fun x => { x with pending := none, single := satInc 8 x.single }) := by
  change execSafetyMsgPendingExpire j s = _
  unfold execSafetyMsgPendingExpire
  rw [Fin.getElem_fin, hc]
  rfl

theorem exec_safetyMsgSend (hown : s.bw.par P_SM_OWN_ID ≠ 0) (htoken : s.bw.token.isSome = true)
    (hdue : s.bw.txAt + msTicks (s.bw.par P_SM_TX_PERIOD) ≤ s.clk.now) : exec .safetyMsgSend s =
      .next (((s.modBw fun x => { x with txSeq := (s.bw.txSeq + 1) % 2 ^ 32, txAt := s.clk.now }).send 0
        (.safety 0 (s.bw.message ((s.bw.txSeq + 1) % 2 ^ 32)))).send 1 (.safety 1 (s.bw.message ((s.bw.txSeq + 1) % 2 ^ 32)))) :=
  if_neg (by simp [hown, Option.isSome_iff_ne_none.1 htoken, Nat.not_lt.2 hdue])

end

/-- Settles O45. -/
theorem safetyMessagesComplete : Obligations.SafetyMessagesComplete := by
  intro s net b j
  simp only [Fin.getElem_fin]
  refine ⟨fun htoken hsource => ?_, fun htoken hsource hpend hpos hle => ?_, fun htoken hsource hold => ?_,
    fun c htoken hsource hpend hnet hseq hbytes hage hpos hle => ?_, fun c htoken hsource hpend hnet hseq hdiffer hpos hle => ?_,
    fun c hc => ⟨fun hlate => ?_, fun hearly => ?_⟩, fun hrx hin hdue => ?_, exec_safetyMsgSend, fun hearly => ?_, fun htoken => ?_⟩
  case refine_1 =>
    change execSafetyMessage net b s = _
    unfold execSafetyMessage
    rw [hsource, if_neg (by simp [Option.isSome_iff_ne_none.1 htoken])]
  case refine_2 => rw [exec_safetyMessage_new htoken hsource hpos hle, hpend]; rfl
  case refine_3 => rw [exec_safetyMessage htoken hsource, MsgSource.ahead, if_pos hold]
  case refine_4 =>
    obtain ⟨hp, hlast, hsgo⟩ := State.takeMessage_pair (s := s) (j := j) hnet hseq hbytes hage
    exact ⟨_, (exec_safetyMessage_new htoken hsource hpos hle).trans (by rw [hpend]), hp, hlast, fun hbit => hsgo.trans hbit⟩
  case refine_5 => rw [exec_safetyMessage_new htoken hsource hpos hle, hpend, State.takeMessage_mismatch hnet hseq hdiffer]; rfl
  case refine_6 => rw [exec_safetyMsgPendingExpire hc, if_neg (Nat.not_le.2 hlate)]; rfl
  case refine_7 => rw [exec_safetyMsgPendingExpire hc, if_pos hearly]
  case refine_8 => exact congrArg Host.Outcome.next (if_neg (by simp [hrx, hin, Nat.not_lt.2 hdue]))
  case refine_9 => exact if_pos (by simp [hearly])
  case refine_10 => exact if_pos (by simp [htoken])

end Sys2Proof.Machine
end

section
/-! The panel, Lookout and the supply (R44, R519 to R522, R538 to R542): the obligation O38. -/
namespace Sys2Proof.Machine

/-! ### The panel and the wake rules (R519, R521) -/

theorem bit_or_two_pow (w i : Nat) : bit (w ||| 2 ^ i) i = true := by simp [bit_eq_testBit]

section
variable {s : State} {k : Fin 4} {r : Fin 16} {u : WakeRule}

/-- Lookout as a rule that fires leaves it (R521, R522). -/
def Lookout.firesRule (k : Lookout) (r : Fin 16) (u : WakeRule) : Lookout :=
  let k1 := { k with fired := k.fired ||| 2 ^ r.val, latched := k.latched ||| 2 ^ r.val }
  if u.action = 2 then { k1 with notes := satInc 32 k1.notes }
  else if k1.waking && decide (k1.lastWake < 0x80 + r.val) then k1
  else { k1 with waking := true, lastWake := 0x80 + r.val }

theorem Lookout.firesRule_marks (k : Lookout) (r : Fin 16) (u : WakeRule) : bit (k.firesRule r u).fired r.val = true ∧
    bit (k.firesRule r u).latched r.val = true := by
  unfold Lookout.firesRule
  dsimp only
  split
  · exact ⟨bit_or_two_pow .., bit_or_two_pow ..⟩
  · split <;> exact ⟨bit_or_two_pow .., bit_or_two_pow ..⟩

theorem Lookout.firesRule_notes (k : Lookout) (r : Fin 16) (h : u.action = 2) :
    (k.firesRule r u).notes = satInc 32 k.notes ∧ (k.firesRule r u).waking = k.waking := by
  rw [Lookout.firesRule, if_pos h]
  exact ⟨rfl, rfl⟩

theorem Lookout.firesRule_wakes (k : Lookout) (r : Fin 16) (h : u.action = 1) : (k.firesRule r u).waking = true := by
  rw [Lookout.firesRule, if_neg (by omega)]
  split
  · next hw => exact (Bool.and_eq_true_iff.1 hw).1
  · rfl

theorem exec_wakeRuleFire (hdev : s.dev = .standby) (hrule : s.lookout.rules[r.val]? = some u) (hlatched : bit s.lookout.latched r.val = false)
    (hmeets : s.lookout.meets u s.clk.now = true) : exec (.wakeRuleFire r) s = .next (s.modLookout (·.firesRule r u)) := by
  change execWakeRuleFire r s = _
  unfold execWakeRuleFire
  rw [hdev, hrule]
  exact congrArg Host.Outcome.next (if_neg (by simp [hlatched, hmeets]))

end

/-! ### Heartwood (R44, R538, R541) -/

theorem maybeBelow_of {v threshold : Nat} (h : v < threshold) : maybeBelow v threshold = true := decide_eq_true (by omega)

theorem maybeAbove_of {v threshold : Nat} (hpos : 0 < v) (h : threshold ≤ v) : maybeAbove v threshold = true := decide_eq_true (by omega)

section
variable {v : Nat} {tb : Int}

theorem gateBudget_full (h : 1600 ≤ v) : gateBudget v = 9600 := by
  have hv : (16 : Rat) ≤ (v : Rat) / 100 := by
    rw [le_div_iff₀ (by norm_num)]
    exact_mod_cast h
  rw [gateBudget, if_pos hv]

/-- At 16 V and a cool baseplate the budget is 96 W (R44). -/
theorem budgetOf_full (hv : 1600 ≤ v) (hb : tb ≤ 1050) : budgetOf v tb = 9600 := by
  have hb' : ((tb : Int) : Rat) ≤ 1050 := by exact_mod_cast hb
  have hge : (1 : Rat) ≤ ((1150 - tb : Int) : Rat) / 100 := by
    rw [le_div_iff₀ (by norm_num)]
    push_cast
    linarith
  have hclamp : ratClamp (((1150 - tb : Int) : Rat) / 100) 0 1 = 1 := by
    rw [ratClamp, if_neg (by linarith)]
    split
    · rfl
    · next hn => exact le_antisymm (not_lt.1 hn) hge
  rw [budgetOf, gateBudget_full hv, hclamp]
  change ⌊(9600 * 1 + 1 / 2 : ℚ)⌋.toNat = 9600
  norm_num
  rfl

/-- At 115 °C of the baseplate there is no budget (R541). -/
theorem budgetOf_hot (hb : 1150 ≤ tb) : budgetOf v tb = 0 := by
  have hb' : (1150 : Rat) ≤ ((tb : Int) : Rat) := by exact_mod_cast hb
  have hle : ((1150 - tb : Int) : Rat) / 100 ≤ 0 := by
    rw [div_le_iff₀ (by norm_num)]
    push_cast
    linarith
  have hclamp : ratClamp (((1150 - tb : Int) : Rat) / 100) 0 1 = 0 := by
    unfold ratClamp
    split
    · rfl
    · next hn =>
      rw [if_neg (by linarith)]
      exact le_antisymm hle (not_lt.1 hn)
  rw [budgetOf, hclamp, mul_zero]
  change ⌊(0 + 1 / 2 : ℚ)⌋.toNat = 0
  norm_num

end

/-- An event writes at the Headlands only. -/
theorem State.raise_only (s : State) (code source arg0 arg1 : Nat) (data : List Nat) :
    s.raise code source arg0 arg1 data = { s with hl := (s.raise code source arg0 arg1 data).hl } := by
  obtain ⟨_, _, h⟩ := s.raise_eq code source arg0 arg1 data
  rw [h]
  rfl

/-- An event of Heartwood's change writes at Heartwood and the Headlands only. -/
theorem State.modHeart_raise (s : State) (f : Heartwood → Heartwood) (code source arg0 arg1 : Nat) (data : List Nat) :
    (s.modHeart f).raise code source arg0 arg1 data = { s with heart := f s.heart, hl := ((s.modHeart f).raise code source arg0 arg1 data).hl } :=
  State.raise_only ..

section
variable (s : State) (v : Nat) (tb : Int)

/-- Heartwood with the budget of a VSUP and a baseplate (R44, R541). -/
def Heartwood.budgeted (h : Heartwood) : Heartwood :=
  { h with
    vsup := v, tBase := tb, budget := budgetOf v tb, derated := decide (v < 1600) || decide (1050 < tb)
    isoLimit := Vector.replicate 12 (islandLimit (budgetOf v tb)) }

theorem State.setBudget_only : s.setBudget v tb = { s with heart := s.heart.budgeted v tb, hl := (s.setBudget v tb).hl } := by
  unfold State.setBudget
  dsimp only
  split
  · exact State.raise_only ..
  · split
    · exact State.raise_only ..
    · rfl

/-- The baseplate is hot above 95 °C, and until it falls below 93 °C (R541). -/
def Heartwood.hotAt (h : Heartwood) : Bool := if 950 < tb then true else if tb < 930 then false else h.baseHot

/-- The budget of a millisecond, with BASE_HOT (R44, R541). -/
def State.updateBudget : State :=
  let s2 := (if s.heart.lockedOut then s.modHeart fun h => { h with tBase := tb }.noBudget v else s.setBudget v tb).modHeart fun h =>
    { h with baseHot := s.heart.hotAt tb }
  if s.heart.hotAt tb && !s.heart.baseHot then s2.raise 0xC6 0x33 (sArg tb) else s2

theorem exec_gateBudgetUpdate : exec (.gateBudgetUpdate v tb) s = .next (s.updateBudget v tb) := rfl

theorem State.updateBudget_locked (h : s.heart.lockedOut = true) : (s.updateBudget v tb).heart.budget = 0 ∧
    (s.updateBudget v tb).heart.isoLimit = Vector.replicate 12 0 := by
  unfold State.updateBudget
  rw [if_pos h]
  split
  · rw [State.raise_heart]
    exact ⟨rfl, rfl⟩
  · exact ⟨rfl, rfl⟩

theorem State.updateBudget_only (h : s.heart.lockedOut = false) : s.updateBudget v tb =
    { s with heart := { s.heart.budgeted v tb with baseHot := s.heart.hotAt tb }, hl := (s.updateBudget v tb).hl } := by
  unfold State.updateBudget
  dsimp only
  rw [if_neg (show ¬ s.heart.lockedOut = true by simp [h]), s.setBudget_only]
  split
  · exact State.raise_only ..
  · rfl

end

/-- Heartwood with an island's drive stopped (R542). -/
def Heartwood.stopIsland (h : Heartwood) (l : Link) (now : Nat) : Heartwood :=
  { h with drive := vset h.drive l false, isoFault := h.isoFault ||| 2 ^ l.val, isoAt := vset h.isoAt l (some now) }

theorem exec_islandSupplyFault {s : State} {l : Link} (hdev : s.dev ≠ .standby) (hbad : s.sk[(l : Nat)].good = false)
    (hiso : s.heart.isoAt[(l : Nat)] = none) (hdue : s.heart.downAt[(l : Nat)] + msTicks 10 ≤ s.clk.now) :
    exec (.islandSupplyFault l) s = .next ((s.modHeart (·.stopIsland l s.clk.now)).raise 0xC7 l.val) :=
  congrArg Host.Outcome.next (if_neg (by simp [hdev, hbad, hiso, Nat.not_lt.2 hdue]))

/-- The state after an island's supply has come up (R209, R264). -/
def State.islandUp (s : State) (l : Link) : State :=
  let s1 := (s.modHeart fun h => { h with drive := vset h.drive l true }).dropSnaps (0x200000 + 0x1000 * l.val) 0x1000
  ((s1.modSk l fun k => { good := true, clockLocal := true, canTx := k.canTx }).modDec l fun d =>
    { d with chans := Vector.replicate 7 {}, head := none }).modUl l fun u => { u with seq := none }

theorem exec_islandPowerGood {s : State} {l : Link} (hdev : s.dev ≠ .standby) (hbad : s.sk[(l : Nat)].good = false)
    (hiso : s.heart.isoAt[(l : Nat)] = none) : exec (.islandPowerGood l) s = .next (s.islandUp l) :=
  if_neg (by simp [hdev, hbad, hiso])

theorem State.islandUp_rest (s : State) (l : Link) : (s.islandUp l).sk = vmod s.sk l (fun k => { good := true, clockLocal := true, canTx := k.canTx }) ∧
    (s.islandUp l).heart.drive = vset s.heart.drive l true ∧ (s.islandUp l).ul = vmod s.ul l (fun u => { u with seq := none }) ∧
    (s.islandUp l).firm = s.firm ∧ (s.islandUp l).hl = s.hl := by
  simp only [State.islandUp, State.modUl, State.modDec, State.modSk, State.dropSnaps, State.modHeart, and_self]

/-- Settles O38. -/
theorem panelSupplyComplete : Obligations.PanelSupplyComplete := by
  refine ⟨fun s k => ?_, fun s l v tb => ?_⟩
  · simp only [Fin.getElem_fin]
    refine ⟨fun hoff => ⟨fun hdev => ?_, fun hdev => ?_⟩, fun hlong => ?_, ⟨_, rfl, rfl, vset_same ..⟩, fun r u hdev hrule hlatched hmeets => ?_, ?_⟩
    · exact (if_neg (by simp [hoff])).trans (congrArg Host.Outcome.next (if_neg hdev))
    · exact (if_neg (by simp [hoff])).trans (congrArg Host.Outcome.next (if_pos hdev))
    · exact ⟨_, congrArg Host.Outcome.next (if_pos hlong), rfl, vset_same ..⟩
    · obtain ⟨hfired, hmark⟩ := s.lookout.firesRule_marks r u
      exact ⟨_, exec_wakeRuleFire hdev hrule hlatched hmeets, rfl, hfired, hmark, s.lookout.firesRule_notes r, s.lookout.firesRule_wakes r⟩
    · by_cases hdev : s.dev = .standby
      · exact ⟨_, congrArg Host.Outcome.next (if_pos hdev), rfl, rfl, fun _ => ⟨rfl, rfl⟩⟩
      · exact ⟨_, congrArg Host.Outcome.next (if_neg hdev), rfl, rfl, fun h => absurd h hdev⟩
  · simp only [Fin.getElem_fin]
    refine ⟨fun hdev hlow hv => ?_, fun hdev hlow hv => ?_, fun hv => ?_, fun hv hdue => ?_, fun hlock => ?_, fun hlock => ?_,
      fun hdev hbad hiso hdue => ?_, fun t0 hdev hiso hdue => ?_, fun hdev hbad hiso => ?_, fun hgood => ?_⟩
    case refine_1 =>
      exact congrArg Host.Outcome.next ((if_neg (by simp [hlow, maybeBelow_of hv])).trans (if_neg hdev))
    case refine_2 =>
      exact congrArg Host.Outcome.next ((if_pos (by simp [hlow, maybeAbove_of (by omega) hv.le])).trans (if_neg hdev))
    case refine_3 => exact congrArg Host.Outcome.next (if_pos (maybeAbove_of (by omega) hv))
    case refine_4 => exact congrArg Host.Outcome.next (if_pos (by simp [maybeBelow_of hv, hdue]))
    case refine_5 => exact ⟨_, exec_gateBudgetUpdate .., s.updateBudget_locked v tb hlock⟩
    case refine_6 =>
      have hheart : (s.updateBudget v tb).heart = { s.heart.budgeted v tb with baseHot := s.heart.hotAt tb } :=
        congrArg State.heart (s.updateBudget_only v tb hlock)
      refine ⟨_, exec_gateBudgetUpdate .., ?_, ?_⟩
      · rw [hheart]
        exact s.updateBudget_only v tb hlock
      · rw [hheart]
        refine ⟨rfl, rfl, fun hv hb => ⟨budgetOf_full hv hb, ?_⟩, budgetOf_hot, fun h => ?_, rfl, fun hb => if_pos hb,
          fun hb => (if_neg (by omega)).trans (if_pos hb)⟩
        · simp [Heartwood.budgeted, Nat.not_lt.2 hv, Int.not_lt.2 hb]
        · rcases h with h | h <;> simp [Heartwood.budgeted, h]
    case refine_7 =>
      have heq := s.modHeart_raise (·.stopIsland l s.clk.now) 0xC7 l.val 0 0 []
      have hheart := congrArg State.heart heq
      refine ⟨_, exec_islandSupplyFault hdev hbad hiso hdue, ?_, ?_, ?_, ?_⟩
      · rw [hheart]; exact vset_same ..
      · rw [hheart]; exact vset_same ..
      · rw [hheart]; exact bit_or_two_pow ..
      · rw [hheart]; exact heq
    case refine_8 => exact congrArg Host.Outcome.next (if_pos (by simp [hdev, hiso, heldFor, hdue]))
    case refine_9 =>
      obtain ⟨hsk, hdrive, hul, hfirm, hhl⟩ := s.islandUp_rest l
      refine ⟨_, exec_islandPowerGood hdev hbad hiso, ?_, ?_, ?_, fun m hm => ?_, hfirm, hhl⟩
      · rw [hsk, vmod_same]
      · rw [hdrive, vset_same]
      · rw [hul, vmod_same]
      · rw [hsk, vmod_other _ _ _ _ (Ne.symm hm)]
    case refine_10 => exact ⟨_, congrArg Host.Outcome.next (if_pos hgood), rfl, vmod_same .., fun m hm => vmod_other _ _ _ _ (Ne.symm hm)⟩

end Sys2Proof.Machine
end

section
/-! Shore and the field side (R503 to R518): the obligation O37. -/
namespace Sys2Proof.Machine

/-! ### One output (R508 to R513) -/

section
variable (s : State) (n : Fin 16) (f : ShoreOut → ShoreOut)

def State.modOut : State := s.modShore fun h => { h with outs := vmod h.outs n f }

theorem State.modOut_out : (s.modOut n f).shore.outs[(n : Nat)] = f s.shore.outs[(n : Nat)] := vmod_same _ _ _

/-- An output that is stuck on stands in SHORE_STUCK (R513). -/
theorem State.shoreLine_stuck (h : s.shore.outs[(n : Nat)].stuckOn = true) :
    s.shoreLine.bw.shoreStuck = true ∧ s.shoreLine.shore.outs[(n : Nat)].stuckOn = true := by
  refine ⟨List.any_eq_true.2 ⟨s.shore.outs[(n : Nat)], ?_, h⟩, h⟩
  exact Vector.mem_toList_iff.2 (Vector.getElem_mem n.isLt)

/-- The driven state of an output after every output has taken its own (R509). -/
theorem Shore.drive_out (h : Shore) (now : Nat) : (h.drive now).outs[(n : Nat)].driven = h.drives h.outs[(n : Nat)] ∧
    (h.drive now).outs[(n : Nat)].demand = h.outs[(n : Nat)].demand ∧ (h.drive now).outs[(n : Nat)].sagLatched = h.outs[(n : Nat)].sagLatched := by
  simp [Shore.drive]

/-- In a sag, or in a silence, no output is driven (R514, R517). -/
theorem Shore.drives_not {h : Shore} (o : ShoreOut) (hoff : h.ok = false ∨ h.silent = true) : h.drives o = false := by
  rcases hoff with hoff | hoff <;> simp [Shore.drives, hoff]

end

/-! ### The test pulse and the suspects (R511 to R513) -/

section
variable {s : State} {n : Fin 16} {v : Nat}

theorem exec_fieldTestPulse_low (hdriven : s.shore.outs[(n : Nat)].driven = true) (hen : bit (s.parN P_OUT_TEST_EN) n.val = true)
    (hown : s.shore.outs[(n : Nat)].jointNext = false) (hlow : bit v n.val = false) : exec (.fieldTestPulse n v false) s =
      .next (((s.explainSuspects n v).modOut n fun o => { o with tested := true, stuckOn := false, unexpected := false }).shoreLine) := by
  refine (if_neg (by simp [hen, hdriven])).trans ((if_neg nofun).trans ((if_neg (by simp [hown])).trans (if_pos (by simp [hlow]))))

/-- A joint pulse that leaves the pin high: the output is stuck on, with its event unless that stood. -/
def State.jointFails (s : State) (n : Fin 16) (v : Nat) : State :=
  let s2 := ((s.explainSuspects n v).modOut n fun o => { o with jointNext := false, stuckOn := true }).shoreLine
  if s.shore.outs[n].stuckOn then s2 else s2.raise 0x81 n.val

theorem exec_fieldTestPulse_joint (hdriven : s.shore.outs[(n : Nat)].driven = true) (hen : bit (s.parN P_OUT_TEST_EN) n.val = true)
    (hjoint : s.shore.outs[(n : Nat)].jointNext = true) (hhigh : bit v n.val = true) : exec (.fieldTestPulse n v false) s =
      .next (s.jointFails n v) :=
  (if_neg (by simp [hen, hdriven])).trans ((if_neg nofun).trans ((if_pos (by simp [hjoint])).trans (if_neg (by simp [hhigh]))))

theorem State.jointFails_stuck : (s.jointFails n v).shore.outs[(n : Nat)].stuckOn = true ∧ (s.jointFails n v).bw.shoreStuck = true := by
  obtain ⟨hline, hout⟩ := State.shoreLine_stuck ((s.explainSuspects n v).modOut n fun o => { o with jointNext := false, stuckOn := true }) n
    (by rw [State.modOut_out])
  unfold State.jointFails
  dsimp only
  split
  · exact ⟨hout, hline⟩
  · simp only [State.raise_shore, State.raise_bw]
    exact ⟨hout, hline⟩

theorem exec_fieldStuckOn (hsuspect : s.shore.outs[(n : Nat)].suspect = true) (hdue : s.shore.outs[(n : Nat)].suspectUntil ≤ s.clk.now) :
    exec (.fieldStuckOn n) s = .next ((s.modOut n fun o => { o with suspect := false, stuckOn := true }).raise 0x81 n.val).shoreLine :=
  if_pos (by simp [hsuspect, hdue])

theorem exec_fieldStuckClear (hoff : s.shore.outs[(n : Nat)].driven = false) (hdue : s.shore.outs[(n : Nat)].changedAt + msTicks 100 ≤ s.clk.now) :
    exec (.fieldStuckClear n) s =
      .next (s.modOut n fun o => { o with suspect := false, stuckOn := false, unexpected := false, readback := false }).shoreLine :=
  if_neg (by simp [hoff, Nat.not_lt.2 hdue])

end

/-! ### The supply of the field side (R503, R514, R515) -/

section
variable (h : Shore) (v now mask : Nat) (n : Fin 16)

/-- Shore in a sag (R514). -/
def Shore.sagged : Shore :=
  let h1 := { h with sag := true, sagAt := now, sagSeen := h.sagSeen || !h.sag, vfield := v }.drive now
  if v < 1200 then h1.powerDown else h1

theorem Shore.sagged_off (hs : h.sag = false) : (h.sagged v now).ok = false ∧ (h.sagged v now).sagSeen = true ∧
    (h.sagged v now).outs[(n : Nat)].driven = false ∧ (v < 1200 → (h.sagged v now).powered = false) := by
  have hdriven : ({ h with sag := true, sagAt := now, sagSeen := h.sagSeen || !h.sag, vfield := v }.drive now).outs[(n : Nat)].driven = false :=
    (Shore.drive_out ..).1.trans (Shore.drives_not _ (.inl (Bool.and_false _)))
  unfold Shore.sagged
  dsimp only
  split
  · exact ⟨rfl, by simp [Shore.powerDown, Shore.drive, hs], by simp [Shore.powerDown], fun _ => rfl⟩
  · next hv => exact ⟨Bool.and_false _, by simp [Shore.drive, hs], hdriven, fun h => absurd h hv⟩

/-- Shore after a sag: an output whose SAG_LATCH bit is set stays off while its demand is on (R514, R515). -/
def Shore.restored : Shore :=
  { h with
    sag := false, vfield := v
    outs := Vector.ofFn fun (n : Fin 16) =>
      { h.outs[n] with sagLatched := h.outs[n].sagLatched || (bit mask n.val && h.outs[n].demand) } }.drive now

theorem Shore.restored_on (hp : h.powered = true) : (h.restored v now mask).ok = true ∧ (h.restored v now mask).vfield = v ∧
    (bit mask n.val = true → h.outs[(n : Nat)].demand = true →
      (h.restored v now mask).outs[(n : Nat)].sagLatched = true ∧ (h.restored v now mask).outs[(n : Nat)].driven = false) := by
  refine ⟨by simp [Shore.restored, Shore.drive, Shore.ok, hp], rfl, fun hmask hdemand => ?_⟩
  obtain ⟨hdriven, -, hlatched⟩ := Shore.drive_out n { h with
    sag := false, vfield := v
    outs := Vector.ofFn fun (n : Fin 16) =>
      { h.outs[n] with sagLatched := h.outs[n].sagLatched || (bit mask n.val && h.outs[n].demand) } } now
  refine ⟨hlatched.trans ?_, hdriven.trans ?_⟩
  · simp [hmask, hdemand]
  · simp [Shore.drives, hmask, hdemand]

theorem exec_fieldSag {s : State} {v : Nat} (hv : v < 1800) (hs : s.shore.sag = false) :
    exec (.fieldSag v) s = .next ((s.modShore (·.sagged v s.clk.now)).raise 0x83 0xFF v) :=
  (if_neg (by omega)).trans (congrArg Host.Outcome.next (if_neg (by simp [hs])))

theorem exec_fieldRestored {s : State} {v : Nat} (hs : s.shore.sag = true) (hp : s.shore.powered = true) (hv : 1950 < v)
    (hdue : s.shore.sagAt + msTicks 10 ≤ s.clk.now) : exec (.fieldRestored v) s =
      .next ((s.modShore (·.restored v s.clk.now (s.parN P_SAG_LATCH))).raise 0x84 0xFF v) :=
  if_neg (by simp [hs, hp, hv, Nat.not_lt.2 hdue])

theorem exec_fieldSidePowerUp {s : State} {v : Nat} (hp : s.shore.powered = false) (hv : 1200 ≤ v) :
    exec (.fieldSidePowerUp v) s = .next (s.modShore (·.powerUp v s.clk.now)).shoreLine :=
  congrArg Host.Outcome.next (if_neg (by simp [hp, Nat.not_lt.2 hv]))

/-- Shore in a silence (R517). -/
def Shore.silenced : Shore := { h with silent := true, silenceSeen := h.silenceSeen || h.ran, toReport := h.toReport || h.ran }.drive now

theorem Shore.silenced_off : (h.silenced now).silent = true ∧ (h.silenced now).outs[(n : Nat)].driven = false :=
  ⟨rfl, (Shore.drive_out ..).1.trans (Shore.drives_not _ (.inr rfl))⟩

theorem exec_shoreSilence {s : State} (hs : s.shore.silent = false) (hp : s.shore.powered = true)
    (hdue : s.shore.lastFrame + usTicks 75 ≤ s.clk.now) : exec .shoreSilence s = .next (s.modShore (·.silenced s.clk.now)) :=
  congrArg Host.Outcome.next (if_neg (by simp [hs, hp, Nat.not_lt.2 hdue]))

end

/-! ### The silence of the host (R518) -/

section
variable (s : State)

/-- What an output demands while the host is silent (R518). -/
def State.silentDemand (n : Fin 16) : Bool :=
  if s.owned n || decide (s.parN (P_OUT_SAFE n) = 2) then s.shore.hostDemand[n] else decide (s.parN (P_OUT_SAFE n) = 1)

theorem exec_hostSilence {s : State} (hawake : s.awake = true) (hsilent : s.shore.hostSilent = false)
    (hdue : s.shore.hostAt + msTicks (10 * s.parN P_HOST_TIMEOUT) ≤ s.clk.now) : exec .hostSilence s =
      .next ((s.modShore fun h => { h with hostSilent := true, hostDemand := Vector.ofFn s.silentDemand }).raise 0x86 0xFF (s.parN P_HOST_TIMEOUT * 10)) :=
  if_neg (by simp [hawake, hsilent, Nat.not_lt.2 hdue])

end

/-! ### The refresh (R503, R505, R506) -/

section
variable (s : State)

/-- What of Shore the inputs of a refresh leave. -/
def State.shorePart : Bool × Nat × Vector ShoreOut 16 := (s.shore.silent, s.shore.lastFrame, s.shore.outs)

theorem State.relatch_shore (p : Port) : (s.relatch p).shore = s.shore := by
  unfold State.relatch
  split <;> rfl

theorem State.button_shore (p : Port) (level : Bool) : (s.button p level).shore = s.shore := by
  unfold State.button
  cases level
  · dsimp only
    rw [if_neg nofun]
    split
    · rfl
    · split
      · exact State.raise_shore ..
      · exact State.raise_shore ..
      · exact (State.relatch_shore ..).trans (State.raise_shore ..)
      · split
        · exact State.raise_shore ..
        · split
          · exact (State.raise_shore ..).trans (State.raise_shore ..)
          · exact State.raise_shore ..
  · rfl

theorem State.breakerSeen_shore (closed : Bool) : (s.breakerSeen closed).shore = s.shore := by
  unfold State.breakerSeen
  split
  · rw [State.raiseSync, State.raise_shore, State.enterForming, State.setDev_shore]
    rfl
  · rfl

theorem State.takeInput_shorePart (n : Fin 16) : (s.takeInput n).shorePart = s.shorePart := by
  have hbuttons : ∀ (t : State) (f : State → Port → Prop) [∀ t p, Decidable (f t p)] (level : Bool),
      (t.eachPort fun t p => if f t p then t.button p level else t).shore = t.shore := fun t f _ level =>
    State.eachPort_view (v := State.shore) (fun t p => by
      split
      · exact State.button_shore ..
      · rfl) t
  have hpart : ∀ {t u : State}, t.shore = u.shore → t.shorePart = u.shorePart := fun h => by simp only [State.shorePart, h]
  unfold State.takeInput
  dsimp only
  split
  · rfl
  · split
    · exact (hpart ((State.breakerSeen_shore ..).trans (hbuttons ..))).trans rfl
    · exact (hpart (hbuttons ..)).trans rfl

/-- Shore as a refresh frame leaves it, before its inputs are seen (R509, R517). -/
def State.freshShore : Shore :=
  { s.shore with
    outs := Vector.ofFn s.refreshOut, silent := false, ran := true, toReport := false, lastFrame := s.clk.now
    release := Vector.replicate 16 false, tideSet := Vector.replicate 16 false }.drive s.clk.now

/-- The state of a refresh before its inputs. -/
def State.refreshing : State :=
  let s1 := (s.modShore fun _ => s.freshShore).modPair s.hd fun p => { p with tookShore := true }
  if s.shore.toReport then s1.raise 0x85 0x31 ((s.clk.now - s.shore.lastFrame) / 400) else s1

theorem State.refresh_eq : s.refresh = (List.finRange 16).foldl State.takeInput s.refreshing := rfl

theorem State.refresh_shorePart : s.refresh.shorePart = s.refreshing.shorePart := by
  rw [State.refresh_eq]
  exact foldl_view (v := State.shorePart) (f := State.takeInput) (fun t n => t.takeInput_shorePart n) _ _

theorem State.refreshing_shore : s.refreshing.shore = s.freshShore := by
  unfold State.refreshing
  dsimp only
  split
  · exact State.raise_shore ..
  · rfl

theorem State.freshShore_applies (n : Fin 16) : s.freshShore.silent = false ∧ s.freshShore.outs[(n : Nat)].demand = s.outDemand n ∧
    s.freshShore.lastFrame = s.clk.now := by
  refine ⟨rfl, (Shore.drive_out ..).2.1.trans ?_, rfl⟩
  rw [Vector.getElem_ofFn]
  rfl

theorem State.refresh_applies (n : Fin 16) : s.refresh.shore.silent = false ∧ s.refresh.shore.outs[(n : Nat)].demand = s.outDemand n ∧
    s.refresh.shore.lastFrame = s.clk.now := by
  have h := s.refresh_shorePart
  simp only [State.shorePart, Prod.mk.injEq] at h
  obtain ⟨hsilent, hlast, houts⟩ := h
  rw [hsilent, hlast, houts, s.refreshing_shore]
  exact s.freshShore_applies n

end

/-- Settles O37. -/
theorem fieldEventsComplete : Obligations.FieldEventsComplete := by
  intro s n v
  simp only [Fin.getElem_fin]
  refine ⟨fun hdriven hdue => ?_, fun hdriven hen hown hlow => ?_, fun hdriven hen hjoint hhigh => ?_, fun hok hoff hnot hdue => ?_,
    fun hsuspect hdue => ?_, fun hoff hdue => ?_, fun hs hv => ?_, fun hs hp hv hdue => ?_, fun hp hv => ?_, fun hs hp hdue => ?_,
    fun hawake hsilent hdue => ?_, fun i hen hvalid => ?_, fun level hp hlevel hdue => ?_, fun h hawake hp htoken => ?_, fun h hawake hp htoken => ?_⟩
  case refine_1 => exact if_pos (by simp only [Fin.getElem_fin, hdriven, Bool.true_and]; exact decide_eq_true hdue)
  case refine_2 =>
    have hout := State.modOut_out (s.explainSuspects n v) n fun o => { o with tested := true, stuckOn := false, unexpected := false }
    exact ⟨_, exec_fieldTestPulse_low hdriven hen hown hlow, congrArg ShoreOut.tested hout, congrArg ShoreOut.stuckOn hout,
      congrArg ShoreOut.unexpected hout⟩
  case refine_3 => exact ⟨_, exec_fieldTestPulse_joint hdriven hen hjoint hhigh, State.jointFails_stuck⟩
  case refine_4 =>
    have hstood : s.shore.outs[(n : Nat)].stood s.clk.now 1000 = true := decide_eq_true hdue
    exact congrArg Host.Outcome.next (if_pos (by simp [hok, hoff, hnot, hstood]))
  case refine_5 =>
    have hout := State.modOut_out s n fun o => { o with suspect := false, stuckOn := true }
    obtain ⟨hline, hstuck⟩ := State.shoreLine_stuck ((s.modOut n fun o => { o with suspect := false, stuckOn := true }).raise 0x81 n.val) n
      (by rw [State.raise_shore, hout])
    exact ⟨_, exec_fieldStuckOn hsuspect hdue, hstuck, hline⟩
  case refine_6 =>
    have hout := State.modOut_out s n fun o => { o with suspect := false, stuckOn := false, unexpected := false, readback := false }
    exact ⟨_, exec_fieldStuckClear hoff hdue, congrArg ShoreOut.stuckOn hout, congrArg ShoreOut.suspect hout, rfl⟩
  case refine_7 =>
    obtain ⟨hok, hseen, hoff, hdown⟩ := s.shore.sagged_off v s.clk.now n hs
    refine ⟨_, exec_fieldSag hv hs, ?_⟩
    rw [State.raise_shore, State.raise_firm]
    exact ⟨hok, hseen, hoff, hdown, rfl⟩
  case refine_8 =>
    refine ⟨_, exec_fieldRestored hs hp hv hdue, ?_⟩
    rw [State.raise_shore]
    exact s.shore.restored_on v s.clk.now (s.parN P_SAG_LATCH) n hp
  case refine_9 =>
    exact ⟨_, exec_fieldSidePowerUp hp hv, rfl, rfl, rfl, congrArg ShoreOut.driven (Vector.getElem_replicate n.isLt)⟩
  case refine_10 =>
    obtain ⟨hsilent, hoff⟩ := s.shore.silenced_off s.clk.now n
    exact ⟨_, exec_shoreSilence hs hp hdue, hsilent, hoff, rfl⟩
  case refine_11 =>
    refine ⟨_, exec_hostSilence hawake hsilent hdue, ?_⟩
    rw [State.raise_shore]
    have hdemand : (Vector.ofFn s.silentDemand)[(n : Nat)] = s.silentDemand n := Vector.getElem_ofFn ..
    refine ⟨rfl, fun hown hsafe => hdemand.trans ?_, fun h => hdemand.trans ?_⟩
    · exact if_neg (by simp [hown, hsafe])
    · exact if_pos (by rcases h with h | h <;> simp [h])
  case refine_12 => exact congrArg Host.Outcome.next (if_pos (by simp [hen, hvalid]))
  case refine_13 => exact congrArg Host.Outcome.next (if_pos (by simp [hp, hlevel, hdue]))
  case refine_14 => exact congrArg Host.Outcome.next ((if_neg (by simp [hawake, hp])).trans (if_neg htoken))
  case refine_15 =>
    exact ⟨_, congrArg Host.Outcome.next ((if_neg (by simp [hawake, hp])).trans (if_pos htoken)), s.refresh_applies n⟩

end Sys2Proof.Machine
end

section
/-! The capture, its stream and the trace (R181, R474 to R489): the obligation O49. -/
namespace Sys2Proof.Machine

/-! ### The trigger and the sample (R476 to R480) -/

section
variable {s : State} {c : Cap}

theorem State.modCap_self (s : State) {f : Cap → Cap} (h : f s.act.cap = s.act.cap) : s.modCap f = s := by
  have hset : vset s.hl s.hd s.hl[s.hd] = s.hl := Vector.set_getElem_self ..
  have hid : s.modCap (fun c => c) = s := congrArg (fun v => ({ s with hl := v } : State)) hset
  exact (State.modCap_congr (g := fun c => c) h).trans hid

theorem State.capTrigger_none (h : s.act.cap.due = none) : s.capTrigger = s := by
  have htrig : s.act.cap.trigger s.act.ptp.valid = s.act.cap := by rw [Cap.trigger, h]
  unfold State.capTrigger
  dsimp only
  rw [h]
  exact s.modCap_self htrig

theorem State.capTrigger_cap {f : CapFire} (h : s.act.cap.due = some f) : s.capTrigger.act.cap = s.act.cap.trigger s.act.ptp.valid := by
  have htrig : (s.act.cap.trigger s.act.ptp.valid).state = .triggered := by rw [Cap.trigger, h]
  have hcap : (s.modCap (·.trigger s.act.ptp.valid)).act.cap = s.act.cap.trigger s.act.ptp.valid := by rw [State.modCap_act]
  have hstate : (s.modCap (·.trigger s.act.ptp.valid)).act.cap.state ≠ .armed := by rw [hcap, htrig]; exact nofun
  unfold State.capTrigger
  dsimp only
  rw [h]
  dsimp only
  split
  · exact (State.raise_cap hstate ..).trans hcap
  · exact hcap

theorem Cap.trigger_fires {f : CapFire} (v : Bool) (h : c.due = some f) : c.trigger v =
    { c with
      state := .triggered, due := none, trigTime := f.time, trigValid := v, trigIndex := some (c.sets.length - 1), forced := f.forced
      maskStop := f.maskStop, ended := f.maskStop || decide (c.cfg.length ≤ c.sets.length)
      maskHit := if c.trigMask.isSome && !f.forced then c.maskHit ||| 2 ^ c.cfg.arg else c.maskHit } := by
  rw [Cap.trigger, h]

/-- The state after a sample instant at which no trigger waits (R474). -/
theorem exec_capSampleInstant (hnow : s.capInstant = true) (hdue : s.act.cap.due = none) : ∃ t, exec .capSampleInstant s = .next t ∧
    t.act.cap = { s.act.cap.sample s.capSet with lastAt := some s.clk.mclk } := by
  refine ⟨s.modCap fun c => { c.sample s.capSet with lastAt := some s.clk.mclk }, ?_, ?_⟩
  · refine congrArg Host.Outcome.next ((if_pos hnow).trans ?_)
    dsimp only
    rw [State.capTrigger_none hdue]
  · rw [State.modCap_act]

theorem Cap.sample_triggered (k : CapSet) (hend : c.ended = false) (hstate : c.state = .triggered) : c.sample k =
    { c with sets := c.sets ++ [k], ended := decide (c.cfg.length ≤ c.sets.length + 1), nextIndex := c.nextIndex + 1 } := by
  simp [Cap.sample, hend, hstate]

theorem Cap.sample_armed (k : CapSet) (hend : c.ended = false) (hstate : c.state = .armed) :
    c.sample k = { c.armedSample k with nextIndex := c.nextIndex + 1 } := by
  simp [Cap.sample, hend, hstate]

theorem Cap.armedSample_hit {k : CapSet} {f : CapFire} (h : c.hit k = some f) :
    c.armedSample k = { c with sets := c.sets ++ [k], fire := none, due := some f } := by
  rw [Cap.armedSample, h]

/-- While nothing triggers, the ring holds no more than PRE samples (R476). -/
theorem Cap.armedSample_ring {k : CapSet} (h : c.hit k = none) (hring : c.sets.length ≤ c.cfg.pre) :
    (c.armedSample k).state = c.state ∧ (c.armedSample k).due = c.due ∧ (c.armedSample k).sets.length ≤ c.cfg.pre := by
  rw [Cap.armedSample, h]
  refine ⟨rfl, rfl, ?_⟩
  simp only [List.length_drop, List.length_append, List.length_singleton]
  omega

end

/-! ### The host's masks and the end of a record (R476, R481) -/

section
variable {s : State} {m : Fin 4}

theorem Cap.violates_triggered {c : Cap} (h : c.violates m = true) : c.state = .triggered := by
  unfold Cap.violates at h
  split at h
  · simp only [Bool.and_eq_true, decide_eq_true_eq] at h
    exact h.1.1.1
  · exact absurd h nofun

/-- The capture after the first violation of a host mask (R481, R482). -/
def Cap.hitMask (c : Cap) (m : Fin 4) (k : CapMask) : Cap :=
  { c with maskHit := c.maskHit ||| 2 ^ m.val, maskStop := c.maskStop || k.stop, ended := c.ended || k.stop }

theorem exec_capMaskHit {k : CapMask} (hk : s.act.cap.masks[(m : Nat)] = some k) (hv : s.act.cap.violates m = true) :
    ∃ t, exec (.capMaskHit m) s = .next t ∧ t.act.cap = s.act.cap.hitMask m k := by
  refine ⟨(s.modCap (·.hitMask m k)).raise 0x58 m.val (s.act.cap.sets.length - 1) s.act.cap.recordNo, ?_, ?_⟩
  · change execCapMaskHit m s = _
    unfold execCapMaskHit
    dsimp only [Fin.getElem_fin]
    rw [hk]
    exact if_neg (by simp [hv])
  · have hcap : (s.modCap (·.hitMask m k)).act.cap = s.act.cap.hitMask m k := by rw [State.modCap_act]
    have hstate : (s.modCap (·.hitMask m k)).act.cap.state ≠ .armed := by
      rw [hcap]
      exact fun h => absurd ((Cap.violates_triggered hv).symm.trans h) nofun
    exact (State.raise_cap hstate ..).trans hcap

theorem exec_capMaskHit_not (h : s.act.cap.violates m = false) : exec (.capMaskHit m) s = .next s := by
  change execCapMaskHit m s = _
  unfold execCapMaskHit
  dsimp only
  split
  · rfl
  · exact if_pos (by simp [h])

/-- The capture as DONE finds it (R476, R486). -/
def Cap.finish (c : Cap) (now : Nat) : Cap :=
  { c with state := .done, ended := false, doneAt := now, meas := (List.range 32).map fun i => measure (c.channelOf i) }

theorem State.capFinish_cap (s : State) : s.capFinish.act.cap = s.act.cap.finish s.clk.now := by
  have hcap : (s.modCap (·.finish s.clk.now)).act.cap = s.act.cap.finish s.clk.now := by rw [State.modCap_act]
  have hstate : (s.modCap (·.finish s.clk.now)).act.cap.state ≠ .armed := by rw [hcap]; exact nofun
  exact (State.raise_cap hstate ..).trans hcap

theorem exec_capRearm (hstate : s.act.cap.state = .done) (hmode : s.act.cap.cfg.mode = 1)
    (hdue : s.act.cap.doneAt + usTicks (max s.act.cap.cfg.holdoff 1000) ≤ s.clk.now) :
    exec .capRearm s = .next (s.modCap (·.arm s.ptpNow s.clk.now)) :=
  congrArg Host.Outcome.next (State.modCap_congr (if_pos ⟨hstate, hmode, hdue⟩))

end

/-! ### The stream (R488, R489) -/

section
variable {s : State} {d : CapStream}

/-- A stream datagram goes out by the networks that its mask names. -/
def State.streamTo (s : State) (d : CapStream) (bytes : List Byte) : State :=
  let out := fun (t : State) (net : Net) => if bit d.nets net.val then t.send net (.stream net d.cls bytes) else t
  out (out s 0) 1

theorem State.streamTo_cap (s : State) (d : CapStream) (bytes : List Byte) : (s.streamTo d bytes).act.cap = s.act.cap := by
  have hone : ∀ (t : State) (net : Net), (if bit d.nets net.val then t.send net (.stream net d.cls bytes) else t).act.cap = t.act.cap := by
    intro t net
    split
    · exact State.send_keeps (g := fun u => u.act.cap) (fun u f => by rw [State.modNet_act]) t net _
    · rfl
  exact (hone _ 1).trans (hone s 0)

/-- Sets of one datagram (R489). -/
def Cap.perDatagram (c : Cap) : Nat := 360 / max 1 c.streamed.length

/-- The first set of a datagram is 1 ms old (R489). -/
def oldEnough (sets : List CapSet) (now : Rat) : Bool := (sets.head?.map fun k => decide (k.ptp + 1000000 ≤ now)).getD false

theorem exec_streamDatagram (hstate : s.act.cap.state = .streaming) (hd : s.act.cap.stream = some d) (hend : s.act.cap.ended = false) :
    exec .streamDatagram s = .next
      (if !(decide (s.act.cap.perDatagram ≤ (s.act.cap.fifo.take s.act.cap.perDatagram).length) ||
          oldEnough (s.act.cap.fifo.take s.act.cap.perDatagram) s.ptpNow) then s
      else (s.streamTo d (s.act.cap.datagram (s.act.cap.fifo.take s.act.cap.perDatagram) false s.act.ptp.valid)).modCap fun c =>
        { c with fifo := c.fifo.drop s.act.cap.perDatagram, lost := 0, streamSent := satInc 32 c.streamSent }) := by
  change execStreamDatagram s = _
  unfold execStreamDatagram
  dsimp only
  rw [hstate, hd]
  dsimp only
  rw [hend, Bool.false_and, Bool.or_false]
  simp only [Bool.false_eq_true, if_false]
  rw [apply_ite Host.Outcome.next]
  rfl

theorem oldEnough_not {k : CapSet} {sets : List CapSet} {now : Rat} (hhead : sets.head? = some k) (h : now < k.ptp + 1000000) :
    oldEnough sets now = false := by
  rw [oldEnough, hhead]
  exact decide_eq_false (not_le.2 h)

theorem exec_streamDatagram_full (hstate : s.act.cap.state = .streaming) (hd : s.act.cap.stream = some d) (hend : s.act.cap.ended = false)
    (hfull : s.act.cap.perDatagram ≤ s.act.cap.fifo.length) : ∃ t, exec .streamDatagram s = .next t ∧
      t.act.cap = { s.act.cap with fifo := s.act.cap.fifo.drop s.act.cap.perDatagram, lost := 0, streamSent := satInc 32 s.act.cap.streamSent } := by
  have hlen : decide (s.act.cap.perDatagram ≤ (s.act.cap.fifo.take s.act.cap.perDatagram).length) = true := by
    rw [List.length_take, Nat.min_eq_left hfull]
    exact decide_eq_true le_rfl
  refine ⟨_, (exec_streamDatagram hstate hd hend).trans (congrArg Host.Outcome.next (if_neg (by rw [hlen]; exact nofun))), ?_⟩
  rw [State.modCap_act, State.streamTo_cap]

theorem exec_streamDatagram_waits {k : CapSet} (hstate : s.act.cap.state = .streaming) (hd : s.act.cap.stream = some d)
    (hend : s.act.cap.ended = false) (hhead : s.act.cap.fifo.head? = some k) (hyoung : s.ptpNow < k.ptp + 1000000)
    (hfew : s.act.cap.fifo.length < s.act.cap.perDatagram) : exec .streamDatagram s = .next s := by
  have htake : s.act.cap.fifo.take s.act.cap.perDatagram = s.act.cap.fifo := List.take_of_length_le hfew.le
  rw [exec_streamDatagram hstate hd hend, htake, oldEnough_not hhead hyoung, decide_eq_false (Nat.not_le.2 hfew)]
  rfl

end

/-- TRACE_TRIGGER (R181). -/
theorem exec_traceTrigger {s : State} (hstate : s.act.trace.state = .armed) (htrig : s.act.trace.trig ≠ 0) (hhit : s.act.trace.hit = true) :
    ∃ t, exec .traceTrigger s = .next t ∧ t.act.trace = s.act.trace.trigger (s.act.trace.steps + 1) ∧ t.firm = s.firm := by
  refine ⟨_, rfl, ?_, rfl⟩
  rw [State.modTrace_act]
  exact if_pos ⟨hstate, htrig, hhit⟩

/-- Settles O49. -/
theorem captureEventsComplete : Obligations.CaptureEventsComplete := by
  intro s m
  simp only [Fin.getElem_fin]
  refine ⟨fun f hdue => ?_, fun hdue => ?_, fun hnow hdue hend hstate => ?_, fun hnow hdue hend hstate hhit hring => ?_,
    fun f hnow hdue hend hstate hhit => ?_, fun hnot => ?_, fun k hk hv => ?_, exec_capMaskHit_not, fun hstate hend => ?_, fun hnot => ?_,
    fun hstate hmode hdue => ?_, fun d hstate hd hend hfull => ?_,
    fun d k hstate hd hend hhead hyoung hfew => exec_streamDatagram_waits hstate hd hend hhead hyoung hfew, fun hstate htrig hhit => ?_⟩
  case refine_1 =>
    refine ⟨_, rfl, ?_⟩
    rw [State.capTrigger_cap hdue, Cap.trigger_fires _ hdue]
    exact ⟨rfl, rfl, rfl, rfl, rfl, rfl, rfl, rfl, rfl⟩
  case refine_2 => exact congrArg Host.Outcome.next (State.capTrigger_none hdue)
  case refine_3 =>
    obtain ⟨t, hexec, hcap⟩ := exec_capSampleInstant hnow hdue
    rw [Cap.sample_triggered _ hend hstate] at hcap
    refine ⟨t, s.capSet, hexec, ?_⟩
    rw [hcap]
    exact ⟨rfl, rfl, rfl, rfl, rfl, hstate, rfl, rfl⟩
  case refine_4 =>
    obtain ⟨t, hexec, hcap⟩ := exec_capSampleInstant hnow hdue
    obtain ⟨harmed, hnone, hlen⟩ := Cap.armedSample_ring hhit hring
    rw [Cap.sample_armed _ hend hstate] at hcap
    refine ⟨t, hexec, ?_⟩
    rw [hcap]
    exact ⟨harmed.trans hstate, hnone.trans hdue, hlen⟩
  case refine_5 =>
    obtain ⟨t, hexec, hcap⟩ := exec_capSampleInstant hnow hdue
    rw [Cap.sample_armed _ hend hstate, Cap.armedSample_hit hhit] at hcap
    refine ⟨t, hexec, ?_⟩
    rw [hcap]
    exact ⟨hstate, rfl, rfl⟩
  case refine_6 => exact congrArg Host.Outcome.next (if_neg (by simp [hnot]))
  case refine_7 =>
    obtain ⟨t, hexec, hcap⟩ := exec_capMaskHit hk hv
    refine ⟨t, hexec, ?_⟩
    rw [hcap]
    exact ⟨rfl, rfl, rfl, rfl, (Cap.violates_triggered (c := s.act.cap) hv :)⟩
  case refine_8 =>
    refine ⟨_, congrArg Host.Outcome.next (if_pos ⟨hstate, hend⟩), ?_⟩
    rw [s.capFinish_cap]
    exact ⟨rfl, rfl, (List.length_map ..).trans List.length_range, rfl, rfl⟩
  case refine_9 => exact congrArg Host.Outcome.next (if_neg (by rcases hnot with hnot | hnot <;> simp [hnot]))
  case refine_10 =>
    refine ⟨_, exec_capRearm hstate hmode hdue, ?_⟩
    rw [State.modCap_act]
    exact ⟨if_neg (by rw [hmode]; decide), rfl, rfl, rfl, rfl⟩
  case refine_11 =>
    obtain ⟨t, hexec, hcap⟩ := exec_streamDatagram_full hstate hd hend hfull
    refine ⟨t, hexec, ?_⟩
    rw [hcap]
    exact ⟨rfl, rfl, rfl, hstate⟩
  case refine_12 =>
    obtain ⟨t, hexec, htrace, hfirm⟩ := exec_traceTrigger hstate htrig hhit
    refine ⟨t, hexec, ?_⟩
    rw [htrace]
    exact ⟨rfl, rfl, rfl, rfl, hfirm⟩

end Sys2Proof.Machine
end

section
/-! The command-link frame (R33, R51, R54, R186, R387, R389, R536): the obligation O25. -/
namespace Sys2Proof.Machine

/-! ### Writes at the generators of a region -/

section
variable {F : State → Port → Pwm → Pwm}

/-- A fold over ports that writes each port's generator from what the generators do not hold: each has its own write. -/
theorem foldl_modPwm_each (hF : ∀ (t : State) v p, F { t with pwm := v } p = F t p) (l : List Port) (hl : l.Nodup) (s : State) :
    ∃ v, l.foldl (fun t p => t.modPwm p (F t p)) s = { s with pwm := v } ∧
      ∀ p : Port, v[(p : Nat)] = if p ∈ l then F s p s.pwm[(p : Nat)] else s.pwm[(p : Nat)] := by
  induction l generalizing s with
  | nil => exact ⟨s.pwm, rfl, fun p => rfl⟩
  | cons q l ih =>
    obtain ⟨hq, hl⟩ := List.nodup_cons.1 hl
    obtain ⟨v, hfold, hv⟩ := ih hl (s.modPwm q (F s q))
    refine ⟨v, hfold, fun p => ?_⟩
    rw [hv p, show F (s.modPwm q (F s q)) p = F s p from hF ..]
    by_cases hp : q = p
    · subst hp
      rw [if_neg hq, if_pos (List.mem_cons_self ..)]
      exact vmod_same ..
    · have hother : (s.modPwm q (F s q)).pwm[(p : Nat)] = s.pwm[(p : Nat)] := vmod_other _ _ _ _ hp
      rw [hother]
      simp [Ne.symm hp]

/-- The same over the ports of a region. -/
theorem State.eachOf_modPwm_each (hF : ∀ (t : State) v p, F { t with pwm := v } p = F t p) (s : State) (k : Shoal) :
    ∃ v, (s.eachOf k fun t p => t.modPwm p (F t p)) = { s with pwm := v } ∧
      ∀ p : Port, v[(p : Nat)] = if shoalOf p = k then F s p s.pwm[(p : Nat)] else s.pwm[(p : Nat)] := by
  obtain ⟨v, hfold, hv⟩ := foldl_modPwm_each hF _ ((List.nodup_finRange 3).map (portOf_injective k)) s
  refine ⟨v, (s.eachOf_eq_foldl k _).trans hfold, fun p => ?_⟩
  simp only [hv p, mem_region]

end

/-! ### One port of a frame (R186, R202, R203) -/

/-- A duty entry at a generator: `room` says that the boundary is 20 ticks away (R187). -/
def Pwm.dutied (w : Pwm) (room : Bool) (d : Vector Nat 4) (tag : Nat) : Pwm :=
  if tag = (w.idx + 1) % 256 ∧ room then
    { w with shadow := some d, dutyRange := w.dutyRange || d.toList.any fun x => decide (0x10000 < x) }
  else { w with staleDuty := true, counters := vset w.counters 3 (satInc 32 w.counters[3]) }

/-- A generator after its port's bits of a frame. -/
def Pwm.framed (w : Pwm) (now : Nat) (room : Bool) (c : CmdPort) : Pwm :=
  let w1 := if c.trip then w.tripNow now else w
  let w2 := match c.duty with
    | some d => w1.dutied room d c.tag
    | none => w1
  { w2 with wantEn := c.gateEn && !c.trip, lines := c }

section
variable (w : Pwm) (now : Nat) (room : Bool) (c : CmdPort)

theorem Pwm.dutied_keeps (d : Vector Nat 4) (tag : Nat) : (w.dutied room d tag).trip = w.trip ∧ (w.dutied room d tag).safe = w.safe := by
  unfold Pwm.dutied
  split <;> exact ⟨rfl, rfl⟩

theorem Pwm.framed_keeps : (w.framed now room c).wantEn = (c.gateEn && !c.trip) ∧ (w.framed now room c).lines = c ∧
    (c.trip = true → (w.framed now room c).trip = true) ∧ (w.safe = true → (w.framed now room c).safe = true) := by
  unfold Pwm.framed
  refine ⟨rfl, rfl, fun htrip => ?_, fun hsafe => ?_⟩
  · rw [if_pos htrip]
    cases c.duty with
    | none => rfl
    | some d => exact (Pwm.dutied_keeps ..).1
  · have hone : (if c.trip then w.tripNow now else w).safe = true := by
      split
      · exact hsafe
      · exact hsafe
    cases c.duty with
    | none => exact hone
    | some d => exact (Pwm.dutied_keeps ..).2.trans hone

theorem Pwm.framed_shadow {d : Vector Nat 4} (htrip : c.trip = false) (hduty : c.duty = some d) (htag : c.tag = (w.idx + 1) % 256) (hroom : room = true) :
    (w.framed now room c).shadow = some d := by
  unfold Pwm.framed
  rw [if_neg (by simp [htrip]), hduty]
  dsimp only
  rw [Pwm.dutied, if_pos ⟨htag, hroom⟩]

theorem vmod_vmod {α : Type} {n : Nat} (v : Vector α n) (i : Fin n) (f g : α → α) : vmod (vmod v i f) i g = vmod v i fun a => g (f a) := by
  simp [vmod, vset]

theorem State.modPwm_ticksToBoundary (s : State) (p q : Port) (f : Pwm → Pwm) : (s.modPwm p f).ticksToBoundary q = s.ticksToBoundary q := rfl

theorem State.framePort_eq (s : State) (p : Port) (c : CmdPort) :
    s.framePort p c = s.modPwm p fun w => w.framed s.clk.now (decide (20 ≤ s.ticksToBoundary p)) c := by
  have hmod : ∀ (t : State) (f g : Pwm → Pwm), (t.modPwm p f).modPwm p g = t.modPwm p fun w => g (f w) := fun t f g =>
    congrArg (fun v => ({ t with pwm := v } : State)) (vmod_vmod t.pwm p f g)
  unfold State.framePort
  dsimp only
  cases hduty : c.duty with
  | none =>
    cases htrip : c.trip
    · simp only [Bool.false_eq_true, if_false]
      refine congrArg (s.modPwm p) (funext fun w => ?_)
      simp [Pwm.framed, hduty, htrip]
    · simp only [if_true, hmod]
      refine congrArg (s.modPwm p) (funext fun w => ?_)
      simp [Pwm.framed, hduty, htrip]
  | some d =>
    cases htrip : c.trip
    · simp only [Bool.false_eq_true, if_false]
      refine (hmod ..).trans (congrArg (s.modPwm p) (funext fun w => ?_))
      simp [Pwm.framed, hduty, htrip, Pwm.dutied]
    · simp only [if_true]
      refine (hmod ..).trans ((hmod ..).trans (congrArg (s.modPwm p) (funext fun w => ?_)))
      simp [Pwm.framed, hduty, htrip, Pwm.dutied, State.modPwm_ticksToBoundary]

end

/-! ### The frame at its Shoal (R51, R54, R387, R389) -/

section
variable (s : State) (k : Shoal)

/-- The Shoal's registers as the holder's frame leaves them. -/
def ShoalSt.framed (h : ShoalSt) (fields : Option AngleFields) (stop : Bool) (sender : Hd) : ShoalSt :=
  { h with
    frameSince := true, holding := false, clockStop := stop
    fields := match fields with
      | some f => h.fields ++ [⟨f, h.tideWait, sender⟩]
      | none => h.fields
    tideWait := if fields.isSome then [] else h.tideWait }

/-- The frame at the Shoal, before its ports. -/
def State.frameShoal : State :=
  let s1 := s.modShoal k (·.framed (s.frameFields k) s.clocks.hd[s.hd].bypass s.hd)
  if s.clocks.hd[s.hd].bypass then s1.regionSafe k else s1

theorem State.takeFrame_eq : s.takeFrame k =
    ((s.frameShoal k).eachOf k fun t p => t.framePort p (s.cmdPort p)).reportHold k := rfl

/-- The region safe state writes at the region's generators and its Shoal. -/
theorem State.regionSafe_writes : ∃ v, s.regionSafe k = { s.modShoal k fun h => { h with safeRegion := true } with pwm := v } ∧
    ∀ p : Port, (shoalOf p ≠ k → v[(p : Nat)] = s.pwm[(p : Nat)]) ∧ (shoalOf p = k → v[(p : Nat)].safe = true) := by
  obtain ⟨v, hfold, hv⟩ := State.eachOf_modPwm_each (F := fun t p w =>
      w.applySafe t.clk.now (decide (t.par (P_REGION_SAFE p) = 1)) (!t.sk[linkOf p].coils[0].fb && !t.sk[linkOf p].coils[1].fb))
    (fun _ _ _ => rfl) (s.modShoal k fun h => { h with safeRegion := true }) k
  refine ⟨v, hfold, fun p => ⟨fun hp => ?_, fun hp => ?_⟩⟩
  · rw [hv, if_neg hp]
    rfl
  · rw [hv, if_pos hp]
    exact Pwm.applySafe_safe ..

/-- What the frame does at its Shoal: the registers, and the safe state where the sender's clock runs on its bypass. -/
theorem State.frameShoal_writes : ∃ h v, s.frameShoal k = { s with shoals := vset s.shoals k h, pwm := v } ∧
    (h = s.shoals[(k : Nat)].framed (s.frameFields k) s.clocks.hd[s.hd].bypass s.hd ∨
      (s.clocks.hd[s.hd].bypass = true ∧
        h = { s.shoals[(k : Nat)].framed (s.frameFields k) s.clocks.hd[s.hd].bypass s.hd with safeRegion := true })) ∧
    ∀ p : Port, (shoalOf p ≠ k → v[(p : Nat)] = s.pwm[(p : Nat)]) ∧
      (s.clocks.hd[s.hd].bypass = false → v[(p : Nat)] = s.pwm[(p : Nat)]) ∧
      (shoalOf p = k → s.clocks.hd[s.hd].bypass = true → v[(p : Nat)].safe = true) := by
  unfold State.frameShoal
  dsimp only
  by_cases hstop : s.clocks.hd[s.hd].bypass = true
  · obtain ⟨v, hsafe, hv⟩ := (s.modShoal k (·.framed (s.frameFields k) s.clocks.hd[s.hd].bypass s.hd)).regionSafe_writes k
    refine ⟨_, v, (if_pos hstop).trans (hsafe.trans ?_), .inr ⟨hstop, rfl⟩, fun p => ⟨fun hp => (hv p).1 hp, fun h => ?_, fun hp _ => (hv p).2 hp⟩⟩
    · exact congrArg (fun x => ({ s with shoals := x, pwm := v } : State))
        (vmod_vmod s.shoals k (·.framed (s.frameFields k) s.clocks.hd[s.hd].bypass s.hd) fun h => { h with safeRegion := true })
    · rw [hstop] at h
      exact absurd h nofun
  · exact ⟨_, s.pwm, if_neg hstop, .inl rfl, fun p => ⟨fun _ => rfl, fun _ => rfl, fun _ h => absurd h hstop⟩⟩

/-- The state in which a region that holds is reported (R389). -/
def State.framedRegion : State := (s.frameShoal k).eachOf k fun t p => t.framePort p (s.cmdPort p)

theorem State.framedRegion_writes : ∃ v, s.framedRegion k = { s.frameShoal k with pwm := v } ∧
    ∀ p : Port, v[(p : Nat)] = if shoalOf p = k then
      (s.frameShoal k).pwm[(p : Nat)].framed s.clk.now (decide (20 ≤ (s.frameShoal k).ticksToBoundary p)) (s.cmdPort p)
      else (s.frameShoal k).pwm[(p : Nat)] := by
  obtain ⟨h, v, heq, -, -⟩ := s.frameShoal_writes k
  have hnow : (s.frameShoal k).clk.now = s.clk.now := by rw [heq]
  obtain ⟨v', hfold, hv'⟩ := State.eachOf_modPwm_each (F := fun t p w => w.framed t.clk.now (decide (20 ≤ t.ticksToBoundary p)) (s.cmdPort p))
    (fun _ _ _ => rfl) (s.frameShoal k) k
  refine ⟨v', ?_, fun p => by rw [hv' p, hnow]⟩
  rw [← hfold, State.framedRegion]
  exact congrArg ((s.frameShoal k).eachOf k) (funext fun t => funext fun p => t.framePort_eq p _)

/-- What a report of a region that holds leaves of the generators and the dies (R389). -/
theorem State.reportHold_keeps {α : Type} {v : State → α} (h : ∀ (t : State) p, v (t.tripPort p .regionHold) = v t) : v (s.reportHold k) = v s := by
  unfold State.reportHold
  split
  · rw [State.eachOf_eq_foldl]
    refine foldl_view (v := v) (fun t p => ?_) _ s
    split
    · exact h t p
    · rfl
  · rfl

theorem State.reportHold_life {p : Port} (hp : shoalOf p ≠ k) : (s.reportHold k).life p = s.life p := by
  have hl : ∀ (l : List Port), p ∉ l → ∀ t : State,
      (l.foldl (fun t p => if (t.life p).admitted && t.pwm[p].safe then t.tripPort p .regionHold else t) t).life p = t.life p := by
    intro l
    induction l with
    | nil => exact fun _ _ => rfl
    | cons q l ih =>
      intro hnot t
      obtain ⟨hq, hl⟩ : p ≠ q ∧ p ∉ l := by simpa using hnot
      rw [List.foldl_cons, ih hl]
      split
      · exact State.tripPort_life_other _ _ _ _ (Ne.symm hq)
      · rfl
  unfold State.reportHold
  split
  · rw [State.eachOf_eq_foldl]
    exact hl _ (fun h => hp (mem_region.1 h)) s
  · rfl

theorem State.reportHold_none {s : State} {k : Shoal} (h : s.shoals[(k : Nat)].safeRegion = false) : s.reportHold k = s := if_neg (by simp [h])

theorem State.reportHold_peer : (s.reportHold k).hl[(s.peer : Nat)] = s.hl[(s.peer : Nat)] := by
  have hkeep : ∀ (t : State) p, ((t.tripPort p .regionHold).hd, (t.tripPort p .regionHold).hl[((t.tripPort p .regionHold).peer : Nat)]) =
      (t.hd, t.hl[(t.peer : Nat)]) := fun t p => by
    obtain ⟨trace, heq⟩ := t.tripPort_eq p .regionHold
    simp only [heq]
    exact congrArg (t.hd, ·) (State.modAct_hl_other _ t.peer_ne_hd.symm)
  have h := State.reportHold_keeps (v := fun t => (t.hd, t.hl[(t.peer : Nat)])) s k hkeep
  simp only [Prod.mk.injEq] at h
  obtain ⟨hhd, hhl⟩ := h
  have hpeer : (s.reportHold k).peer = s.peer := congrArg otherHd hhd
  simpa only [hpeer] using hhl

end

section
variable {s : State} {k : Shoal} {sender : Hd}

theorem State.hd_of_token (h : s.bw.token = some sender) : s.hd = sender := by rw [State.hd, h]; rfl

theorem exec_commandLinkFrame_other (hdev : s.dev ≠ .standby) (h : s.bw.token ≠ some sender) (crc : Bool) :
    exec (.commandLinkFrame k sender crc) s =
      .next (if crc then s.modShoal k fun h => { h with otherFrames := satInc 32 h.otherFrames } else s) :=
  (if_neg hdev).trans (if_pos h)

theorem exec_commandLinkFrame (hdev : s.dev ≠ .standby) (h : s.bw.token = some sender) (crc : Bool) :
    exec (.commandLinkFrame k sender crc) s = .next ((if crc then s.takeFrame k else s).frameSent k) :=
  (if_neg hdev).trans (if_neg (not_not_intro h))

/-- What the Shoal's frame leaves beside the registers and the generators. -/
theorem State.takeFrame_writes (s : State) (k : Shoal) : ∃ h v, s.framedRegion k = { s with shoals := vset s.shoals k h, pwm := v } ∧
    (h = s.shoals[(k : Nat)].framed (s.frameFields k) s.clocks.hd[s.hd].bypass s.hd ∨
      (s.clocks.hd[s.hd].bypass = true ∧
        h = { s.shoals[(k : Nat)].framed (s.frameFields k) s.clocks.hd[s.hd].bypass s.hd with safeRegion := true })) ∧
    ∀ p : Port, (shoalOf p ≠ k → v[(p : Nat)] = s.pwm[(p : Nat)]) ∧
      (shoalOf p = k → ∃ w : Pwm, v[(p : Nat)] = w.framed s.clk.now (decide (20 ≤ s.ticksToBoundary p)) (s.cmdPort p) ∧
        (s.clocks.hd[s.hd].bypass = false → w = s.pwm[(p : Nat)]) ∧ (s.clocks.hd[s.hd].bypass = true → w.safe = true)) := by
  obtain ⟨h, v, heq, hh, hv⟩ := s.frameShoal_writes k
  obtain ⟨v', heq', hv'⟩ := s.framedRegion_writes k
  have hacc : h.acc = s.shoals[(k : Nat)].acc ∧ h.inc = s.shoals[(k : Nat)].inc := by
    rcases hh with rfl | ⟨-, rfl⟩ <;> exact ⟨rfl, rfl⟩
  obtain ⟨hacc, hinc⟩ := hacc
  have hticks : ∀ p : Port, shoalOf p = k → (s.frameShoal k).ticksToBoundary p = s.ticksToBoundary p := by
    rintro p rfl
    have hsh : (s.frameShoal (shoalOf p)).shoals[(shoalOf p : Nat)] = h := by rw [heq]; exact vset_same ..
    have hact : (s.frameShoal (shoalOf p)).act = s.act := by rw [heq]; rfl
    simp only [State.ticksToBoundary, State.carrierPhase, State.parN, State.par, hact, Fin.getElem_fin, hsh, hacc, hinc]
  refine ⟨h, v', heq'.trans (by rw [heq]), hh, fun p => ⟨fun hp => ?_, fun hp => ⟨v[(p : Nat)], ?_, (hv p).2.1, (hv p).2.2 hp⟩⟩⟩
  · rw [hv' p, if_neg hp, heq]
    exact (hv p).1 hp
  · rw [hv' p, if_pos hp]
    simp only [hticks p hp]
    simp only [heq]

/-- What of a state the report of a region that holds cannot change. -/
def State.framePart (s : State) : Vector ShoalSt 4 × Vector Pwm 12 × Vector Skerry 13 × Breakwater × Vector (List AngleFields) 4 ×
    Vector (Option (Vector Nat 4 × Nat)) 12 := (s.shoals, s.pwm, s.sk, s.bw, s.firm.launch, s.firm.dutyOut)

theorem State.reportHold_framePart (s : State) (k : Shoal) : (s.reportHold k).framePart = s.framePart :=
  State.reportHold_keeps (v := State.framePart) s k fun t p => by
    simp only [State.framePart, State.tripPort_shoals, State.tripPort_sk, State.tripPort_bw, State.tripPort_firm, State.tripPort_pwm]
    rfl

/-- The report of a region that holds leaves the other Headland and the other regions' ports; without one, nothing is reported. -/
theorem State.takeFrame_rest (s : State) (k : Shoal) : (∀ p : Port, shoalOf p ≠ k → (s.takeFrame k).life p = s.life p) ∧
    (s.takeFrame k).hl[(s.peer : Nat)] = s.hl[(s.peer : Nat)] ∧
    (s.shoals[(k : Nat)].safeRegion = false → s.clocks.hd[s.hd].bypass = false →
      (s.takeFrame k).hl = s.hl ∧ (s.takeFrame k).firm.life = s.firm.life) := by
  obtain ⟨h, v, heq, hh, -⟩ := s.takeFrame_writes k
  have hpeer : (s.framedRegion k).peer = s.peer := by rw [heq]; rfl
  have hhl : (s.framedRegion k).hl = s.hl := by rw [heq]
  refine ⟨fun p hp => ((s.framedRegion k).reportHold_life k hp).trans (by rw [heq]; rfl), ?_, fun hsafe hstop => ?_⟩
  · have hreport := (s.framedRegion k).reportHold_peer k
    simp only [hpeer, hhl] at hreport
    exact hreport
  · have hregion : (s.framedRegion k).shoals[(k : Nat)].safeRegion = false := by
      simp only [heq, vset_same]
      rcases hh with rfl | ⟨hon, -⟩
      · exact hsafe
      · exact absurd (hon.symm.trans hstop) nofun
    have hnone : s.takeFrame k = s.framedRegion k := State.reportHold_none hregion
    rw [hnone, heq]
    exact ⟨rfl, rfl⟩

/-- The Shoal's registers after the holder's frame (R51, R54, R387). -/
theorem ShoalSt.framed_rest (h : ShoalSt) (fields : Option AngleFields) (stop : Bool) (sender : Hd) :
    (∀ f, fields = some f → (h.framed fields stop sender).fields = h.fields ++ [⟨f, h.tideWait, sender⟩] ∧ (h.framed fields stop sender).tideWait = []) ∧
    (fields = none → (h.framed fields stop sender).fields = h.fields ∧ (h.framed fields stop sender).tideWait = h.tideWait) := by
  refine ⟨?_, ?_⟩
  · rintro f rfl
    exact ⟨rfl, rfl⟩
  · rintro rfl
    exact ⟨rfl, rfl⟩

end

/-- Settles O25. -/
theorem commandFrameComplete : Obligations.CommandFrameComplete := by
  intro s k sender hdev
  simp only [Fin.getElem_fin]
  refine ⟨fun hother => ⟨exec_commandLinkFrame_other hdev hother true, exec_commandLinkFrame_other hdev hother false⟩,
    fun htoken => ⟨exec_commandLinkFrame hdev htoken false, _, exec_commandLinkFrame hdev htoken true, ?_⟩⟩
  obtain rfl := State.hd_of_token htoken
  obtain ⟨h, v, heq, hh, hv⟩ := s.takeFrame_writes k
  obtain ⟨hlife, hpeer, hquiet⟩ := s.takeFrame_rest k
  have hpart : (s.takeFrame k).framePart = (vset s.shoals k h, v, s.sk, s.bw, s.firm.launch, s.firm.dutyOut) :=
    ((s.framedRegion k).reportHold_framePart k).trans (by rw [heq]; rfl)
  simp only [State.framePart, Prod.mk.injEq] at hpart
  obtain ⟨hshoals, hpwm, hsk, hbw, hlaunch, hduty⟩ := hpart
  obtain ⟨hsome, hnone⟩ := s.shoals[(k : Nat)].framed_rest (s.frameFields k) s.clocks.hd[(s.hd : Nat)].bypass s.hd
  have hregs : h.fields = (s.shoals[(k : Nat)].framed (s.frameFields k) s.clocks.hd[(s.hd : Nat)].bypass s.hd).fields ∧
      h.tideWait = (s.shoals[(k : Nat)].framed (s.frameFields k) s.clocks.hd[(s.hd : Nat)].bypass s.hd).tideWait ∧ h.frameSince = true ∧
      h.holding = false ∧ h.clockStop = s.clocks.hd[(s.hd : Nat)].bypass ∧ h.acc = s.shoals[(k : Nat)].acc ∧ h.inc = s.shoals[(k : Nat)].inc := by
    rcases hh with rfl | ⟨-, rfl⟩ <;> exact ⟨rfl, rfl, rfl, rfl, rfl, rfl, rfl⟩
  obtain ⟨hfields, hwait, hsince, hholding, hstop, hacc, hinc⟩ := hregs
  have hshoal : ((s.takeFrame k).frameSent k).shoals[(k : Nat)] = h := by
    change (s.takeFrame k).shoals[(k : Nat)] = h
    rw [hshoals, vset_same]
  have hgen : ∀ p : Port, ((s.takeFrame k).frameSent k).pwm[(p : Nat)] = v[(p : Nat)] := fun p => by
    change (s.takeFrame k).pwm[(p : Nat)] = _
    rw [hpwm]
  simp only [if_true, hshoal, hgen, hfields, hwait, hsince, hholding, hstop, hacc, hinc]
  refine ⟨hsome, hnone, trivial, trivial, trivial, trivial, trivial, fun j => ?_, fun p hp => ⟨(hv p).1 hp, hlife p hp⟩, fun m hm => ?_, hsk, hbw, hpeer, ?_,
    fun p => ?_, hquiet⟩
  · have hj : shoalOf (portOf k j) = k := mem_region.1 (List.mem_map_of_mem (List.mem_finRange j))
    obtain ⟨w, hw, hsame, hsafe⟩ := (hv (portOf k j)).2 hj
    obtain ⟨hen, hlines, htrip, hkeep⟩ := w.framed_keeps s.clk.now (decide (20 ≤ s.ticksToBoundary (portOf k j))) (s.cmdPort (portOf k j))
    rw [hw]
    refine ⟨hen, hlines, htrip, fun hon => hkeep (hsafe hon), fun d tag hon hnotrip hout htag hroom => ?_⟩
    refine Pwm.framed_shadow _ _ _ _ hnotrip ?_ ?_ (decide_eq_true hroom)
    · simp [State.cmdPort, hout]
    · rw [hsame hon, ← htag]
      simp [State.cmdPort, hout]
  · change (s.takeFrame k).shoals[(m : Nat)] = _
    rw [hshoals, vset_other _ _ _ _ (Ne.symm hm)]
  · exact (vmod_same ..).trans (by rw [hlaunch])
  · exact (Vector.getElem_ofFn ..).trans (by simp only [Fin.getElem_fin, hduty])

end Sys2Proof.Machine
end

section
/-! The downlink of a Skerry (R211 to R215, R231, R232, R234). -/
namespace Sys2Proof.Machine

/-! ### The check value of a link (R212) -/

theorem crcByte_lt (width poly : Nat) (refin : Bool) {reg : Nat} (h : reg < 2 ^ width) (b : Byte) : crcByte width poly refin reg b < 2 ^ width := by
  unfold crcByte
  refine List.foldlRecOn (motive := (· < 2 ^ width)) _ _ h fun r _ i _ => ?_
  dsimp only
  split_ifs <;> exact Nat.mod_lt _ (Nat.two_pow_pos _)

theorem crcRun_lt (width poly : Nat) (refin : Bool) {reg : Nat} (h : reg < 2 ^ width) (bs : List Byte) : crcRun width poly refin reg bs < 2 ^ width :=
  List.foldlRecOn (motive := (· < 2 ^ width)) bs _ h fun _ hr b _ => crcByte_lt width poly refin hr b

theorem linkCrc_lt (l : Link) (bytes : List Byte) (len : Nat) : linkCrc l bytes len < 256 ^ 2 :=
  (crcRun_lt 16 0x1021 false (by norm_num) _).trans_eq (by norm_num)

/-- A link's check value does not read its own bytes. -/
theorem linkCrc_append (l : Link) {body : List Byte} {len : Nat} (h : body.length = len + 2) (rest : List Byte) :
    linkCrc l (body ++ rest) len = linkCrc l body len := by
  have hseq : by8 (body ++ rest) 1 = by8 body 1 := by
    rw [by8, by8, List.getD_eq_getElem?_getD, List.getD_eq_getElem?_getD, List.getElem?_append_left (by omega)]
  have htake : ((body ++ rest).drop 2).take len = (body.drop 2).take len := by
    rw [List.drop_append_of_le_length (by omega), List.take_append_of_le_length (by rw [List.length_drop]; omega)]
  rw [linkCrc, linkCrc, hseq, htake]

/-- A frame with its check value at its end is one that a receiver takes (R212). -/
theorem frameGood_of_body {sof seq len : Nat} {l : Link} {body : List Byte} (hlen : body.length = len + 2) (hsof : by8 body 0 = sof)
    (hseq : by8 body 1 = seq) : frameGood sof l (body ++ be 2 (linkCrc l body len)) len (some seq) = true := by
  have hat : ∀ i, i < 2 → by8 (body ++ be 2 (linkCrc l body len)) i = by8 body i := fun i hi => by
    rw [by8, by8, List.getD_eq_getElem?_getD, List.getD_eq_getElem?_getD, List.getElem?_append_left (by omega)]
  have hcrc : rdBe (body ++ be 2 (linkCrc l body len)) (len + 2) 2 = linkCrc l body len := by
    rw [rdBe_append_of_le (by omega), show len + 2 - body.length = 0 by omega]
    have hbe := rdBe_be 2 (linkCrc l body len) []
    rw [List.append_nil] at hbe
    rw [hbe, Nat.mod_eq_of_lt (linkCrc_lt l body len)]
  simp only [frameGood, hat 0 (by decide), hat 1 (by decide), linkCrc_append l hlen, hcrc, hsof, hseq, decide_true, Bool.and_true]

/-! ### The frame that a Shoal forms (Table 7.2) -/

theorem slotBytes_length (slot : DownSlot) (k : Skerry) : (slotBytes slot k).length = 7 := by
  cases slot with
  | none => rfl
  | write addr data => simp [slotBytes]
  | read addr => simp [slotBytes, zeros]
  | can =>
    unfold slotBytes Skerry.nextChunk
    dsimp only
    cases k.canTx[k.canWhole]? with
    | none => rfl
    | some f => simp [zeros]

/-- The Skerry takes the frame that its Shoal forms. -/
theorem State.downlink_good {s : State} {l : Link} (slot : DownSlot) (h : s.ul[(l : Nat)].txSeq < 256) :
    frameGood 0xB3 l (s.downlink l slot) 8 (some s.ul[(l : Nat)].txSeq) = true := by
  refine frameGood_of_body ?_ ?_ ?_
  · simp [slotBytes_length]
  · simp only [List.append_assoc]
    exact by8_le 0xB3 _
  · simp only [List.append_assoc]
    rw [by8_append_of_le (by simp)]
    simp only [le_length]
    exact (by8_le ..).trans (Nat.mod_eq_of_lt h)

/-! ### A good frame at the Skerry (R211, R213, R231, R232) -/

section
variable (k : Skerry) (now cmd : Nat) (b : List Byte)

/-- What every Skerry hears of a good frame (R211, R213). -/
def Skerry.heardPart : Bool × Bool × Bool × Bool × Nat × Nat := (k.gateEn, k.trip, k.clockLocal, k.dlLoss, k.dlRun, k.dlGood)

/-- What a frame's slot leaves of a Skerry. -/
def Skerry.linkPart : (Bool × Bool × Bool × Bool × Nat × Nat) × Vector SkGate 8 × Bool := (k.heardPart, k.gates, k.latchOn)

theorem Skerry.clear_part (off : Nat) (c : Nat → Bool) : (k.clear off c).linkPart = k.linkPart ∧ (k.clear off c).reads = k.reads ∧
    (k.clear off c).coils[0].cmd = k.coils[0].cmd ∧ (k.clear off c).coils[1].cmd = k.coils[1].cmd := by
  unfold Skerry.clear
  dsimp only
  split
  · exact ⟨rfl, rfl, rfl, rfl⟩
  · split
    · exact ⟨rfl, rfl, rfl, rfl⟩
    · exact ⟨rfl, rfl, rfl, rfl⟩

/-- What a frame's slot asks to be read (R210). -/
def askedRead (b : List Byte) : Option Nat := if by8 b 3 = 2 then some (rd b 4 2 % 1024) else none

theorem Skerry.takeSlot_part (isG : Bool) : (k.takeSlot isG b).linkPart = k.linkPart ∧
    (k.takeSlot isG b).reads = (askedRead b, k.reads.1) ∧ (k.takeSlot isG b).coils[0].cmd = k.coils[0].cmd ∧
    (k.takeSlot isG b).coils[1].cmd = k.coils[1].cmd ∧ (isG = true → (k.takeSlot isG b).coils = k.coils) := by
  unfold Skerry.takeSlot askedRead
  dsimp only
  split
  · cases isG with
    | true => exact ⟨rfl, rfl, rfl, rfl, fun _ => rfl⟩
    | false =>
      obtain ⟨hpart, hreads, h0, h1⟩ := Skerry.clear_part { k with reads := (if by8 b 3 = 2 then some (rd b 4 2 % 1024) else none, k.reads.1) }
        (4 * (rd b 4 2 % 1024)) (bit (rd b 6 4))
      exact ⟨hpart, hreads, h0, h1, nofun⟩
  · split
    · split <;> exact ⟨rfl, rfl, rfl, rfl, fun _ => rfl⟩
    · exact ⟨rfl, rfl, rfl, rfl, fun _ => rfl⟩

theorem Skerry.gatesOff_off (g : Gate) : (k.gatesOff now).gates[(g : Nat)].on = false := by
  simp [Skerry.gatesOff, SkGate.turnOff]

/-- A port's Skerry under a command: what every Skerry hears, its drivers, and every gate off without GATE_EN or with TRIP (R215). -/
theorem Skerry.command_part : (k.command now cmd).heardPart = (k.heard cmd).heardPart ∧ (k.command now cmd).reads = k.reads ∧
    (k.command now cmd).coils[0].cmd = bit cmd 5 ∧ (k.command now cmd).coils[1].cmd = bit cmd 4 ∧
    (bit cmd 7 = false ∨ bit cmd 6 = true → ∀ g : Gate, (k.command now cmd).gates[(g : Nat)].on = false) := by
  have habort : ∀ x : Skerry, x.abortDiag.heardPart = x.heardPart ∧ x.abortDiag.reads = x.reads ∧ x.abortDiag.coils = x.coils ∧
      x.abortDiag.gates = x.gates := fun x => by
    unfold Skerry.abortDiag
    split <;> exact ⟨rfl, rfl, rfl, rfl⟩
  unfold Skerry.command
  dsimp only
  by_cases hoff : (!bit cmd 7 || bit cmd 6) = true
  · simp only [hoff, if_true]
    split
    · simp only [habort]
      exact ⟨rfl, rfl, rfl, rfl, fun _ g => Skerry.gatesOff_off ..⟩
    · exact ⟨rfl, rfl, rfl, rfl, fun _ g => Skerry.gatesOff_off ..⟩
  · have hno : ¬ (bit cmd 7 = false ∨ bit cmd 6 = true) := by simpa using hoff
    simp only [hoff]
    split
    · simp only [habort]
      exact ⟨rfl, rfl, rfl, rfl, fun h => absurd h hno⟩
    · exact ⟨rfl, rfl, rfl, rfl, fun h => absurd h hno⟩

theorem Skerry.heard_part : (k.heard cmd).gateEn = bit cmd 7 ∧ (k.heard cmd).trip = bit cmd 6 ∧ (k.heard cmd).dlRun = 0 ∧
    (k.heard cmd).dlGood = min 16 (k.dlGood + 1) ∧ (k.heard cmd).clockLocal = false ∧
    ((k.heard cmd).dlLoss = true ↔ k.dlLoss = true ∧ ¬ ((k.heard cmd).dlGood = 16 ∧ bit cmd 7 = false)) := by
  refine ⟨rfl, rfl, rfl, rfl, rfl, ?_⟩
  unfold Skerry.heard
  dsimp only
  cases bit cmd 7 <;> simp

theorem Skerry.withSeq_part (e : Option Nat) : { k with dlSeq := e }.linkPart = k.linkPart ∧ { k with dlSeq := e }.dlSeq = e ∧
    { k with dlSeq := e }.reads = k.reads ∧ { k with dlSeq := e }.coils = k.coils := ⟨rfl, rfl, rfl, rfl⟩

theorem Skerry.linkPart_ends {x y : Skerry} (h : x.linkPart = y.linkPart) : x.heardPart = y.heardPart ∧ x.gates = y.gates ∧ x.latchOn = y.latchOn := by
  simp only [Skerry.linkPart, Prod.mk.injEq] at h
  exact h

/-- Skerry G under a good frame: what it hears, the SEQ and the read, nothing else (R28). -/
theorem Skerry.goodFrame_spare : (k.goodFrame true now b).heardPart = (k.heard (by8 b 2)).heardPart ∧
    (k.goodFrame true now b).dlSeq = some ((by8 b 1 + 1) % 256) ∧ (k.goodFrame true now b).reads = (askedRead b, k.reads.1) ∧
    (k.goodFrame true now b).coils = k.coils ∧ (k.goodFrame true now b).gates = k.gates ∧ (k.goodFrame true now b).latchOn = k.latchOn := by
  obtain ⟨hpart, hreads, -, -, hcoils⟩ := (k.heard (by8 b 2)).takeSlot_part b true
  obtain ⟨hpart', hseq, hreads', hcoils'⟩ := ((k.heard (by8 b 2)).takeSlot true b).withSeq_part (nextSeq true (by8 b 1) k.dlSeq)
  obtain ⟨hheard, hgates, hlatch⟩ := Skerry.linkPart_ends (hpart'.trans hpart)
  have heq : k.goodFrame true now b = { (k.heard (by8 b 2)).takeSlot true b with dlSeq := nextSeq true (by8 b 1) k.dlSeq } := rfl
  rw [heq]
  exact ⟨hheard, hseq, hreads'.trans hreads, hcoils'.trans (hcoils rfl), hgates, hlatch⟩

/-- A port's Skerry under a good frame: what it hears, the SEQ, the read, its drivers and its gates. -/
theorem Skerry.goodFrame_port : (k.goodFrame false now b).heardPart = (k.heard (by8 b 2)).heardPart ∧
    (k.goodFrame false now b).dlSeq = some ((by8 b 1 + 1) % 256) ∧ (k.goodFrame false now b).reads = (askedRead b, k.reads.1) ∧
    (k.goodFrame false now b).coils[0].cmd = bit (by8 b 2) 5 ∧ (k.goodFrame false now b).coils[1].cmd = bit (by8 b 2) 4 ∧
    (bit (by8 b 2) 7 = false ∨ bit (by8 b 2) 6 = true → ∀ g : Gate, (k.goodFrame false now b).gates[(g : Nat)].on = false) := by
  obtain ⟨hpart, hreads, h0, h1, -⟩ := (k.command now (by8 b 2)).takeSlot_part b false
  obtain ⟨hheard, hreadsC, h0C, h1C, hoff⟩ := k.command_part now (by8 b 2)
  obtain ⟨hpart', hseq, hreads', hcoils'⟩ := ((k.command now (by8 b 2)).takeSlot false b).withSeq_part (nextSeq true (by8 b 1) k.dlSeq)
  obtain ⟨hheard', hgates, -⟩ := Skerry.linkPart_ends (hpart'.trans hpart)
  have heq : k.goodFrame false now b = { (k.command now (by8 b 2)).takeSlot false b with dlSeq := nextSeq true (by8 b 1) k.dlSeq } := rfl
  rw [heq]
  refine ⟨hheard'.trans hheard, hseq, hreads'.trans (hreads.trans (by rw [hreadsC])), ?_, ?_, fun h g => ?_⟩
  · rw [hcoils', h0, h0C]
  · rw [hcoils', h1, h1C]
  · rw [hgates]
    exact hoff h g

/-- A bad or missing frame counts; the fourth in a row is DL_LOSS with every gate off (R212, R213). -/
theorem Skerry.badFrame_part : (k.badFrame now).dlBad = satInc 16 k.dlBad ∧ (k.badFrame now).dlRun = min 4 (k.dlRun + 1) ∧
    (k.badFrame now).dlGood = 0 ∧ (k.badFrame now).gateEn = k.gateEn ∧ (k.badFrame now).dlSeq = k.dlSeq.map (fun e => (e + 1) % 256) ∧
    (3 ≤ k.dlRun → (k.badFrame now).dlLoss = true ∧ (k.badFrame now).clockLocal = true ∧
      ∀ g : Gate, (k.badFrame now).gates[(g : Nat)].on = false) := by
  unfold Skerry.badFrame
  dsimp only
  split
  · next hfour =>
    exact ⟨rfl, rfl, rfl, rfl, rfl, fun _ => ⟨rfl, by simp [Skerry.gatesOff, hfour], fun g => Skerry.gatesOff_off ..⟩⟩
  · next hno => exact ⟨rfl, rfl, rfl, rfl, rfl, fun h => absurd (by omega) hno⟩

/-- The latch driver writes LATCH alone (R234). -/
theorem Skerry.energise_part (clear_ : Bool) : (k.energise now clear_).heardPart = k.heardPart ∧ (k.energise now clear_).dlSeq = k.dlSeq ∧
    (k.energise now clear_).reads = k.reads ∧ (k.energise now clear_).coils = k.coils ∧ (k.energise now clear_).gates = k.gates := by
  unfold Skerry.energise
  split <;> exact ⟨rfl, rfl, rfl, rfl, rfl⟩

end

/-! ### DOWNLINK_FRAME -/

section
variable {s : State} {l : Link} {slot : DownSlot} {noise : List Byte}

/-- The Shoal has sent a frame: its SEQ has been used. -/
def State.sentDown (s : State) (l : Link) : State := s.modUl l fun u => { u with txSeq := (u.txSeq + 1) % 256 }

/-- The Skerry's state after a good frame and its latch driver. -/
def State.heardDown (s : State) (l : Link) (b : List Byte) : State :=
  ((s.sentDown l).modSk l fun _ => s.sk[l].goodFrame (decide (l = linkG)) s.clk.now b).driveLatch l

theorem exec_downlinkFrame_good (hdev : s.dev ≠ .standby) (hpower : s.sk[(l : Nat)].good = true)
    (hgood : frameGood 0xB3 l (noisy (s.downlink l slot) noise) 8 s.sk[(l : Nat)].dlSeq = true) :
    exec (.downlinkFrame l slot noise) s = .next (s.heardDown l (noisy (s.downlink l slot) noise)) :=
  congrArg Host.Outcome.next ((if_neg hdev).trans ((if_neg (by simp [hpower])).trans (if_pos hgood)))

theorem exec_downlinkFrame_bad (hdev : s.dev ≠ .standby) (hpower : s.sk[(l : Nat)].good = true)
    (hbad : frameGood 0xB3 l (noisy (s.downlink l slot) noise) 8 s.sk[(l : Nat)].dlSeq = false) :
    exec (.downlinkFrame l slot noise) s = .next ((s.sentDown l).modSk l fun _ =>
      { s.sk[l].badFrame s.clk.now with reads := (none, s.sk[l].reads.1) }) :=
  congrArg Host.Outcome.next ((if_neg hdev).trans ((if_neg (by simp [hpower])).trans (if_neg (by simp [hbad]))))

theorem State.modSk_modSk (s : State) (l : Link) (f g : Skerry → Skerry) : (s.modSk l f).modSk l g = s.modSk l fun k => g (f k) :=
  congrArg (fun x => ({ s with sk := x } : State)) (vmod_vmod s.sk l f g)

/-- The frame writes at its Skerry and its link register; the latch driver is a port's. -/
theorem State.heardDown_writes (s : State) (l : Link) (b : List Byte) : ∃ k, s.heardDown l b = { s.sentDown l with sk := vset s.sk l k } ∧
    (l = linkG → k = s.sk[(l : Nat)].goodFrame true s.clk.now b) ∧
    (l ≠ linkG → ∃ c, k = (s.sk[(l : Nat)].goodFrame false s.clk.now b).energise s.clk.now c) := by
  unfold State.heardDown State.driveLatch
  cases hp : portOfLink l with
  | none =>
    have hG : l = linkG := by
      by_contra hne
      have hlt : l.val < 12 := by
        have h1 := l.isLt
        have h2 : l.val ≠ 12 := fun h => hne (Fin.ext h)
        omega
      rw [portOfLink, dif_pos hlt] at hp
      exact absurd hp nofun
    exact ⟨_, rfl, fun h => by rw [decide_eq_true h]; rfl, fun h => absurd hG h⟩
  | some p =>
    have hG : l ≠ linkG := by
      rintro rfl
      exact absurd hp nofun
    refine ⟨(s.sk[(l : Nat)].goodFrame false s.clk.now b).energise s.clk.now
      (((s.sentDown l).modSk l fun _ => s.sk[l].goodFrame (decide (l = linkG)) s.clk.now b).latchClear p), ?_, fun h => absurd h hG, fun _ => ⟨_, rfl⟩⟩
    rw [decide_eq_false hG]
    exact State.modSk_modSk (s.sentDown l) ..

end

end Sys2Proof.Machine
end

section
/-! The uplink of a Skerry (R210, R212, R214, R247), and the obligation O31. -/
namespace Sys2Proof.Machine

/-! ### What a frame leaves of the links and the Skerries -/

section
variable (s : State) (l : Link)

/-- The registers of the uplinks and the Skerries. -/
def State.linkRegs : Vector UlLink 13 × Vector Skerry 13 := (s.ul, s.sk)

@[simp] theorem State.raise_linkRegs (code source arg0 arg1 : Nat) (data : List Nat) : (s.raise code source arg0 arg1 data).linkRegs = s.linkRegs := by
  simp [State.linkRegs]

@[simp] theorem State.tripPort_linkRegs (p : Port) (t : Trip) : (s.tripPort p t).linkRegs = s.linkRegs := by simp [State.linkRegs]

/-- The decimators take a frame, with their events: nothing that raising an event leaves is changed (R254). -/
theorem State.feedLink_keeps {α : Type} {v : State → α} (hdec : ∀ (t : State) d, v { t with dec := d } = v t)
    (hraise : ∀ (t : State) code source arg0 arg1 data, v (t.raise code source arg0 arg1 data) = v t) (bytes : Option (List Byte))
    (bad : Fin 7 → Bool) : v (s.feedLink l bytes bad) = v s := by
  unfold State.feedLink
  dsimp only
  refine (foldl_view (v := v) (fun t c => ?_) _ _).trans (hdec ..)
  split
  · exact hraise ..
  · rfl

theorem State.feedLink_linkRegs (bytes : Option (List Byte)) (bad : Fin 7 → Bool) : (s.feedLink l bytes bad).linkRegs = s.linkRegs :=
  State.feedLink_keeps (v := State.linkRegs) s l (fun _ _ => rfl) (fun _ _ _ _ _ _ => State.raise_linkRegs ..) bytes bad

theorem State.legHiz_linkRegs (p : Port) (k : Leg) (code : Nat) : (s.legHiz p k code).linkRegs = s.linkRegs := by
  unfold State.legHiz
  dsimp only
  split
  · split <;> rfl
  · split <;> rfl

theorem State.legEvent_linkRegs (p : Port) (k : Leg) (codes : Leg → Nat) : (s.legEvent p k codes).linkRegs = s.linkRegs := by
  have hraise : ∀ (c : Prop) [Decidable c] (a b d : Nat), (if c then s.raise a b d else s).linkRegs = s.linkRegs := fun c _ a b d => by
    split
    · exact State.raise_linkRegs ..
    · rfl
  unfold State.legEvent
  dsimp only
  split
  · exact hraise ..
  · split
    · exact (State.tripPort_linkRegs ..).trans ((State.raise_linkRegs ..).trans (hraise ..))
    · exact hraise ..

theorem State.portHizSeen_linkRegs (p : Port) (state : Nat) : (s.portHizSeen p state).linkRegs = s.linkRegs := by
  unfold State.portHizSeen
  split
  · exact (State.tripPort_linkRegs ..).trans (State.raise_linkRegs ..)
  · rfl

theorem State.legStates_linkRegs (p : Port) (state : Nat) : (s.legStates p state).linkRegs = s.linkRegs := by
  have hhiz : ∀ (t : State) (f : Leg → Nat), ((List.finRange 4).foldl (fun (t : State) k => t.legHiz p k (f k)) t).linkRegs = t.linkRegs :=
    fun t f => foldl_view (v := State.linkRegs) (fun t k => t.legHiz_linkRegs p k _) _ t
  have hevents : ∀ (t u : State) (f : Leg → Nat), ((List.finRange 4).foldl (fun (t : State) k =>
      if f k = u.firm.legCode[legNo p k] then t else t.legEvent p k f) t).linkRegs = t.linkRegs :=
    fun t u f => foldl_view (v := State.linkRegs) (fun t k => by
      split
      · rfl
      · exact State.legEvent_linkRegs ..) _ t
  unfold State.legStates
  dsimp only
  split
  · exact hhiz ..
  · exact (State.portHizSeen_linkRegs ..).trans ((hevents ..).trans (hhiz ..))

theorem State.dlLossSeen_linkRegs (p : Port) (loss : Bool) : (s.dlLossSeen p loss).linkRegs = s.linkRegs := by
  unfold State.dlLossSeen
  split
  · exact (State.tripPort_linkRegs ..).trans (State.raise_linkRegs ..)
  · rfl

/-- A good frame writes its link's register and no Skerry (R212, R214, R247, R312). -/
theorem State.uplinkGood_linkRegs (b : List Byte) : (s.uplinkGood l b).linkRegs = (s.modUl l (·.goodFrame (decide (l = linkG)) b)).linkRegs := by
  unfold State.uplinkGood
  dsimp only
  split
  · exact State.feedLink_linkRegs ..
  · exact (State.dlLossSeen_linkRegs ..).trans ((State.legStates_linkRegs ..).trans (State.feedLink_linkRegs ..))

theorem State.uplinkLost_linkRegs : (s.uplinkLost l).linkRegs = s.linkRegs := by
  unfold State.uplinkLost
  split
  · rfl
  · split
    · exact (State.tripPort_linkRegs ..).trans (State.raise_linkRegs ..)
    · exact (State.tripAdmitted_view (v := State.linkRegs) _ (fun _ _ _ => State.tripPort_linkRegs ..) _).trans (State.raise_linkRegs ..)

/-- A bad or missing frame writes its link's register and no Skerry. -/
theorem State.uplinkBad_linkRegs : (s.uplinkBad l).linkRegs = (s.modUl l (·.badFrame)).linkRegs := by
  unfold State.uplinkBad
  dsimp only
  split
  · exact (State.uplinkLost_linkRegs ..).trans (State.feedLink_linkRegs ..)
  · exact State.feedLink_linkRegs ..

/-- The fourth bad frame in a row trips the link's port (R214). -/
theorem State.uplinkBad_trips {p : Port} (hrun : s.ul[(l : Nat)].run = 3) (hawake : s.awake = true) (hp : portOfLink l = some p) :
    .uplink ∈ ((s.uplinkBad l).life p).trips ∧ ((s.uplinkBad l).life p).gateEn = false ∧ (s.uplinkBad l).pwm[(p : Nat)].trip = true := by
  have hfirm : ((s.modUl l (·.badFrame)).feedLink l none fun _ => true).firm = s.firm :=
    State.feedLink_keeps (v := State.firm) _ l (fun _ _ => rfl) (fun _ _ _ _ _ _ => State.raise_firm ..) _ _
  have hlost : s.uplinkBad l = ((((s.modUl l (·.badFrame)).feedLink l none fun _ => true).raise 0x4A p.val).tripPort p .uplink) := by
    unfold State.uplinkBad
    dsimp only
    generalize (s.modUl l (·.badFrame)).feedLink l none (fun _ => true) = u at hfirm
    have hu : u.awake = true := by
      rw [State.awake, State.dev, hfirm]
      exact hawake
    rw [Fin.getElem_fin, if_pos hrun, State.uplinkLost, if_neg (by simp [hu]), hp]
  rw [hlost]
  exact ⟨State.mem_tripPort .., by rw [State.tripPort_life]; rfl, by rw [State.tripPort_pwm_of_forces _ _ _ rfl]; rfl⟩

end

/-! ### UPLINK_FRAME -/

section
variable {s : State} {l : Link} {streams noise : List Byte}

/-- The Skerry has formed and sent a frame; its monitors have taken the streams (R234, R311, R341). -/
def State.sentUp (s : State) (l : Link) (streams : List Byte) : State :=
  let sent := s.sk[l].uplink l streams (s.rdData l)
  let took := if l = linkG then s.sk[l] else s.sk[l].takeStreams fun j => (List.range 20).map fun i => streamBit sent j.val i
  { s.modSk l fun _ => took.sentFrame with freeCount := s.freeCount + b2n s.sk[l].reads.2.isSome }

theorem State.sentUp_writes (s : State) (l : Link) (streams : List Byte) : (s.sentUp l streams).ul = s.ul ∧ (s.sentUp l streams).firm = s.firm ∧
    (s.sentUp l streams).sk[(l : Nat)].ulSeq = (s.sk[(l : Nat)].ulSeq + 1) % 256 ∧
    (s.sentUp l streams).sk[(l : Nat)].mseq = (s.sk[(l : Nat)].mseq + 1) % 2 ^ 16 ∧
    ∀ m : Link, m ≠ l → (s.sentUp l streams).sk[(m : Nat)] = s.sk[(m : Nat)] := by
  have hown : ∃ k : Skerry, (s.sentUp l streams).sk = vset s.sk l k.sentFrame ∧ k.ulSeq = s.sk[(l : Nat)].ulSeq ∧ k.mseq = s.sk[(l : Nat)].mseq := by
    by_cases hG : l = linkG
    · exact ⟨_, rfl, by rw [if_pos hG]; exact ⟨rfl, rfl⟩⟩
    · exact ⟨_, rfl, by rw [if_neg hG]; exact ⟨rfl, rfl⟩⟩
  obtain ⟨k, hsk, hul, hmseq⟩ := hown
  refine ⟨rfl, rfl, ?_, ?_, fun m hm => ?_⟩
  · rw [hsk, vset_same, Skerry.sentFrame, hul]
  · rw [hsk, vset_same, Skerry.sentFrame, hmseq]
  · rw [hsk, vset_other _ _ _ _ (Ne.symm hm)]

theorem exec_uplinkFrame (hdev : s.dev ≠ .standby) (hpower : s.sk[(l : Nat)].good = true) : exec (.uplinkFrame l streams noise) s =
    .next (if frameGood 0xD5 l (noisy (s.sk[(l : Nat)].uplink l streams (s.rdData l)) noise) 44 s.ul[(l : Nat)].seq then
      (s.sentUp l streams).uplinkGood l (noisy (s.sk[(l : Nat)].uplink l streams (s.rdData l)) noise)
      else (s.sentUp l streams).uplinkBad l) :=
  if_neg (by simp [hdev, hpower])

theorem State.linkRegs_ends {t u : State} (h : t.linkRegs = u.linkRegs) : t.ul = u.ul ∧ t.sk = u.sk := by
  simp only [State.linkRegs, Prod.mk.injEq] at h
  exact h

end

/-- The two Skerry registers that a downlink frame changes, with all it leaves (R28, R211). -/
theorem State.heardDown_hears (s : State) (l : Link) (b : List Byte) : ∃ k, s.heardDown l b = { s.sentDown l with sk := vset s.sk l k } ∧
    k.heardPart = (s.sk[(l : Nat)].heard (by8 b 2)).heardPart ∧ k.dlSeq = some ((by8 b 1 + 1) % 256) ∧
    k.reads = (askedRead b, s.sk[(l : Nat)].reads.1) ∧
    (l ≠ linkG → k.coils[0].cmd = bit (by8 b 2) 5 ∧ k.coils[1].cmd = bit (by8 b 2) 4 ∧
      (bit (by8 b 2) 7 = false ∨ bit (by8 b 2) 6 = true → ∀ g : Gate, k.gates[(g : Nat)].on = false)) ∧
    (l = linkG → k.coils = s.sk[(l : Nat)].coils ∧ k.gates = s.sk[(l : Nat)].gates ∧ k.latchOn = s.sk[(l : Nat)].latchOn) := by
  obtain ⟨k, heq, hspare, hport⟩ := s.heardDown_writes l b
  refine ⟨k, heq, ?_⟩
  by_cases hG : l = linkG
  · obtain ⟨hheard, hseq, hreads, hcoils, hgates, hlatch⟩ := s.sk[(l : Nat)].goodFrame_spare s.clk.now b
    rw [hspare hG]
    exact ⟨hheard, hseq, hreads, fun h => absurd hG h, fun _ => ⟨hcoils, hgates, hlatch⟩⟩
  · obtain ⟨hheard, hseq, hreads, h0, h1, hoff⟩ := s.sk[(l : Nat)].goodFrame_port s.clk.now b
    obtain ⟨c, rfl⟩ := hport hG
    obtain ⟨eheard, eseq, ereads, ecoils, egates⟩ := (s.sk[(l : Nat)].goodFrame false s.clk.now b).energise_part s.clk.now c
    rw [eheard, eseq, ereads, ecoils, egates]
    exact ⟨hheard, hseq, hreads, fun _ => ⟨h0, h1, hoff⟩, fun h => absurd h hG⟩

/-- Settles O31. -/
theorem islandLinksComplete : Obligations.IslandLinksComplete := by
  refine ⟨?_, ?_⟩
  · rintro s l slot noise b hdev rfl
    simp only [Fin.getElem_fin]
    refine ⟨fun hpower hgood => ?_, fun hpower hbad => ?_, fun hpower => ?_, ?_, ?_, fun h => s.downlink_good slot h⟩
    · obtain ⟨k, heq, hheard, hseq, hreads, hport, hspare⟩ := s.heardDown_hears l (noisy (s.downlink l slot) noise)
      obtain ⟨gen, gtrip, grun, ggood, glocal, gloss⟩ := s.sk[(l : Nat)].heard_part (by8 (noisy (s.downlink l slot) noise) 2)
      simp only [Skerry.heardPart, Prod.mk.injEq] at hheard
      obtain ⟨hen, htrip, hlocal, hloss, hrun, hgoods⟩ := hheard
      have hown : (vset s.sk l k)[(l : Nat)] = k := vset_same ..
      refine ⟨_, (exec_downlinkFrame_good hdev hpower hgood).trans (by rw [heq]), rfl, ?_⟩
      simp only [hown]
      refine ⟨hen.trans gen, htrip.trans gtrip, hrun.trans grun, hgoods.trans ggood, hseq, hlocal.trans glocal, ?_, hreads, hport, hspare,
        congrArg UlLink.txSeq (vmod_same ..), fun m hm => ⟨vset_other _ _ _ _ (Ne.symm hm), vmod_other _ _ _ _ (Ne.symm hm)⟩⟩
      rw [hloss, hgoods]
      exact gloss
    · obtain ⟨hcount, hrun, hgoods, hen, hseq, hfour⟩ := s.sk[(l : Nat)].badFrame_part s.clk.now
      refine ⟨_, exec_downlinkFrame_bad hdev hpower hbad, rfl, ?_⟩
      simp only [State.modSk_same]
      exact ⟨hcount, hrun, hgoods, hen, hseq, hfour⟩
    · exact congrArg Host.Outcome.next ((if_neg hdev).trans (if_pos hpower))
    · exact if_neg hdev
    · exact if_neg hdev
  · rintro s l streams noise b hdev hpower rfl
    simp only [Fin.getElem_fin] at hpower ⊢
    obtain ⟨hulS, hfirmS, hulSeq, hmseq, hothers⟩ := s.sentUp_writes l streams
    refine ⟨fun hgood => ?_, fun hbad => ?_⟩
    · obtain ⟨hul, hsk⟩ := State.linkRegs_ends ((s.sentUp l streams).uplinkGood_linkRegs l
        (noisy (s.sk[(l : Nat)].uplink l streams (s.rdData l)) noise))
      refine ⟨_, (exec_uplinkFrame hdev hpower).trans (congrArg Host.Outcome.next (if_pos hgood)), ?_⟩
      rw [hul, hsk, State.modUl_same, hulS]
      refine ⟨rfl, rfl, rfl, rfl, fun hG => if_neg (by simp [hG]), hulSeq, hmseq, fun m hm => ⟨?_, hothers m hm⟩⟩
      rw [State.modUl_other _ _ _ _ (Ne.symm hm), hulS]
    · obtain ⟨hul, -⟩ := State.linkRegs_ends ((s.sentUp l streams).uplinkBad_linkRegs l)
      refine ⟨_, (exec_uplinkFrame hdev hpower).trans (congrArg Host.Outcome.next (if_neg (by simp [hbad]))), ?_⟩
      rw [hul, State.modUl_same, hulS]
      refine ⟨rfl, rfl, rfl, rfl, fun hrun => ⟨?_, fun hawake p hp => ?_⟩⟩
      · simp [UlLink.badFrame, hrun]
      · exact (s.sentUp l streams).uplinkBad_trips l (by rw [hulS]; exact hrun) (by rw [State.awake, State.dev, hfirmS]; exact hawake) hp

end Sys2Proof.Machine
end

section
/-! The engine's steps (R132, R133, R160 to R176): the obligation O30. -/
namespace Sys2Proof.Machine

/-! ### What the engine's work leaves -/

section
variable {α : Type} {v : State → α}

theorem State.noteStores_keeps (hflags : ∀ (t : State) f, v (t.modFlags f) = v t)
    (hraise : ∀ (t : State) code source arg0 arg1 data, v (t.raise code source arg0 arg1 data) = v t) (s : State) (q15s q31s : List Rat) :
    v (s.noteStores q15s q31s) = v s := by
  have hsat : v (if q15s.any q15Sat || q31s.any q31mSat then s.modFlags fun f => { f with sat := true } else s) = v s := by
    split
    · exact hflags ..
    · rfl
  unfold State.noteStores
  dsimp only
  split
  · exact (hraise ..).trans ((hflags ..).trans hsat)
  · exact hsat

/-- The engine takes up work: pieces dropped, CAPACITY_SHORT, and its own books (R160, R175). -/
theorem State.engineStart_keeps (hdrop : ∀ (t : State) p, v (t.modStep p fun x => { x with dropped := true }) = v t)
    (hflags : ∀ (t : State) f, v (t.modFlags f) = v t) (hact : ∀ (t : State) f, v (t.modAct f) = v t) (n : Nat) (s : State) :
    v (State.engineStart n s) = v s := by
  induction n generalizing s with
  | zero => rfl
  | succ n ih =>
    unfold State.engineStart
    split
    · rfl
    · split
      · rfl
      · dsimp only
        split
        · exact (ih _).trans ((hflags ..).trans (hdrop ..))
        · split
          · rfl
          · exact (hact ..).trans (hact ..)

theorem State.engineNext_keeps (hdrop : ∀ (t : State) p, v (t.modStep p fun x => { x with dropped := true }) = v t)
    (hflags : ∀ (t : State) f, v (t.modFlags f) = v t) (hact : ∀ (t : State) f, v (t.modAct f) = v t) (s : State) (p : Port) :
    v (s.engineNext p) = v s :=
  (State.engineStart_keeps hdrop hflags hact 12 _).trans (hact ..)

end

/-! ### A port's step -/

section
variable (s : State) (p q : Port)

/-- A step without the mark that its work is dropped. -/
def PortStep.kept (x : PortStep) : PortStep := { x with dropped := false }

/-- The step of a port, as the engine's choice of work leaves it. -/
def State.stepKept : PortStep := (s.firm.steps[p]).kept

theorem State.modStep_view {β : Type} {w : PortStep → β} {f : PortStep → PortStep} (hf : ∀ x, w (f x) = w x) :
    w (s.modStep q f).firm.steps[(p : Nat)] = w s.firm.steps[(p : Nat)] := by
  by_cases h : q = p
  · subst h
    exact (congrArg w (vmod_same ..)).trans (hf _)
  · exact congrArg w (vmod_other _ _ _ _ h)

theorem State.engineNext_stepKept : (s.engineNext q).stepKept p = s.stepKept p :=
  State.engineNext_keeps (v := fun t => t.stepKept p) (fun t q => t.modStep_view p q (w := PortStep.kept) fun _ => rfl) (fun _ _ => rfl)
    (fun _ _ => rfl) s q

theorem State.noteStores_firm (q15s q31s : List Rat) : (s.noteStores q15s q31s).firm.steps = s.firm.steps ∧
    (s.noteStores q15s q31s).firm.life = s.firm.life ∧ (s.noteStores q15s q31s).firm.meas = s.firm.meas :=
  ⟨State.noteStores_keeps (v := fun t => t.firm.steps) (fun _ _ => rfl) (fun _ _ _ _ _ _ => congrArg Firm.steps (State.raise_firm ..)) s _ _,
    State.noteStores_keeps (v := fun t => t.firm.life) (fun _ _ => rfl) (fun _ _ _ _ _ _ => congrArg Firm.life (State.raise_firm ..)) s _ _,
    State.noteStores_keeps (v := fun t => t.firm.meas) (fun _ _ => rfl) (fun _ _ _ _ _ _ => congrArg Firm.meas (State.raise_firm ..)) s _ _⟩

/-- What the next step's begin leaves of a step: all but its prediction and its marks (R163, R167). -/
def PortStep.lasting (x : PortStep) : Vector Nat 4 × Bool × Nat × Bool × Option (Nat × Int) :=
  (x.duty, x.committed, x.lateRun, x.specLate, x.oc)

theorem State.nextStep_lasting (arrived : Bool) :
    (s.nextStep p arrived).firm.steps[(p : Nat)].lasting = s.firm.steps[(p : Nat)].lasting ∧ (s.nextStep p arrived).firm.steps[(p : Nat)].passed = false := by
  have hkept : ∀ t : State, (t.engineNext p).firm.steps[(p : Nat)].lasting = t.firm.steps[(p : Nat)].lasting ∧
      (t.engineNext p).firm.steps[(p : Nat)].passed = t.firm.steps[(p : Nat)].passed := fun t =>
    ⟨(congrArg PortStep.lasting (t.engineNext_stepKept p p) :), (congrArg PortStep.passed (t.engineNext_stepKept p p) :)⟩
  have hnote : ∀ c : Prop, ∀ [Decidable c], ∀ l : List Rat, (if c then s.noteStores l [] else s).firm.steps = s.firm.steps := fun c _ l => by
    split
    · exact (s.noteStores_firm l []).1
    · rfl
  have hnext : ∀ (t : State) pred used, t.firm.steps = s.firm.steps →
      ((t.modStep p fun x => x.next pred used).tracePort p).firm.steps[(p : Nat)] = s.firm.steps[(p : Nat)].next pred used := fun t pred used h => by
    refine (vmod_same ..).trans ?_
    rw [h]
  unfold State.nextStep
  dsimp only
  rw [(hkept _).1, (hkept _).2, hnext _ _ _ (hnote ..)]
  exact ⟨rfl, rfl⟩

/-- What the engine's work leaves of the ports' gates and references. -/
def State.gatePart : Vector PortLife 12 × Vector Pwm 12 × Vector Skerry 13 × Vector Share 12 := (s.firm.life, s.pwm, s.sk, s.firm.shares)

@[simp] theorem State.raise_gatePart (code source arg0 arg1 : Nat) (data : List Nat) : (s.raise code source arg0 arg1 data).gatePart = s.gatePart := by
  simp [State.gatePart]

theorem State.noteStores_gatePart (q15s q31s : List Rat) : (s.noteStores q15s q31s).gatePart = s.gatePart :=
  State.noteStores_keeps (v := State.gatePart) (fun _ _ => rfl) (fun _ _ _ _ _ _ => State.raise_gatePart ..) s _ _

theorem State.engineNext_gatePart : (s.engineNext p).gatePart = s.gatePart :=
  State.engineNext_keeps (v := State.gatePart) (fun _ _ => rfl) (fun _ _ => rfl) (fun _ _ => rfl) s p

theorem State.nextStep_gatePart (arrived : Bool) : (s.nextStep p arrived).gatePart = s.gatePart := by
  have hnote : ∀ c : Prop, ∀ [Decidable c], ∀ l : List Rat, (if c then s.noteStores l [] else s).gatePart = s.gatePart := fun c _ l => by
    split
    · exact s.noteStores_gatePart l []
    · rfl
  exact (State.engineNext_gatePart ..).trans (hnote ..)

theorem State.nextStep_dutyOut (arrived : Bool) : (s.nextStep p arrived).firm.dutyOut = s.firm.dutyOut := by
  have hnote : ∀ c : Prop, ∀ [Decidable c], ∀ l : List Rat, (if c then s.noteStores l [] else s).firm.dutyOut = s.firm.dutyOut := fun c _ l => by
    split
    · exact State.noteStores_keeps (v := fun t => t.firm.dutyOut) (fun _ _ => rfl)
        (fun _ _ _ _ _ _ => congrArg Firm.dutyOut (State.raise_firm ..)) s l []
    · rfl
  exact (State.engineNext_keeps (v := fun t => t.firm.dutyOut) (fun _ _ => rfl) (fun _ _ => rfl) (fun _ _ => rfl) _ p).trans (hnote ..)

end

/-! ### The arrival of samples (R133, R162, R165, R171, R172) -/

section
variable (s : State) (p q : Port)

/-- What an arrival leaves once the samples are taken: the samples, the islands, Breakwater, the meter, the time, the leg over its limit. -/
def State.arrivePart : Vector PortMeas 12 × Vector DecLink 13 × Vector Skerry 13 × Breakwater × Meter × Clk × Option (Nat × Int) :=
  (s.firm.meas, s.dec, s.sk, s.bw, s.meter, s.clk, s.firm.steps[p].oc)

theorem State.modStep_arrivePart {f : PortStep → PortStep} (hf : ∀ x, (f x).oc = x.oc) : (s.modStep q f).arrivePart p = s.arrivePart p :=
  congrArg (fun oc => (s.firm.meas, s.dec, s.sk, s.bw, s.meter, s.clk, oc)) (s.modStep_view p q hf)

theorem State.modFlags_arrivePart (f : LawFlags → LawFlags) : (s.modFlags f).arrivePart p = s.arrivePart p := rfl

@[simp] theorem State.raise_arrivePart (code source arg0 arg1 : Nat) (data : List Nat) :
    (s.raise code source arg0 arg1 data).arrivePart p = s.arrivePart p := by
  simp [State.arrivePart]

theorem State.tripPort_arrivePart (t : Trip) : (s.tripPort q t).arrivePart p = s.arrivePart p := by
  obtain ⟨_, h⟩ := s.tripPort_eq q t
  rw [h]
  rfl

theorem State.noteStores_arrivePart (q15s q31s : List Rat) : (s.noteStores q15s q31s).arrivePart p = s.arrivePart p :=
  State.noteStores_keeps (v := (State.arrivePart · p)) (fun _ _ => rfl) (fun _ _ _ _ _ _ => State.raise_arrivePart ..) s _ _

theorem State.engineNext_arrivePart : (s.engineNext q).arrivePart p = s.arrivePart p :=
  State.engineNext_keeps (v := (State.arrivePart · p)) (fun t r => t.modStep_arrivePart p r fun _ => rfl) (fun _ _ => rfl) (fun _ _ => rfl) s q

theorem State.nextStep_arrivePart (arrived : Bool) : (s.nextStep q arrived).arrivePart p = s.arrivePart p := by
  have hnote : ∀ c : Prop, ∀ [Decidable c], ∀ l : List Rat, (if c then s.noteStores l [] else s).arrivePart p = s.arrivePart p := fun c _ l => by
    split
    · exact s.noteStores_arrivePart p l []
    · rfl
  exact (State.engineNext_arrivePart ..).trans ((State.modStep_arrivePart _ _ _ (by intro _; rfl)).trans (hnote ..))

theorem State.commitSpec_arrivePart : (s.commitSpec q).arrivePart p = s.arrivePart p := by
  have hcommit : ∀ (x : PortStep) par tc iref m hiz, (x.commitSpec par tc iref m hiz).oc = x.oc := fun x par tc iref m hiz => by
    unfold PortStep.commitSpec
    split <;> rfl
  unfold State.commitSpec
  dsimp only
  split
  · rfl
  · exact (State.nextStep_arrivePart ..).trans ((State.noteStores_arrivePart ..).trans
      ((State.modFlags_arrivePart ..).trans (State.modStep_arrivePart _ _ _ fun _ => hcommit ..)))

theorem State.implausTrip_arrivePart (check : Nat) : (s.implausTrip q check).arrivePart p = s.arrivePart p :=
  (State.tripPort_arrivePart ..).trans ((State.raise_arrivePart ..).trans (s.modStep_arrivePart p q fun _ => rfl))

theorem State.arriveStep_arrivePart : (s.arriveStep q).arrivePart p = s.arrivePart p := by
  have hjudge : ∀ (x : PortStep) bad, (x.judge bad).oc = x.oc := fun x bad => by
    unfold PortStep.judge
    split <;> rfl
  have harrived : (s.modStep q fun x => { x with arrived := true }).arrivePart p = s.arrivePart p := s.modStep_arrivePart p q fun _ => rfl
  have hjudged : ∀ bad, ((s.modStep q fun x => { x with arrived := true }).modStep q fun x => x.judge bad).arrivePart p = s.arrivePart p :=
    fun bad => (State.modStep_arrivePart _ _ _ fun _ => hjudge _ _).trans harrived
  unfold State.arriveStep
  dsimp only
  split
  · exact (State.engineNext_arrivePart ..).trans ((State.modStep_arrivePart _ _ _ (by intro _; rfl)).trans harrived)
  · have htripped : ∀ (check : Option Nat) (t : State), t.arrivePart p = s.arrivePart p → (match check with
        | some c => if (s.portPar q).plausK ≤ t.firm.steps[q].plausRun then t.implausTrip q c else t
        | none => t).arrivePart p = s.arrivePart p := fun check t ht => by
      cases check with
      | none => exact ht
      | some c =>
        dsimp only
        split
        · exact (State.implausTrip_arrivePart ..).trans ht
        · exact ht
    have hverdict := fun check => htripped check _ (hjudged check.isSome)
    split
    · exact (State.engineNext_arrivePart ..).trans ((State.modStep_arrivePart _ _ _ (by intro _; rfl)).trans (hverdict _))
    · split
      · exact (State.commitSpec_arrivePart ..).trans ((State.modStep_arrivePart _ _ _ (by intro _; rfl)).trans (hverdict _))
      · exact (State.engineNext_arrivePart ..).trans ((State.modStep_arrivePart _ _ _ (by intro _; rfl)).trans (hverdict _))

/-- What the taking of samples leaves: all but the samples, the laws' grid and the decimators. -/
def State.takePart : Vector Skerry 13 × Breakwater × Meter × Clk × Vector Pwm 12 × Vector PortLife 12 × Option (Nat × Int) × Bool :=
  (s.sk, s.bw, s.meter, s.clk, s.pwm, s.firm.life, s.firm.steps[p].oc, s.firm.steps[p].arrived)

@[simp] theorem State.raise_takePart (code source arg0 arg1 : Nat) (data : List Nat) :
    (s.raise code source arg0 arg1 data).takePart p = s.takePart p := by
  simp [State.takePart]

theorem State.noteStores_takePart (q15s q31s : List Rat) : (s.noteStores q15s q31s).takePart p = s.takePart p :=
  State.noteStores_keeps (v := (State.takePart · p)) (fun _ _ => rfl) (fun _ _ _ _ _ _ => State.raise_takePart ..) s _ _

theorem State.modStep_takePart {f : PortStep → PortStep} (hoc : ∀ x, (f x).oc = x.oc) (harr : ∀ x, (f x).arrived = x.arrived) :
    (s.modStep q f).takePart p = s.takePart p := by
  simp only [State.takePart, Prod.mk.injEq]
  exact ⟨rfl, rfl, rfl, rfl, rfl, rfl, s.modStep_view p q hoc, s.modStep_view p q harr⟩

theorem State.takeGrid_takePart (late : Bool) : (s.takeGrid late).takePart p = s.takePart p := by
  have hif : ∀ (c : Bool) (u : State), u.takePart p = s.takePart p → (if c then u else s).takePart p = s.takePart p := fun c u hu => by
    cases c
    · rfl
    · exact hu
  unfold State.takeGrid
  exact hif _ _ ((State.noteStores_takePart ..).trans rfl)

theorem State.takePort_takePart : (s.takePort q).takePart p = s.takePart p := by
  unfold State.takePort
  dsimp only
  exact (State.modStep_takePart _ _ _ (by intro _; rfl) (by intro _; rfl)).trans ((State.noteStores_takePart ..).trans
    ((rfl : _ = ((s.takeGrid false).takePart p)).trans (s.takeGrid_takePart p false)))

end

end Sys2Proof.Machine
end

section
/-! The obligation O30: the engine's commands (R133, R160 to R176). -/
namespace Sys2Proof.Machine

section
variable {s : State} {p : Port}

/-! ### SAMPLES_ARRIVE -/

/-- The limits of a port are counted on the samples taken (R132, R133). -/
def State.limited (t : State) (p : Port) : State :=
  let s2 := t.modStep p fun x => { x with oc := x.oc.or (t.ocLeg p) }
  if t.neutralValid p then s2.neutralStep p else s2

/-- The samples of a port have been taken and its limits counted. -/
def State.sampled (s : State) (p : Port) : State := (s.takePort p).limited p

theorem exec_samplesArrive (hawake : s.awake = true) (hrun : s.act.engine.run = true) : exec (.samplesArrive p) s =
    .next (if !(s.sampled p).firm.meas[p].valid || !(s.sampled p).stepping p || (s.sampled p).firm.steps[p].arrived ||
      !(s.sampled p).firm.steps[p].passed then s.sampled p else (s.sampled p).arriveStep p) :=
  if_neg (by simp [hawake, hrun])

theorem State.modStep_same (s : State) (p : Port) (f : PortStep → PortStep) : (s.modStep p f).firm.steps[(p : Nat)] = f s.firm.steps[(p : Nat)] :=
  vmod_same ..

/-- The limits write the port's step and its share alone. -/
theorem State.limited_writes (t : State) (p : Port) : (t.limited p).arrivePart p =
    (t.firm.meas, t.dec, t.sk, t.bw, t.meter, t.clk, t.firm.steps[(p : Nat)].oc.or (t.ocLeg p)) ∧ (t.limited p).firm.life = t.firm.life ∧
    (t.limited p).pwm = t.pwm ∧ (t.limited p).firm.steps[(p : Nat)].arrived = t.firm.steps[(p : Nat)].arrived := by
  have hmod : ∀ f : PortStep → PortStep, (t.modStep p f).arrivePart p = (t.firm.meas, t.dec, t.sk, t.bw, t.meter, t.clk, (f t.firm.steps[(p : Nat)]).oc) :=
    fun f => congrArg (fun x : PortStep => (t.firm.meas, t.dec, t.sk, t.bw, t.meter, t.clk, x.oc)) (t.modStep_same p f)
  have hneutral : ∀ u : State, (u.neutralStep p).arrivePart p = u.arrivePart p ∧ (u.neutralStep p).firm.life = u.firm.life ∧
      (u.neutralStep p).pwm = u.pwm ∧ (u.neutralStep p).firm.steps = u.firm.steps := fun u => ⟨rfl, rfl, rfl, rfl⟩
  unfold State.limited
  dsimp only
  split
  · simp only [hneutral, hmod, State.modStep_same, true_and, and_true]
    exact ⟨rfl, rfl⟩
  · rw [hmod, State.modStep_same]
    exact ⟨rfl, rfl, rfl, rfl⟩

theorem State.sampled_takes (s : State) (p : Port) : (s.sampled p).arrivePart p = ((s.takePort p).firm.meas, (s.takePort p).dec, s.sk, s.bw, s.meter,
    s.clk, s.firm.steps[(p : Nat)].oc.or ((s.takePort p).ocLeg p)) ∧ (s.sampled p).firm.life = s.firm.life ∧ (s.sampled p).pwm = s.pwm ∧
    (s.sampled p).firm.steps[(p : Nat)].arrived = s.firm.steps[(p : Nat)].arrived := by
  have htake := s.takePort_takePart p p
  simp only [State.takePart, Prod.mk.injEq, Fin.getElem_fin] at htake
  obtain ⟨hsk, hbw, hmeter, hclk, hpwm, hlife, hoc, harr⟩ := htake
  obtain ⟨hpart, hlife', hpwm', harr'⟩ := (s.takePort p).limited_writes p
  refine ⟨hpart.trans ?_, hlife'.trans hlife, hpwm'.trans hpwm, harr'.trans harr⟩
  rw [hsk, hbw, hmeter, hclk, hoc]

/-! ### The engine's pieces of work (R160, R163, R165) -/

theorem State.workDone_of {again : Bool} {t0 : Nat} (hrun : s.act.engine.running = some (p, again, t0)) (hdue : t0 ≤ s.clk.now) :
    s.workDone p again = true := by
  rw [State.workDone, hrun]
  exact decide_eq_true ⟨rfl, rfl, hdue⟩

theorem State.workOf_spec (hstep : s.stepping p = true) (hdrop : s.firm.steps[(p : Nat)].dropped = false)
    (hrec : s.firm.steps[(p : Nat)].recompute = false) (hpred : s.firm.steps[(p : Nat)].pred.isSome = true)
    (hspec : s.firm.steps[(p : Nat)].spec = none) (hen : (s.portPar p).specEn = true) (harr : s.firm.steps[(p : Nat)].arrived = false) :
    s.workOf p = some false := by
  simp [State.workOf, hstep, hdrop, hrec, hpred, hspec, hen, harr]

theorem State.workOf_recompute (hstep : s.stepping p = true) (hdrop : s.firm.steps[(p : Nat)].dropped = false)
    (hrec : s.firm.steps[(p : Nat)].recompute = true) : s.workOf p = some true := by
  simp [State.workOf, hstep, hdrop, hrec]

/-- The step on predicted samples has run (R163, R168). -/
def State.speculated (s : State) (p : Port) (pred : Vector Rat 3 × Vector Rat 3 × Rat) : State :=
  let o := portLoops (s.portPar p) s.carrierPeriod s.firm.shares[p].iref pred.1 pred.2.1 s.firm.steps[p].integ pred.2.2 (s.hizOf p)
  s.modStep p fun y => { y with spec := some (o.duty, o.overmod, o.ei, o.vc), specStores := o.stores, lastSpec := (o.duty, o.ei, o.vc) }

theorem exec_specStepComplete {x : Vector Rat 3 × Vector Rat 3 × Rat} (hpred : s.firm.steps[(p : Nat)].pred = some x)
    (hdone : s.workDone p false = true) (hwork : s.workOf p = some false) (hinside : s.firm.steps[(p : Nat)].inside = false) :
    exec (.specStepComplete p) s = .next ((s.speculated p x).engineNext p) := by
  obtain ⟨iHat, vHat, dcHat⟩ := x
  change execSpecStepComplete p s = _
  unfold execSpecStepComplete
  dsimp only [Fin.getElem_fin]
  rw [hpred]
  exact (if_neg (by simp [hdone, hwork])).trans (congrArg Host.Outcome.next (if_neg (by simp [hinside])))

/-- The recompute has been committed and its duties wait for the Shoal (R165, R175). -/
def State.recomputed (s : State) (p : Port) : State :=
  let x := s.firm.steps[p]
  let m := s.firm.meas[p]
  let ip : Vector Rat 3 := #v[m.ip[0], m.ip[1], m.ip[2]]
  let o := portLoops (s.portPar p) s.carrierPeriod s.firm.shares[p].iref ip x.vff x.integ m.vdc (s.hizOf p)
  let s1 := (((s.modStep p fun y => y.commitRecompute o).modFlags fun f => { f with overmod := f.overmod || o.overmod }).noteStores o.stores []).spend 160
  (s1.traceSource 2 p.val).launchDuty p

theorem exec_recomputeComplete (hdone : s.workDone p true = true) (hwork : s.workOf p = some true) :
    exec (.recomputeComplete p) s = .next ((s.recomputed p).nextStep p true) := if_neg (by simp [hdone, hwork])

/-- Duties wait for the Shoal with the number of the period that they are for (R186). -/
theorem State.launchDuty_out (s : State) (p : Port) : (s.launchDuty p).firm.dutyOut[(p : Nat)] =
    some (s.firm.steps[(p : Nat)].duty, (s.pwm[(p : Nat)].idx + 1) % 256) := vset_same ..

theorem State.recomputed_commits (s : State) (p : Port) : (s.recomputed p).firm.steps[(p : Nat)].committed = true ∧
    (s.recomputed p).firm.steps[(p : Nat)].lateRun = 0 ∧ (s.recomputed p).gatePart = s.gatePart ∧
    (s.recomputed p).firm.dutyOut[(p : Nat)] = some ((s.recomputed p).firm.steps[(p : Nat)].duty, (s.pwm[(p : Nat)].idx + 1) % 256) := by
  have hnote : ∀ (t : State) (l : List Rat), (((t.noteStores l []).spend 160).traceSource 2 p.val).firm.steps = t.firm.steps ∧
      (((t.noteStores l []).spend 160).traceSource 2 p.val).gatePart = t.gatePart := fun t l =>
    ⟨(t.noteStores_firm l []).1, t.noteStores_gatePart l []⟩
  have hout : ∀ (t : State), (t.launchDuty p).firm.steps = t.firm.steps ∧ (t.launchDuty p).gatePart = t.gatePart := fun t => ⟨rfl, rfl⟩
  have hcommit : ∀ (t : State) (f : PortStep → PortStep) g l, (((((t.modStep p f).modFlags g).noteStores l []).spend 160).traceSource 2 p.val).firm.steps =
      vmod t.firm.steps p f := fun t f g l => (hnote _ l).1
  have hgates : ∀ (t : State) (f : PortStep → PortStep) g l, (((((t.modStep p f).modFlags g).noteStores l []).spend 160).traceSource 2 p.val).gatePart =
      t.gatePart := fun t f g l => (hnote _ l).2
  have hpwm : ∀ {t u : State}, t.gatePart = u.gatePart → t.pwm = u.pwm := fun h => by
    simp only [State.gatePart, Prod.mk.injEq] at h
    exact h.2.1
  unfold State.recomputed
  dsimp only
  rw [State.launchDuty_out, (hout _).1, (hout _).2, hcommit, hgates, hpwm (hgates ..), vmod_same]
  exact ⟨rfl, rfl, rfl, rfl⟩

/-! ### COMMIT_DEADLINE (R162, R170) -/

/-- A late step, with its event. -/
def State.lateStep (s : State) (p : Port) : State :=
  let short := (s.workOf p).isSome && !s.act.engine.running.any fun r => r.1 = p
  ((s.modStep p (·.late)).modFlags fun f => { f with capacityShort := f.capacityShort || short }).raise 0x50 p.val (min 3 (s.firm.steps[p].lateRun + 1))

/-- The third late step in a row trips the port (R170). -/
def State.lateTrips (s : State) (p : Port) : State :=
  if 3 ≤ s.firm.steps[p].lateRun + 1 then ((s.lateStep p).raise 0x51 p.val 3).tripPort p .late else s.lateStep p

theorem exec_commitDeadline (hstep : s.stepping p = true) (hcommit : s.firm.steps[(p : Nat)].committed = false)
    (hpass : s.firm.steps[(p : Nat)].passed = true) (hdue : s.ticksToBoundary p ≤ 240) :
    exec (.commitDeadline p) s = .next (((s.lateTrips p).traceSource 3 p.val).nextStep p s.firm.steps[p].arrived) :=
  if_neg (by simp [hstep, hcommit, hpass, Nat.not_lt.2 hdue])

theorem exec_commitDeadline_not (h : s.firm.steps[(p : Nat)].committed = true ∨ s.firm.steps[(p : Nat)].passed = false ∨ 240 < s.ticksToBoundary p) :
    exec (.commitDeadline p) s = .next s := if_pos (by rcases h with h | h | h <;> simp [h])

theorem State.lateStep_writes (s : State) (p : Port) : (s.lateStep p).firm.steps[(p : Nat)] = s.firm.steps[(p : Nat)].late ∧
    (s.lateStep p).gatePart = s.gatePart := by
  unfold State.lateStep
  dsimp only
  rw [State.raise_firm, State.raise_gatePart]
  exact ⟨vmod_same .., rfl⟩

theorem State.lateTrips_writes (s : State) (p : Port) : (s.lateTrips p).firm.steps[(p : Nat)] = s.firm.steps[(p : Nat)].late ∧
    (3 ≤ s.firm.steps[(p : Nat)].lateRun + 1 → .late ∈ ((s.lateTrips p).life p).trips ∧ ((s.lateTrips p).life p).gateEn = false ∧
      (s.lateTrips p).pwm[(p : Nat)].trip = true) ∧
    (s.firm.steps[(p : Nat)].lateRun + 1 < 3 → (s.lateTrips p).gatePart = s.gatePart) := by
  obtain ⟨hstep, hgate⟩ := s.lateStep_writes p
  by_cases h : 3 ≤ s.firm.steps[(p : Nat)].lateRun + 1
  · have heq : s.lateTrips p = ((s.lateStep p).raise 0x51 p.val 3).tripPort p .late := if_pos h
    rw [heq]
    refine ⟨?_, fun _ => ⟨State.mem_tripPort .., by rw [State.tripPort_life]; rfl, by rw [State.tripPort_pwm_of_forces _ _ _ rfl]; rfl⟩,
      fun hno => absurd h (Nat.not_le.2 hno)⟩
    rw [State.tripPort_firm, State.raise_firm]
    exact hstep
  · have heq : s.lateTrips p = s.lateStep p := if_neg h
    rw [heq]
    exact ⟨hstep, fun hyes => absurd hyes h, fun _ => hgate⟩

theorem State.gatePart_ends {t u : State} (h : t.gatePart = u.gatePart) :
    t.firm.life = u.firm.life ∧ t.pwm = u.pwm ∧ t.sk = u.sk ∧ t.firm.shares = u.firm.shares := by
  simp only [State.gatePart, Prod.mk.injEq] at h
  exact h

end

/-- Settles O30. -/
theorem engineStepsComplete : Obligations.EngineStepsComplete := by
  intro s p
  simp only [Fin.getElem_fin]
  refine ⟨fun hawake hrun => ?_, fun x t0 hpred hstep hen hspec hrec harr hinside hdrop hrun hdue => ?_, fun t0 hstep hrec hdrop hrun hdue => ?_,
    exec_commitDeadline_not, fun hstep hcommit hpass hdue => ?_, fun leg code hoc => ?_⟩
  case refine_1 =>
    obtain ⟨hpart, hlife, hpwm, harr⟩ := s.sampled_takes p
    refine ⟨_, exec_samplesArrive hawake hrun, ?_⟩
    have hends : ∀ t : State, t.arrivePart p = (s.sampled p).arrivePart p → t.firm.meas = (s.takePort p).firm.meas ∧ t.dec = (s.takePort p).dec ∧
        t.sk = s.sk ∧ t.bw = s.bw ∧ t.meter = s.meter ∧ t.clk = s.clk ∧
        t.firm.steps[(p : Nat)].oc = s.firm.steps[(p : Nat)].oc.or ((s.takePort p).ocLeg p) := fun t ht => by
      have h := ht.trans hpart
      simp only [State.arrivePart, Prod.mk.injEq] at h
      exact h
    split
    · obtain ⟨hmeas, hdec, hsk, hbw, hmeter, hclk, hoc⟩ := hends _ rfl
      exact ⟨hmeas, hdec, hsk, hbw, hmeter, hclk, hoc, fun _ => ⟨hlife, hpwm, harr⟩⟩
    · next hgo =>
      obtain ⟨hmeas, hdec, hsk, hbw, hmeter, hclk, hoc⟩ := hends _ ((s.sampled p).arriveStep_arrivePart p p)
      refine ⟨hmeas, hdec, hsk, hbw, hmeter, hclk, hoc, fun hinvalid => absurd ?_ hgo⟩
      have hm : (s.sampled p).firm.meas = (s.takePort p).firm.meas := (hends _ rfl).1
      simp [hm, hinvalid]
  case refine_2 =>
    have hwork := State.workOf_spec hstep hdrop hrec (by rw [hpred]; rfl) hspec hen harr
    refine ⟨_, exec_specStepComplete hpred (State.workDone_of hrun hdue) hwork hinside, ?_⟩
    have hkept := (s.speculated p x).engineNext_stepKept p p
    have hsteps : (s.speculated p x).firm.steps[(p : Nat)].spec.isSome = true ∧
        (s.speculated p x).firm.steps[(p : Nat)].committed = s.firm.steps[(p : Nat)].committed := by
      rw [State.speculated]
      simp only [State.modStep_same, Option.isSome_some, and_self]
    obtain ⟨-, hpwm, -, hshares⟩ := State.gatePart_ends ((s.speculated p x).engineNext_gatePart p)
    exact ⟨(congrArg (fun y : PortStep => y.spec.isSome) hkept :).trans hsteps.1, (congrArg PortStep.committed hkept :).trans hsteps.2,
      hpwm, hshares⟩
  case refine_3 =>
    refine ⟨_, exec_recomputeComplete (State.workDone_of hrun hdue) (State.workOf_recompute hstep hdrop hrec), ?_⟩
    obtain ⟨hcommit, hlate, hgate, hout⟩ := s.recomputed_commits p
    have hlasting := ((s.recomputed p).nextStep_lasting p true).1
    simp only [PortStep.lasting, Prod.mk.injEq] at hlasting
    obtain ⟨hduty, hcommit', hlate', -, -⟩ := hlasting
    obtain ⟨-, -, hsk, hshares⟩ := State.gatePart_ends (((s.recomputed p).nextStep_gatePart p true).trans hgate)
    rw [State.nextStep_dutyOut, hduty]
    exact ⟨hcommit'.trans hcommit, hlate'.trans hlate, hout, hshares, hsk⟩
  case refine_4 =>
    refine ⟨_, exec_commitDeadline hstep hcommit hpass hdue, ?_⟩
    obtain ⟨hwrites, htrips, hquiet⟩ := s.lateTrips_writes p
    obtain ⟨hlasting, hpassed⟩ := ((s.lateTrips p).traceSource 3 p.val).nextStep_lasting p s.firm.steps[(p : Nat)].arrived
    have hsame : ((s.lateTrips p).traceSource 3 p.val).firm.steps[(p : Nat)] = s.firm.steps[(p : Nat)].late := hwrites
    rw [hsame] at hlasting
    simp only [PortStep.lasting, Prod.mk.injEq] at hlasting
    obtain ⟨-, -, hlate, hspec, -⟩ := hlasting
    have hgate : (((s.lateTrips p).traceSource 3 p.val).nextStep p s.firm.steps[(p : Nat)].arrived).gatePart = (s.lateTrips p).gatePart :=
      State.nextStep_gatePart ..
    obtain ⟨hlife, hpwm, -, -⟩ := State.gatePart_ends hgate
    refine ⟨hlate, hspec, hpassed, fun h => ?_, fun h => ?_⟩
    · obtain ⟨hmem, hen, htrip⟩ := htrips h
      simp only [Fin.getElem_fin, State.life, hlife, hpwm]
      exact ⟨hmem, hen, htrip⟩
    · obtain ⟨hlife', hpwm', -, -⟩ := State.gatePart_ends (hgate.trans (hquiet h))
      exact ⟨hlife', hpwm'⟩
  case refine_5 =>
    change execPortOcTrip p s = _
    unfold execPortOcTrip
    rw [Fin.getElem_fin, hoc]

end Sys2Proof.Machine
end

section
/-! The transports (R429 to R443): what a transaction sends, what a request's acceptance answers, what a reply leaves at the host
interface, and the obligation O22. -/
namespace Sys2Proof.Machine

/-! ### The SPI transactions (R430, R431) -/

/-- What the replies of a transaction leave of the host interface: all of it but the two lists, which only lose elements. -/
def HostIf.Shed (h g : HostIf) : Prop := g = { h with spi0 := g.spi0, spiN := g.spiN } ∧ g.spi0.Sublist h.spi0 ∧ g.spiN.Sublist h.spiN

theorem HostIf.Shed.refl (h : HostIf) : h.Shed h := ⟨rfl, .refl _, .refl _⟩

theorem HostIf.Shed.trans {h g k : HostIf} (a : h.Shed g) (b : g.Shed k) : h.Shed k := by
  obtain ⟨hg, h0, hN⟩ := a
  obtain ⟨hk, g0, gN⟩ := b
  refine ⟨?_, g0.trans h0, gN.trans hN⟩
  rw [hk, hg]

theorem HostIf.Shed.erase0 (h : HostIf) (r : SpiReply) : h.Shed { h with spi0 := h.spi0.erase r } := ⟨rfl, List.erase_sublist, .refl _⟩
theorem HostIf.Shed.eraseN (h : HostIf) (r : SpiReply) : h.Shed { h with spiN := h.spiN.erase r } := ⟨rfl, .refl _, List.erase_sublist⟩

/-- A transaction's replies leave their lists, and nothing else changes. -/
theorem HostIf.sendReplies_shed (fuel room : Nat) (h : HostIf) : h.Shed (h.sendReplies fuel room) := by
  induction fuel generalizing h room with
  | zero => exact .refl h
  | succ fuel ih =>
    rw [HostIf.sendReplies]
    dsimp only
    split
    · split
      · exact (HostIf.Shed.erase0 h _).trans (ih _ _)
      · exact .refl h
    · split
      · split
        · exact (HostIf.Shed.eraseN h _).trans (ih _ _)
        · exact .refl h
      · exact .refl h

/-- A transaction that clocks no byte past the head sends no reply. -/
theorem HostIf.sendReplies_none (fuel : Nat) (h : HostIf) : h.sendReplies fuel 0 = h := by
  cases fuel with
  | zero => rfl
  | succ fuel =>
    have hlong (r : SpiReply) : ¬ 12 + r.reply.payload.length ≤ 0 := by omega
    rw [HostIf.sendReplies]
    dsimp only
    split
    · exact if_neg (hlong _)
    · split
      · exact if_neg (hlong _)
      · rfl

/-- The host interface at the end of a transaction. -/
def HostIf.csRisen (h : HostIf) (clocked : Nat) (unfinished : Bool) : HostIf :=
  { h.sendReplies 36 (clocked - 2) with
    csLow := false, hunt := false, spiAborts := if unfinished && !h.hunt then satInc 16 h.spiAborts else h.spiAborts }

section
variable {s : State}

theorem exec_spiCsFall (ha : s.answers = true) : exec .spiCsFall s =
    .next (s.modHost fun h => { h with csLow := true, hunt := false, txn := h.txn + 1, spiHead := h.head }) :=
  congrArg Host.Outcome.next (if_pos ha)

theorem exec_spiCsRise (clocked : Nat) (unfinished : Bool) (ha : s.answers = true) (hcs : s.act.host.csLow = true) :
    exec (.spiCsRise clocked unfinished) s = .next (s.modHost fun h => h.csRisen clocked unfinished) :=
  congrArg Host.Outcome.next (if_pos (by rw [ha, hcs]; rfl))

/-! ### A request's way in (R429, R431 to R434) -/

theorem exec_spiRequest {bytes : List Byte} (ha : s.answers = true) (hcs : s.act.host.csLow = true) (hhunt : s.act.host.hunt = false)
    (hsync : by8 bytes 0 = 0xA5) (hwhole : 12 + rd bytes 6 2 ≤ bytes.length ∨ 4096 < rd bytes 6 2) :
    exec (.spiRequest bytes) s = .next (if (if by8 bytes 1 / 64 = 0 then decide (4 ≤ s.act.host.spi0.length)
        else decide (32 ≤ s.act.host.spiN.length) || decide (16384 < s.act.host.spiUsed + 12 + rd bytes 6 2))
      then s.modHost fun h => { h with spiOverruns := satInc 16 h.spiOverruns }
      else if (s.accept .spi 0 bytes).2 then (s.accept .spi 0 bytes).1.modHost fun h => { h with hunt := true }
      else (s.accept .spi 0 bytes).1) := by
  have hlen : ¬ (rd bytes 6 2 ≤ 4096 ∧ bytes.length < 12 + rd bytes 6 2) := by omega
  change execSpiRequest bytes s = _
  unfold execSpiRequest
  dsimp only
  rw [if_neg (by simpa [ha, hcs, hhunt, hsync] using hlen), ← apply_ite Host.Outcome.next]

theorem exec_spiRequest_accepts {bytes : List Byte} (ha : s.answers = true) (hcs : s.act.host.csLow = true) (hhunt : s.act.host.hunt = false)
    (hsync : by8 bytes 0 = 0xA5) (hwhole : 12 + rd bytes 6 2 ≤ bytes.length ∨ 4096 < rd bytes 6 2)
    (h0 : by8 bytes 1 / 64 = 0 → s.act.host.spi0.length < 4)
    (hN : by8 bytes 1 / 64 ≠ 0 → s.act.host.spiN.length < 32 ∧ s.act.host.spiUsed + 12 + rd bytes 6 2 ≤ 16384) :
    exec (.spiRequest bytes) s = .next (if (s.accept .spi 0 bytes).2 then (s.accept .spi 0 bytes).1.modHost fun h => { h with hunt := true }
      else (s.accept .spi 0 bytes).1) := by
  rw [exec_spiRequest ha hcs hhunt hsync hwhole, if_neg]
  by_cases hc : by8 bytes 1 / 64 = 0
  · rw [if_pos hc]
    simpa using h0 hc
  · rw [if_neg hc]
    simpa using hN hc

theorem exec_spiRequest_overruns {bytes : List Byte} (ha : s.answers = true) (hcs : s.act.host.csLow = true) (hhunt : s.act.host.hunt = false)
    (hsync : by8 bytes 0 = 0xA5) (hwhole : 12 + rd bytes 6 2 ≤ bytes.length) (hc : by8 bytes 1 / 64 = 0) (h0 : 4 ≤ s.act.host.spi0.length) :
    exec (.spiRequest bytes) s = .next (s.modHost fun h => { h with spiOverruns := satInc 16 h.spiOverruns }) := by
  rw [exec_spiRequest ha hcs hhunt hsync (.inl hwhole), if_pos]
  rw [if_pos hc]
  exact decide_eq_true h0

section
variable {net : Net} {ip port : Nat} {bytes : List Byte} {ok : Bool}

theorem exec_udpDatagram (ha : s.answers = true) (hip : s.ipOf net ≠ 0) (hl : s.act.net.ports[net].link = true) :
    exec (.udpDatagram net ip port bytes ok) s = .next (if bytes.length < 12 ∨ by8 bytes 0 ≠ 0xA5 ∨ !ok then
        s.modHost fun h => { h with udpDiscarded := satInc 16 h.udpDiscarded }
      else if rd bytes 6 2 ≤ 4096 ∧ bytes.length ≠ 12 + rd bytes 6 2 then
        s.refuseEarly (reqOf (.udp ip port) net bytes).1 (reqOf (.udp ip port) net bytes).2 ST_BAD_LENGTH
      else (s.accept (.udp ip port) net bytes).1) := by
  change execUdpDatagram net ip port bytes ok s = _
  unfold execUdpDatagram
  dsimp only
  rw [if_neg (by simpa [ha, hip] using hl), ← apply_ite Host.Outcome.next, ← apply_ite Host.Outcome.next]

theorem exec_udpDatagram_accepts (ha : s.answers = true) (hip : s.ipOf net ≠ 0) (hl : s.act.net.ports[net].link = true) (hok : ok = true)
    (hsync : by8 bytes 0 = 0xA5) (hlen : bytes.length = 12 + rd bytes 6 2) :
    exec (.udpDatagram net ip port bytes ok) s = .next (s.accept (.udp ip port) net bytes).1 := by
  rw [exec_udpDatagram ha hip hl, if_neg (by simp [hok, hsync]; omega), if_neg fun h => h.2 hlen]

theorem exec_udpDatagram_discards (ha : s.answers = true) (hip : s.ipOf net ≠ 0) (hl : s.act.net.ports[net].link = true)
    (hbad : ok = false ∨ by8 bytes 0 ≠ 0xA5 ∨ bytes.length < 12) :
    exec (.udpDatagram net ip port bytes ok) s = .next (s.modHost fun h => { h with udpDiscarded := satInc 16 h.udpDiscarded }) := by
  rw [exec_udpDatagram ha hip hl, if_pos]
  obtain hk | hs | hn := hbad
  · exact .inr (.inr (by rw [hk]; rfl))
  · exact .inr (.inl hs)
  · exact .inl hn

end

/-! ### A reply over SPI (R431, R436) -/

/-- A reply as it waits for the host, with the attention flags of its forming. -/
def State.flagged (s : State) (txn : Nat) (r : Reply) : SpiReply :=
  ⟨{ r with urgent := s.attn0 || decide (r.cls = 0), normal := s.attn1 || decide (r.cls ≠ 0) }, txn⟩

section
variable {req : Req} {r : Reply} (txn : Nat)

theorem State.deliver_quiet (hn : req.noReply = true) (hr : r.status = ST_OK ∨ r.status = ST_PENDING) : s.deliver req txn r = s :=
  if_pos (by rw [hn, decide_eq_true hr]; rfl)

theorem State.deliver_spi (hs : req.session = .spi) (hn : ¬(req.noReply = true ∧ (r.status = ST_OK ∨ r.status = ST_PENDING))) :
    s.deliver req txn r = s.modHost fun h => if r.cls = 0 then { h with spi0 := h.spi0 ++ [s.flagged txn r] }
      else { h with spiN := h.spiN ++ [s.flagged txn r] } := by
  unfold State.deliver
  rw [if_neg (by simpa using hn), hs]
  rfl

end

/-- The reply that a request's status and payload form. -/
def QItem.replyOf (it : QItem) (status : Nat) (payload : List Byte) : Reply :=
  { session := it.req.session, net := it.req.net, cls := it.req.cls, op := it.op, status := status, seq := it.req.seq, payload := payload }

/-- Whatever a delivery leaves, of the token holder's host interface it changes the two SPI lists alone. -/
theorem State.deliver_host (s : State) (req : Req) (txn : Nat) (r : Reply) :
    ∃ l0 lN, (s.deliver req txn r).act.host = { s.act.host with spi0 := l0, spiN := lN } := by
  by_cases hs : req.session = .spi
  · by_cases hn : req.noReply = true ∧ (r.status = ST_OK ∨ r.status = ST_PENDING)
    · rw [State.deliver_quiet txn hn.1 hn.2]
      exact ⟨_, _, rfl⟩
    · rw [State.deliver_spi txn hs hn, State.modHost_act]
      by_cases hc : r.cls = 0
      · exact ⟨_, _, if_pos hc⟩
      · exact ⟨_, _, if_neg hc⟩
  · exact ⟨_, _, s.deliver_udp_keeps (g := fun t => t.act.host) (fun _ _ => by rw [State.modNet_act]) req txn r hs⟩

/-- The replies of the SPI session: those kept, and those of each list. -/
def HostIf.spiLists (h : HostIf) : List Kept × List SpiReply × List SpiReply := (h.spiKept, h.spi0, h.spiN)

/-- Without twins, a reply over SPI is delivered and kept. -/
theorem State.reply_spiLists (it : QItem) (st : Nat) (pl : List Byte) (hs : it.req.session = .spi) (ht : s.act.host.twins = []) :
    (s.reply it st pl).act.host.spiLists = (keepReply s.act.host.spiKept ⟨it.op, it.req, it.replyOf st pl⟩,
      (s.deliver it.req it.txn (it.replyOf st pl)).act.host.spi0, (s.deliver it.req it.txn (it.replyOf st pl)).act.host.spiN) := by
  obtain ⟨l0, lN, hd⟩ := s.deliver_host it.req it.txn (it.replyOf st pl)
  have hkept : ((s.deliver it.req it.txn (it.replyOf st pl)).modHost fun h => h.keep ⟨it.op, it.req, it.replyOf st pl⟩).act.host =
      { s.act.host with spi0 := l0, spiN := lN, spiKept := keepReply s.act.host.spiKept ⟨it.op, it.req, it.replyOf st pl⟩ } := by
    rw [State.modHost_act, hd]
    simp only [HostIf.keep, hs]
  unfold State.reply
  dsimp only
  rw [← QItem.replyOf, hkept, hd, ht, List.filter_nil, List.foldl_nil, State.modHost_act, hkept]
  rfl

section
variable {it : QItem} {st : Nat} {pl : List Byte}

theorem State.reply_spi_quiet (hs : it.req.session = .spi) (ht : s.act.host.twins = [])
    (hn : it.req.noReply = true ∧ (st = ST_OK ∨ st = ST_PENDING)) :
    (s.reply it st pl).act.host.spi0 = s.act.host.spi0 ∧ (s.reply it st pl).act.host.spiN = s.act.host.spiN := by
  have h := s.reply_spiLists it st pl hs ht
  rw [State.deliver_quiet it.txn hn.1 hn.2] at h
  simp only [HostIf.spiLists, Prod.mk.injEq] at h
  exact h.2

theorem State.reply_spi_listed (hs : it.req.session = .spi) (ht : s.act.host.twins = [])
    (hn : ¬(it.req.noReply = true ∧ (st = ST_OK ∨ st = ST_PENDING))) :
    (it.req.cls = 0 → (s.reply it st pl).act.host.spi0 = s.act.host.spi0 ++ [s.flagged it.txn (it.replyOf st pl)] ∧
      (s.reply it st pl).act.host.spiN = s.act.host.spiN) ∧
    (it.req.cls ≠ 0 → (s.reply it st pl).act.host.spiN = s.act.host.spiN ++ [s.flagged it.txn (it.replyOf st pl)] ∧
      (s.reply it st pl).act.host.spi0 = s.act.host.spi0) := by
  have h := s.reply_spiLists it st pl hs ht
  rw [State.deliver_spi it.txn hs hn, State.modHost_act] at h
  refine ⟨fun hc => ?_, fun hc => ?_⟩
  · rw [if_pos (show (it.replyOf st pl).cls = 0 from hc)] at h
    simp only [HostIf.spiLists, Prod.mk.injEq] at h
    exact h.2
  · rw [if_neg (show (it.replyOf st pl).cls ≠ 0 from hc)] at h
    simp only [HostIf.spiLists, Prod.mk.injEq] at h
    exact h.2.symm

end

/-! ### Acceptance (Table 14.3) -/

section
variable (key : Session) (net : Net) {b : List Byte}

theorem State.refuseEarly_host (s : State) (op : Nat) (req : Req) (status : Nat) :
    ∃ l0 lN, (s.refuseEarly op req status).act.host = { s.act.host with spi0 := l0, spiN := lN } :=
  s.deliver_host ..

theorem State.accept_long (h : 4096 < rd b 6 2) : (s.accept key net b).2 = true ∧
    (s.accept key net b).1.act.host.lenExceeded = satInc 32 s.act.host.lenExceeded := by
  obtain ⟨l0, lN, hr⟩ := s.refuseEarly_host (reqOf key net b).1 { (reqOf key net b).2 with payload := [] } ST_LENGTH_EXCEEDS
  unfold State.accept
  dsimp only
  rw [if_pos h, State.modHost_act, hr]
  exact ⟨rfl, rfl⟩

theorem State.accept_damaged (h : rd b 6 2 ≤ 4096) (hcrc : rd b (8 + rd b 6 2) 4 ≠ crc32 ((b.drop 1).take (7 + rd b 6 2))) :
    (s.accept key net b).2 = true ∧ (s.accept key net b).1.act.host.badCrcs = satInc 32 s.act.host.badCrcs := by
  obtain ⟨l0, lN, hr⟩ := s.refuseEarly_host (reqOf key net b).1 (reqOf key net b).2 ST_BAD_CRC
  unfold State.accept
  dsimp only
  rw [if_neg (by omega), if_pos hcrc, State.modHost_act, hr]
  exact ⟨rfl, rfl⟩

end

section
variable {op flags c : Nat} {r : Req}

theorem State.enqueue_unknown (h : (opcodes.find? fun x => x.1 == op) = none) : s.enqueue op r flags = s.refuseEarly op r ST_BAD_OPCODE := by
  simp only [State.enqueue, h]

theorem State.enqueue_misclassed (h : (opcodes.find? fun x => x.1 == op) = some (op, some c)) (hc : r.cls ≠ c) :
    s.enqueue op r flags = s.refuseEarly op r ST_BAD_CLASS := by
  simp only [State.enqueue, h]
  exact if_pos ⟨rfl, fun hcc => hc (Option.some.inj hcc).symm⟩

theorem State.enqueue_classed (h : (opcodes.find? fun x => x.1 == op) = some (op, some c)) (hc : r.cls = c) {t : State}
    (hrest : (if flags / 2 % 32 ≠ 0 then s.refuseEarly op r ST_BAD_PARAMETER
      else if s.dev = .boot ∧ !bootOpcode op then s.refuseEarly op r ST_STATE_FORBIDS else s.enqueue op r flags) = t) :
    s.enqueue op r flags = t := by
  have hno : ¬((some c).isSome = true ∧ some c ≠ some r.cls) := fun x => x.2 (congrArg some hc.symm)
  subst hrest
  split
  · next hf => simp only [State.enqueue, h, if_neg hno, if_pos hf]
  · next hf =>
    split
    · next hb => simp only [State.enqueue, h, if_neg hno, if_neg hf, if_pos hb]
    · rfl

end

end

/-! ### The obligation -/

/-- Settles O22: each transaction event's outcome is a branch of its own; a reply over SPI is one element more in its class's list; and
the steps of acceptance come in the order of the refusals. -/
theorem transportsComplete : Obligations.TransportsComplete := by
  refine ⟨fun s => ⟨exec_spiCsFall, fun clocked unfinished ha hcs => ?rise, fun bytes => exec_spiRequest_accepts,
    fun bytes => exec_spiRequest_overruns, fun net ip port bytes ok ha hip hl =>
      ⟨exec_udpDatagram_accepts ha hip hl, exec_udpDatagram_discards ha hip hl⟩, fun _ _ _ => rfl⟩,
    fun s it st pl hs ht => ⟨?kept, State.reply_spi_quiet hs ht, fun hn hc => ?class0, fun hn hc => ?classN⟩,
    fun s key net b op flags r => ⟨State.accept_long key net, State.accept_damaged key net, State.enqueue_unknown,
      fun c => State.enqueue_misclassed, fun c hop hc hf => ?reserved, fun c hop hc hf hd hb => ?boot, fun c hop hc hf hd hroom => ?queued⟩⟩
  case rise =>
    refine ⟨_, exec_spiCsRise clocked unfinished ha hcs, rfl, ?_⟩
    obtain ⟨_, h0, hN⟩ := s.act.host.sendReplies_shed 36 (clocked - 2)
    rw [State.modHost_act]
    refine ⟨rfl, rfl, rfl, h0, hN, fun hfew => ?_⟩
    simp only [HostIf.csRisen, Nat.sub_eq_zero_of_le hfew, HostIf.sendReplies_none, and_self]
  case kept =>
    refine (congrArg Prod.fst (s.reply_spiLists it st pl hs ht)).trans ?_
    rw [QItem.replyOf, hs]
  case class0 =>
    obtain ⟨h0, hN⟩ := (State.reply_spi_listed hs ht hn).1 hc
    exact ⟨_, h0, hN, rfl, rfl, rfl, rfl, rfl⟩
  case classN =>
    obtain ⟨hN, h0⟩ := (State.reply_spi_listed hs ht hn).2 hc
    exact ⟨_, hN, h0, rfl, rfl, rfl, rfl, rfl⟩
  case reserved =>
    exact State.enqueue_classed hop hc (if_pos hf)
  case boot =>
    refine State.enqueue_classed hop hc ?_
    rw [if_neg (not_not.mpr hf), if_pos ⟨hd, by rw [hb]; rfl⟩]
  case queued =>
    exact ⟨_, State.enqueue_queues hop (.inr (congrArg some hc.symm)) hf (fun hb => absurd hb hd) hc hroom, rfl, rfl, rfl⟩

end Sys2Proof.Machine
end

section
/-! What happens at the two Headlands alone: changes of both, events, frames sent, and a selection of the PTP ports. -/
namespace Sys2Proof.Machine

/-- Nothing but the Headlands changes. -/
def State.HlOnly (s t : State) : Prop := t = { s with hl := t.hl }

section
variable {s t u : State}

theorem State.HlOnly.refl (s : State) : s.HlOnly s := rfl

theorem State.HlOnly.trans (h : s.HlOnly t) (g : t.HlOnly u) : s.HlOnly u := by
  unfold State.HlOnly at *
  rw [g, h]

variable (s)

theorem State.HlOnly.modBoth (f : Headland → Headland) : s.HlOnly (s.modBoth f) := rfl
theorem State.HlOnly.modNet (f : NetIf → NetIf) : s.HlOnly (s.modNet f) := rfl
theorem State.HlOnly.modPtp (f : Ptp → Ptp) : s.HlOnly (s.modPtp f) := rfl
theorem State.HlOnly.send (n : Net) (o : Out) : s.HlOnly (s.send n o) := rfl
theorem State.HlOnly.raise (code source arg0 arg1 : Nat) (data : List Nat) : s.HlOnly (s.raise code source arg0 arg1 data) :=
  s.raise_only code source arg0 arg1 data

theorem State.HlOnly.prpNext : s.HlOnly s.prpNext := by
  unfold State.prpNext
  split
  · exact .modNet s _
  · exact .refl s

theorem State.modBoth_act (f : Headland → Headland) : (s.modBoth f).act = f s.act := s.modBoth_hl f s.hd

/-! ### A selection of the PTP ports (R405) -/

theorem State.HlOnly.ptpSelect (f : Ptp → Ptp) : s.HlOnly (s.ptpSelect f) := by
  unfold State.ptpSelect
  dsimp only
  split
  · exact (State.HlOnly.modBoth s _).trans (.raise _ ..)
  · exact .modBoth s _

/-- A selection is one of the token holder's PTP, with what it knows. -/
theorem State.ptpSelect_ptp (f : Ptp → Ptp) : (s.ptpSelect f).act.ptp = ((f s.act.ptp).select (s.ptpEnv s.act)).1 := by
  unfold State.ptpSelect
  dsimp only
  split
  · rw [State.raise_act_ptp, State.modBoth_act]
  · rw [State.modBoth_act]

/-- What a selection leaves of the token holder. -/
def Headland.besidePtp (a : Headland) : NetIf × HostIf × Cfg := (a.net, a.host, a.cfg)

theorem State.ptpSelect_besidePtp (f : Ptp → Ptp) : (s.ptpSelect f).act.besidePtp = s.act.besidePtp := by
  unfold State.ptpSelect
  dsimp only
  split
  · rw [Headland.besidePtp, State.raise_act_net, State.raise_act_host, State.raise_act_cfg, State.modBoth_act]
    rfl
  · rw [State.modBoth_act]
    rfl

end

end Sys2Proof.Machine
end

section
/-! The networks (R399 to R402, R411 to R416): what a received frame and a link's change leave, the copies of NET_SEND from their launch
to their write-back, and the obligation O23. -/
namespace Sys2Proof.Machine

/-! ### A received frame -/

section
variable (s : State) (net : Net) (b : List Byte)

/-- The duplicate check of a frame with a PRP trailer, where PRP runs and its function sends no twins (R416). -/
def State.twinCheck (x : NetIf) : NetIf × Bool :=
  match prpTrailer b with
  | some q => if s.par P_PRP_EN = 1 ∧ etherType b ≠ 0x88F7 ∧ etherType b ≠ 0x88B5 then x.prp net s.clk.now (rdBe b 6 6) q else (x, false)
  | none => (x, false)

/-- A frame reaches its function, or counts as unclaimed (R424). -/
def State.claimed (u : State) : State :=
  if (u.claimFrame net b).2 then (u.claimFrame net b).1
  else (u.claimFrame net b).1.onNetPort net fun p => { p with rxUnclaimed := satInc 16 p.rxUnclaimed }

/-- A sound frame for which there is room: a twin goes no further (R416). -/
def State.untwinned (u : State) : State :=
  if (s.twinCheck net b u.act.net).2 then u.modBoth fun a => { a with net := (s.twinCheck net b a.net).1 }
  else State.claimed net b (u.modBoth fun a => { a with net := (s.twinCheck net b a.net).1 })

variable {s net b}

theorem State.twinCheck_none (x : NetIf) (h : prpTrailer b = none ∨ s.par P_PRP_EN ≠ 1) : s.twinCheck net b x = (x, false) := by
  unfold State.twinCheck
  split
  · next q hq => exact if_neg fun hc => h.elim (fun hn => by rw [hn] at hq; contradiction) fun hp => hp hc.1
  · rfl

theorem State.twinCheck_some {q : Nat} (x : NetIf) (hq : prpTrailer b = some q) (hp : s.par P_PRP_EN = 1) (h1 : etherType b ≠ 0x88F7)
    (h2 : etherType b ≠ 0x88B5) : s.twinCheck net b x = x.prp net s.clk.now (rdBe b 6 6) q := by
  unfold State.twinCheck
  rw [hq]
  exact if_pos ⟨hp, h1, h2⟩

theorem State.untwinned_none (u : State) (h : prpTrailer b = none ∨ s.par P_PRP_EN ≠ 1) : s.untwinned net b u = State.claimed net b u := by
  have hself : (u.modBoth fun a => a) = u := by simp [State.modBoth]
  simp only [State.untwinned, State.twinCheck_none _ h]
  exact congrArg (State.claimed net b) hself

theorem exec_ethernetFrame {ok room : Bool} (hd : s.dev ≠ .standby) (hl : s.act.net.ports[net].link = true) {u : State}
    (hu : u = s.onNetPort net fun p => { p with rxFrames := satInc 32 p.rxFrames }) :
    exec (.ethernetFrameReceive net b ok room) s = .next (
      if !ok then u.onNetPort net fun p => { p with rxFcsErr := satInc 32 p.rxFcsErr }
      else if rdBe b 6 6 = Config.mac (otherNet net).val then
        (u.onNetPort net fun p => { p with looped := satInc 16 p.looped }).raise 0x72 net.val
      else if !room ∧ frameClass b ≤ 5 then u.onNetPort net fun p => { p with rxDropped := satInc 32 p.rxDropped }
      else s.untwinned net b u) := by
  subst hu
  change execEthernetFrameReceive net b ok room s = _
  unfold execEthernetFrameReceive
  dsimp only
  rw [if_neg (by simpa [hd] using hl)]
  simp only [State.untwinned, State.claimed, apply_ite Host.Outcome.next]
  rfl

theorem exec_ethernetFrame_sound {room : Bool} (hd : s.dev ≠ .standby) (hl : s.act.net.ports[net].link = true) {u : State}
    (hu : u = s.onNetPort net fun p => { p with rxFrames := satInc 32 p.rxFrames }) (hn : rdBe b 6 6 ≠ Config.mac (otherNet net).val)
    (hr : room = true ∨ 5 < frameClass b) : exec (.ethernetFrameReceive net b true room) s = .next (s.untwinned net b u) := by
  have hroom : ¬ ((!room) = true ∧ frameClass b ≤ 5) := by
    obtain h | h := hr
    · simp [h]
    · omega
  rw [exec_ethernetFrame hd hl hu, if_neg (by simp), if_neg hn, if_neg hroom]

end

/-! ### A frame of NET_SEND (R411 to R414) -/

section
variable {x : NetIf} {f : TxFrame} {h : Nat} {g : TxFrame → TxFrame}

theorem TxFrame.incomplete {net : Net} (hs : f.status[net] = 1) : f.complete = false := by
  simp only [TxFrame.complete, List.all_eq_false]
  exact ⟨f.status[net], by simp, by simpa using hs⟩

/-- A change of one network port. -/
def NetIf.modPort (x : NetIf) (net : Net) (f : NetPort → NetPort) : NetIf := { x with ports := vmod x.ports net f }

theorem NetIf.modPort_same (x : NetIf) (net : Net) (f : NetPort → NetPort) : (x.modPort net f).ports[(net : Nat)] = f x.ports[(net : Nat)] :=
  vmod_same ..

/-- The one queued frame, changed, stays queued or is written back. -/
theorem NetIf.modTx_mem (htx : x.tx = [f]) (hh : f.handle = h) : g f ∈ (x.modTx h g).tx ∨ g f ∈ (x.modTx h g).txDone := by
  have hof : f.isOf h = true := decide_eq_true hh
  by_cases hc : (g f).complete = true
  · right
    simp only [NetIf.modTx, htx, List.map_cons, List.map_nil, hof, if_true, List.filter_cons_of_pos hc, List.filter_nil, List.length_append,
      List.length_singleton]
    rw [List.drop_append_of_le_length (by omega)]
    exact List.mem_append_right _ (List.mem_singleton_self _)
  · left
    simp [NetIf.modTx, htx, hof, hc]

theorem NetIf.modTx_tx (htx : x.tx = [f]) (hh : f.handle = h) (hc : (g f).complete = false) : (x.modTx h g).tx = [g f] := by
  have hof : f.isOf h = true := decide_eq_true hh
  simp [NetIf.modTx, htx, hof, hc]

end

section
variable {s : State} {net : Net} {handle : Nat} {f : TxFrame}

theorem TxFrame.waits_iff : f.waits net = true ↔ f.status[net] = 1 ∧ f.started[net] = false := by
  simp [TxFrame.waits]

/-- Alone in the queue, a copy whose launch time has come may start. -/
theorem State.mayStart_alone (htx : s.act.net.tx = [f]) (hw : f.waits net = true) (hdue : ∀ l, f.launch = some l → l ≤ s.act.ptp.ns) :
    s.mayStart net f = true := by
  have hready : f.ready net s.act.ptp.ns = true := by
    simp only [TxFrame.ready, hw, Bool.true_and, Option.all_eq_true, decide_eq_true_eq]
    exact hdue
  have hidle := (TxFrame.waits_iff.mp hw).2
  simp only [Fin.getElem_fin] at hidle
  simp [State.mayStart, htx, hready, hidle]

theorem State.mayStart_early {l : Nat} (hl : f.launch = some l) (he : s.act.ptp.ns < l) : s.mayStart net f = false := by
  have hready : f.ready net s.act.ptp.ns = false := by
    simp [TxFrame.ready, hl, he]
  simp [State.mayStart, hready]

/-- The copy of a launch, where its link is up and where it is not. -/
def TxFrame.launched (net : Net) (link : Bool) (now : Nat) (p : Ptp) (t : TxFrame) : TxFrame :=
  if !t.waits net then t else if link then t.start net now p else { t with status := vset t.status net 5 }

theorem exec_netLaunch_starts (htx : s.act.net.tx = [f]) (hh : f.handle = handle) (hs : f.status[net] = 1) (hst : f.started[net] = false)
    (hwin : ∀ l, f.launch = some l → l ≤ s.act.ptp.ns ∧ s.act.ptp.ns ≤ l + 100000) : exec (.netLaunch net handle false) s =
    .next (s.modNet fun x => x.modTx handle (TxFrame.launched net x.ports[net].link s.clk.now s.act.ptp)) := by
  have hw : f.waits net = true := TxFrame.waits_iff.mpr ⟨hs, hst⟩
  have hfind : s.act.net.tx.find? (fun t => t.isOf handle && t.waits net) = some f := by
    rw [htx]
    simp [TxFrame.isOf, hh, hw]
  have hsoon : (f.launch.any fun l => decide (l + 100000 < s.act.ptp.ns)) = false := by
    refine Bool.eq_false_iff.mpr fun h => ?_
    obtain ⟨l, hl, hlate⟩ := (Option.any_eq_true _ _).mp h
    exact (of_decide_eq_true hlate).not_ge (hwin l hl).2
  change execNetLaunch net handle false s = _
  unfold execNetLaunch
  rw [hfind]
  dsimp only
  rw [hsoon, s.mayStart_alone htx hw fun l hl => (hwin l hl).1]
  rfl

theorem exec_netLaunch_waits {busy : Bool} (htx : s.act.net.tx = [f])
    (hno : busy = true ∨ ∃ l, f.launch = some l ∧ (s.act.ptp.ns < l ∨ l + 100000 < s.act.ptp.ns)) :
    exec (.netLaunch net handle busy) s = .next s := by
  change execNetLaunch net handle busy s = _
  unfold execNetLaunch
  split
  · rfl
  · next f' hfind =>
    have hf : f' = f := by simpa [htx] using List.mem_of_find?_eq_some hfind
    subst hf
    refine congrArg Host.Outcome.next (if_pos ?_)
    obtain hb | ⟨l, hl, he | hlate⟩ := hno
    · simp [hb]
    · simp [s.mayStart_early hl he]
    · simp [hl, hlate]

/-- The copy of a completed transmission (R414). -/
def TxFrame.written (net : Net) (t : TxFrame) : TxFrame :=
  if t.status[net] = 1 ∧ t.started[net] then { t with status := vset t.status net (if t.late[net] then 3 else 2) } else t

/-- The network port of a copy that has left. -/
def NetPort.left (p : NetPort) (late : Bool) : NetPort := { p with txLate := if late then satInc 16 p.txLate else p.txLate }

/-- What a completed transmission makes of the networks. -/
def NetIf.left (x : NetIf) (net : Net) (handle : Nat) (late : Bool) : NetIf :=
  (x.modPort net fun p => p.left late).modTx handle (TxFrame.written net)

theorem NetIf.left_mem {x : NetIf} (late : Bool) (htx : x.tx = [f]) (hh : f.handle = handle) :
    f.written net ∈ (x.left net handle late).tx ∨ f.written net ∈ (x.left net handle late).txDone :=
  NetIf.modTx_mem (x := x.modPort net _) htx hh

theorem NetIf.left_ports (x : NetIf) (late : Bool) : (x.left net handle late).ports[(net : Nat)] = x.ports[(net : Nat)].left late :=
  x.modPort_same ..

theorem exec_netTxComplete_leaves (htx : s.act.net.tx = [f]) (hh : f.handle = handle) (hs : f.status[net] = 1) (hst : f.started[net] = true)
    (hdue : 5 * f.startedAt[net] + 16 * (8 + (s.wireFrame net f).length + 4) ≤ 5 * s.clk.now) : exec (.netTxComplete net handle) s =
    .next ((s.send net (.frame net f.cls (s.wireFrame net f))).modNet fun x => x.left net handle f.late[net]) := by
  have hfind : s.act.net.tx.find? (fun t => t.isOf handle && decide (t.status[net] = 1) && t.started[net]) = some f := by
    rw [htx]
    simp only [Fin.getElem_fin] at hs hst
    simp [TxFrame.isOf, hh, hs, hst]
  have hlong : ¬ 5 * s.clk.now < 5 * f.startedAt[net] + 2 * (s.wireNs net f - 96) := by
    simp only [State.wireNs]
    omega
  change execNetTxComplete net handle s = _
  unfold execNetTxComplete
  rw [hfind]
  exact if_neg hlong

/-- The copy of a frame dropped late (R413). -/
def TxFrame.dropped (net : Net) (t : TxFrame) : TxFrame := if t.status[net] = 1 then { t with status := vset t.status net 4 } else t

/-- What a late drop makes of the networks. -/
def NetIf.droppedLate (x : NetIf) (net : Net) (handle : Nat) : NetIf :=
  (x.modPort net fun p => { p with txLate := satInc 16 p.txLate }).modTx handle (TxFrame.dropped net)

theorem NetIf.droppedLate_mem {x : NetIf} (htx : x.tx = [f]) (hh : f.handle = handle) :
    f.dropped net ∈ (x.droppedLate net handle).tx ∨ f.dropped net ∈ (x.droppedLate net handle).txDone :=
  NetIf.modTx_mem (x := x.modPort net _) htx hh

theorem exec_netLateDrop_drops {l : Nat} (htx : s.act.net.tx = [f]) (hh : f.handle = handle) (hs : f.status[net] = 1)
    (hst : f.started[net] = false) (hl : f.launch = some l) (hlate : l + 100000 < s.act.ptp.ns) :
    exec (.netLateDrop net handle) s = .next (s.modNet fun x => x.droppedLate net handle) := by
  have hw : f.waits net = true := TxFrame.waits_iff.mpr ⟨hs, hst⟩
  have hfind : s.act.net.tx.find? (fun t => t.isOf handle && t.waits net && t.launch.any fun l => decide (l + 100000 < s.act.ptp.ns)) =
      some f := by
    rw [htx]
    simp [TxFrame.isOf, hh, hw, hl, hlate]
  change execNetLateDrop net handle s = _
  unfold execNetLateDrop
  rw [hfind]
  rfl

/-- A frame handed to a network waits last among the outputs, and the port counts it. -/
theorem State.send_net (o : Out) : (s.send net o).act.net = { s.act.net with
    out := (s.act.net.out ++ [o]).drop (s.act.net.out.length + 1 - 32)
    ports := vmod s.act.net.ports net fun p => { p with txFrames := satInc 32 p.txFrames } } := by
  rw [State.send, State.modNet_act, State.emit, State.modNet_act]

theorem State.send_out (o : Out) : o ∈ (s.send net o).act.net.out := by
  rw [State.send_net]
  dsimp only
  rw [List.drop_append_of_le_length (by omega)]
  exact List.mem_append_right _ (List.mem_singleton_self _)

/-! ### A link's change (R399) -/

/-- The networks with a link up, and with a link down. -/
def NetIf.up (x : NetIf) (net : Net) : NetIf := x.modPort net fun p => { p with link := true }
def NetIf.down (x : NetIf) (net : Net) : NetIf := x.modPort net fun p => { p with link := false, linkDowns := satInc 16 p.linkDowns }

/-- A change of both networks, its event and the selection that follows. -/
def State.relinked (s : State) (f : NetIf → NetIf) (code source : Nat) (g : Ptp → Ptp) : State :=
  ((s.modBoth fun a => { a with net := f a.net }).raise code source).ptpSelect g

theorem exec_netLinkUp (hd : s.dev ≠ .standby) (hl : s.act.net.ports[net].link = false) : exec (.netLinkUp net) s =
    .next (s.relinked (fun x => x.up net) 0x70 net.val id) :=
  if_neg (by simpa [hd] using hl)

theorem exec_netLinkDown (hd : s.dev ≠ .standby) (hl : s.act.net.ports[net].link = true) : exec (.netLinkDown net) s =
    .next (s.relinked (fun x => x.down net) 0x71 net.val fun p =>
      { p with ports := vmod p.ports net fun q => { q with best := none, heardAt := none, offset := none } }) :=
  if_neg (by simpa [hd] using hl)

theorem State.relinked_only (f : NetIf → NetIf) (code source : Nat) (g : Ptp → Ptp) : s.HlOnly (s.relinked f code source g) :=
  ((State.HlOnly.modBoth s _).trans (.raise _ ..)).trans (.ptpSelect _ g)

theorem State.relinked_besidePtp (f : NetIf → NetIf) (code source : Nat) (g : Ptp → Ptp) :
    (s.relinked f code source g).act.besidePtp = (f s.act.net, s.act.host, s.act.cfg) := by
  rw [State.relinked, State.ptpSelect_besidePtp, Headland.besidePtp, State.raise_act_net, State.raise_act_host, State.raise_act_cfg,
    State.modBoth_act]

end

/-! ### The obligation -/

/-- Settles O23: each outcome of a frame is a branch of its reception; a link's change is one of both networks with a selection behind it;
and the one queued copy, changed by its launch, its end or its drop, stays queued or is written back. -/
theorem netEventsComplete : Obligations.NetEventsComplete := by
  refine ⟨fun s u net b room hd hl hu => ⟨?damaged, fun hloop => ?looped, fun hn hc => ?full, fun hn hr hp hclaim => ?taken,
      fun hn hr hp hclaim => ?unclaimed, fun q hn hr hq hp h1 h2 htwin => ?twin⟩,
    fun s net handle => ⟨fun hd hl => ?up, fun hd hl => ?down, fun f htx hh hs hst hwin => ⟨fun hl => ?starts, fun hl => ?dead⟩,
      fun f busy htx _ => exec_netLaunch_waits htx, fun f htx hh hs hst hdue => ?complete, fun f l htx hh hs hst hl hlate => ?late⟩⟩
  case damaged =>
    rw [exec_ethernetFrame hd hl hu, if_pos (by rfl)]
  case looped =>
    rw [exec_ethernetFrame hd hl hu, if_neg (by simp), if_pos hloop]
  case full =>
    rw [exec_ethernetFrame hd hl hu, if_neg (by simp), if_neg hn, if_pos ⟨rfl, hc⟩]
  case taken =>
    rw [exec_ethernetFrame_sound hd hl hu hn hr, State.untwinned_none _ hp]
    exact congrArg Host.Outcome.next (if_pos hclaim)
  case unclaimed =>
    rw [exec_ethernetFrame_sound hd hl hu hn hr, State.untwinned_none _ hp]
    exact congrArg Host.Outcome.next (if_neg (Bool.eq_false_iff.mp hclaim))
  case twin =>
    have hcheck (x : NetIf) := s.twinCheck_some (net := net) x hq hp h1 h2
    rw [exec_ethernetFrame_sound hd hl hu hn hr]
    simp only [State.untwinned, hcheck, if_pos htwin]
  case up =>
    have hview := s.relinked_besidePtp (fun x => x.up net) 0x70 net.val id
    simp only [Headland.besidePtp, Prod.mk.injEq] at hview
    obtain ⟨hnet, hhost, hcfg⟩ := hview
    exact ⟨_, exec_netLinkUp hd hl, s.relinked_only .., by rw [hnet]; simp [NetIf.up, NetIf.modPort_same], hhost, hcfg⟩
  case down =>
    have hview := s.relinked_besidePtp (fun x => x.down net) 0x71 net.val fun p =>
      { p with ports := vmod p.ports net fun q => { q with best := none, heardAt := none, offset := none } }
    simp only [Headland.besidePtp, Prod.mk.injEq] at hview
    obtain ⟨hnet, hhost, hcfg⟩ := hview
    exact ⟨_, exec_netLinkDown hd hl, s.relinked_only .., by rw [hnet]; simp [NetIf.down, NetIf.modPort_same], by rw [hnet]; simp [NetIf.down, NetIf.modPort_same], hhost, hcfg⟩
  case starts =>
    have hgo : f.launched net true s.clk.now s.act.ptp = f.start net s.clk.now s.act.ptp := if_neg (by simp [TxFrame.waits_iff.mpr ⟨hs, hst⟩])
    have hopen : (f.launched net true s.clk.now s.act.ptp).complete = false := by
      rw [hgo]
      exact TxFrame.incomplete (f := f.start ..) hs
    refine ⟨_, f.start net s.clk.now s.act.ptp, exec_netLaunch_starts htx hh hs hst hwin, rfl, ?_⟩
    rw [State.modNet_act, hl]
    refine ⟨(NetIf.modTx_tx htx hh hopen).trans (by rw [hgo]), ?_⟩
    simp only [TxFrame.start, Fin.getElem_fin, vset_same, true_and, Option.any_eq_true, decide_eq_true_eq]
  case dead =>
    have hgo : f.launched net false s.clk.now s.act.ptp = { f with status := vset f.status net 5 } :=
      if_neg (by simp [TxFrame.waits_iff.mpr ⟨hs, hst⟩])
    refine ⟨_, f.launched net false s.clk.now s.act.ptp, exec_netLaunch_starts htx hh hs hst hwin, rfl, ?_⟩
    rw [State.modNet_act, hl]
    refine ⟨NetIf.modTx_mem htx hh, ?_⟩
    rw [hgo]
    simp [hh]
  case complete =>
    have hgo : f.written net = { f with status := vset f.status net (if f.late[net] then 3 else 2) } := if_pos ⟨hs, hst⟩
    have hout := s.send_out (net := net) (.frame net f.cls (s.wireFrame net f))
    have hnet := s.send_net (net := net) (.frame net f.cls (s.wireFrame net f))
    have hqueue : (s.send net (.frame net f.cls (s.wireFrame net f))).act.net.tx = [f] := by rw [hnet, htx]
    refine ⟨_, f.written net, exec_netTxComplete_leaves htx hh hs hst hdue, rfl, ?_⟩
    rw [State.modNet_act]
    refine ⟨NetIf.left_mem _ hqueue hh, ?_, ?_, ?_, hout, ?_⟩
    · rw [hgo]
      exact hh
    · rw [hgo]
      exact vset_same ..
    · rw [hgo]
    · refine (congrArg NetPort.txFrames (NetIf.left_ports ..)).trans ?_
      rw [hnet]
      simp [NetPort.left]
  case late =>
    have hgo : f.dropped net = { f with status := vset f.status net 4 } := if_pos hs
    refine ⟨_, f.dropped net, exec_netLateDrop_drops htx hh hs hst hl hlate, rfl, ?_⟩
    rw [State.modNet_act]
    refine ⟨NetIf.droppedLate_mem htx hh, ?_⟩
    rw [hgo]
    exact ⟨hh, vset_same .., congrArg NetPort.txLate (NetIf.modPort_same ..)⟩

end Sys2Proof.Machine
end

section
/-! PTP at a Headland (R403 to R409): what a Sync, a selection and a step of the syntonisation make of it. -/
namespace Sys2Proof.Machine

/-! ### A Sync (R404 to R408) -/

section
variable (p : Ptp) (net : Net) (offset : Int) (meanDelay lockWin lockN unlockWin : Nat)

/-- A port with the offset and the mean path delay that a Sync measured. -/
def Ptp.measured : Ptp := { p with ports := vmod p.ports net fun q => { q with offset := some offset, meanDelay := meanDelay } }

theorem Ptp.judge_ports : (p.judge offset lockWin lockN unlockWin).1.ports = p.ports := by
  unfold Ptp.judge
  split
  · split
    · split <;> rfl
    · rfl
  · split
    · rfl
    · split
      · split <;> rfl
      · rfl
  · rfl

theorem Ptp.diffStep_run : p.diffStep.1 = { p with diffRun := p.diffStep.1.diffRun } := by
  unfold Ptp.diffStep
  split
  · dsimp only
    split <;> rfl
  · rfl

/-- The SLAVE port's Sync judged, and the servo a step on. -/
def Ptp.judged : Ptp := ((p.measured net offset meanDelay).judge offset lockWin lockN unlockWin).1.servo offset

theorem Ptp.sync_other (h : p.ports[net].portState ≠ psSlave) :
    (p.sync net offset meanDelay lockWin lockN unlockWin).1 = p.measured net offset meanDelay := by
  unfold Ptp.sync
  dsimp only
  rw [if_pos]
  · rfl
  · simpa using h

/-- Beside its judgement and its servo, only the comparison of the networks moves with a Sync of the SLAVE port. -/
theorem Ptp.sync_slave (h : p.ports[net].portState = psSlave) : ∃ run diff,
    (p.sync net offset meanDelay lockWin lockN unlockWin).1 =
      { p.judged net offset meanDelay lockWin lockN unlockWin with diffRun := run, netDiff := diff } := by
  have hslave : ¬ (p.measured net offset meanDelay).ports[net].portState ≠ psSlave := by
    simpa [Ptp.measured] using h
  let d := (p.judged net offset meanDelay lockWin lockN unlockWin).diffStep
  refine ⟨d.1.diffRun, d.1.netDiff || d.2, (congrArg Prod.fst (if_neg hslave)).trans ?_⟩
  exact congrArg (fun q : Ptp => { q with netDiff := d.1.netDiff || d.2 }) (Ptp.diffStep_run _)

theorem Ptp.sync_ports : (p.sync net offset meanDelay lockWin lockN unlockWin).1.ports = (p.measured net offset meanDelay).ports := by
  by_cases h : p.ports[net].portState = psSlave
  · obtain ⟨_, _, hs⟩ := p.sync_slave net offset meanDelay lockWin lockN unlockWin h
    rw [hs]
    exact Ptp.judge_ports ..
  · rw [p.sync_other net offset meanDelay lockWin lockN unlockWin h]

end

theorem clampI_natAbs_le {x b : Int} (hb : 0 ≤ b) : (clampI x b).natAbs ≤ b.natAbs := by
  unfold clampI
  split
  · omega
  · split <;> omega

section
variable {p : Ptp} {offset : Int} {lockWin lockN unlockWin : Nat}

theorem Ptp.servo_adj : (p.servo offset).adj.natAbs ≤ 5368709 := clampI_natAbs_le (b := adjBound) (by decide)

theorem Ptp.judge_steps (hs : p.state = .uncalibrated) (ho : 10000 < offset.natAbs) :
    (p.judge offset lockWin lockN unlockWin).1.clock = ((p.clock : Int) - offset * 2 ^ 32).toNat := by
  simp only [Ptp.judge, hs, if_pos ho]

theorem Ptp.judge_locks (hs : p.state = .uncalibrated) (ho : offset.natAbs ≤ 10000) (hw : offset.natAbs ≤ lockWin) (hn : lockN ≤ p.inWin + 1) :
    (p.judge offset lockWin lockN unlockWin).1.state = .locked := by
  simp only [Ptp.judge, hs, if_neg ho.not_gt, if_pos hw, if_pos hn]

theorem Ptp.judge_unlocks (hs : p.state = .locked) (ho : unlockWin < offset.natAbs) (hw : p.outWin = 2) :
    (p.judge offset lockWin lockN unlockWin).1.state = .uncalibrated := by
  simp only [Ptp.judge, hs, if_pos ho, hw, Nat.reduceAdd, if_true]

end

/-! ### A selection (R405, R407) -/

/-- What a port has heard. -/
def PtpPort.heard (q : PtpPort) : Option Dataset × Option Nat := (q.best, q.heardAt)

section
variable (p : Ptp) (n : Net)

theorem Ptp.setPorts_heard (link : Net → Bool) (master : Bool) (sel : Option (Net × Dataset)) :
    (p.setPorts link master sel).ports[(n : Nat)].heard = p.ports[(n : Nat)].heard := by
  simp [Ptp.setPorts, PtpPort.heard]

/-- The ports of a selection have heard what they had. -/
def Ptp.SameHeard (r : Ptp × Bool) : Prop := r.1.ports[(n : Nat)].heard = p.ports[(n : Nat)].heard

theorem Ptp.SameHeard.ite {p : Ptp} {n : Net} (c : Prop) [Decidable c] {x y : Ptp × Bool} (hx : p.SameHeard n x) (hy : p.SameHeard n y) :
    p.SameHeard n (if c then x else y) := by
  split
  · exact hx
  · exact hy

theorem Ptp.sameHeard_setPorts (q : Ptp) (link : Net → Bool) (master : Bool) (sel : Option (Net × Dataset)) (b : Bool)
    (h : q.ports = p.ports) : p.SameHeard n (q.setPorts link master sel, b) := by
  rw [Ptp.SameHeard, Ptp.setPorts_heard]
  simp only [h]

/-- A selection names the state of each port; what the ports have heard stays. -/
theorem Ptp.select_heard (e : PtpEnv) : p.SameHeard n (p.select e) := by
  unfold Ptp.select
  refine .ite _ (p.sameHeard_setPorts n _ _ _ _ _ rfl) (.ite _ (p.sameHeard_setPorts n _ _ _ _ _ rfl) ?_)
  dsimp only
  split
  · exact p.sameHeard_setPorts n _ _ _ _ _ rfl
  · next m d _ =>
    have hset (q : Ptp) (b : Bool) (h : q.ports = (p.setPorts e.link false (some (m, d))).ports) : p.SameHeard n (q, b) := by
      have hsame := p.setPorts_heard n e.link false (some (m, d))
      rw [← h] at hsame
      exact hsame
    split
    · refine .ite _ (hset _ _ rfl) ?_
      split
      · exact .ite _ (hset _ _ rfl) (hset _ _ rfl)
      · exact hset _ _ rfl
    · exact hset _ _ rfl
    · exact hset _ _ rfl

theorem State.ptpSelect_heard (s : State) (f : Ptp → Ptp) :
    (s.ptpSelect f).act.ptp.ports[(n : Nat)].heard = (f s.act.ptp).ports[(n : Nat)].heard := by
  rw [State.ptpSelect_ptp]
  exact Ptp.select_heard ..

end

/-! ### The syntonisation (R409) -/

theorem Ptp.syntStep_corr {p : Ptp} (hs : p.state = .locked) :
    (p.syntStep true).corr = clampI (p.corr + clampI p.freqPpb 10) 100000 ∧ (p.syntStep true).clock = p.clock := by
  simp only [Ptp.syntStep, hs]
  exact ⟨rfl, rfl⟩

theorem clampI_move_le (x y : Int) : (clampI (x + clampI y 10) 100000 - x).natAbs ≤ 10 + (x.natAbs - 100000) := by
  unfold clampI
  split_ifs <;> omega

/-! ### The events -/

section
variable {s : State} {net : Net}

/-- A Sync at both Headlands; the token holder's PTP is its own offset's. -/
theorem exec_ptpSync {measured : Int} {meanDelay : Nat} (hd : s.dev ≠ .standby) (hp : s.parN P_PTP_PROFILE ≠ 0)
    (hl : s.act.net.ports[net].link = true) : ∃ t, exec (.ptpSync net measured meanDelay) s = .next t ∧ s.HlOnly t ∧
    t.act.ptp = (s.act.ptp.sync net (measured - s.asymOf net) ((meanDelay : Int) + s.asymOf net).toNat
      (s.parN P_PTP_LOCK_WIN) (s.parN P_PTP_LOCK_N) (s.parN P_PTP_UNLOCK_WIN)).1 := by
  have hown : measured - s.asymOf net + (s.act.ptp.ns : Int) - s.act.ptp.ns = measured - s.asymOf net := by omega
  change ∃ t, execPtpSync net measured meanDelay s = .next t ∧ _
  unfold execPtpSync
  dsimp only
  rw [if_neg (by simpa [hd, hp] using hl)]
  refine ⟨_, rfl, ?_, ?_⟩
  · split
    · refine .trans ?_ (.raise _ ..)
      split
      · exact (State.HlOnly.modBoth s _).trans (.raise _ ..)
      · exact .modBoth s _
    · split
      · exact (State.HlOnly.modBoth s _).trans (.raise _ ..)
      · exact .modBoth s _
  · have hptp : (s.modBoth fun a => { a with ptp := (a.ptp.sync net (measured - s.asymOf net + (a.ptp.ns : Int) - s.act.ptp.ns)
        ((meanDelay : Int) + s.asymOf net).toNat (s.parN P_PTP_LOCK_WIN) (s.parN P_PTP_LOCK_N) (s.parN P_PTP_UNLOCK_WIN)).1 }).act.ptp =
        (s.act.ptp.sync net (measured - s.asymOf net) ((meanDelay : Int) + s.asymOf net).toNat
          (s.parN P_PTP_LOCK_WIN) (s.parN P_PTP_LOCK_N) (s.parN P_PTP_UNLOCK_WIN)).1 := by
      rw [State.modBoth_act, hown]
    split
    · rw [State.raise_act_ptp]
      split
      · rw [State.raise_act_ptp]
        exact hptp
      · exact hptp
    · split
      · rw [State.raise_act_ptp]
        exact hptp
      · exact hptp

end

end Sys2Proof.Machine
end

section
/-! The peers (R417 to R421), the remaining PTP events, and the obligation O24. -/
namespace Sys2Proof.Machine

/-! ### PTP (R403 to R409) -/

section
variable {s : State} {net : Net}

/-- A port takes a data set that is the first it hears, its own master's, or a better one (R405). -/
def Ptp.announced (p : Ptp) (net : Net) (d : Dataset) (now : Nat) : Ptp :=
  { p with ports := vmod p.ports net fun q =>
      match q.best with
      | none => { q with best := some d, heardAt := some now }
      | some b => if b.identity = d.identity ∨ datasetBetter d b then { q with best := some d, heardAt := some now } else q }

/-- The selected port hears its master no longer (R407). -/
def Ptp.forgotten (p : Ptp) : Ptp := { p with ports := vmod p.ports p.sel fun q => { q with best := none, heardAt := none } }

theorem exec_ptpAnnounce {d : Dataset} (hd : s.dev ≠ .standby) (hp : s.parN P_PTP_PROFILE ≠ 0) (hl : s.act.net.ports[net].link = true) :
    exec (.ptpAnnounce net d) s = .next (s.ptpSelect fun p => p.announced net d s.clk.now) :=
  congrArg Host.Outcome.next (if_neg (by simpa [hd, hp] using hl))

theorem Ptp.announced_heard {p : Ptp} {d : Dataset} {now : Nat} (h : p.ports[net].best = none) :
    (p.announced net d now).ports[(net : Nat)].heard = (some d, some now) := by
  simp only [Fin.getElem_fin] at h
  simp only [Ptp.announced, vmod_same, h]
  rfl

theorem exec_ptpAnnounceTimeout {t0 : Nat} (hd : s.dev ≠ .standby) (hh : s.act.ptp.ports[s.act.ptp.sel].heardAt = some t0)
    (hdue : t0 + s.announceTicks ≤ s.clk.now) : exec .ptpAnnounceTimeout s = .next (s.ptpSelect Ptp.forgotten) := by
  simp only [Fin.getElem_fin] at hh
  exact congrArg Host.Outcome.next (if_neg (by simp [hd, heldFor, hh, hdue]))

/-- HOLDOVER at its end (R407). -/
def Ptp.expires (p : Ptp) (now ticks : Nat) : Ptp :=
  if decide (p.state = .holdover ∧ p.holdAt + ticks ≤ now) then { p with expired := true } else p

theorem exec_ptpHoldoverExpire : exec .ptpHoldoverExpire s =
    .next (s.modBoth fun a => { a with ptp := a.ptp.expires s.clk.now (msTicks (1000 * s.parN P_PTP_HOLDOVER_T)) }) := rfl

theorem Ptp.expires_due {p : Ptp} {now ticks : Nat} (hs : p.state = .holdover) (hdue : p.holdAt + ticks ≤ now) :
    (p.expires now ticks).expired = true ∧ (p.expires now ticks).valid = false := by
  rw [Ptp.expires, if_pos (decide_eq_true ⟨hs, hdue⟩)]
  exact ⟨rfl, by simp [Ptp.valid, hs]⟩

theorem exec_syntStep (hs : s.par P_SYNT_EN = 1) (hp : s.parN P_PTP_PROFILE ≠ 0)
    (hdue : ∀ t0, s.act.ptp.syntAt = some t0 → t0 + 4000 ≤ s.clk.now) :
    exec .syntStep s = .next (s.modPtp fun p => { p with syntAt := some s.clk.now }.syntStep true) := by
  have hall : (s.act.ptp.syntAt.all fun t => decide (t + usTicks 10 ≤ s.clk.now)) = true := by
    rw [Option.all_eq_true]
    exact fun t ht => decide_eq_true (hdue t ht)
  have hon : (decide (s.par P_SYNT_EN = 1) && decide (s.parN P_PTP_PROFILE ≠ 0)) = true := by simp [hs, hp]
  refine congrArg Host.Outcome.next ((if_neg (by simp [hall])).trans ?_)
  rw [hon]

/-- A message fits the profile, and the port or the role that sends it (R403). -/
def State.ptpFits (s : State) (net : Net) : PtpMsg → Bool
  | .pdelayReq => decide (s.parN P_PTP_PROFILE = 1)
  | .delayReq => decide (s.parN P_PTP_PROFILE = 2) && decide (s.act.ptp.ports[net].portState = psSlave)
  | .sync | .announce => decide (s.parN P_PTP_PROFILE ≠ 0) && decide (s.act.ptp.state = .master)

theorem exec_ptpMessageSend {m : PtpMsg} (hd : s.dev ≠ .standby) (hl : s.act.net.ports[net].link = true) (hfits : s.ptpFits net m = true) :
    exec (.ptpMessageSend net m) s = .next (s.send net (.ptp net m)) := by
  have hexec : exec (.ptpMessageSend net m) s =
      .next (if s.dev = .standby ∨ !s.act.net.ports[net].link ∨ !s.ptpFits net m then s else s.send net (.ptp net m)) := by
    cases m <;> rfl
  rw [hexec, if_neg]
  simpa [hd, hfits] using hl

end

/-! ### Announcements sent (R417) -/

section
variable {s t : State} {o o' : Out} (n m : Net)

/-- The announcement on a network whose link is up, with its transmit time. -/
def State.announceOn (s t : State) (n : Net) : State :=
  if s.act.net.ports[n].link then
    (t.send n (.announce n (s.announcement n))).modNet fun x =>
      { x with ports := vmod x.ports n fun p => { p with annTx := some (s.act.ptp.sec, s.act.ptp.subNs) } }
  else t

/-- The last output is o, and one more will not displace it. -/
def NetIf.Newest (o : Out) (x : NetIf) : Prop := ∃ l, x.out = l ++ [o] ∧ l.length ≤ 31

theorem State.send_newest : (t.send n o).act.net.Newest o := by
  rw [State.send_net]
  refine ⟨t.act.net.out.drop (t.act.net.out.length + 1 - 32), List.drop_append_of_le_length (by omega), ?_⟩
  rw [List.length_drop]
  omega

theorem State.send_keeps_newest (h : t.act.net.Newest o) : o ∈ (t.send n o').act.net.out := by
  obtain ⟨l, hout, hlen⟩ := h
  rw [State.send_net]
  dsimp only
  rw [hout, List.append_assoc, List.drop_append_of_le_length (by rw [List.length_append, List.length_singleton]; omega)]
  exact List.mem_append_right _ (List.mem_append_left _ (List.mem_singleton_self _))

/-- The transmit time of the announcement on a network. -/
def State.annTxOf (s : State) (n : Net) : Option (Nat × Nat) := s.act.net.ports[n].annTx

variable {n m}

theorem State.announceOn_newest (hl : s.act.net.ports[n].link = true) :
    (s.announceOn t n).act.net.Newest (.announce n (s.announcement n)) ∧
    (s.announceOn t n).annTxOf n = some (s.act.ptp.sec, s.act.ptp.subNs) := by
  rw [State.announceOn, if_pos hl, State.annTxOf, State.modNet_act]
  refine ⟨State.send_newest n, ?_⟩
  simp only [Fin.getElem_fin, vmod_same]

theorem State.announceOn_keeps (hne : m ≠ n) (h : t.act.net.Newest o) :
    o ∈ (s.announceOn t m).act.net.out ∧ (s.announceOn t m).annTxOf n = t.annTxOf n := by
  unfold State.announceOn
  split
  · rw [State.annTxOf, State.modNet_act]
    refine ⟨State.send_keeps_newest m h, ?_⟩
    rw [State.send_net]
    simp only [Fin.getElem_fin, vmod_other _ _ _ _ hne]
    rfl
  · obtain ⟨l, hout, _⟩ := h
    rw [hout]
    exact ⟨List.mem_append_right _ (List.mem_singleton_self _), rfl⟩

theorem State.announceOn_seq : (s.announceOn t n).act.net.annSeq = t.act.net.annSeq := by
  unfold State.announceOn
  split
  · rw [State.modNet_act, State.send_net]
  · rfl

theorem State.HlOnly.announceOn : t.HlOnly (s.announceOn t n) := by
  unfold State.announceOn
  split
  · exact (State.HlOnly.send t _ _).trans (.modNet _ _)
  · exact .refl t

/-- Both networks' announcements. -/
def State.announceAll (s : State) : State := s.announceOn (s.announceOn s 0) 1

theorem State.announceAll_sends (hl : s.act.net.ports[n].link = true) :
    .announce n (s.announcement n) ∈ s.announceAll.act.net.out ∧ s.announceAll.annTxOf n = some (s.act.ptp.sec, s.act.ptp.subNs) := by
  have hnets : ∀ m : Net, m = 0 ∨ m = 1 := by decide
  unfold State.announceAll
  obtain rfl | rfl := hnets n
  · obtain ⟨hnew, htx⟩ := s.announceOn_newest (t := s) hl
    obtain ⟨hmem, hsame⟩ := s.announceOn_keeps (m := 1) (n := 0) (by decide) hnew
    exact ⟨hmem, hsame.trans htx⟩
  · obtain ⟨⟨l, hout, _⟩, htx⟩ := s.announceOn_newest (t := s.announceOn s 0) hl
    rw [hout]
    exact ⟨List.mem_append_right _ (List.mem_singleton_self _), htx⟩

/-- What a PRP sequence number leaves of the networks. -/
def NetIf.sent (x : NetIf) : List Out × Vector NetPort 2 × Nat := (x.out, x.ports, x.annSeq)

theorem State.prpNext_sent : s.prpNext.act.net.sent = s.act.net.sent := by
  unfold State.prpNext
  split
  · rw [State.modNet_act]
    rfl
  · rfl

/-- The announcements sent, with the next sequence number. -/
def State.announcedAll (s : State) : State :=
  s.announceAll.prpNext.modNet fun x => { x with annSeq := (x.annSeq + 1) % 65536, annAt := some s.clk.now }

theorem exec_peerAnnounceSend (ha : s.awake = true) (hsite : s.parN P_SITE_ID ≠ 0)
    (hdue : ∀ t0, s.act.net.annAt = some t0 → t0 + 40000000 ≤ s.clk.now) : exec .peerAnnounceSend s = .next s.announcedAll := by
  have hall : (s.act.net.annAt.all fun t => decide (t + msTicks 100 ≤ s.clk.now)) = true := by
    rw [Option.all_eq_true]
    exact fun t ht => decide_eq_true (hdue t ht)
  exact if_neg (by simp [ha, hsite, hall])

theorem State.announcedAll_only : s.HlOnly s.announcedAll :=
  ((State.HlOnly.announceOn.trans .announceOn).trans (.prpNext _)).trans (.modNet _ _)

theorem State.announcedAll_sent : s.announcedAll.act.net.sent =
    (s.announceAll.act.net.out, s.announceAll.act.net.ports, (s.act.net.annSeq + 1) % 65536) := by
  have h := s.announceAll.prpNext_sent
  have hseq : s.announceAll.act.net.annSeq = s.act.net.annSeq := State.announceOn_seq.trans State.announceOn_seq
  simp only [NetIf.sent, Prod.mk.injEq] at h
  obtain ⟨hout, hports, hann⟩ := h
  rw [State.announcedAll, State.modNet_act, NetIf.sent]
  dsimp only
  rw [hout, hports, hann, hseq]

end

/-! ### Announcements received (R418 to R421) -/

section
variable {s : State} {net : Net} {b : List Byte} {u : Fin 32}

/-- One peer's entry at both Headlands. -/
def State.modPeer (s : State) (u : Fin 32) (f : Headland → Peer → Peer) : State :=
  s.modBoth fun a => { a with net := { a.net with peers := vmod a.net.peers u (f a) } }

theorem State.modPeer_peer (f : Headland → Peer → Peer) :
    (s.modPeer u f).act.net.peers[(u : Nat)] = f s.act s.act.net.peers[(u : Nat)] := by
  rw [State.modPeer, State.modBoth_act]
  exact vmod_same ..

theorem State.reportDiffs_net (unit : Nat) (p : Peer) (ch : List (Nat × Bool)) : (s.reportDiffs unit p ch).act.net = s.act.net :=
  foldl_view (v := fun t : State => t.act.net) (f := fun (t : State) (x : Nat × Bool) => t.raise (0x7A + x.1) unit (b2n x.2) (p.diffArg x.1))
    (fun t _ => t.raise_act_net ..) ch s

theorem State.HlOnly.reportDiffs (s : State) (unit : Nat) (p : Peer) (ch : List (Nat × Bool)) : s.HlOnly (s.reportDiffs unit p ch) :=
  List.foldlRecOn (motive := s.HlOnly) ch _ (.refl s) fun t ht _ _ => ht.trans (.raise t ..)

theorem State.abortBlackStart_net (cause : Nat) : (s.abortBlackStart cause).act.net = s.act.net := by
  unfold State.abortBlackStart
  split
  · rw [State.raise_act_net]
    rfl
  · rfl

theorem State.peerAbort_net : s.peerAbort.act.net = s.act.net := by
  unfold State.peerAbort
  split
  · split
    · exact State.abortBlackStart_net 4
    · rfl
  · rfl

/-- A black start's end is one of the firmware's, with its event. -/
theorem State.peerAbort_only : s.peerAbort = { s with hl := s.peerAbort.hl, firm := s.peerAbort.firm } := by
  unfold State.peerAbort
  split
  · split
    · unfold State.abortBlackStart
      split
      · obtain ⟨cap, log, h⟩ := (s.modSeq fun q => { q with bsPending := false, bsGate := none, bsPassed := false, bsAnchored := false }).raise_eq
          0x21 0xFF 4 0 []
        rw [h]
        rfl
      · rfl
    · rfl
  · rfl

theorem State.HlOnly.peerAbort {t : State} (h : s.HlOnly t) : t.peerAbort = { s with hl := t.peerAbort.hl, firm := t.peerAbort.firm } := by
  have hp := t.peerAbort_only
  generalize t.peerAbort = v at *
  unfold State.HlOnly at h
  rw [hp, h]

/-- A sound announcement of the own site names an entry. -/
structure Announces (s : State) (b : List Byte) (u : Fin 32) : Prop where
  live : s.dev ≠ .standby
  long : b.length = 64
  sound : rd b 60 4 = crc32c (b.take 60)
  version : rd b 0 2 = 1
  site : rd b 2 2 = s.parN P_SITE_ID
  unit : by8 b 4 = u.val + 1

theorem announcement_whole (hd : s.dev ≠ .standby) (hlen : b.length = 64) (hcrc : rd b 60 4 = crc32c (b.take 60)) (hver : rd b 0 2 = 1) :
    ¬(s.dev = .standby ∨ b.length ≠ 64 ∨ rd b 60 4 ≠ crc32c (b.take 60) ∨ rd b 0 2 ≠ 1) :=
  not_or.mpr ⟨hd, not_or.mpr ⟨not_not.mpr hlen, not_or.mpr ⟨not_not.mpr hcrc, not_not.mpr hver⟩⟩⟩

theorem Announces.index (h : Announces s b u) (hb : by8 b 4 - 1 < 32) : (⟨by8 b 4 - 1, hb⟩ : Fin 32) = u :=
  Fin.ext (by have := h.unit; simp only; omega)

theorem exec_peerAnnouncement_foreign (hd : s.dev ≠ .standby) (hlen : b.length = 64) (hcrc : rd b 60 4 = crc32c (b.take 60))
    (hver : rd b 0 2 = 1) (hsite : rd b 2 2 ≠ s.parN P_SITE_ID) : exec (.peerAnnouncement net b) s =
    .next (s.onNetPort net fun p => { p with foreignSite := satInc 16 p.foreignSite }) :=
  (if_neg (announcement_whole hd hlen hcrc hver)).trans (if_pos hsite)

/-- The entry of the own identifier clashes (R419). -/
def State.clashed (s : State) (u : Fin 32) : State := s.modPeer u fun _ q => { q with diff := vset q.diff 3 true, usedAt := s.clk.now }

/-- The entry takes the announcement, at each Headland with its own receive time (R418). -/
def State.met (s : State) (net : Net) (b : List Byte) (u : Fin 32) : State := s.modPeer u fun a q => (s.useAnnouncement a q net b).1

theorem exec_peerAnnouncement_own (h : Announces s b u) (hown : by8 b 4 = s.parN P_UNIT_ID) : exec (.peerAnnouncement net b) s =
    .next (if s.act.net.peers[(u : Nat)].diff[3] then s.clashed u else (s.clashed u).raise 0x7D (by8 b 4) 1).peerAbort := by
  have hidx := h.index
  have hunit := h.unit
  change execPeerAnnouncement net b s = _
  unfold execPeerAnnouncement
  dsimp only
  rw [if_neg (announcement_whole h.live h.long h.sound h.version), if_neg (not_not.mpr h.site), dif_pos (by omega), if_pos hown]
  simp only [hidx, Fin.getElem_fin]
  rfl

theorem exec_peerAnnouncement_new (h : Announces s b u) (hother : by8 b 4 ≠ s.parN P_UNIT_ID)
    (hnew : s.act.net.peers[(u : Nat)].known = false) : exec (.peerAnnouncement net b) s =
    .next (((s.met net b u).raise 0x78 (by8 b 4)).reportDiffs (by8 b 4) ((s.met net b u).raise 0x78 (by8 b 4)).act.net.peers[(u : Nat)]
      (s.useAnnouncement s.act s.act.net.peers[(u : Nat)] net b).2).peerAbort := by
  have hidx := h.index
  have hunit := h.unit
  change execPeerAnnouncement net b s = _
  unfold execPeerAnnouncement
  dsimp only
  rw [if_neg (announcement_whole h.live h.long h.sound h.version), if_neg (not_not.mpr h.site), dif_pos (by omega), if_neg hother]
  simp only [hidx, Fin.getElem_fin, hnew]
  rfl

theorem State.clashed_reported (unit : Nat) : (if s.act.net.peers[(u : Nat)].diff[3] then s.clashed u
    else (s.clashed u).raise 0x7D unit 1).peerAbort.act.net.peers[(u : Nat)].diff[3] = true := by
  have hnet (c : Bool) : (if c then s.clashed u else (s.clashed u).raise 0x7D unit 1).peerAbort.act.net = (s.clashed u).act.net := by
    rw [State.peerAbort_net]
    cases c
    · exact State.raise_act_net ..
    · rfl
  have hclash : (s.clashed u).act.net.peers[(u : Nat)].diff[3] = true := by
    rw [State.clashed, State.modPeer_peer]
    exact vset_same ..
  exact (congrArg (fun x : NetIf => x.peers[(u : Nat)].diff[3]) (hnet _)).trans hclash

/-! ### A peer lost (R418, R419) -/

/-- An entry that has heard nothing for 350 ms. -/
def Peer.gone (q : Peer) : Peer := { q with known := false, lost := q.known, diff := Vector.replicate 5 false, agree := Vector.replicate 5 0 }

/-- The events of an entry's disagreements that end. -/
def Peer.ends (p : Peer) : List (Nat × Bool) := (List.finRange 5).filterMap fun i => if p.diff[i] then some (i.val, false) else none

theorem exec_peerLost (hk : s.act.net.peers[(u : Nat)].known = true) (hdue : s.act.net.peers[(u : Nat)].usedAt + msTicks 350 ≤ s.clk.now) :
    exec (.peerLost u) s = .next (((s.modPeer u fun _ => Peer.gone).raise 0x79 (u.val + 1)).reportDiffs (u.val + 1)
      s.act.net.peers[(u : Nat)] s.act.net.peers[(u : Nat)].ends) := by
  have hstays : ¬(!s.act.net.peers[(u : Nat)].known && !s.act.net.peers[(u : Nat)].diff[3] ||
      decide (s.clk.now < s.act.net.peers[(u : Nat)].usedAt + msTicks 350)) = true := by
    simp [hk, hdue]
  refine (if_neg hstays).trans ?_
  dsimp only
  simp only [Fin.getElem_fin, hk]
  rfl

end

/-! ### The obligation -/

/-- Settles O24: a Sync is judged where its port is the slave, a selection keeps what the ports have heard, and an entry's change reaches
both Headlands with the events behind it. -/
theorem ptpPeersComplete : Obligations.PtpPeersComplete := by
  simp only [Obligations.PtpPeersComplete, Fin.getElem_fin]
  refine ⟨fun s net hd => ⟨fun measured asym offset meanDelay hp hl hasym hoff => ?sync, fun d hp hl hnone => ?announce,
      fun t0 hh hdue => ?timeout, fun hs hdue => ?expire, fun hl => ⟨fun hp => ?pdelay, fun hp hslave => ?delay, fun hp hm => ⟨?syncMsg, ?annMsg⟩⟩,
      fun hs hp hlock hdue => ?synt⟩,
    fun s => ⟨fun ha hsite hdue => ?send, fun net b hd hlen hcrc hver => ⟨exec_peerAnnouncement_foreign hd hlen hcrc hver,
      fun u hsite hunit hother hnew => ?new, fun u hsite hunit hown => ?own⟩, fun unit hk hdue => ?lost⟩⟩
  case sync =>
    have hasymOf : s.asymOf net = asym := hasym.trans (apply_ite s.par _ _ _) |>.symm
    obtain ⟨t, hexec, honly, hptp⟩ := exec_ptpSync (measured := measured) (meanDelay := meanDelay) hd hp hl
    rw [hasymOf, ← hoff] at hptp
    have hports : t.act.ptp.ports = (s.act.ptp.measured net offset ((meanDelay : Int) + asym).toNat).ports := by
      rw [hptp, Ptp.sync_ports]
    refine ⟨t, hexec, honly, ?_, ?_, fun hother => ?_, fun hslave => ?_⟩
    · rw [hports]
      simp [Ptp.measured]
    · rw [hports]
      simp [Ptp.measured]
    · rw [hptp, Ptp.sync_other _ _ _ _ _ _ _ hother]
      exact ⟨rfl, rfl, rfl⟩
    · obtain ⟨run, diff, hsync⟩ := s.act.ptp.sync_slave net offset ((meanDelay : Int) + asym).toNat (s.parN P_PTP_LOCK_WIN) (s.parN P_PTP_LOCK_N)
        (s.parN P_PTP_UNLOCK_WIN) hslave
      rw [hptp, hsync]
      exact ⟨Ptp.servo_adj, fun hs ho => Ptp.judge_steps (p := s.act.ptp.measured net offset _) hs ho,
        fun hs ho hw hn => Ptp.judge_locks (p := s.act.ptp.measured net offset _) hs ho hw hn,
        fun hs ho hw => Ptp.judge_unlocks (p := s.act.ptp.measured net offset _) hs ho hw⟩
  case announce =>
    have hheard := State.ptpSelect_heard net s fun p => p.announced net d s.clk.now
    rw [Ptp.announced_heard hnone, PtpPort.heard, Prod.mk.injEq] at hheard
    exact ⟨_, exec_ptpAnnounce hd hp hl, State.HlOnly.ptpSelect s _, hheard⟩
  case timeout =>
    have hheard := State.ptpSelect_heard s.act.ptp.sel s Ptp.forgotten
    refine ⟨_, exec_ptpAnnounceTimeout hd hh hdue, State.HlOnly.ptpSelect s _, (congrArg Prod.fst hheard).trans ?_⟩
    simp [Ptp.forgotten, PtpPort.heard]
  case expire =>
    refine ⟨_, exec_ptpHoldoverExpire, rfl, ?_⟩
    rw [State.modBoth_act]
    exact Ptp.expires_due hs hdue
  case pdelay =>
    exact exec_ptpMessageSend hd hl (decide_eq_true hp)
  case delay =>
    exact exec_ptpMessageSend hd hl (by simpa [State.ptpFits, hp] using hslave)
  case syncMsg | annMsg =>
    exact exec_ptpMessageSend hd hl (by simp [State.ptpFits, hp, hm])
  case synt =>
    have hstep := Ptp.syntStep_corr (p := { s.act.ptp with syntAt := some s.clk.now }) hlock
    refine ⟨_, exec_syntStep hs hp hdue, rfl, ?_⟩
    rw [State.modPtp_act]
    dsimp only
    rw [hstep.1, hstep.2]
    exact ⟨clampI_move_le .., clampI_natAbs_le (b := 100000) (by decide), rfl⟩
  case send =>
    have hsent := s.announcedAll_sent
    rw [NetIf.sent, Prod.mk.injEq, Prod.mk.injEq] at hsent
    obtain ⟨hout, hports, hseq⟩ := hsent
    refine ⟨_, exec_peerAnnounceSend ha hsite hdue, s.announcedAll_only, hseq, fun n hl => ?_⟩
    rw [hout, hports]
    exact State.announceAll_sends hl
  case new =>
    have hnews : Announces s b u := ⟨hd, hlen, hcrc, hver, hsite, hunit⟩
    have hpeer : (s.met net b u).act.net.peers[(u : Nat)] = (s.useAnnouncement s.act s.act.net.peers[(u : Nat)] net b).1 := State.modPeer_peer _
    refine ⟨_, exec_peerAnnouncement_new hnews hother hnew, ?_⟩
    rw [State.peerAbort_net, State.reportDiffs_net, State.raise_act_net, hpeer]
    refine ⟨rfl, rfl, rfl, rfl, rfl, ?_⟩
    exact (((State.HlOnly.modBoth s _).trans (.raise _ ..)).trans (.reportDiffs _ ..)).peerAbort
  case own =>
    exact ⟨_, exec_peerAnnouncement_own ⟨hd, hlen, hcrc, hver, hsite, hunit⟩ hown, State.clashed_reported _⟩
  case lost =>
    refine ⟨_, exec_peerLost hk hdue, ((State.HlOnly.modBoth s _).trans (.raise _ ..)).trans (.reportDiffs _ ..), ?_⟩
    rw [State.reportDiffs_net, State.raise_act_net, State.modPeer_peer]
    exact ⟨rfl, hk, rfl⟩

end Sys2Proof.Machine
end
